-- ==== Sys2Proof/Word.lean ====
section
/-! DEFINITION. The words of the hub: a register word of 32 bits (R11), a byte, and the identifiers that commands
carry as bits. -/

namespace Sys2Proof

/-- A 32-bit register word (R11). -/
abbrev Word := BitVec 32
abbrev Byte := BitVec 8

/-- An offset in the 512 KiB hub window (R58). -/
abbrev Off := BitVec 19

/-- A 14-bit agent ID (R24). -/
abbrev AgentId := BitVec 14

/-- A page slot 0 to 31 (R59). -/
abbrev PageSlot := BitVec 5

/-- A DATAWIN instance 0 or 1. -/
abbrev Inst := BitVec 1

/-- An input queue or output link number: 0 to 7 on a fabric unit (R16), 0 to 23 on a gateway. -/
abbrev QueueNo := BitVec 5

/-- A 64-byte link token. -/
abbrev Token := BitVec 512

/-- Sparse data by key: strictly rising keys; what an unlisted key reads as is said where the map is read. -/
abbrev Sparse (α : Type) := List (Nat × α)

/-- One bit as a number. -/
def bit (b : Bool) : Nat := if b then 1 else 0

end Sys2Proof
end

