-- ==== Sys2Proof/Types.lean ====
section
/-! DEFINITION. The operand types of the commands: who sends an access, and what the fabric, the pins, the memory
and the other chips bring with an event. -/

namespace Sys2Proof

/-- One of the ten access sources (R76): a register-bus master, the BSL or the TAP. -/
inductive Src where
  | bus (m : BitVec 3)
  | bsl
  | tap
deriving DecidableEq, Repr

/-- The alias views of Table 2-1. -/
inductive View where
  | set | clr | tgl
deriving DecidableEq, Repr

/-- The two Halves (R22). -/
inductive Half where
  | north | south
deriving DecidableEq, Repr

/-- The two lanes of the Passing Ring. -/
inductive Lane where
  | east | west
deriving DecidableEq, Repr

/-- Which register a WHEEL_SOURCE_WRITE names (R117). -/
inductive WheelReg where
  | source | periodFc
deriving DecidableEq, Repr

/-- Who makes a Whistle request (Table 4-1): an access to WHISTLE.CMD, or an automatic source with its detail. -/
inductive WSource where
  | access (src : Src)
  | fatal (agent : AgentId)
  | team (member : Byte)
  | watchdog (kind : BitVec 3)
  | brk (slot : BitVec 5)
  | millrace
  | cam (n : BitVec 6)
deriving DecidableEq, Repr

/-- A wait of a unit (R40): the stall code 1 to 5 of its kind, the input queue or output link of a link wait (R16), and,
for a memory wait, the MU or gateway that owes the response (R42). -/
structure WaitId where
  kind : BitVec 4
  link : QueueNo
  peer : AgentId
deriving DecidableEq, Repr

/-- What a unit's own state is when it freezes: its shadow body after the 32-byte header, and the queue contents
and credit counts its links hold (R36, Table 1-7). -/
structure UnitState where
  body : List Byte
  queues : List (List Token)
  credits : List Nat
deriving DecidableEq, Repr

/-- The kind of access a comparator sees (Table 1-16). -/
inductive AccessKind where
  | fetch | read | write
deriving DecidableEq, Repr

/-- A read, peek, write or alias write of an agent register through UNITWIN (R103). -/
inductive WinOp where
  | read
  | peek
  | write (data : Word)
  | rmw (view : View) (data : Word)
deriving DecidableEq, Repr

/-- Who asks for a cut with CMD code CUT (R239): an access, a Cam or the team. -/
inductive CutSource where
  | access (src : Src)
  | cam (n : BitVec 6) (set : BitVec 3)
  | team (set : BitVec 3)
deriving DecidableEq, Repr

/-- A live accumulator tile as it is read (R256): its index, its valid rows 0 to 32, its lane mask, and 32 rows of 64 lanes of
FP32, row-major. -/
structure TileData where
  index : BitVec 3
  rows : BitVec 6
  mask : BitVec 64
  data : List Byte
deriving DecidableEq, Repr

/-- The memory master's requesters, in priority order (R260). -/
inductive Requester where
  | crash | millrace | cut | spillNorth | spillSouth | hopper | dw0 | dw1
deriving DecidableEq, Repr

/-- A ready request of the memory master (R555): port, tag, requester, gateway 0 to 15 (SG0-7, XG0-7), direction,
block address, and for a write the byte mask and data. -/
structure MmRequest where
  port : BitVec 1
  tag : BitVec 6
  who : Requester
  gw : BitVec 4
  write : Bool
  addr : BitVec 44
  mask : BitVec 64
  data : List Byte
deriving DecidableEq, Repr

/-- What reports a fatal error (R268, Table 17-4): an agent whose A_FAULT holds a fatal bit, an agent that finds a token UE in
a queue or a credit error on a link, the hub's control state, or a watchdog by kind. -/
inductive FatalSource where
  | agent (a : AgentId)
  | tokenUe (a : AgentId) (queue : QueueNo)
  | credit (a : AgentId) (link : QueueNo)
  | hub
  | watchdog (kind : BitVec 3)
deriving DecidableEq, Repr

/-- Where a hub-level trigger comes from (R412): a TRIG_CMD write, a Cam, or a break slot with the agent that raised the
completing event. -/
inductive TrigSource where
  | access (src : Src)
  | cam (n : BitVec 6)
  | slot (n : BitVec 5) (agent : AgentId)
deriving DecidableEq, Repr

/-- The KIND of a TARGET entry (Table 9-5). -/
inductive TransferKind where
  | indirect | exception | excReturn
deriving DecidableEq, Repr

/-- A command as a command engine dispatches it (Table 1-23, R380): sequence number, descriptor address, deadline stamp,
non-pre-emptible flag, layer and operator IDs, and the units it is dispatched to (R42). -/
structure CommandInfo where
  seq : Word
  desc : BitVec 48
  deadline : BitVec 28
  np : Bool
  layer : BitVec 16
  op : BitVec 16
  units : List AgentId
deriving DecidableEq, Repr

/-- A 64-byte beat written on an MU's tapped port (R455): write port, scratchpad byte address, data, one valid bit per
element, the scale bytes of its blocks, oldest block lowest. -/
structure Beat where
  port : BitVec 2
  addr : BitVec 19
  data : BitVec 512
  valid : BitVec 128
  scales : BitVec 32
deriving DecidableEq, Repr

/-- A close of a tap (R462): a new command with its sequence number, or a request of the hub that arrives. -/
inductive TapCause where
  | command (seq : Word)
  | revolution
  | manual
deriving DecidableEq, Repr

/-- A Passing Ring message as it arrives (Table 14-2), and whether its CRC is right. -/
structure RingMsg where
  all : Bool
  type : BitVec 7
  origin : Byte
  target : Byte
  hops : Byte
  seq : BitVec 16
  payload : BitVec 48
  crcOk : Bool
deriving DecidableEq, Repr

/-- Why a Toss between the Halves starts (R498). -/
inductive TossCause where
  | bothClaim | noneClaim | partnerSilent
deriving DecidableEq, Repr

/-- The straps sampled at the release of a reset (R494). -/
structure Straps where
  leadSel : Bool
deriving DecidableEq, Repr

/-- The fuses loaded at PORST_N (Table 16-7): debug key (byte k is bits 8k+7 to 8k), KEY_BLANK, TOSS_PREF, and whether their
check bits agree (R611). -/
structure Fuses where
  key : BitVec 256
  keyBlank : Bool
  tossPref : Bool
  checkOk : Bool
deriving DecidableEq, Repr

/-- The wake sources of Table 16-5. -/
inductive WakeCause where
  | access | fatal | cam | command | bsl | target
deriving DecidableEq, Repr

/-- The hub SRAMs of Table 17-1. -/
inductive SramKind where
  | staging | reload | trace | merge | crash | history | edge | hopper
deriving DecidableEq, Repr

/-- An SRAM and the half it serves. -/
structure Sram where
  kind : SramKind
  half : Half
deriving DecidableEq, Repr

/-- The storage of a unit and its agent (R39): queues, skid buffers, shadow latch, accumulator memory, scratchpad. -/
inductive UnitStore where
  | queue | skid | shadow | accumulator | scratchpad
deriving DecidableEq, Repr

/-- Where an error correcting code finds an error: in a hub SRAM (Table 17-1), or in a unit's storage (R39). -/
inductive EccPlace where
  | hub (m : Sram)
  | unit (a : AgentId) (st : UnitStore)
deriving DecidableEq, Repr

/-- The background calibrations of R596. -/
inductive CalKind where
  | wheel | bsl | ring
deriving DecidableEq, Repr

/-- Why the link goes down (R542). -/
inductive DownCause where
  | replays | symbolLock
deriving DecidableEq, Repr

end Sys2Proof
end

