-- ==== Sys2Proof/Syntax.lean ====
section
/-! DEFINITION. The commands of the block: one constructor per row of spec/opcode_table.json, in the table's order, with
the rule and summary the table gives. -/

namespace Sys2Proof

inductive Instr where
  /-- R67: A write to a hub or agent register that has no row of its own passes the checks of Table 2-2 and is performed under its access code. -/
  | registerWrite (src : Src) (off : Off) (data : Word)
  /-- R61: A write through the SET, CLR or TGL view performs one atomic read-modify-write on the register's RW fields. -/
  | aliasWrite (src : Src) (view : View) (off : Off) (data : Word)
  /-- R74: A PEEK frame, a TAP peek or an alias-view read returns the value with no side effect except the _LO latch. -/
  | peekRead (src : Src) (off : Off)
  /-- R76: An ordinary read of the _LO word of a 64-bit pair returns it and latches the high word for the same source. -/
  | pairLoRead (src : Src) (off : Off)
  /-- R77: A write of the _HI word of a 64-bit pair is staged for its source and changes no register. -/
  | pairHiWrite (src : Src) (off : Off) (data : Word)
  /-- R78: A write of the _LO word of a pair commits it with any staged high word in one fc, or alone. -/
  | pairLoWrite (src : Src) (off : Off) (data : Word)
  /-- R79: A write of 1 to LOCK.CFG_LOCK makes every RWL field of the page read-only until hub reset. -/
  | cfgLock (src : Src) (page : PageSlot) (data : Word)
  /-- R83: The scrubber checks every configuration register's parity once in each 4,096 fc. -/
  | scrubPass
  /-- R83: A write of SCRUB_CTRL.PASS_NOW starts one scrub pass at once. -/
  | passNow (src : Src)
  /-- R84: A write of SCRUB_CTRL.INJECT inverts the stored parity bit of HUB.SCRATCH. -/
  | inject (src : Src)
  /-- R92: A write of CTRL.ENABLE stops or restarts a block's intake, letting work in flight drain. -/
  | ctrlEnableWrite (src : Src) (page : PageSlot) (data : Word)
  /-- R92: When the last item of a draining block finishes, STATUS.IDLE becomes 1 and EVENT.IDLE_ENTRY is set. -/
  | drainComplete (page : PageSlot)
  /-- R94: A write of CTRL.ABORT starts discarding the block's work in flight, counting each item. -/
  | ctrlAbort (src : Src) (page : PageSlot) (data : Word)
  /-- R94: When the discard ends, ABORT reads 0 and EVENT.DISCARD then EVENT.IDLE_ENTRY are set. -/
  | abortComplete (page : PageSlot)
  /-- R99: A write of HUB.IRQ_ROUTE changes SEL and, with WR at 1, sets the route of page SEL. -/
  | irqRouteWrite (src : Src) (data : Word)
  /-- R102: A write of UNITWIN.AGENT_SEL selects an agent, showing NONE for unused IDs and clearing TIMEOUT. -/
  | agentSelWrite (src : Src) (data : Word)
  /-- R103: An access through UNITWIN is sent to the selected agent and holds its path until the agent answers. -/
  | windowAccess (src : Src) (off : BitVec 12) (op : WinOp)
  /-- R103: The agent's answer to a window access arrives and completes the access. -/
  | windowAnswer (live : BitVec 64)
  /-- R103: A window access unanswered within 4,096 fc returns a bus error and sets AGENT_STATE.TIMEOUT. -/
  | windowTimeout
  /-- R106: A write of WIN_SRC discards prefetched data, clears sticky status and restarts prefetch, or sets BAD_SRC. -/
  | winSrcWrite (src : Src) (inst : Inst) (data : Word)
  /-- R106: A write of WIN_COUNT sets the words to transfer and lets prefetch continue. -/
  | winCountWrite (src : Src) (inst : Inst) (data : Word)
  /-- R106: A prefetched word or block arrives for a DATAWIN instance and READY rises. -/
  | prefetchArrival (inst : Inst) (n : BitVec 7) (ue : Bool)
  /-- R107: An ordinary read of WIN_DATA returns the word, advances the offset and decrements WIN_COUNT, or sets RANGE. -/
  | winDataRead (src : Src) (inst : Inst)
  /-- R107: A WIN_DATA read whose word does not arrive within 65,536 fc returns a bus error and sets TIMEOUT. -/
  | winDataTimeout (inst : Inst)
  /-- R109: A write of WIN_DATA writes the word and advances, or sets RANGE or BAD_WRITE. -/
  | winDataWrite (src : Src) (inst : Inst) (data : Word)
  /-- R153: A committed write of WHEEL.POS_LO sets the revolution count of the next revolution. -/
  | posLoWrite (src : Src) (data : Word)
  /-- R117: A write of SOURCE.SEL or PERIOD_FC takes effect at the next revolution boundary. -/
  | wheelSourceWrite (src : Src) (reg : WheelReg) (data : Word)
  /-- R121: The Wheel ends a revolution by itself when its length L is reached and starts the next. -/
  | wheelBoundary
  /-- R119: A rising edge on WHEEL_SYNC_IN becomes a mark 3 fc later plus PIN_TRIM. -/
  | wheelSyncInEdge
  /-- R122: A mark from the pin or the ring is accepted as early, late or SEEKING mark, or counted as spurious. -/
  | wheelMark
  /-- R124: No mark accepted by fc W after a self-made boundary counts a missed mark and enters COASTING. -/
  | markMissed
  /-- R131: A ring-delay calibration ends, writing RING_DELAY and setting VALID and EVENT.CAL_DONE. -/
  | subnotchCalibrationDone
  /-- R138: A Cam fires as the position of a matching revolution crosses its angle and issues its action. -/
  | camFire (cam : BitVec 6)
  /-- R147: A deferred Cam action is issued in the fc in which the last awaited region reaches END. -/
  | deferredActionIssue (cam : BitVec 6)
  /-- R372: A Cam ARM_PULSE reaches the targeted agents and is latched for trigger condition 3. -/
  | armPulse (a : AgentId)
  /-- R165: STOP_ALL drives a stop with MODE 0 on all branches or merges into the frozen set. -/
  | whistleStopAll (src : WSource)
  /-- R165: STOP_REGIONS drives a stop with MODE 1 on the masked regions' branches, merges, or is refused for mask 0. -/
  | whistleStopRegions (src : WSource) (mask : BitVec 16)
  /-- R165: STOP_CONTEXT drives a stop with MODE 2 and the context on every branch or merges. -/
  | whistleStopContext (src : WSource) (ctx : BitVec 16)
  /-- R177: RESUME in FROZEN is driven on the frozen set's branches and clears the frozen set. -/
  | whistleResume (src : WSource)
  /-- R181: STEP in FROZEN drives STEP on the chosen scope and schedules its own STOP N fc later. -/
  | whistleStep (src : WSource)
  /-- R185: SNAP in RUNNING freezes every agent for 16 fc to capture shadows, or is a frozen snap in FROZEN. -/
  | whistleSnap (src : WSource)
  /-- R191: CANCEL discards held requests and ends a running step early. -/
  | whistleCancel (src : WSource)
  /-- R189: A held Whistle request is driven in the next free fc or when the state it waits for is reached. -/
  | whistleHeldDrive
  /-- R182: At fc N of a step the hub drives the step's own STOP. -/
  | stepStop
  /-- R185: In fc 16 of a running snap the hub drives RESUME on every branch. -/
  | snapResume
  /-- R162: In fc 16 of a freeze wave STATE becomes FROZEN and EVENT.FROZEN, or STEP_DONE, is set. -/
  | waveFrozen
  /-- R164: In fc 24 of a freeze wave the hub records latency, spread and skid high and sets NO_ACK or BOUND. -/
  | ackCheck
  /-- R177: In fc 12 of a resume wave STATE becomes RUNNING and EVENT.RUNNING is set. -/
  | resumeWaveDone
  /-- R29: An agent performs a received STOP and freezes, asserting hold on its input queues. -/
  | agentStop (a : AgentId) (unit : UnitState)
  /-- R32: An agent performs a received RESUME, releasing hold and replaying its skids in order. -/
  | agentResume (a : AgentId)
  /-- R49: An agent performs a received STEP as RESUME and sets its step flag. -/
  | agentStep (a : AgentId)
  /-- R33: An agent performs a received SNAP, freezing and copying its state into the shadow latch. -/
  | agentSnap (a : AgentId) (unit : UnitState)
  /-- R30: A token arriving at a frozen agent enters the skid buffer of its input queue. -/
  | skidTokenArrival (a : AgentId) (q : QueueNo) (tok : Token)
  /-- R170: A credit arriving at a frozen agent is added to its credit count. -/
  | frozenCreditArrival (a : AgentId) (link : QueueNo)
  /-- R40: An agent records a blocked edge when one wait has lasted 64 own-clock cycles. -/
  | edgeRecord (a : AgentId) (w : WaitId)
  /-- R40: A wait ends and the agent removes its edge in that cycle. -/
  | waitEnd (a : AgentId) (w : WaitId)
  /-- R41: A write of A_CTRL.CLR_EDGES empties the blocked-edge record and restarts every wait length. -/
  | clrEdges (src : Src) (a : AgentId)
  /-- R589: A write of A_CTRL.CLR_HIGH zeroes A_STATE.SKID_HIGH. -/
  | clrHigh (src : Src) (a : AgentId)
  /-- R436: A write of A_CTRL.PCNT_RESET zeroes both programmable counters. -/
  | pcntReset (src : Src) (a : AgentId)
  /-- R369: A write of A_CTRL.TRIG_RESET returns the trigger sequencer to state 0 with no entry action. -/
  | trigReset (src : Src) (a : AgentId)
  /-- R43: A write of A_DIRTY_CTRL.CLEAR marks all granules of the MU clean. -/
  | dirtyClear (src : Src) (a : AgentId)
  /-- R43: A write to an MU granule marks it dirty and updates its valid bits. -/
  | granuleWrite (a : AgentId) (addr : BitVec 19) (data : List Byte) (masked : Bool)
  /-- R46: A CU tile request finding all 8 tiles live stalls, counts a spill and may raise event 3. -/
  | accumulatorSpill (a : AgentId)
  /-- R432: An agent changes context ID and makes a switch record of its always-on counts. -/
  | contextSwitch (a : AgentId) (ctx : BitVec 16)
  /-- R37: An access in an executing cycle falls in a comparator's range and may raise an event or halt. -/
  | comparatorMatch (a : AgentId) (n : BitVec 1) (kind : AccessKind) (addr : Word) (locked : Bool) (first : Bool)
  /-- R371: A carry out of A_PCNT bit 31 latches the overflow and may raise event 4 or 5. -/
  | pcntOverflow (a : AgentId) (n : BitVec 1)
  /-- R370: In an executing cycle whose COND holds the trigger sequencer moves to NEXT and performs its entry actions. -/
  | trigTransition (a : AgentId)
  /-- R268: A unit's own fatal fault sets A_FAULT.UNIT_FAULT and is reported to the hub. -/
  | unitFault (a : AgentId) (code : Byte)
  /-- R55: An ordinary read of A_SHADOW_DATA returns shadow word WORD and advances WORD. -/
  | shadowDataRead (src : Src) (a : AgentId)
  /-- R74: An ordinary read of GW_DIRTY_DATA returns a dirty page number and increments GW_DIRTY_SEL. -/
  | gwDirtyDataRead (src : Src) (a : AgentId)
  /-- R214: A write of CP_GPR or CP_EPC is performed only while the CP is halted and not feeding. -/
  | cpDebugRegisterWrite (src : Src) (a : AgentId) (off : BitVec 11) (data : Word)
  /-- R626: HALT_CMD HALT sends a halt request to the target and reports IN_PROGRESS, DEFERRED or a refusal. -/
  | halt (src : Src)
  /-- R201: HALT_CMD RELEASE takes a halted target out of halt mode, suppressing comparator halts for one instruction. -/
  | release (src : Src)
  /-- R624: HALT_CMD STEP_INSTR lets a halted core issue exactly one instruction. -/
  | stepInstr (src : Src)
  /-- R626: HALT_CMD CANCEL_HALT withdraws a pending deferred halt, leaving the core running. -/
  | cancelHalt (src : Src)
  /-- R626: A run-control command arrives at the target over the drain ring and is judged again there. -/
  | haltRequestArrival (locked : Bool)
  /-- R197: A core halts at its next instruction boundary with every cause present recorded. -/
  | coreHalt (a : AgentId) (pc : BitVec 64)
  /-- R202: A locked sequence ends and a deferred halt takes effect at that boundary. -/
  | lockedSequenceEnd (a : AgentId) (pc : BitVec 64)
  /-- R202: The deferral count expires; the core halts, clears its reservation and records cause 6. -/
  | lockDeferExpire (a : AgentId) (pc : BitVec 64)
  /-- R624: The stepped instruction retires and the core halts again with cause 5. -/
  | stepInstrDone (a : AgentId) (pc : BitVec 64) (reserves : Bool)
  /-- R206: A write of FEED_INSTR sends an instruction to the halted target, or is discarded with a FEED_STATUS bit. -/
  | feedInstr (src : Src) (data : Word)
  /-- R211: A fed instruction completes, clearing BUSY, setting DONE and EVENT.FEED_DONE. -/
  | feedDone (a : AgentId) (data : Option (BitVec 64)) (exc : Option Byte)
  /-- R211: A feed not complete within 65,536 fc sets FEED_STATUS.TIMEOUT and clears BUSY. -/
  | feedTimeout
  /-- R219: An event reaches the linked-condition logic and is evaluated by every enabled slot. -/
  | breakEventArrival (half : Half)
  /-- R222: A slot latch expires WINDOW fc after it was set. -/
  | latchExpire (slot : BitVec 5) (b : Bool)
  /-- R224: In the fc after a hit the slot issues its action and may set EVENT.HIT. -/
  | slotAction (slot : BitVec 5) (locked : Bool)
  /-- R226: A write of a slot's SRC, LINK, COUNT or CONTEXT, or its enabling, clears its latches and CURRENT. -/
  | slotConfigWrite (src : Src) (off : Off) (data : Word)
  /-- R239: CUT.CMD CUT starts a snap, held or frozen cut of the selected set. -/
  | cut (src : CutSource)
  /-- R240: CUT.CMD STOP_AND_CUT stops the set and takes a frozen cut. -/
  | stopAndCut (src : Src)
  /-- R265: CUT.CMD CONTEXT_SAVE stops a context and takes a frozen cut of it, leaving it frozen. -/
  | contextSave (src : Src)
  /-- R266: CUT.CMD CONTEXT_RESTORE checks the record at DEST and loads it into the frozen agents. -/
  | contextRestore (src : Src)
  /-- R239: Selected MUs answer the arm request and SETUP decides a snap or held cut. -/
  | cutArmResponse (tooSlow : Bool)
  /-- R237: The cut's stop or snap reaches its point and the engine issues capture requests and begins draining. -/
  | cutFrozen
  /-- R236: A frozen agent receiving a capture request captures its shadow and channels and sets SNAP_HELD. -/
  | captureRequest (a : AgentId)
  /-- R238: The Cut engine reports an agent's shadow drained and the agent releases it. -/
  | shadowDrained (a : AgentId) (tiles : List TileData)
  /-- R238: An agent whose shadow no ring collects within 65,536 fc sets DRAIN_TIMEOUT and the cut ends TIMEOUT. -/
  | agentDrainTimeout (a : AgentId)
  /-- R247: A held snap token is drained, freeing its queue slot and returning its credit. -/
  | heldTokenDrained (a : AgentId) (q : QueueNo)
  /-- R246: A protected or preserved granule is drained, ending its protection and freeing any preserve slot. -/
  | granuleDrained (a : AgentId) (g : BitVec 11)
  /-- R253: Once GW_OUTSTANDING reads 0 on every selected gateway, DRAIN_MEMORY starts and page guards begin. -/
  | drainMemoryStart (left : List (BitVec 4 × BitVec 10))
  /-- R253: A write to a guarded unread page stalls with WAIT_MEMORY and moves that page ahead in the read order. -/
  | guardedPageWrite (page : BitVec 32) (writer : Option AgentId) (gw : BitVec 4)
  /-- R318: A page's last block is read, ending its guard and releasing stalled writes. -/
  | pageReadDone (page : BitVec 32) (data : List Byte) (ue : Bool) (late : Bool)
  /-- R255: The engine writes TALLY and then the header, committing the record and setting EVENT.DONE. -/
  | cutCommit
  /-- R262: A record that would pass LIMIT ends the cut with NO_SPACE and nothing committed. -/
  | cutNoSpace
  /-- R244: A frozen cut whose fabric leaves FROZEN before DRAIN_MEMORY ends fails with OUTCOME RESUMED. -/
  | cutResumedFail
  /-- R242: A held cut or RESUME_AFTER drives RESUME after commit when the engine's own stop left RUNNING. -/
  | cutResumeAfter
  /-- R263: A write of LIMIT in PORT mode reports consumed stream bytes and frees ring space. -/
  | portLimitWrite (src : Src) (data : Word)
  /-- R267: A restore finishes loading and computes the link tally on the loaded state. -/
  | restoreLoadDone (record : List Byte)
  /-- R259: A new 1,536-fc Governor window starts with fresh allowances. -/
  | governorWindow
  /-- R260: The memory master issues a 64-byte block request for the highest-priority requester within allowance. -/
  | mmRequestIssue (ready : List MmRequest)
  /-- R556: A memory-master port returns a response for an outstanding request. -/
  | mmResponse (port : BitVec 1) (tag : BitVec 6) (err : Bool) (data : List Byte)
  /-- R557: A request unanswered within 65,536 fc sets MASTER.FAULT MM_TIMEOUT and is treated as UE. -/
  | mmTimeout (port : BitVec 1) (tag : BitVec 6)
  /-- R268: A fatal error is acted on by HUB.FATAL_ACTION with a Whistle action and crash capture. -/
  | fatalError (src : FatalSource)
  /-- R270: A crash capture completes, marking its slot HELD and setting EVENT.CAPTURED. -/
  | crashCaptureDone
  /-- R271: A write of CRASH.ARM.CAPTURE_NOW captures with KIND SOFTWARE and no Whistle action. -/
  | captureNow (src : Src)
  /-- R273: A write of CRASH.RELEASE sets the current slot EMPTY and releases HUB_FAULT_N assertions. -/
  | crashRelease (src : Src)
  /-- R294: A write of GO.START latches the job registers and starts a job, or rejects the GO. -/
  | hopperGo (src : Src) (data : Word)
  /-- R295: SETUP checks the job's arguments, refusing or writing zero header bytes at DST. -/
  | hopperSetup
  /-- R292: A decompress job's block header read returns and is checked in the header walk. -/
  | hopperHeaderRead (hdr : List Byte)
  /-- R276: An engine finishes coding or decoding one block and its output is written. -/
  | hopperBlockDone (idx : Nat) (raw : List Byte)
  /-- R302: An engine reports a failure and the job ends with the first block's failure. -/
  | hopperBlockFail (idx : Nat) (code : Nat)
  /-- R303: A job ends DONE, writing the first header, OUT_LEN and CRC. -/
  | hopperCommit
  /-- R312: A write enabling Millrace SOURCE is checked, refused with a reason or accepted to start BASE cuts. -/
  | periodRevWrite (src : Src) (data : Word)
  /-- R312: Enabling apply on an APPLY hub is checked against Table 8-2. -/
  | applyEnable (src : Src) (data : Word)
  /-- R348: A write of MILLRACE.ROLE is checked under R312 and refused while Millrace runs. -/
  | millraceRoleWrite (src : Src) (data : Word)
  /-- R309: A transport write of HEAD or TAIL is accepted or discarded, setting EVENT.BAD_PTR when invalid. -/
  | ringPointerWrite (src : Src) (tail : Bool) (data : Word)
  /-- R328: A pending Millrace request is presented when the Cut engine becomes IDLE. -/
  | millracePendingPresent
  /-- R325: A Millrace frame commits and HEAD moves past its padding. -/
  | frameCommit
  /-- R331: The ring stays without room for 4,096 notches and the cut is abandoned. -/
  | ringStalled
  /-- R321: A Millrace cut ending without commit re-dirties its data, counts a skip and may write an ABANDONED frame. -/
  | millraceCutAbandon
  /-- R315: A gateway dirty list overflow makes the next Millrace cut a BASE cut. -/
  | dirtyListOverflow (a : AgentId)
  /-- R334: An APPLY hub checks a complete frame at TAIL and accepts or discards it. -/
  | frameCheck (frame : List Byte)
  /-- R336: A complete cut is decoded, checked and applied to the frozen fabric and memory, and TAIL moves. -/
  | cutApply
  /-- R340: RESTORE_CMD FAILOVER applies complete cuts and loads the reload image into the frozen agents. -/
  | failover (src : Src)
  /-- R343: RESTORE_CMD LOAD_ONLY loads the reload image and leaves the fabric frozen. -/
  | loadOnly (src : Src)
  /-- R347: RESTORE_CMD RESET_IMAGE empties the ring and discards the image or unshipped frames. -/
  | resetImage (src : Src)
  /-- R314: RESTORE_CMD RESEED marks every carried page dirty and makes the next cut BASE. -/
  | reseed (src : Src)
  /-- R340: Reload completes and the tally on the loaded state is judged. -/
  | reloadDone
  /-- R340: After a balanced reload the hub drives RESUME in the first fc of the next revolution. -/
  | failoverResume
  /-- R359: A conditional branch outcome enters the encoder's literal buffer or run counter. -/
  | branchOutcome (a : AgentId) (taken : Bool)
  /-- R360: The run counter reaches 2^32 − 1 and a run BITS entry is emitted. -/
  | runSaturate (a : AgentId)
  /-- R352: An indirect transfer flushes the encoder and produces a TARGET entry. -/
  | indirectTransfer (a : AgentId) (kind : TransferKind) (fromPc : BitVec 48) (target : BitVec 48)
  /-- R355: An encoder enters ON when every condition holds, producing TRIGGER START and SYNC. -/
  | encoderOn (a : AgentId)
  /-- R355: An encoder enters OFF when a condition fails, flushing its outcomes. -/
  | encoderOff (a : AgentId)
  /-- R355: An encoder whose unit enters SLEEP flushes and produces SLEEP. -/
  | encoderSleep (a : AgentId)
  /-- R363: An encoder whose unit leaves SLEEP produces WAKE and SYNC with reason WAKE. -/
  | encoderWake (a : AgentId)
  /-- R363: An encoder produces a SYNC at an instruction boundary for the highest pending reason. -/
  | sync (a : AgentId) (pc : BitVec 48) (cmd : Option (BitVec 5 × Word))
  /-- R363: SYNC_PERIOD entries since the last SYNC make a periodic SYNC due. -/
  | periodicSync (a : AgentId)
  /-- R367: An entry produced with 4 waiting is dropped and reported to the funnel. -/
  | encoderDrop (a : AgentId)
  /-- R366: A waiting encoder entry leaves over the drain ring segment. -/
  | encoderEntrySend (a : AgentId)
  /-- R377: A command entering DISPATCH produces a CMD_BEGIN record. -/
  | cmdBegin (ce : BitVec 5) (cmd : CommandInfo)
  /-- R377: A command reaching END produces CMD_END, or CMD_END_LATE when late. -/
  | cmdEnd (ce : BitVec 5) (abandoned : Bool)
  /-- R385: A PC sample falls due and is sent to the next selected agent or skipped. -/
  | pcsSampleDue
  /-- R386: A PC sample answer arrives and a PCS entry is produced. -/
  | pcsAnswer (pc : Word)
  /-- R399: An entry arrives at a funnel and is accepted, dropped or accepted with a victim dropped. -/
  | funnelArrival (half : Half)
  /-- R397: A funnel writes the oldest merge-buffer entry into its buffer or spill FIFO. -/
  | funnelWrite (half : Half)
  /-- R401: The funnel places a LOST entry for a marked source as a rank-3 arrival. -/
  | lostPlacement (half : Half) (src : AgentId)
  /-- R403: A drop notice reaches a flow encoder and makes it produce SYNC with reason LOST. -/
  | dropNotice (a : AgentId)
  /-- R411: The spill FIFO writes 4 entries as one 64-byte unit to the spill area. -/
  | spillUnitWrite (half : Half)
  /-- R412: A hub-level trigger is taken by every ARMED half, placing a TRIGGER entry. -/
  | traceTrigger (src : TrigSource)
  /-- R413: A TRIGGERED half enters STOPPED after POST_TRIG_COUNT further entries. -/
  | postTrigStop (half : Half)
  /-- R407: A FILL_STOP buffer fills and its half enters STOPPED with FULL set. -/
  | fillStopFull (half : Half)
  /-- R415: TRIG_CMD STOP_NOW stops every half not already STOPPED. -/
  | stopNow (src : Src)
  /-- R415: TRIG_CMD REARM takes every half to ARMED. -/
  | rearm (src : Src)
  /-- R415: TRIG_CMD DISARM takes every ARMED or TRIGGERED half to DISARMED. -/
  | disarm (src : Src)
  /-- R407: A write of FUNNEL.MODE sets the buffer mode, resets pointers and arms both halves, or is refused. -/
  | funnelModeWrite (src : Src) (data : Word)
  /-- R422: A source's tally mark reaches the write point and G = A + D is checked. -/
  | tallyMarkCheck (half : Half) (src : AgentId)
  /-- R426: At a rollup boundary the Scoreboard sends a rollup request and agents latch their counters. -/
  | rollupRequest
  /-- R428: A rollup completes and all region and context totals change together. -/
  | rollupComplete
  /-- R435: A write of CONTEXT_SEL selects an entry or assigns a context pending the next rollup. -/
  | contextSelWrite (src : Src) (data : Word)
  /-- R439: A gather reaches an agent, which answers A_PCNTx and zeroes it. -/
  | gatherRequest (n : BitVec 6) (a : AgentId)
  /-- R439: A gather completes and its contributions are added to the counter. -/
  | gatherComplete (n : BitVec 6)
  /-- R442: At a command boundary a CMD_RESET counter takes a tagged snapshot and resets. -/
  | commandBoundarySnapshot (n : BitVec 6)
  /-- R444: SNAP_CMD SNAP snapshots every counter whose KIND is not OFF. -/
  | snap (src : Src)
  /-- R444: SNAP_CMD SNAP_RESET snapshots and resets every counter whose KIND is not OFF. -/
  | snapReset (src : Src)
  /-- R440: A KIND or REGIONS write rebases the counter and sets CONFLICT on an overlap. -/
  | counterConfigWrite (src : Src) (n : BitVec 6) (data : Word)
  /-- R438: A committed write of CNT_n_LO rebases the counter. -/
  | counterValueWrite (src : Src) (n : BitVec 6) (data : Word)
  /-- R457: A beat on the tapped MU write port is reduced into the open interval. -/
  | tapBeat (a : AgentId) (beat : Beat)
  /-- R453: A slot configuration push reaches the agent and closes its interval with cause CONFIG. -/
  | tapConfigPush (slot : BitVec 6)
  /-- R454: A write of A_TAP_CTRL or A_TAP_FMT closes the open interval with cause CONFIG. -/
  | tapConfigWrite (src : Src) (a : AgentId) (fmt : Bool) (data : Word)
  /-- R462: A COMMAND, REVOLUTION or MANUAL close closes the interval into a result or merges it. -/
  | tapClose (a : AgentId) (cause : TapCause)
  /-- R462: A write of TAP_CTRL.CLOSE_NOW sends a MANUAL close request. -/
  | closeNow (src : Src) (data : Word)
  /-- R465: A tap result reaches the hub and is accepted into its slot or rejected. -/
  | tapResultArrival (a : AgentId) (age : Nat)
  /-- R466: A write of RESULT_SEL copies the slot's result into the result window. -/
  | resultSelWrite (src : Src) (data : Word)
  /-- R469: A TWATCH abort flush is acknowledged by its segment. -/
  | tapFlushDone (half : Half) (column : BitVec 7)
  /-- R472: An agent's wait count reaches the pushed limit and it sends one unit alarm. -/
  | unitAlarm (a : AgentId)
  /-- R482: A unit alarm reaches the hub and counts as a unit watchdog expiry. -/
  | unitAlarmArrival (a : AgentId)
  /-- R473: A write of UNIT_WD_FC pushes the limit to every agent. -/
  | unitLimitPush (src : Src) (data : Word)
  /-- R474: A command watchdog expires at its CMD_WD_NOTCH-th notch boundary. -/
  | cmdWatchdogExpire (k : BitVec 5)
  /-- R475: The revolution watchdog's count reaches REV_WD. -/
  | revWatchdogExpire
  /-- R476: The firmware watchdog's count reaches PERIOD. -/
  | fwWatchdogExpire
  /-- R476: A write of FW_WD.KICK returns the firmware watchdog count to 0. -/
  | kick (src : Src)
  /-- R484: A write of CTRL.COLLECT_NOW starts a blocked-edge collection. -/
  | collectNow (src : Src)
  /-- R484: A COLLECT action starts its collection once the fabric reads FROZEN. -/
  | collectionStart
  /-- R486: A collection completes, setting VALID, adding to SEQ and setting EVENT.COLLECTED. -/
  | collectionComplete
  /-- R490: An ordinary read of EDGE_DATA_HI returns the latch and advances EDGE_INDEX. -/
  | edgeDataHiRead (src : Src)
  /-- R497: A Half receives no alive marker for 64 fc and treats its partner as silent. -/
  | partnerSilent (half : Half)
  /-- R498: A Toss between the Halves starts on BOTH_CLAIM, NONE_CLAIM or PARTNER_SILENT. -/
  | tossStart (cause : TossCause)
  /-- R499: The Toss is decided by fused half-ID and LEAD_HALF is written. -/
  | tossDecision
  /-- R502: The Toss ends, restoring one arbiter, setting the lane owner and EVENT.TOSS. -/
  | tossEnd
  /-- R507: A Passing Ring message is received, forwarded and acted on once, or dropped on a CRC failure. -/
  | ringMessage (lane : Lane) (msg : RingMsg)
  /-- R511: A worker takes a WHEEL message as a mark and revolution count. -/
  | wheelMessage
  /-- R517: A member sends a HEARTBEAT at each notch boundary that is a multiple of HEARTBEAT_NOTCH. -/
  | heartbeatSend
  /-- R518: A manager or worker judges an owed heartbeat received or missed and updates the miss count. -/
  | heartbeatJudge (m : Byte)
  /-- R520: A heartbeat from a missing member clears its MISSING bit and sets EVENT.REJOINED. -/
  | memberRejoined (m : Byte)
  /-- R524: A FAILOVER message makes the standby restore and the named member stop. -/
  | failoverMessage
  /-- R514: An XWHISTLE message is presented as a TEAM request on arrival or held as an angle command. -/
  | xwhistleMessage
  /-- R515: A pending angle command is presented as the member's position passes its target. -/
  | angleCommandDue
  /-- R509: A census is started by the manager and travels the ring counting members. -/
  | census
  /-- R509: A census completes, writing MEMBER_COUNT and hop counts and setting EVENT.CENSUS_DONE. -/
  | censusDone (members : List (Byte × Byte)) (dup : Bool)
  /-- R509: A write of CTRL.CENSUS_NOW starts a census on a manager. -/
  | censusNow (src : Src)
  /-- R512: A manager answers a PROBE addressed to it with an ECHO within 4 fc. -/
  | probe
  /-- R130: An ECHO returns to the probing member and the round trip is measured. -/
  | echo
  /-- R510: A lane delivers no valid message for 4,096 fc and is down. -/
  | laneDown (lane : Lane)
  /-- R521: A manager receiving another manager's message demotes itself if its member ID is higher. -/
  | managerToss (rival : Byte)
  /-- R505: A write of TEAM.ROLE changes the hub's team role from the next fc. -/
  | teamRoleWrite (src : Src) (data : Word)
  /-- R513: XWHISTLE_CMD STOP_ALL originates a cross-chip stop to all members. -/
  | xwStopAll (src : Src) (data : Word)
  /-- R513: XWHISTLE_CMD RESUME originates a cross-chip resume to all members. -/
  | xwResume (src : Src) (data : Word)
  /-- R513: XWHISTLE_CMD SNAP originates a cross-chip snap to all members. -/
  | xwSnap (src : Src) (data : Word)
  /-- R513: XWHISTLE_CMD CUT originates a cross-chip cut of the given dump set. -/
  | xwCut (src : Src) (data : Word)
  /-- R516: XWHISTLE_CMD CANCEL discards the pending angle command on every member. -/
  | xwCancel (src : Src) (data : Word)
  /-- R537: A BSL READ frame performs COUNT reads and returns them in a RESP. -/
  | bslRead (seq tag : Byte) (inc : Bool) (word : BitVec 17) (count : BitVec 7)
  /-- R537: A BSL WRITE frame performs COUNT writes and returns a RESP. -/
  | bslWrite (seq tag : Byte) (inc : Bool) (word : BitVec 17) (data : List Word)
  /-- R537: A BSL PEEK frame performs COUNT peek reads and returns them in a RESP. -/
  | bslPeek (seq tag : Byte) (inc : Bool) (word : BitVec 17) (count : BitVec 7)
  /-- R539: A BSL STREAM frame makes repeated WIN_DATA reads sent in DATA frames, then a RESP. -/
  | bslStream (seq tag : Byte) (inst : Inst) (words : Word)
  /-- R536: A frame with bad CRC, length or type is discarded and NAKed. -/
  | bslFrameDiscard
  /-- R540: An ACK ordered set frees acknowledged sent frames. -/
  | ack (seq : Byte)
  /-- R541: A NAK ordered set makes the sender replay from the named frame. -/
  | nak (seq : Byte)
  /-- R544: A CRD ordered set grants frame credits to the other end. -/
  | crd (n : Byte)
  /-- R541: No ACK within ACK_TIMEOUT × 256 fc makes the sender replay. -/
  | ackTimeout
  /-- R542: Replay exhaustion or loss of symbol lock takes the link down and restarts training. -/
  | bslLinkDown (cause : DownCause)
  /-- R545: Training completes, the link is UP and the hub grants 8 credits. -/
  | bslLinkUp
  /-- R542: A write of BSL_CTRL.RETRAIN takes the link down and trains. -/
  | retrain (src : Src)
  /-- R546: A queued EVENT frame is sent when a credit is held. -/
  | eventFrame
  /-- R550: Update-DR of REGACC presents one register access at the port level, or sets OVERRUN. -/
  | regaccUpdate (dr : BitVec 52)
  /-- R552: TRST_N or Test-Logic-Reset resets the TAP controller and loads IDCODE. -/
  | tapReset
  /-- R553: A register-bus slave access is sampled and answered with RB_ACK. -/
  | registerBusAccess (mid : BitVec 3) (write : Bool) (off : Off) (data : Word)
  /-- R561: AUTH_CMD CHALLENGE draws a 256-bit challenge for the requested level. -/
  | challenge (src : Src) (level : BitVec 2)
  /-- R561: The challenge draw completes and RESULT reads CHALLENGE_READY. -/
  | challengeReady (chal : BitVec 256)
  /-- R563: AUTH_CMD SUBMIT latches the response and starts the constant-time check. -/
  | submit (src : Src)
  /-- R563: The response check ends GRANTED, raising the port level, or REFUSED. -/
  | authCheckDone
  /-- R565: A lockout ends after 600,000,000 fc. -/
  | lockoutExpire
  /-- R567: AUTH_CMD DROP returns the port level to LOCKED. -/
  | drop (src : Src)
  /-- R569: A bus write of MBOX_OUT stores the word and sets OUT_FULL, or sets OUT_OVR. -/
  | mboxOutWrite (src : Src) (data : Word)
  /-- R569: An ordinary port read of MBOX_OUT clears OUT_FULL and sets EVENT.MBOX_TAKEN. -/
  | mboxOutRead (src : Src)
  /-- R570: A port write of MBOX_IN stores the word and sets IN_FULL, or sets IN_OVR. -/
  | mboxInWrite (src : Src) (data : Word)
  /-- R570: An ordinary bus read of MBOX_IN returns the word and clears it and IN_FULL. -/
  | mboxInRead (src : Src)
  /-- R586: PORST_N resets every register and SRAM, loads fuses and empties the crash store. -/
  | porst (straps : Straps) (fuses : Fuses)
  /-- R586: HUB_RST_N resets the hub, keeping fuse values and the crash store. -/
  | hubReset (straps : Straps)
  /-- R589: An agent receiving the agent reset resumes, leaves halt and returns its debug state to reset. -/
  | agentReset (a : AgentId)
  /-- R587: The reset sequence completes, READY becomes 1 and held accesses and fatal errors are served. -/
  | ready
  /-- R579: A write of TARGET_STATE starts a descent or raises the hub to the written state. -/
  | targetStateWrite (src : Src) (data : Word)
  /-- R578: IDLE_REVS consecutive idle boundaries start a step down toward the limit. -/
  | idleDescent
  /-- R580: A step down completes its work and CURRENT_STATE changes with EVENT.STATE. -/
  | stepDownDone
  /-- R581: A wake source starts a rise to W0, abandoning any step down in progress. -/
  | wake (cause : WakeCause)
  /-- R583: A rise reaches W0, writing LAST_EXIT_FC and serving held work. -/
  | riseDone
  /-- R591: SELFTEST.CMD START runs the selected test on each selected half, or is refused. -/
  | start (src : Src)
  /-- R597: SELFTEST.CMD STOP ends the test with OUTCOME STOPPED once the current unit is zeroed. -/
  | stop (src : Src)
  /-- R595: A unit under test finishes its passes and returns to service zeroed. -/
  | testUnitDone (half : Half) (fail : Bool)
  /-- R594: A crash capture, cut or trace trigger pre-empts a running SRAM test. -/
  | testPreempt (half : Half)
  /-- R596: CAL_CMD WHEEL starts a ring-delay calibration, or is refused. -/
  | calWheel (src : Src)
  /-- R596: CAL_CMD BSL starts adapting the BSL receiver, or is refused. -/
  | calBsl (src : Src)
  /-- R596: CAL_CMD RING starts adapting the Passing Ring lanes, or is refused. -/
  | calRing (src : Src)
  /-- R596: A background calibration ends, setting DONE or FAILED and EVENT.CAL_DONE. -/
  | calibrationEnd (kind : CalKind) (ok : Bool)
  /-- R600: A read finds a correctable error, returns corrected data and writes it back. -/
  | sramCorrectedError (place : EccPlace) (word : Nat)
  /-- R601: A read finds an uncorrectable error and sets FAULT.UE on the owning page. -/
  | sramUe (place : EccPlace) (word : Nat)
  /-- R602: The patrol reads one word of each SRAM every 16 fc in W0 and W1. -/
  | patrolRead (sram : Sram) (found : Option Bool)
  /-- R67: An ordinary read of a hub register passes the checks of Table 2-2, checks the register's parity, clears an RC register, and is logged as a violation when refused at step 3. -/
  | ordinaryRead (src : Src) (off : Off)
  /-- R548: The TAP loads a new instruction into its 5-bit instruction register, selecting the data register that later Capture-DR and Update-DR use and changing TAP_STATUS.IR. -/
  | instructionRegisterUpdate (ir : BitVec 5)
  /-- R576: On a rise from W3 or W4 the hub first reaches W2, and every access held since it arrived in W3 or W4 is treated from that fc as an access made in W2. -/
  | riseReachesW2
deriving DecidableEq, Repr

end Sys2Proof
end

