-- ==== Sys2Proof/Machine/Sparse.lean ====
section
/-! DEFINITION. Sparse maps in one canonical form (strictly rising keys), and small list helpers. -/

namespace Sys2Proof

/-- The value kept under key `k`, or `d` where none is listed. -/
def Sparse.get {α : Type} : Sparse α → Nat → α → α
  | [], _, d => d
  | (k, v) :: m, i, d => if k = i then v else Sparse.get m i d

/-- Put `v` under key `i`, keeping the keys strictly rising. -/
def Sparse.ins {α : Type} : Sparse α → Nat → α → Sparse α
  | [], i, v => [(i, v)]
  | (k, w) :: m, i, v =>
    if i < k then (i, v) :: (k, w) :: m
    else if k = i then (i, v) :: m
    else (k, w) :: Sparse.ins m i v

/-- Remove key `i`. -/
def Sparse.del {α : Type} (m : Sparse α) (i : Nat) : Sparse α := m.filter (fun e => e.1 ≠ i)

/-- Write `v` under key `i` in a map whose unlisted keys read `d`: writing `d` removes the entry. -/
def Sparse.set {α : Type} [DecidableEq α] (m : Sparse α) (i : Nat) (v d : α) : Sparse α :=
  if v = d then Sparse.del m i else Sparse.ins m i v

/-- Whether a key is listed. -/
def Sparse.has {α : Type} (m : Sparse α) (i : Nat) : Bool := m.any (fun e => e.1 == i)

/-- The canonical form: keys strictly rise. -/
abbrev Sparse.wf {α : Type} (m : Sparse α) : Prop := m.Pairwise (fun a b => a.1 < b.1)

/-- Replace the first element that satisfies `p` by `f` of it. -/
def updateFirst {α : Type} (p : α → Bool) (f : α → α) : List α → List α
  | [] => []
  | x :: xs => if p x then f x :: xs else x :: updateFirst p f xs

/-- Insert a number into a rising list without repeats. -/
def insertSorted (n : Nat) : List Nat → List Nat
  | [] => [n]
  | x :: xs => if n < x then n :: x :: xs else if n = x then x :: xs else x :: insertSorted n xs

/-- Bit `i` of a number. -/
def testBit (n i : Nat) : Bool := n / 2 ^ i % 2 == 1

/-- Bits `hi` down to `lo` of a number. -/
def bits (n hi lo : Nat) : Nat := n / 2 ^ lo % 2 ^ (hi + 1 - lo)

/-- Set or clear bit `i` of a number. -/
def setBit (n i : Nat) (b : Bool) : Nat :=
  if testBit n i = b then n else if b then n + 2 ^ i else n - 2 ^ i

/-- Add `n` to a count that saturates at `top`. -/
def satAdd (v n top : Nat) : Nat := if v + n ≤ top then v + n else top

/-- Division rounded up (R112). -/
def ceilDiv (a b : Nat) : Nat := if b = 0 then 0 else (a + b - 1) / b

end Sys2Proof
end

