-- ==== Sys2Proof/Machine/Codec.lean ====
section
/-! DEFINITION. The Hopper's formats (chapter 7): CRC-32C, the plane transforms, the code stream with its dictionary, the
greedy encoder, the decoder with its checks, and the 16-byte block header. -/

namespace Sys2Proof.Machine

/-! ### Byte order (R11) and CRC-32C (R281) -/

/-- Bytes of a number, least significant first (R11). -/
def leBytes : Nat → Nat → List Byte
  | 0, _ => []
  | n + 1, v => BitVec.ofNat 8 v :: leBytes n (v / 256)

/-- The number that bytes spell, least significant first. -/
def leVal : List Byte → Nat
  | [] => 0
  | b :: bs => b.toNat + 256 * leVal bs

/-- One bit of the reflected CRC. -/
def crcBit (c : BitVec 32) : BitVec 32 := if c.getLsbD 0 then (c >>> 1) ^^^ 0x82F63B78#32 else c >>> 1

/-- One byte of the reflected CRC. -/
def crcByte (c : BitVec 32) (b : Byte) : BitVec 32 :=
  crcBit (crcBit (crcBit (crcBit (crcBit (crcBit (crcBit (crcBit (c ^^^ b.zeroExtend 32))))))))

/-- CRC-32C (Table 7-4). -/
def crc32c (l : List Byte) : Nat := ((l.foldl crcByte 0xFFFFFFFF#32) ^^^ 0xFFFFFFFF#32).toNat

/-! ### Plane transforms (R282) -/

/-- Bytes per element of a TRANSFORM or PLANE value (Table 7-3). -/
def planeK (t : Nat) : Nat := if t = 1 then 2 else if t = 2 then 4 else if t = 3 then 8 else 1

/-- PLANEk of a block. -/
def plane (t : Nat) (l : List Byte) : List Byte :=
  let k := planeK t
  let m := l.length / k
  (List.range k).flatMap (fun b => (List.range m).map (fun i => l.getD (i * k + b) 0)) ++ l.drop (m * k)

/-- The inverse transform. -/
def unplane (t : Nat) (l : List Byte) : List Byte :=
  let k := planeK t
  let m := l.length / k
  (List.range m).flatMap (fun i => (List.range k).map (fun b => l.getD (b * m + i) 0)) ++ l.drop (m * k)

/-! ### Bit packing (R283) -/

/-- A value as `w` stream bits, bit 0 first. -/
def bitsOf : Nat → Nat → List Bool
  | 0, _ => []
  | w + 1, v => (v % 2 == 1) :: bitsOf w (v / 2)

/-- The value that stream bits spell. -/
def bitsVal : List Bool → Nat
  | [] => 0
  | b :: bs => bit b + 2 * bitsVal bs

/-- Stream bits packed into bytes, the last padded with zero bits; `fuel` is at least the number of bytes. -/
def packBits : Nat → List Bool → List Byte
  | 0, _ => []
  | _ + 1, [] => []
  | n + 1, b :: bs => BitVec.ofNat 8 (bitsVal ((b :: bs).take 8)) :: packBits n ((b :: bs).drop 8)

/-- The stream bits of a body. -/
def bodyBits (l : List Byte) : List Bool := l.flatMap (fun b => bitsOf 8 b.toNat)

/-- ceil(log2 n) for n ≥ 2 (R285). -/
def ceilLog2 (n : Nat) : Nat := Nat.log2 (n - 1) + 1

/-! ### The dictionary (R284 to R288) -/

/-- Dictionary entries from 258 on, by code. -/
abbrev Dict := List (Nat × List Byte)

/-- The string of a dictionary code. -/
def Dict.find (d : Dict) (c : Nat) : List Byte := Sparse.get d c []

/-- END and ZERO_RUN (Table 7-5). -/
def codeEnd : Nat := 256
def codeZero : Nat := 257

/-- The dictionary holds entries up to code 2^(MAXW + 9) − 1. -/
def dictTop (maxw : Nat) : Nat := 2 ^ (maxw + 9)

/-! ### The hub's encoder (R290, R291) -/

/-- The bytes from offset `p` on are 16 zero bytes. -/
def zeros16 (rest : List Byte) : Bool := (rest.take 16).length == 16 && (rest.take 16).all (· == 0)

/-- A zero-run start at offset `p`, where `rest` are the bytes from `p` on (R290). -/
def zeroStart (noZrun : Bool) (p : Nat) (rest : List Byte) : Bool := !noZrun && p % 8 == 0 && zeros16 rest

/-- How far a string match may extend from `p`: to the next zero-run start or the end of the block. -/
def matchLimit (noZrun : Bool) : Nat → List Byte → Nat
  | _, [] => 0
  | p, b :: bs => if zeroStart noZrun p (b :: bs) then 0 else 1 + matchLimit noZrun (p + 1) bs

/-- All-zero 8-byte words at the head of the bytes, at most 8,192 of a block. -/
def zeroWords : Nat → List Byte → Nat
  | 0, _ => 0
  | n + 1, l => if (l.take 8).length = 8 ∧ (l.take 8).all (· == 0) then 1 + zeroWords n (l.drop 8) else 0

/-- The longest dictionary string that matches within `lim` bytes, with the lowest code that names it (R291): the best so
far is `c` of `k` bytes. -/
def bestMatch (rest : List Byte) (lim : Nat) : Dict → Nat × Nat → Nat × Nat
  | [], best => best
  | (c, s) :: d, best =>
    if best.2 < s.length ∧ s.length ≤ lim ∧ s.isPrefixOf rest then bestMatch rest lim d (c, s.length)
    else bestMatch rest lim d best

/-- The greedy encoder from offset `p` on: `dict` holds the entries to code `n - 1`, and `str` says that the last code was
a string code. Answers the stream bits. -/
def encodeFrom (maxw : Nat) (noZrun : Bool) : Nat → Nat → List Byte → Dict → Nat → Bool → List Bool
  | 0, _, _, _, _, _ => []
  | fuel + 1, p, rest, dict, n, str =>
    match rest with
    | [] => bitsOf (ceilLog2 (n + bit (str && decide (n < dictTop maxw)))) codeEnd
    | b :: bs =>
      if zeroStart noZrun p (b :: bs) then
        let k := zeroWords 8192 (b :: bs)
        bitsOf (ceilLog2 n) codeZero ++ bitsOf 13 (k - 1)
          ++ encodeFrom maxw noZrun fuel (p + 8 * k) ((b :: bs).drop (8 * k)) dict n false
      else
        let lim := 1 + matchLimit noZrun (p + 1) bs
        let (c, k) := bestMatch (b :: bs) lim dict (b.toNat, 1)
        let after := (b :: bs).drop k
        let (dict', n') := match after with
          | [] => (dict, n)
          | x :: _ => if n < dictTop maxw then (dict ++ [(n, (b :: bs).take k ++ [x])], n + 1) else (dict, n)
        bitsOf (ceilLog2 n) c ++ encodeFrom maxw noZrun fuel (p + k) after dict' n' true

/-- The body of a coded block, of its transformed bytes (R291, R283). -/
def encodeBody (maxw : Nat) (noZrun : Bool) (l : List Byte) : List Byte :=
  let bs := encodeFrom maxw noZrun (l.length + 1) 0 l [] 258 false
  packBits bs.length bs

/-! ### The decoder (R284 to R288, R292) -/

/-- RESULT codes (Table 7-9). -/
def hcDone : Nat := 1
def hcNotShrunk : Nat := 2
def hcNoSpace : Nat := 3
def hcBadHeader : Nat := 4
def hcBadVersion : Nat := 5
def hcBadStream : Nat := 6
def hcLength : Nat := 7
def hcCrc : Nat := 8
def hcExpand : Nat := 9
def hcUe : Nat := 10
def hcAborted : Nat := 11
def hcArgs : Nat := 12
def hcOverlap : Nat := 13

/-- Decode from a stream: `out` the bytes so far, `prev` the previous string. Answers the transformed bytes, or a RESULT
code; padding bits above END must be 0 and fewer than 8 (Table 7-7). -/
def decodeFrom (maxw len : Nat) : Nat → List Bool → Dict → Nat → Option (List Byte) → List Byte → Except Nat (List Byte)
  | 0, _, _, _, _, _ => .error hcBadStream
  | fuel + 1, st, dict, n, prev, out =>
    let p := prev.isSome && decide (n < dictTop maxw)
    let w := ceilLog2 (n + bit p)
    if st.length < w then .error hcBadStream
    else
      let c := bitsVal (st.take w)
      let st := st.drop w
      let define := fun (x : Byte) => if p then (dict ++ [(n, prev.getD [] ++ [x])], n + 1) else (dict, n)
      if c = codeEnd then
        if out.length ≠ len then .error hcLength
        else if 8 ≤ st.length ∨ st.any id then .error hcBadStream
        else .ok out
      else if c = codeZero then
        if st.length < 13 then .error hcBadStream
        else
          let k := 8 * (bitsVal (st.take 13) + 1)
          let (dict, n) := define 0
          if len < out.length + k then .error hcLength
          else decodeFrom maxw len fuel (st.drop 13) dict n none (out ++ List.replicate k 0)
      else
        let s : List Byte :=
          if c < 256 then [BitVec.ofNat 8 c]
          else if c < n then dict.find c
          else if c = n ∧ p then prev.getD [] ++ (prev.getD []).take 1
          else []
        match s with
        | [] => .error hcBadStream
        | x :: _ =>
          let (dict, n) := define x
          if len < out.length + s.length then .error hcLength
          else decodeFrom maxw len fuel st dict n (some s) (out ++ s)

/-! ### Blocks (R279, Table 7-2) -/

/-- A block header. -/
structure BlockHdr where
  version : Nat
  maxw : Nat
  reserved : Bool
  raw : Bool
  transform : Nat
  orig : Nat
  coded : Nat
  crc : Nat
deriving DecidableEq, Repr

/-- The header's bytes. -/
def BlockHdr.bytes (h : BlockHdr) : List Byte :=
  [0x48#8, 0x50#8] ++ leBytes 1 h.version ++ leBytes 1 (h.maxw * 16 + bit h.reserved * 8 + bit h.raw * 4 + h.transform)
    ++ leBytes 4 h.orig ++ leBytes 4 h.coded ++ leBytes 4 h.crc

/-- The header that 16 bytes spell; none without the magic. -/
def BlockHdr.parse (l : List Byte) : Option BlockHdr :=
  if l.take 2 = [0x48#8, 0x50#8] ∧ l.length = 16 then
    let f := leVal ((l.drop 3).take 1)
    some ⟨leVal ((l.drop 2).take 1), f / 16, testBit f 3, testBit f 2, f % 4, leVal ((l.drop 4).take 4),
      leVal ((l.drop 8).take 4), leVal ((l.drop 12).take 4)⟩
  else none

/-- The block that a coder makes: coded when it shrinks (R297), else RAW; the second component says that it was stored
RAW. -/
def codeBlock (maxw plane' : Nat) (noZrun : Bool) (l : List Byte) : List Byte × Bool :=
  let body := encodeBody maxw noZrun (plane plane' l)
  let crc := crc32c l
  if 16 + body.length < l.length then ((BlockHdr.mk 1 maxw false false plane' l.length body.length crc).bytes ++ body, false)
  else ((BlockHdr.mk 1 maxw false true 0 l.length l.length crc).bytes ++ l, true)

/-- A block stored RAW. -/
def rawBlock (maxw : Nat) (l : List Byte) : List Byte :=
  (BlockHdr.mk 1 maxw false true 0 l.length l.length (crc32c l)).bytes ++ l

/-- Decode a block's body under its header: the original bytes, or a RESULT code (Table 7-7). -/
def decodeBlock (h : BlockHdr) (body : List Byte) : Except Nat (List Byte) :=
  let r := if h.raw then .ok body
    else (decodeFrom h.maxw h.orig (8 * body.length + 1) (bodyBits body) [] 258 none []).map (unplane h.transform)
  match r with
  | .error e => .error e
  | .ok l => if crc32c l = h.crc then .ok l else .error hcCrc

/-- The header-walk checks of one block in table order (Table 7-7): `left` bytes of source follow the header, `sum` is
the sum of the original lengths before this block, and `limit` is none for CHECK_ONLY. -/
def headerCheck (hdr : List Byte) (left sum : Nat) (limit : Option Nat) (ratio : Nat) : Except Nat BlockHdr :=
  match BlockHdr.parse hdr with
  | none => .error hcBadHeader
  | some h =>
    if h.version = 0 ∨ 1 < h.version then .error hcBadVersion
    else if h.reserved ∨ 4 < h.maxw ∨ (h.raw ∧ h.transform ≠ 0) then .error hcBadHeader
    else if h.orig = 0 ∨ 65536 < h.orig then .error hcBadHeader
    else if left < h.coded ∨ (h.raw ∧ h.coded ≠ h.orig) ∨ (¬ h.raw ∧ h.coded = 0) then .error hcBadHeader
    else if (match limit with
      | some d => decide (d < sum + h.orig)
      | none => false) then .error hcNoSpace
    else if ratio ≠ 0 ∧ ratio * (16 + h.coded) < h.orig then .error hcExpand
    else .ok h

/-- Cut a byte list into pieces of `n` bytes, the last taking the remainder; `fuel` is at least the number of pieces. -/
def chunks (n : Nat) : Nat → List Byte → List (List Byte)
  | 0, _ => []
  | _ + 1, [] => []
  | fuel + 1, b :: bs => (b :: bs).take n :: chunks n fuel ((b :: bs).drop n)

/-- A section body stored CODED (R278): blocks of 65,536 bytes, width limit 13, ZERO_RUN enabled, the set's PLANE. -/
def codeSection (plane' : Nat) (l : List Byte) : List Byte :=
  (chunks 65536 (l.length + 1) l).flatMap (fun b => (codeBlock 4 plane' false b).1)

/-- Decode back-to-back blocks, with zero padding of at most 7 bytes at the end (R292). -/
def decodeBlocks : Nat → List Byte → Except Nat (List Byte)
  | 0, _ => .error hcBadHeader
  | fuel + 1, l =>
    if l.length < 16 then (if 7 < l.length ∨ l.any (· != 0) then .error hcBadHeader else .ok [])
    else match headerCheck (l.take 16) (l.length - 16) 0 none 0 with
      | .error e => .error e
      | .ok h => match decodeBlock h ((l.drop 16).take h.coded) with
        | .error e => .error e
        | .ok b => (decodeBlocks fuel (l.drop (16 + h.coded))).map (b ++ ·)

end Sys2Proof.Machine
end

