-- ==== Sys2Proof/Machine/Regs.lean ====
section
/-! DEFINITION. The register fields of the hub and of the agent page, one definition per field of the spec's field
tables (Tables 2-5 to 17-5), and the access table of every page. Offsets are those of R60 and Tables 18-1 to 18-3. -/

namespace Sys2Proof

/-- A register field: the offset of its register (from the hub window base, or from the agent page for agent
registers), its top and bottom bit (R11) and its value after reset. -/
structure Fld where
  off : Nat
  hi : Nat
  lo : Nat
  rst : Nat
deriving DecidableEq, Repr

/-- The field's width in bits. -/
def Fld.width (f : Fld) : Nat := f.hi + 1 - f.lo

/-- The key under which the field's value is kept: unique per register (offsets are multiples of 4) and bottom bit. -/
def Fld.key (f : Fld) : Nat := f.off * 8 + f.lo

/-- The access code of a field (R13, Table 0-3); `sc` is "RW, self-clearing". -/
inductive Acc where
  | ro | rw | w1c | wo | rwl | wo1 | rc | sc
deriving DecidableEq, Repr

/-- A row of a page's field table: `n` copies of the field, the i-th at `(fld i).off`, `stride` bytes apart. -/
structure Row where
  acc : Acc
  n : Nat
  stride : Nat
  fld : Nat → Fld

/-- A row with one copy. -/
def Row.one (a : Acc) (f : Fld) : Row := ⟨a, 1, 4, fun _ => f⟩

/-- The field of a row that lies in the register at offset `o`, if any. -/
def Row.at? (r : Row) (o : Nat) : Option (Acc × Fld) :=
  let b := (r.fld 0).off
  if b ≤ o ∧ (o - b) % r.stride = 0 ∧ (o - b) / r.stride < r.n then some (r.acc, r.fld ((o - b) / r.stride)) else none

/-! ### The common header (R89, Table 2-5), `p` the page slot. -/

/-- Reset and floor level for bus reads, by page slot (Table 2-3). -/
def Hdr.lvlBusRd (p : Nat) : Nat :=
  if p = 1 ∨ p = 20 ∨ p = 22 then 1 else 0

/-- Reset and floor level for bus writes (Table 2-3). -/
def Hdr.lvlBusWr (p : Nat) : Nat :=
  if p = 11 ∨ p = 12 ∨ p = 13 ∨ p = 14 ∨ p = 15 then 0 else 1

/-- Reset and floor level for port reads (Table 2-3). -/
def Hdr.lvlPortRd (p : Nat) : Nat :=
  if p = 2 then 0 else 1

/-- Reset and floor level for port writes (Table 2-3). -/
def Hdr.lvlPortWr (p : Nat) : Nat :=
  if p = 2 then 0 else if p = 11 ∨ p = 12 ∨ p = 13 ∨ p = 14 ∨ p = 15 then 1 else 2

def Hdr.PAGE_ID_TYPE (p : Nat) : Fld := ⟨0x4000 * p + 0x0, 31, 24, p + 1⟩
def Hdr.PAGE_ID_MAJOR (p : Nat) : Fld := ⟨0x4000 * p + 0x0, 23, 16, 1⟩
def Hdr.PAGE_ID_MINOR (p : Nat) : Fld := ⟨0x4000 * p + 0x0, 15, 8, 0⟩
def Hdr.PAGE_ID_INSTANCES (p : Nat) : Fld := ⟨0x4000 * p + 0x0, 7, 0, if p = 22 then 2 else 0⟩
def Hdr.CTRL_IRQ_EN (p : Nat) : Fld := ⟨0x4000 * p + 0x8, 2, 2, 0⟩
def Hdr.CTRL_ABORT (p : Nat) : Fld := ⟨0x4000 * p + 0x8, 1, 1, 0⟩
def Hdr.CTRL_ENABLE (p : Nat) : Fld := ⟨0x4000 * p + 0x8, 0, 0, 1⟩
def Hdr.STATUS_PARITY_ERR (p : Nat) : Fld := ⟨0x4000 * p + 0xC, 5, 5, 0⟩
def Hdr.EVENT_IDLE_ENTRY (p : Nat) : Fld := ⟨0x4000 * p + 0x10, 2, 2, 0⟩
def Hdr.EVENT_DISCARD (p : Nat) : Fld := ⟨0x4000 * p + 0x10, 1, 1, 0⟩
def Hdr.EVENT_GUARD_VIOL (p : Nat) : Fld := ⟨0x4000 * p + 0x10, 0, 0, 0⟩
def Hdr.EVENT_EN (p : Nat) : Fld := ⟨0x4000 * p + 0x14, 31, 0, 0⟩
def Hdr.FAULT_UE (p : Nat) : Fld := ⟨0x4000 * p + 0x18, 1, 1, 0⟩
def Hdr.FAULT_PARITY (p : Nat) : Fld := ⟨0x4000 * p + 0x18, 0, 0, 0⟩
def Hdr.FAULT_INFO_FIRST (p : Nat) : Fld := ⟨0x4000 * p + 0x1C, 31, 27, 0⟩
def Hdr.FAULT_INFO_DETAIL (p : Nat) : Fld := ⟨0x4000 * p + 0x1C, 15, 0, 0⟩
def Hdr.LOCK_CFG_LOCK (p : Nat) : Fld := ⟨0x4000 * p + 0x20, 0, 0, 0⟩
def Hdr.GUARD_VIOL_SOURCE (p : Nat) : Fld := ⟨0x4000 * p + 0x24, 31, 28, 0⟩
def Hdr.GUARD_VIOL_CODE (p : Nat) : Fld := ⟨0x4000 * p + 0x24, 27, 26, 0⟩
def Hdr.GUARD_VIOL_OFFSET (p : Nat) : Fld := ⟨0x4000 * p + 0x24, 11, 0, 0⟩
def Hdr.ACCESS_LVL_PORT_WR (p : Nat) : Fld := ⟨0x4000 * p + 0x28, 7, 6, Hdr.lvlPortWr p⟩
def Hdr.ACCESS_LVL_PORT_RD (p : Nat) : Fld := ⟨0x4000 * p + 0x28, 5, 4, Hdr.lvlPortRd p⟩
def Hdr.ACCESS_LVL_BUS_WR (p : Nat) : Fld := ⟨0x4000 * p + 0x28, 3, 2, Hdr.lvlBusWr p⟩
def Hdr.ACCESS_LVL_BUS_RD (p : Nat) : Fld := ⟨0x4000 * p + 0x28, 1, 0, Hdr.lvlBusRd p⟩

/-- The header rows that every page has alike; CTRL.ENABLE stands in each page's own table. -/
def Hdr.rows (p : Nat) : List Row := [
  .one .ro (Hdr.PAGE_ID_TYPE p),
  .one .ro (Hdr.PAGE_ID_MAJOR p),
  .one .ro (Hdr.PAGE_ID_MINOR p),
  .one .ro (Hdr.PAGE_ID_INSTANCES p),
  .one .rw (Hdr.CTRL_IRQ_EN p),
  .one .sc (Hdr.CTRL_ABORT p),
  .one .ro (Hdr.STATUS_PARITY_ERR p),
  .one .w1c (Hdr.EVENT_IDLE_ENTRY p),
  .one .w1c (Hdr.EVENT_DISCARD p),
  .one .w1c (Hdr.EVENT_GUARD_VIOL p),
  .one .rw (Hdr.EVENT_EN p),
  .one .w1c (Hdr.FAULT_UE p),
  .one .w1c (Hdr.FAULT_PARITY p),
  .one .ro (Hdr.FAULT_INFO_FIRST p),
  .one .ro (Hdr.FAULT_INFO_DETAIL p),
  .one .wo1 (Hdr.LOCK_CFG_LOCK p),
  .one .ro (Hdr.GUARD_VIOL_SOURCE p),
  .one .ro (Hdr.GUARD_VIOL_CODE p),
  .one .ro (Hdr.GUARD_VIOL_OFFSET p),
  .one .rw (Hdr.ACCESS_LVL_PORT_WR p),
  .one .rw (Hdr.ACCESS_LVL_PORT_RD p),
  .one .rw (Hdr.ACCESS_LVL_BUS_WR p),
  .one .rw (Hdr.ACCESS_LVL_BUS_RD p)]

/-- PAGE_CAPS reads 0 where a page's chapter defines no field (Table 2-5); this row makes the offset defined. -/
def Hdr.PAGE_CAPS (p : Nat) : Fld := ⟨0x4000 * p + 0x4, 31, 0, 0⟩

/-! ### Page HUB -/

namespace Reg.HUB

def IDENT.PART : Fld := ⟨0x40, 31, 16, 9⟩
def IDENT.MAJOR : Fld := ⟨0x40, 15, 8, 1⟩
def IDENT.MINOR : Fld := ⟨0x40, 7, 0, 0⟩
def COMPAT.LEVEL : Fld := ⟨0x44, 31, 24, 1⟩
def COMPAT.CUT_VER : Fld := ⟨0x44, 23, 16, 1⟩
def COMPAT.MILL_VER : Fld := ⟨0x44, 15, 8, 1⟩
def COMPAT.TRACE_FMT : Fld := ⟨0x44, 7, 4, 2⟩
def COMPAT.HOPPER_VER : Fld := ⟨0x44, 3, 0, 1⟩
def ROLE.TEAM : Fld := ⟨0x48, 9, 8, 0⟩
def ROLE.TOSS_ACTIVE : Fld := ⟨0x48, 2, 2, 0⟩
def ROLE.LEAD_SEL : Fld := ⟨0x48, 1, 1, 0⟩
def ROLE.LEAD_HALF : Fld := ⟨0x48, 0, 0, 0⟩
def HALVES.ROWS : Fld := ⟨0x4C, 15, 8, 48⟩
def HALVES.SOUTH_OK : Fld := ⟨0x4C, 5, 5, 1⟩
def HALVES.NORTH_OK : Fld := ⟨0x4C, 4, 4, 1⟩
def HALVES.COUNT : Fld := ⟨0x4C, 1, 0, 2⟩
def FATAL_ACTION.ACTION : Fld := ⟨0x50, 1, 0, 0⟩
def AGENT_COUNT.COUNT : Fld := ⟨0x54, 15, 0, 9268⟩
def SCRATCH : Fld := ⟨0x58, 31, 0, 0⟩
def CYCLE_LO.COUNT : Fld := ⟨0x60, 31, 0, 0⟩
def CYCLE_HI.COUNT : Fld := ⟨0x64, 31, 0, 0⟩
def IRQ_SUMMARY.PAGE : Fld := ⟨0x68, 24, 1, 0⟩
def IRQ_ROUTE.SEL : Fld := ⟨0x6C, 20, 16, 0⟩
def IRQ_ROUTE.WR : Fld := ⟨0x6C, 8, 8, 0⟩
def IRQ_ROUTE.LINE : Fld := ⟨0x6C, 1, 0, 0⟩
def STATUS.FATAL_HELD : Fld := ⟨0xC, 10, 10, 0⟩
def STATUS.PIN_LATCHED : Fld := ⟨0xC, 9, 9, 0⟩
def STATUS.FAULT_PIN : Fld := ⟨0xC, 8, 8, 0⟩
def CTRL.ENABLE : Fld := ⟨0x8, 0, 0, 1⟩

/-- The field table of the page. -/
def rows0 : List Row := [
  .one .ro IDENT.PART,
  .one .ro IDENT.MAJOR,
  .one .ro IDENT.MINOR,
  .one .ro COMPAT.LEVEL,
  .one .ro COMPAT.CUT_VER,
  .one .ro COMPAT.MILL_VER,
  .one .ro COMPAT.TRACE_FMT,
  .one .ro COMPAT.HOPPER_VER,
  .one .ro ROLE.TEAM,
  .one .ro ROLE.TOSS_ACTIVE,
  .one .ro ROLE.LEAD_SEL,
  .one .ro ROLE.LEAD_HALF,
  .one .ro HALVES.ROWS,
  .one .ro HALVES.SOUTH_OK,
  .one .ro HALVES.NORTH_OK,
  .one .ro HALVES.COUNT,
  .one .rwl FATAL_ACTION.ACTION,
  .one .ro AGENT_COUNT.COUNT,
  .one .rw SCRATCH,
  .one .ro CYCLE_LO.COUNT,
  .one .ro CYCLE_HI.COUNT,
  .one .ro IRQ_SUMMARY.PAGE,
  .one .rw IRQ_ROUTE.SEL,
  .one .wo IRQ_ROUTE.WR,
  .one .rw IRQ_ROUTE.LINE,
  .one .ro STATUS.FATAL_HELD,
  .one .ro STATUS.PIN_LATCHED,
  .one .ro STATUS.FAULT_PIN,
  .one .ro CTRL.ENABLE]
def rows : List Row := .one .ro (Hdr.PAGE_CAPS 0) :: Hdr.rows 0 ++ rows0

end Reg.HUB

/-! ### Page GUARD -/

namespace Reg.GUARD

def MASTER_LEVEL.LEVEL (n : Nat) : Fld := ⟨0x4040 + n * 0x4, 1, 0, if n = 0 then 2 else 0⟩
def PORT_LEVEL.LEVEL : Fld := ⟨0x4060, 1, 0, 0⟩
def AUTH_CMD.DROP : Fld := ⟨0x4064, 10, 10, 0⟩
def AUTH_CMD.SUBMIT : Fld := ⟨0x4064, 9, 9, 0⟩
def AUTH_CMD.CHALLENGE : Fld := ⟨0x4064, 8, 8, 0⟩
def AUTH_CMD.LEVEL : Fld := ⟨0x4064, 1, 0, 0⟩
def AUTH_STATUS.FAILS : Fld := ⟨0x4068, 31, 24, 0⟩
def AUTH_STATUS.RESULT : Fld := ⟨0x4068, 10, 8, 0⟩
def AUTH_STATUS.BUSY : Fld := ⟨0x4068, 4, 4, 0⟩
def AUTH_STATUS.LEVEL : Fld := ⟨0x4068, 1, 0, 0⟩
def AUTH_CHAL (n : Nat) : Fld := ⟨0x4070 + n * 0x4, 31, 0, 0⟩
def AUTH_RESP (n : Nat) : Fld := ⟨0x4090 + n * 0x4, 31, 0, 0⟩
def SCRUB_CTRL.PASSES : Fld := ⟨0x40B0, 31, 16, 0⟩
def SCRUB_CTRL.INJECT : Fld := ⟨0x40B0, 2, 2, 0⟩
def SCRUB_CTRL.PASS_NOW : Fld := ⟨0x40B0, 1, 1, 0⟩
def SCRUB_CTRL.EN : Fld := ⟨0x40B0, 0, 0, 1⟩
def SCRUB_FAULT_ADDR.VALID : Fld := ⟨0x40B4, 31, 31, 0⟩
def SCRUB_FAULT_ADDR.WORD : Fld := ⟨0x40B4, 18, 2, 0⟩
def VIOL_COUNT.COUNT : Fld := ⟨0x40B8, 31, 0, 0⟩
def ECC_CE.COUNT : Fld := ⟨0x40BC, 31, 0, 0⟩
def ECC_LAST.VALID : Fld := ⟨0x40C0, 31, 31, 0⟩
def ECC_LAST.UE : Fld := ⟨0x40C0, 30, 30, 0⟩
def ECC_LAST.HALF : Fld := ⟨0x40C0, 29, 29, 0⟩
def ECC_LAST.PAGE : Fld := ⟨0x40C0, 28, 24, 0⟩
def ECC_LAST.WORD : Fld := ⟨0x40C0, 18, 0, 0⟩
def FAULT.FUSE : Fld := ⟨0x4018, 8, 8, 0⟩
def CTRL.ENABLE : Fld := ⟨0x4008, 0, 0, 1⟩

/-- The field table of the page. -/
def rows0 : List Row := [
  ⟨.rwl, 8, 0x4, MASTER_LEVEL.LEVEL⟩,
  .one .ro PORT_LEVEL.LEVEL,
  .one .wo AUTH_CMD.DROP,
  .one .wo AUTH_CMD.SUBMIT,
  .one .wo AUTH_CMD.CHALLENGE,
  .one .wo AUTH_CMD.LEVEL,
  .one .ro AUTH_STATUS.FAILS,
  .one .ro AUTH_STATUS.RESULT,
  .one .ro AUTH_STATUS.BUSY,
  .one .ro AUTH_STATUS.LEVEL,
  ⟨.ro, 8, 0x4, AUTH_CHAL⟩,
  ⟨.wo, 8, 0x4, AUTH_RESP⟩,
  .one .ro SCRUB_CTRL.PASSES,
  .one .sc SCRUB_CTRL.INJECT,
  .one .sc SCRUB_CTRL.PASS_NOW,
  .one .rw SCRUB_CTRL.EN,
  .one .ro SCRUB_FAULT_ADDR.VALID,
  .one .ro SCRUB_FAULT_ADDR.WORD,
  .one .rc VIOL_COUNT.COUNT,
  .one .rc ECC_CE.COUNT,
  .one .ro ECC_LAST.VALID,
  .one .ro ECC_LAST.UE,
  .one .ro ECC_LAST.HALF,
  .one .ro ECC_LAST.PAGE,
  .one .ro ECC_LAST.WORD,
  .one .w1c FAULT.FUSE,
  .one .ro CTRL.ENABLE]
def rows : List Row := .one .ro (Hdr.PAGE_CAPS 1) :: Hdr.rows 1 ++ rows0

end Reg.GUARD

/-! ### Page PORT -/

namespace Reg.PORT

def PAGE_CAPS.TAP : Fld := ⟨0x8004, 8, 8, 1⟩
def PAGE_CAPS.LANES : Fld := ⟨0x8004, 7, 4, 1⟩
def PAGE_CAPS.KEY_BLANK : Fld := ⟨0x8004, 0, 0, 1⟩
def EVENT.LEVEL : Fld := ⟨0x8010, 11, 11, 0⟩
def EVENT.MBOX_TAKEN : Fld := ⟨0x8010, 10, 10, 0⟩
def EVENT.MBOX_IN : Fld := ⟨0x8010, 9, 9, 0⟩
def EVENT.LINK : Fld := ⟨0x8010, 8, 8, 0⟩
def BSL_STATUS.REQ_FREE : Fld := ⟨0x8040, 31, 24, 8⟩
def BSL_STATUS.CREDITS : Fld := ⟨0x8040, 23, 16, 0⟩
def BSL_STATUS.REPLAY : Fld := ⟨0x8040, 15, 12, 0⟩
def BSL_STATUS.PROTO_ERR : Fld := ⟨0x8040, 5, 5, 0⟩
def BSL_STATUS.BACKPRESSURE : Fld := ⟨0x8040, 4, 4, 0⟩
def BSL_STATUS.STATE : Fld := ⟨0x8040, 1, 0, 0⟩
def BSL_CTRL.REPLAY_MAX : Fld := ⟨0x8044, 19, 16, 8⟩
def BSL_CTRL.ACK_TIMEOUT : Fld := ⟨0x8044, 15, 8, 16⟩
def BSL_CTRL.DROP_ON_DOWN : Fld := ⟨0x8044, 3, 3, 1⟩
def BSL_CTRL.LOOPBACK : Fld := ⟨0x8044, 2, 2, 0⟩
def BSL_CTRL.RETRAIN : Fld := ⟨0x8044, 1, 1, 0⟩
def BSL_CTRL.EN : Fld := ⟨0x8044, 0, 0, 1⟩
def BSL_CRC_ERRS.COUNT : Fld := ⟨0x8048, 31, 0, 0⟩
def BSL_RETRIES.COUNT : Fld := ⟨0x804C, 31, 0, 0⟩
def TAP_STATUS.ACCESSES : Fld := ⟨0x8050, 31, 16, 0⟩
def TAP_STATUS.IR : Fld := ⟨0x8050, 12, 8, 1⟩
def TAP_STATUS.OVERRUN : Fld := ⟨0x8050, 2, 2, 0⟩
def TAP_STATUS.ERROR : Fld := ⟨0x8050, 1, 1, 0⟩
def TAP_STATUS.PENDING : Fld := ⟨0x8050, 0, 0, 0⟩
def MBOX_OUT.WORD : Fld := ⟨0x8054, 31, 0, 0⟩
def MBOX_IN.WORD : Fld := ⟨0x8058, 31, 0, 0⟩
def MBOX_STATUS.IN_OVR : Fld := ⟨0x805C, 3, 3, 0⟩
def MBOX_STATUS.OUT_OVR : Fld := ⟨0x805C, 2, 2, 0⟩
def MBOX_STATUS.IN_FULL : Fld := ⟨0x805C, 1, 1, 0⟩
def MBOX_STATUS.OUT_FULL : Fld := ⟨0x805C, 0, 0, 0⟩
def EVFRAME_EN.MBOX : Fld := ⟨0x8060, 25, 25, 0⟩
def EVFRAME_EN.PAGE : Fld := ⟨0x8060, 24, 1, 0⟩
def CTRL.ENABLE : Fld := ⟨0x8008, 0, 0, 1⟩

/-- The field table of the page. -/
def rows0 : List Row := [
  .one .ro PAGE_CAPS.TAP,
  .one .ro PAGE_CAPS.LANES,
  .one .ro PAGE_CAPS.KEY_BLANK,
  .one .w1c EVENT.LEVEL,
  .one .w1c EVENT.MBOX_TAKEN,
  .one .w1c EVENT.MBOX_IN,
  .one .w1c EVENT.LINK,
  .one .ro BSL_STATUS.REQ_FREE,
  .one .ro BSL_STATUS.CREDITS,
  .one .ro BSL_STATUS.REPLAY,
  .one .ro BSL_STATUS.PROTO_ERR,
  .one .ro BSL_STATUS.BACKPRESSURE,
  .one .ro BSL_STATUS.STATE,
  .one .rw BSL_CTRL.REPLAY_MAX,
  .one .rw BSL_CTRL.ACK_TIMEOUT,
  .one .rwl BSL_CTRL.DROP_ON_DOWN,
  .one .rw BSL_CTRL.LOOPBACK,
  .one .sc BSL_CTRL.RETRAIN,
  .one .rw BSL_CTRL.EN,
  .one .rc BSL_CRC_ERRS.COUNT,
  .one .rc BSL_RETRIES.COUNT,
  .one .ro TAP_STATUS.ACCESSES,
  .one .ro TAP_STATUS.IR,
  .one .w1c TAP_STATUS.OVERRUN,
  .one .ro TAP_STATUS.ERROR,
  .one .ro TAP_STATUS.PENDING,
  .one .rw MBOX_OUT.WORD,
  .one .rc MBOX_IN.WORD,
  .one .w1c MBOX_STATUS.IN_OVR,
  .one .w1c MBOX_STATUS.OUT_OVR,
  .one .ro MBOX_STATUS.IN_FULL,
  .one .ro MBOX_STATUS.OUT_FULL,
  .one .rw EVFRAME_EN.MBOX,
  .one .rw EVFRAME_EN.PAGE,
  .one .ro CTRL.ENABLE]
def rows : List Row := Hdr.rows 2 ++ rows0

end Reg.PORT

/-! ### Page WHEEL -/

namespace Reg.WHEEL

def PAGE_CAPS.SUBS : Fld := ⟨0xC004, 31, 16, 16⟩
def PAGE_CAPS.NOTCHES : Fld := ⟨0xC004, 15, 0, 4096⟩
def CTRL.ENABLE : Fld := ⟨0xC008, 0, 0, 1⟩
def STATUS.CAL_DISCARDS : Fld := ⟨0xC00C, 15, 8, 0⟩
def EVENT.CAL_DONE : Fld := ⟨0xC010, 12, 12, 0⟩
def EVENT.REV_JUMP : Fld := ⟨0xC010, 11, 11, 0⟩
def EVENT.LOCKED : Fld := ⟨0xC010, 10, 10, 0⟩
def EVENT.SPURIOUS : Fld := ⟨0xC010, 9, 9, 0⟩
def EVENT.MISSED : Fld := ⟨0xC010, 8, 8, 0⟩
def SOURCE.STATE : Fld := ⟨0xC040, 9, 8, 0⟩
def SOURCE.SEL : Fld := ⟨0xC040, 1, 0, 0⟩
def PERIOD_FC.FC : Fld := ⟨0xC044, 23, 0, 60000⟩
def NOTCH_FC.INT : Fld := ⟨0xC048, 31, 16, 14⟩
def NOTCH_FC.FRAC : Fld := ⟨0xC048, 15, 0, 0xA600⟩
def POS_LO.REV : Fld := ⟨0xC050, 31, 16, 0⟩
def POS_LO.NOTCH : Fld := ⟨0xC050, 15, 4, 0⟩
def POS_LO.SUB : Fld := ⟨0xC050, 3, 0, 0⟩
def POS_HI.REV : Fld := ⟨0xC054, 31, 0, 0⟩
def LOSS_COUNT.SPURIOUS : Fld := ⟨0xC058, 31, 16, 0⟩
def LOSS_COUNT.MISSED : Fld := ⟨0xC058, 15, 0, 0⟩
def SLIP.D : Fld := ⟨0xC05C, 31, 0, 0⟩
def TIMEBASE_SEL.AON : Fld := ⟨0xC060, 31, 31, 0⟩
def TIMEBASE_SEL.REVS_PER_SEC : Fld := ⟨0xC060, 23, 0, 10000⟩
def SUBNOTCH_CAL.VALID : Fld := ⟨0xC064, 31, 31, 0⟩
def SUBNOTCH_CAL.AUTO : Fld := ⟨0xC064, 30, 30, 1⟩
def SUBNOTCH_CAL.PIN_TRIM : Fld := ⟨0xC064, 27, 16, 0⟩
def SUBNOTCH_CAL.RING_DELAY : Fld := ⟨0xC064, 15, 0, 0⟩

/-- The field table of the page. -/
def rows0 : List Row := [
  .one .ro PAGE_CAPS.SUBS,
  .one .ro PAGE_CAPS.NOTCHES,
  .one .rw CTRL.ENABLE,
  .one .ro STATUS.CAL_DISCARDS,
  .one .w1c EVENT.CAL_DONE,
  .one .w1c EVENT.REV_JUMP,
  .one .w1c EVENT.LOCKED,
  .one .w1c EVENT.SPURIOUS,
  .one .w1c EVENT.MISSED,
  .one .ro SOURCE.STATE,
  .one .rw SOURCE.SEL,
  .one .rw PERIOD_FC.FC,
  .one .ro NOTCH_FC.INT,
  .one .ro NOTCH_FC.FRAC,
  .one .rw POS_LO.REV,
  .one .ro POS_LO.NOTCH,
  .one .ro POS_LO.SUB,
  .one .rw POS_HI.REV,
  .one .ro LOSS_COUNT.SPURIOUS,
  .one .ro LOSS_COUNT.MISSED,
  .one .ro SLIP.D,
  .one .ro TIMEBASE_SEL.AON,
  .one .rw TIMEBASE_SEL.REVS_PER_SEC,
  .one .ro SUBNOTCH_CAL.VALID,
  .one .rw SUBNOTCH_CAL.AUTO,
  .one .rw SUBNOTCH_CAL.PIN_TRIM,
  .one .ro SUBNOTCH_CAL.RING_DELAY]
def rows : List Row := Hdr.rows 3 ++ rows0

end Reg.WHEEL

/-! ### Page CAMS -/

namespace Reg.CAMS

def PAGE_CAPS.CAMS : Fld := ⟨0x10004, 7, 0, 64⟩
def CTRL.ENABLE : Fld := ⟨0x10008, 0, 0, 1⟩
def EVENT.OVERRUN : Fld := ⟨0x10010, 11, 11, 0⟩
def EVENT.EXCLUDED : Fld := ⟨0x10010, 10, 10, 0⟩
def EVENT.DEFERRED : Fld := ⟨0x10010, 9, 9, 0⟩
def EVENT.CAM_IRQ : Fld := ⟨0x10010, 8, 8, 0⟩
def ENABLE_LO : Fld := ⟨0x10040, 31, 0, 0⟩
def ENABLE_HI : Fld := ⟨0x10044, 31, 0, 0⟩
def FIRED_LO : Fld := ⟨0x10048, 31, 0, 0⟩
def FIRED_HI : Fld := ⟨0x1004C, 31, 0, 0⟩
def DEFER_COUNT.DEFERRED : Fld := ⟨0x10050, 31, 16, 0⟩
def DEFER_COUNT.OVERRUN : Fld := ⟨0x10050, 15, 8, 0⟩
def DEFER_COUNT.DISCARDED : Fld := ⟨0x10050, 7, 0, 0⟩
def CAM_AT.PHASE (n : Nat) : Fld := ⟨0x10100 + n * 0x10, 31, 16, 0⟩
def CAM_AT.NOTCH (n : Nat) : Fld := ⟨0x10100 + n * 0x10, 15, 4, 0⟩
def CAM_AT.SUB (n : Nat) : Fld := ⟨0x10100 + n * 0x10, 3, 0, 0⟩
def CAM_ACTION.ACTION (n : Nat) : Fld := ⟨0x10104 + n * 0x10, 3, 0, 0⟩
def CAM_ARG.ARG (n : Nat) : Fld := ⟨0x10108 + n * 0x10, 31, 0, 0⟩
def CAM_FLAGS.ARMED (n : Nat) : Fld := ⟨0x1010C + n * 0x10, 31, 31, 0⟩
def CAM_FLAGS.UNIT (n : Nat) : Fld := ⟨0x1010C + n * 0x10, 21, 20, 0⟩
def CAM_FLAGS.ARM_BY_BREAK (n : Nat) : Fld := ⟨0x1010C + n * 0x10, 19, 19, 0⟩
def CAM_FLAGS.ONESHOT (n : Nat) : Fld := ⟨0x1010C + n * 0x10, 18, 18, 0⟩
def CAM_FLAGS.DEFER_END (n : Nat) : Fld := ⟨0x1010C + n * 0x10, 16, 16, 0⟩
def CAM_FLAGS.EVERY (n : Nat) : Fld := ⟨0x1010C + n * 0x10, 15, 0, 0⟩

/-- The field table of the page. -/
def rows0 : List Row := [
  .one .ro PAGE_CAPS.CAMS,
  .one .rw CTRL.ENABLE,
  .one .w1c EVENT.OVERRUN,
  .one .w1c EVENT.EXCLUDED,
  .one .w1c EVENT.DEFERRED,
  .one .w1c EVENT.CAM_IRQ,
  .one .rw ENABLE_LO,
  .one .rw ENABLE_HI,
  .one .w1c FIRED_LO,
  .one .w1c FIRED_HI,
  .one .rc DEFER_COUNT.DEFERRED,
  .one .rc DEFER_COUNT.OVERRUN,
  .one .rc DEFER_COUNT.DISCARDED,
  ⟨.rw, 64, 0x10, CAM_AT.PHASE⟩,
  ⟨.rw, 64, 0x10, CAM_AT.NOTCH⟩,
  ⟨.rw, 64, 0x10, CAM_AT.SUB⟩,
  ⟨.rw, 64, 0x10, CAM_ACTION.ACTION⟩,
  ⟨.rw, 64, 0x10, CAM_ARG.ARG⟩,
  ⟨.ro, 64, 0x10, CAM_FLAGS.ARMED⟩,
  ⟨.rw, 64, 0x10, CAM_FLAGS.UNIT⟩,
  ⟨.rw, 64, 0x10, CAM_FLAGS.ARM_BY_BREAK⟩,
  ⟨.rw, 64, 0x10, CAM_FLAGS.ONESHOT⟩,
  ⟨.rw, 64, 0x10, CAM_FLAGS.DEFER_END⟩,
  ⟨.rw, 64, 0x10, CAM_FLAGS.EVERY⟩]
def rows : List Row := Hdr.rows 4 ++ rows0

end Reg.CAMS

/-! ### Page WHISTLE -/

namespace Reg.WHISTLE

def PAGE_CAPS.SKID_DEPTH : Fld := ⟨0x14004, 31, 24, 8⟩
def PAGE_CAPS.FREEZE_FC : Fld := ⟨0x14004, 23, 16, 12⟩
def PAGE_CAPS.STEP_MAX : Fld := ⟨0x14004, 15, 0, 65535⟩
def CTRL.CLR_STATS : Fld := ⟨0x14008, 8, 8, 0⟩
def CTRL.ENABLE : Fld := ⟨0x14008, 0, 0, 1⟩
def STATUS.DISCARDS : Fld := ⟨0x1400C, 15, 8, 0⟩
def EVENT.STEP_DONE : Fld := ⟨0x14010, 12, 12, 0⟩
def EVENT.MERGED : Fld := ⟨0x14010, 11, 11, 0⟩
def EVENT.REFUSED : Fld := ⟨0x14010, 10, 10, 0⟩
def EVENT.RUNNING : Fld := ⟨0x14010, 9, 9, 0⟩
def EVENT.FROZEN : Fld := ⟨0x14010, 8, 8, 0⟩
def FAULT.BOUND : Fld := ⟨0x14018, 11, 11, 0⟩
def FAULT.PROTOCOL : Fld := ⟨0x14018, 10, 10, 0⟩
def FAULT.SKID_OVF : Fld := ⟨0x14018, 9, 9, 0⟩
def FAULT.NO_ACK : Fld := ⟨0x14018, 8, 8, 0⟩
def CMD.RESULT : Fld := ⟨0x14040, 23, 20, 0⟩
def CMD.LAST_CODE : Fld := ⟨0x14040, 18, 16, 0⟩
def CMD.CODE : Fld := ⟨0x14040, 2, 0, 0⟩
def STEP_COUNT.SCOPE : Fld := ⟨0x14044, 17, 16, 0⟩
def STEP_COUNT.COUNT : Fld := ⟨0x14044, 15, 0, 1⟩
def REGION_MASK.MASK : Fld := ⟨0x14048, 15, 0, 0⟩
def CONTEXT.CTX : Fld := ⟨0x1404C, 15, 0, 0⟩
def STATE.SET : Fld := ⟨0x14050, 31, 16, 0⟩
def STATE.KIND : Fld := ⟨0x14050, 15, 14, 0⟩
def STATE.CP_BRANCH : Fld := ⟨0x14050, 10, 10, 0⟩
def STATE.HELD : Fld := ⟨0x14050, 9, 9, 0⟩
def STATE.STEP_ACTIVE : Fld := ⟨0x14050, 8, 8, 0⟩
def STATE.STATE : Fld := ⟨0x14050, 1, 0, 0⟩
def CAUSE.MERGED : Fld := ⟨0x14054, 31, 31, 0⟩
def CAUSE.SOURCE : Fld := ⟨0x14054, 27, 24, 0⟩
def CAUSE.CMD : Fld := ⟨0x14054, 18, 16, 0⟩
def CAUSE.DETAIL : Fld := ⟨0x14054, 15, 0, 0⟩
def STOP_POS_LO : Fld := ⟨0x14058, 31, 0, 0⟩
def STOP_POS_HI : Fld := ⟨0x1405C, 31, 0, 0⟩
def SKEW_MAX.WORST : Fld := ⟨0x14060, 23, 16, 0⟩
def SKEW_MAX.LATENCY : Fld := ⟨0x14060, 15, 8, 0⟩
def SKEW_MAX.SKEW : Fld := ⟨0x14060, 7, 0, 0⟩
def SKID_HIGH.AGENT : Fld := ⟨0x14064, 29, 16, 0⟩
def SKID_HIGH.WORST : Fld := ⟨0x14064, 11, 8, 0⟩
def SKID_HIGH.LAST : Fld := ⟨0x14064, 3, 0, 0⟩
def AUTO_SOURCES.SUPPRESSED : Fld := ⟨0x14068, 31, 16, 0⟩
def AUTO_SOURCES.TEAM : Fld := ⟨0x14068, 4, 4, 1⟩
def AUTO_SOURCES.CAM : Fld := ⟨0x14068, 3, 3, 1⟩
def AUTO_SOURCES.FATAL : Fld := ⟨0x14068, 2, 2, 1⟩
def AUTO_SOURCES.WATCHDOG : Fld := ⟨0x14068, 1, 1, 1⟩
def AUTO_SOURCES.BREAK : Fld := ⟨0x14068, 0, 0, 1⟩

/-- The field table of the page. -/
def rows0 : List Row := [
  .one .ro PAGE_CAPS.SKID_DEPTH,
  .one .ro PAGE_CAPS.FREEZE_FC,
  .one .ro PAGE_CAPS.STEP_MAX,
  .one .sc CTRL.CLR_STATS,
  .one .rw CTRL.ENABLE,
  .one .ro STATUS.DISCARDS,
  .one .w1c EVENT.STEP_DONE,
  .one .w1c EVENT.MERGED,
  .one .w1c EVENT.REFUSED,
  .one .w1c EVENT.RUNNING,
  .one .w1c EVENT.FROZEN,
  .one .w1c FAULT.BOUND,
  .one .w1c FAULT.PROTOCOL,
  .one .w1c FAULT.SKID_OVF,
  .one .w1c FAULT.NO_ACK,
  .one .ro CMD.RESULT,
  .one .ro CMD.LAST_CODE,
  .one .wo CMD.CODE,
  .one .rw STEP_COUNT.SCOPE,
  .one .rw STEP_COUNT.COUNT,
  .one .rw REGION_MASK.MASK,
  .one .rw CONTEXT.CTX,
  .one .ro STATE.SET,
  .one .ro STATE.KIND,
  .one .ro STATE.CP_BRANCH,
  .one .ro STATE.HELD,
  .one .ro STATE.STEP_ACTIVE,
  .one .ro STATE.STATE,
  .one .ro CAUSE.MERGED,
  .one .ro CAUSE.SOURCE,
  .one .ro CAUSE.CMD,
  .one .ro CAUSE.DETAIL,
  .one .ro STOP_POS_LO,
  .one .ro STOP_POS_HI,
  .one .ro SKEW_MAX.WORST,
  .one .ro SKEW_MAX.LATENCY,
  .one .ro SKEW_MAX.SKEW,
  .one .ro SKID_HIGH.AGENT,
  .one .ro SKID_HIGH.WORST,
  .one .ro SKID_HIGH.LAST]
def rows1 : List Row := [
  .one .ro AUTO_SOURCES.SUPPRESSED,
  .one .rw AUTO_SOURCES.TEAM,
  .one .rw AUTO_SOURCES.CAM,
  .one .rw AUTO_SOURCES.FATAL,
  .one .rw AUTO_SOURCES.WATCHDOG,
  .one .rw AUTO_SOURCES.BREAK]
def rows : List Row := Hdr.rows 5 ++ rows0 ++ rows1

end Reg.WHISTLE

/-! ### Page RUNCTL -/

namespace Reg.RUNCTL

def STATUS.DISCARDS : Fld := ⟨0x1800C, 15, 8, 0⟩
def EVENT.FEED_DONE : Fld := ⟨0x18010, 9, 9, 0⟩
def EVENT.HALTED : Fld := ⟨0x18010, 8, 8, 0⟩
def TARGET.TYPE : Fld := ⟨0x18040, 18, 16, 6⟩
def TARGET.ID : Fld := ⟨0x18040, 13, 0, 0x2430⟩
def HALT_CMD.RESULT : Fld := ⟨0x18044, 23, 20, 0⟩
def HALT_CMD.CODE : Fld := ⟨0x18044, 2, 0, 0⟩
def HALT_STATUS.CAUSES : Fld := ⟨0x18048, 23, 16, 0⟩
def HALT_STATUS.RES_CLEARED : Fld := ⟨0x18048, 12, 12, 0⟩
def HALT_STATUS.LOCKED_SEQ : Fld := ⟨0x18048, 11, 11, 0⟩
def HALT_STATUS.CAUSE : Fld := ⟨0x18048, 7, 4, 0⟩
def HALT_STATUS.STATE : Fld := ⟨0x18048, 2, 0, 0⟩
def FEED_INSTR.INSTR : Fld := ⟨0x1804C, 31, 0, 0⟩
def FEED_DATA_LO : Fld := ⟨0x18050, 31, 0, 0⟩
def FEED_DATA_HI : Fld := ⟨0x18054, 31, 0, 0⟩
def FEED_STATUS.FEEDS : Fld := ⟨0x18058, 31, 16, 0⟩
def FEED_STATUS.EXC_CODE : Fld := ⟨0x18058, 15, 8, 0⟩
def FEED_STATUS.FROZEN : Fld := ⟨0x18058, 6, 6, 0⟩
def FEED_STATUS.OVERRUN : Fld := ⟨0x18058, 5, 5, 0⟩
def FEED_STATUS.NOT_HALTED : Fld := ⟨0x18058, 4, 4, 0⟩
def FEED_STATUS.TIMEOUT : Fld := ⟨0x18058, 3, 3, 0⟩
def FEED_STATUS.EXCEPTION : Fld := ⟨0x18058, 2, 2, 0⟩
def FEED_STATUS.BUSY : Fld := ⟨0x18058, 1, 1, 0⟩
def FEED_STATUS.DONE : Fld := ⟨0x18058, 0, 0, 0⟩
def LOCK_DEFER.EXPIRIES : Fld := ⟨0x1805C, 31, 16, 0⟩
def LOCK_DEFER.COUNT : Fld := ⟨0x1805C, 15, 0, 64⟩
def STALL_CODE.AT_HALT : Fld := ⟨0x18060, 7, 4, 0⟩
def STALL_CODE.NOW : Fld := ⟨0x18060, 3, 0, 8⟩
def CTRL.ENABLE : Fld := ⟨0x18008, 0, 0, 1⟩

/-- The field table of the page. -/
def rows0 : List Row := [
  .one .ro STATUS.DISCARDS,
  .one .w1c EVENT.FEED_DONE,
  .one .w1c EVENT.HALTED,
  .one .ro TARGET.TYPE,
  .one .rw TARGET.ID,
  .one .ro HALT_CMD.RESULT,
  .one .wo HALT_CMD.CODE,
  .one .ro HALT_STATUS.CAUSES,
  .one .ro HALT_STATUS.RES_CLEARED,
  .one .ro HALT_STATUS.LOCKED_SEQ,
  .one .ro HALT_STATUS.CAUSE,
  .one .ro HALT_STATUS.STATE,
  .one .wo FEED_INSTR.INSTR,
  .one .rw FEED_DATA_LO,
  .one .rw FEED_DATA_HI,
  .one .ro FEED_STATUS.FEEDS,
  .one .ro FEED_STATUS.EXC_CODE,
  .one .ro FEED_STATUS.FROZEN,
  .one .ro FEED_STATUS.OVERRUN,
  .one .ro FEED_STATUS.NOT_HALTED,
  .one .ro FEED_STATUS.TIMEOUT,
  .one .ro FEED_STATUS.EXCEPTION,
  .one .ro FEED_STATUS.BUSY,
  .one .ro FEED_STATUS.DONE,
  .one .ro LOCK_DEFER.EXPIRIES,
  .one .rw LOCK_DEFER.COUNT,
  .one .ro STALL_CODE.AT_HALT,
  .one .ro STALL_CODE.NOW,
  .one .rw CTRL.ENABLE]
def rows : List Row := .one .ro (Hdr.PAGE_CAPS 6) :: Hdr.rows 6 ++ rows0

end Reg.RUNCTL

/-! ### Page BREAK -/

namespace Reg.BREAK

def PAGE_CAPS.LANES : Fld := ⟨0x1C004, 15, 8, 2⟩
def PAGE_CAPS.SLOTS : Fld := ⟨0x1C004, 7, 0, 32⟩
def CTRL.ENABLE : Fld := ⟨0x1C008, 0, 0, 1⟩
def STATUS.DISCARDS : Fld := ⟨0x1C00C, 15, 8, 0⟩
def EVENT.HIT : Fld := ⟨0x1C010, 8, 8, 0⟩
def SLOT_ENABLE : Fld := ⟨0x1C040, 31, 0, 0⟩
def SLOT_HIT : Fld := ⟨0x1C044, 31, 0, 0⟩
def SLOT_SRC_A.CODE (n : Nat) : Fld := ⟨0x1C100 + n * 0x20, 31, 28, 0⟩
def SLOT_SRC_B.CODE (n : Nat) : Fld := ⟨0x1C104 + n * 0x20, 31, 28, 0⟩
def SLOT_SRC_A.MASK (n : Nat) : Fld := ⟨0x1C100 + n * 0x20, 27, 14, 0⟩
def SLOT_SRC_B.MASK (n : Nat) : Fld := ⟨0x1C104 + n * 0x20, 27, 14, 0⟩
def SLOT_SRC_A.AGENT (n : Nat) : Fld := ⟨0x1C100 + n * 0x20, 13, 0, 0⟩
def SLOT_SRC_B.AGENT (n : Nat) : Fld := ⟨0x1C104 + n * 0x20, 13, 0, 0⟩
def SLOT_LINK.WINDOW (n : Nat) : Fld := ⟨0x1C108 + n * 0x20, 31, 16, 0⟩
def SLOT_LINK.CTX_EN (n : Nat) : Fld := ⟨0x1C108 + n * 0x20, 8, 8, 0⟩
def SLOT_LINK.ONCE (n : Nat) : Fld := ⟨0x1C108 + n * 0x20, 7, 7, 0⟩
def SLOT_LINK.OP (n : Nat) : Fld := ⟨0x1C108 + n * 0x20, 2, 0, 0⟩
def SLOT_COUNT.CURRENT (n : Nat) : Fld := ⟨0x1C10C + n * 0x20, 31, 16, 0⟩
def SLOT_COUNT.TARGET (n : Nat) : Fld := ⟨0x1C10C + n * 0x20, 15, 0, 0⟩
def SLOT_CONTEXT.CTX_MASK (n : Nat) : Fld := ⟨0x1C110 + n * 0x20, 31, 16, 0xFFFF⟩
def SLOT_CONTEXT.CTX (n : Nat) : Fld := ⟨0x1C110 + n * 0x20, 15, 0, 0⟩
def SLOT_ACTION.ARG (n : Nat) : Fld := ⟨0x1C114 + n * 0x20, 31, 16, 0⟩
def SLOT_ACTION.WCMD (n : Nat) : Fld := ⟨0x1C114 + n * 0x20, 10, 8, 0⟩
def SLOT_ACTION.IRQ (n : Nat) : Fld := ⟨0x1C114 + n * 0x20, 4, 4, 0⟩
def SLOT_ACTION.KIND (n : Nat) : Fld := ⟨0x1C114 + n * 0x20, 3, 0, 0⟩
def SLOT_HITS.COUNT (n : Nat) : Fld := ⟨0x1C118 + n * 0x20, 31, 0, 0⟩

/-- The field table of the page. -/
def rows0 : List Row := [
  .one .ro PAGE_CAPS.LANES,
  .one .ro PAGE_CAPS.SLOTS,
  .one .rw CTRL.ENABLE,
  .one .ro STATUS.DISCARDS,
  .one .w1c EVENT.HIT,
  .one .rw SLOT_ENABLE,
  .one .w1c SLOT_HIT,
  ⟨.rw, 32, 0x20, SLOT_SRC_A.CODE⟩,
  ⟨.rw, 32, 0x20, SLOT_SRC_B.CODE⟩,
  ⟨.rw, 32, 0x20, SLOT_SRC_A.MASK⟩,
  ⟨.rw, 32, 0x20, SLOT_SRC_B.MASK⟩,
  ⟨.rw, 32, 0x20, SLOT_SRC_A.AGENT⟩,
  ⟨.rw, 32, 0x20, SLOT_SRC_B.AGENT⟩,
  ⟨.rw, 32, 0x20, SLOT_LINK.WINDOW⟩,
  ⟨.rw, 32, 0x20, SLOT_LINK.CTX_EN⟩,
  ⟨.rw, 32, 0x20, SLOT_LINK.ONCE⟩,
  ⟨.rw, 32, 0x20, SLOT_LINK.OP⟩,
  ⟨.ro, 32, 0x20, SLOT_COUNT.CURRENT⟩,
  ⟨.rw, 32, 0x20, SLOT_COUNT.TARGET⟩,
  ⟨.rw, 32, 0x20, SLOT_CONTEXT.CTX_MASK⟩,
  ⟨.rw, 32, 0x20, SLOT_CONTEXT.CTX⟩,
  ⟨.rw, 32, 0x20, SLOT_ACTION.ARG⟩,
  ⟨.rw, 32, 0x20, SLOT_ACTION.WCMD⟩,
  ⟨.rw, 32, 0x20, SLOT_ACTION.IRQ⟩,
  ⟨.rw, 32, 0x20, SLOT_ACTION.KIND⟩,
  ⟨.rc, 32, 0x20, SLOT_HITS.COUNT⟩]
def rows : List Row := Hdr.rows 7 ++ rows0

end Reg.BREAK

/-! ### Page CUT -/

namespace Reg.CUT

def SET_REGIONS.CPS (n : Nat) : Fld := ⟨0x20200 + n * 0x20, 16, 16, if n = 0 then 1 else 0⟩
def SET_REGIONS.MASK (n : Nat) : Fld := ⟨0x20200 + n * 0x20, 15, 0, if n = 0 then 0xFFFF else 0⟩
def SET_TYPES.MU_LAST (n : Nat) : Fld := ⟨0x20204 + n * 0x20, 31, 21, if n = 0 then 2047 else 0⟩
def SET_TYPES.MU_FIRST (n : Nat) : Fld := ⟨0x20204 + n * 0x20, 20, 10, 0⟩
def SET_TYPES.MU_DIRTY_ONLY (n : Nat) : Fld := ⟨0x20204 + n * 0x20, 9, 9, 0⟩
def SET_TYPES.ACCUM (n : Nat) : Fld := ⟨0x20204 + n * 0x20, 8, 8, if n = 0 then 1 else 0⟩
def SET_TYPES.TYPE (n : Nat) : Fld := ⟨0x20204 + n * 0x20, 6, 1, if n = 0 then 0x3F else 0⟩
def SET_CONTEXT.CTX_EN (n : Nat) : Fld := ⟨0x20208 + n * 0x20, 16, 16, 0⟩
def SET_CONTEXT.CTX (n : Nat) : Fld := ⟨0x20208 + n * 0x20, 15, 0, 0⟩
def SET_SECTIONS.MEM_DIRTY_ONLY (n : Nat) : Fld := ⟨0x2020C + n * 0x20, 13, 13, 0⟩
def SET_SECTIONS.PLANE (n : Nat) : Fld := ⟨0x2020C + n * 0x20, 12, 11, 0⟩
def SET_SECTIONS.CODED (n : Nat) : Fld := ⟨0x2020C + n * 0x20, 10, 10, 0⟩
def SET_SECTIONS.TYPE (n : Nat) : Fld := ⟨0x2020C + n * 0x20, 8, 1, if n = 0 then 0x37 else 0x10⟩
def SET_MEM_BASE_LO (n : Nat) : Fld := ⟨0x20210 + n * 0x20, 31, 0, 0⟩
def SET_MEM_BASE_HI (n : Nat) : Fld := ⟨0x20214 + n * 0x20, 31, 0, 0⟩
def SET_MEM_LEN_LO (n : Nat) : Fld := ⟨0x20218 + n * 0x20, 31, 0, 0⟩
def SET_MEM_LEN_HI (n : Nat) : Fld := ⟨0x2021C + n * 0x20, 31, 0, 0⟩
def PAGE_CAPS.STAGING_KIB : Fld := ⟨0x20004, 31, 16, 2048⟩
def PAGE_CAPS.SETS : Fld := ⟨0x20004, 7, 0, 8⟩
def CTRL.ENABLE : Fld := ⟨0x20008, 0, 0, 1⟩
def STATUS.SKIPPED : Fld := ⟨0x2000C, 23, 16, 0⟩
def STATUS.DISCARDS : Fld := ⟨0x2000C, 15, 8, 0⟩
def EVENT.SKIPPED : Fld := ⟨0x20010, 10, 10, 0⟩
def EVENT.FAILED : Fld := ⟨0x20010, 9, 9, 0⟩
def EVENT.DONE : Fld := ⟨0x20010, 8, 8, 0⟩
def FAULT.DRAIN_TIMEOUT : Fld := ⟨0x20018, 9, 9, 0⟩
def FAULT.TALLY : Fld := ⟨0x20018, 8, 8, 0⟩
def SET_SEL.SET : Fld := ⟨0x20040, 2, 0, 0⟩
def CMD.RESULT : Fld := ⟨0x20044, 23, 20, 0⟩
def CMD.CODE : Fld := ⟨0x20044, 2, 0, 0⟩
def CUT_STATE.FREEZE : Fld := ⟨0x20048, 31, 16, 0⟩
def CUT_STATE.SOURCE : Fld := ⟨0x20048, 11, 8, 0⟩
def CUT_STATE.OUTCOME : Fld := ⟨0x20048, 7, 4, 0⟩
def CUT_STATE.STATE : Fld := ⟨0x20048, 3, 0, 0⟩
def DEST_LO : Fld := ⟨0x20050, 31, 0, 0⟩
def DEST_HI : Fld := ⟨0x20054, 31, 0, 0⟩
def LIMIT_LO : Fld := ⟨0x20058, 31, 0, 0⟩
def LIMIT_HI : Fld := ⟨0x2005C, 31, 0, 0⟩
def LEN_LO : Fld := ⟨0x20060, 31, 0, 0⟩
def LEN_HI : Fld := ⟨0x20064, 31, 0, 0⟩
def TALLY.FAULT : Fld := ⟨0x20068, 31, 31, 0⟩
def TALLY.MISMATCHES : Fld := ⟨0x20068, 23, 0, 0⟩
def POLICY.TRACE_TAIL : Fld := ⟨0x2006C, 15, 8, 4⟩
def POLICY.RESUME_AFTER : Fld := ⟨0x2006C, 1, 1, 0⟩
def POLICY.DEST : Fld := ⟨0x2006C, 0, 0, 0⟩
def CUT_ID.LOW : Fld := ⟨0x20070, 31, 0, 0⟩
def COW_STALLS.COUNT : Fld := ⟨0x20074, 31, 0, 0⟩

/-- The field table of the page. -/
def rows0 : List Row := [
  ⟨.rw, 8, 0x20, SET_REGIONS.CPS⟩,
  ⟨.rw, 8, 0x20, SET_REGIONS.MASK⟩,
  ⟨.rw, 8, 0x20, SET_TYPES.MU_LAST⟩,
  ⟨.rw, 8, 0x20, SET_TYPES.MU_FIRST⟩,
  ⟨.rw, 8, 0x20, SET_TYPES.MU_DIRTY_ONLY⟩,
  ⟨.rw, 8, 0x20, SET_TYPES.ACCUM⟩,
  ⟨.rw, 8, 0x20, SET_TYPES.TYPE⟩,
  ⟨.rw, 8, 0x20, SET_CONTEXT.CTX_EN⟩,
  ⟨.rw, 8, 0x20, SET_CONTEXT.CTX⟩,
  ⟨.rw, 8, 0x20, SET_SECTIONS.MEM_DIRTY_ONLY⟩,
  ⟨.rw, 8, 0x20, SET_SECTIONS.PLANE⟩,
  ⟨.rw, 8, 0x20, SET_SECTIONS.CODED⟩,
  ⟨.rw, 8, 0x20, SET_SECTIONS.TYPE⟩,
  ⟨.rw, 8, 0x20, SET_MEM_BASE_LO⟩,
  ⟨.rw, 8, 0x20, SET_MEM_BASE_HI⟩,
  ⟨.rw, 8, 0x20, SET_MEM_LEN_LO⟩,
  ⟨.rw, 8, 0x20, SET_MEM_LEN_HI⟩,
  .one .ro PAGE_CAPS.STAGING_KIB,
  .one .ro PAGE_CAPS.SETS,
  .one .rw CTRL.ENABLE,
  .one .ro STATUS.SKIPPED,
  .one .ro STATUS.DISCARDS,
  .one .w1c EVENT.SKIPPED,
  .one .w1c EVENT.FAILED,
  .one .w1c EVENT.DONE,
  .one .w1c FAULT.DRAIN_TIMEOUT,
  .one .w1c FAULT.TALLY,
  .one .rw SET_SEL.SET,
  .one .ro CMD.RESULT,
  .one .wo CMD.CODE,
  .one .ro CUT_STATE.FREEZE,
  .one .ro CUT_STATE.SOURCE,
  .one .ro CUT_STATE.OUTCOME,
  .one .ro CUT_STATE.STATE,
  .one .rw DEST_LO,
  .one .rw DEST_HI,
  .one .rw LIMIT_LO,
  .one .rw LIMIT_HI,
  .one .ro LEN_LO,
  .one .ro LEN_HI]
def rows1 : List Row := [
  .one .ro TALLY.FAULT,
  .one .ro TALLY.MISMATCHES,
  .one .rw POLICY.TRACE_TAIL,
  .one .rw POLICY.RESUME_AFTER,
  .one .rw POLICY.DEST,
  .one .ro CUT_ID.LOW,
  .one .ro COW_STALLS.COUNT]
def rows : List Row := Hdr.rows 8 ++ rows0 ++ rows1

end Reg.CUT

/-! ### Page HOPPER -/

namespace Reg.HOPPER

def PAGE_CAPS.HOPPERS : Fld := ⟨0x24004, 31, 24, 4⟩
def PAGE_CAPS.ENGINES : Fld := ⟨0x24004, 23, 16, 16⟩
def PAGE_CAPS.MAX_WIDTH : Fld := ⟨0x24004, 15, 8, 13⟩
def PAGE_CAPS.BLOCK_KIB : Fld := ⟨0x24004, 7, 0, 64⟩
def CTRL.ENABLE : Fld := ⟨0x24008, 0, 0, 1⟩
def STATUS.LAST_REJECT : Fld := ⟨0x2400C, 21, 20, 0⟩
def STATUS.JOB_STATE : Fld := ⟨0x2400C, 19, 16, 0⟩
def STATUS.DISCARDS : Fld := ⟨0x2400C, 15, 8, 0⟩
def EVENT.REJECTED : Fld := ⟨0x24010, 10, 10, 0⟩
def EVENT.FAILED : Fld := ⟨0x24010, 9, 9, 0⟩
def EVENT.DONE : Fld := ⟨0x24010, 8, 8, 0⟩
def SRC_LO : Fld := ⟨0x24040, 31, 0, 0⟩
def SRC_HI : Fld := ⟨0x24044, 31, 0, 0⟩
def SRC_LEN.BYTES : Fld := ⟨0x24048, 31, 0, 0⟩
def MODE.NO_ZRUN : Fld := ⟨0x2404C, 9, 9, 0⟩
def MODE.CHECK_ONLY : Fld := ⟨0x2404C, 8, 8, 0⟩
def MODE.MAXW : Fld := ⟨0x2404C, 6, 4, 4⟩
def MODE.RAW_FALLBACK : Fld := ⟨0x2404C, 3, 3, 0⟩
def MODE.PLANE : Fld := ⟨0x2404C, 2, 1, 0⟩
def MODE.OP : Fld := ⟨0x2404C, 0, 0, 0⟩
def DST_LO : Fld := ⟨0x24050, 31, 0, 0⟩
def DST_HI : Fld := ⟨0x24054, 31, 0, 0⟩
def DST_LIMIT.BYTES : Fld := ⟨0x24058, 31, 0, 0⟩
def GO.START : Fld := ⟨0x2405C, 0, 0, 0⟩
def RESULT.RAW_BLOCKS : Fld := ⟨0x24060, 31, 23, 0⟩
def RESULT.BLOCKS : Fld := ⟨0x24060, 22, 14, 0⟩
def RESULT.CODE : Fld := ⟨0x24060, 3, 0, 0⟩
def OUT_LEN.BYTES : Fld := ⟨0x24064, 31, 0, 0⟩
def CRC.VALUE : Fld := ⟨0x24068, 31, 0, 0⟩
def EXPAND_LIMIT.RATIO : Fld := ⟨0x2406C, 15, 0, 4096⟩
def ENGINES_BUSY.H3 : Fld := ⟨0x24070, 31, 24, 0⟩
def ENGINES_BUSY.H2 : Fld := ⟨0x24070, 23, 16, 0⟩
def ENGINES_BUSY.H1 : Fld := ⟨0x24070, 15, 8, 0⟩
def ENGINES_BUSY.H0 : Fld := ⟨0x24070, 7, 0, 0⟩
def JOBS_DONE.COUNT : Fld := ⟨0x24074, 31, 0, 0⟩
def JOBS_FAILED.COUNT : Fld := ⟨0x24078, 31, 0, 0⟩

/-- The field table of the page. -/
def rows0 : List Row := [
  .one .ro PAGE_CAPS.HOPPERS,
  .one .ro PAGE_CAPS.ENGINES,
  .one .ro PAGE_CAPS.MAX_WIDTH,
  .one .ro PAGE_CAPS.BLOCK_KIB,
  .one .rw CTRL.ENABLE,
  .one .ro STATUS.LAST_REJECT,
  .one .ro STATUS.JOB_STATE,
  .one .ro STATUS.DISCARDS,
  .one .w1c EVENT.REJECTED,
  .one .w1c EVENT.FAILED,
  .one .w1c EVENT.DONE,
  .one .rw SRC_LO,
  .one .rw SRC_HI,
  .one .rw SRC_LEN.BYTES,
  .one .rw MODE.NO_ZRUN,
  .one .rw MODE.CHECK_ONLY,
  .one .rw MODE.MAXW,
  .one .rw MODE.RAW_FALLBACK,
  .one .rw MODE.PLANE,
  .one .rw MODE.OP,
  .one .rw DST_LO,
  .one .rw DST_HI,
  .one .rw DST_LIMIT.BYTES,
  .one .wo GO.START,
  .one .ro RESULT.RAW_BLOCKS,
  .one .ro RESULT.BLOCKS,
  .one .ro RESULT.CODE,
  .one .ro OUT_LEN.BYTES,
  .one .ro CRC.VALUE,
  .one .rw EXPAND_LIMIT.RATIO,
  .one .ro ENGINES_BUSY.H3,
  .one .ro ENGINES_BUSY.H2,
  .one .ro ENGINES_BUSY.H1,
  .one .ro ENGINES_BUSY.H0,
  .one .ro JOBS_DONE.COUNT,
  .one .ro JOBS_FAILED.COUNT]
def rows : List Row := Hdr.rows 9 ++ rows0

end Reg.HOPPER

/-! ### Page MASTER -/

namespace Reg.MASTER

def GOV_SHARE.PERMILLE : Fld := ⟨0x28040, 9, 0, 30⟩
def GOV_CEILING.UNITS : Fld := ⟨0x28044, 8, 0, 256⟩
def GOV_THROTTLED.FC : Fld := ⟨0x28048, 31, 0, 0⟩
def BYTES_READ_LO : Fld := ⟨0x28064, 31, 0, 0⟩
def BYTES_READ_HI : Fld := ⟨0x28068, 31, 0, 0⟩
def BYTES_WRITTEN_LO : Fld := ⟨0x2806C, 31, 0, 0⟩
def BYTES_WRITTEN_HI : Fld := ⟨0x28070, 31, 0, 0⟩
def FAULT.MM_TIMEOUT : Fld := ⟨0x28018, 8, 8, 0⟩
def CTRL.ENABLE : Fld := ⟨0x28008, 0, 0, 1⟩

/-- The field table of the page. -/
def rows0 : List Row := [
  .one .rwl GOV_SHARE.PERMILLE,
  .one .rwl GOV_CEILING.UNITS,
  .one .rc GOV_THROTTLED.FC,
  .one .ro BYTES_READ_LO,
  .one .ro BYTES_READ_HI,
  .one .ro BYTES_WRITTEN_LO,
  .one .ro BYTES_WRITTEN_HI,
  .one .w1c FAULT.MM_TIMEOUT,
  .one .ro CTRL.ENABLE]
def rows : List Row := .one .ro (Hdr.PAGE_CAPS 10) :: Hdr.rows 10 ++ rows0

end Reg.MASTER

/-! ### Page FLOW -/

namespace Reg.FLOW

def PAGE_CAPS.ENCODERS : Fld := ⟨0x2C004, 31, 16, 6148⟩
def PAGE_CAPS.MAX_FORMAT : Fld := ⟨0x2C004, 7, 0, 2⟩
def CTRL.ENABLE : Fld := ⟨0x2C008, 0, 0, 1⟩
def STATUS.DISCARDS : Fld := ⟨0x2C00C, 31, 8, 0⟩
def EVENT.PCS_SKIP : Fld := ⟨0x2C010, 8, 8, 0⟩
def GLOBAL_EN.CP : Fld := ⟨0x2C040, 1, 1, 0⟩
def GLOBAL_EN.CU : Fld := ⟨0x2C040, 0, 0, 0⟩
def SYNC_PERIOD.ENTRIES : Fld := ⟨0x2C044, 15, 0, 256⟩
def DEFAULT_CLASS.CLASS : Fld := ⟨0x2C048, 1, 0, 0⟩
def ACTIVE_SOURCES.COUNT : Fld := ⟨0x2C04C, 12, 0, 0⟩
def PCS_CTRL.SKIPPED : Fld := ⟨0x2C050, 31, 16, 0⟩
def PCS_CTRL.CLASS : Fld := ⟨0x2C050, 9, 8, 0⟩
def PCS_CTRL.EN : Fld := ⟨0x2C050, 0, 0, 0⟩
def PCS_PERIOD.FC : Fld := ⟨0x2C054, 23, 0, 4096⟩
def PCS_SET.CUS : Fld := ⟨0x2C058, 17, 17, 1⟩
def PCS_SET.CPS : Fld := ⟨0x2C058, 16, 16, 1⟩
def PCS_SET.REGIONS : Fld := ⟨0x2C058, 15, 0, 0xFFFF⟩
def FORMAT.FMT : Fld := ⟨0x2C05C, 1, 0, 2⟩

/-- The field table of the page. -/
def rows0 : List Row := [
  .one .ro PAGE_CAPS.ENCODERS,
  .one .ro PAGE_CAPS.MAX_FORMAT,
  .one .rw CTRL.ENABLE,
  .one .ro STATUS.DISCARDS,
  .one .w1c EVENT.PCS_SKIP,
  .one .rw GLOBAL_EN.CP,
  .one .rw GLOBAL_EN.CU,
  .one .rw SYNC_PERIOD.ENTRIES,
  .one .rw DEFAULT_CLASS.CLASS,
  .one .ro ACTIVE_SOURCES.COUNT,
  .one .ro PCS_CTRL.SKIPPED,
  .one .rw PCS_CTRL.CLASS,
  .one .rw PCS_CTRL.EN,
  .one .rw PCS_PERIOD.FC,
  .one .rw PCS_SET.CUS,
  .one .rw PCS_SET.CPS,
  .one .rw PCS_SET.REGIONS,
  .one .rw FORMAT.FMT]
def rows : List Row := Hdr.rows 11 ++ rows0

end Reg.FLOW

/-! ### Page CMDTR -/

namespace Reg.CMDTR

def PAGE_CAPS.ENGINES : Fld := ⟨0x30004, 7, 0, 32⟩
def CTRL.ENABLE : Fld := ⟨0x30008, 0, 0, 1⟩
def STATUS.DISCARDS : Fld := ⟨0x3000C, 31, 8, 0⟩
def EVENT.LATE : Fld := ⟨0x30010, 8, 8, 0⟩
def ENGINE_MASK.MASK : Fld := ⟨0x30040, 31, 0, 0xFFFFFFFF⟩
def TAG_MODE.MODE : Fld := ⟨0x30044, 0, 0, 0⟩
def CLASS.CLASS : Fld := ⟨0x30048, 1, 0, 3⟩
def LATE_COUNT.COUNT : Fld := ⟨0x3004C, 31, 0, 0⟩
def RECORDS_LO : Fld := ⟨0x30050, 31, 0, 0⟩
def RECORDS_HI : Fld := ⟨0x30054, 31, 0, 0⟩
def LAST_SEQ.SEQ : Fld := ⟨0x30058, 31, 0, 0⟩

/-- The field table of the page. -/
def rows0 : List Row := [
  .one .ro PAGE_CAPS.ENGINES,
  .one .rw CTRL.ENABLE,
  .one .ro STATUS.DISCARDS,
  .one .w1c EVENT.LATE,
  .one .rw ENGINE_MASK.MASK,
  .one .rw TAG_MODE.MODE,
  .one .rw CLASS.CLASS,
  .one .rc LATE_COUNT.COUNT,
  .one .ro RECORDS_LO,
  .one .ro RECORDS_HI,
  .one .ro LAST_SEQ.SEQ]
def rows : List Row := Hdr.rows 12 ++ rows0

end Reg.CMDTR

/-! ### Page FUNNEL -/

namespace Reg.FUNNEL

def PAGE_CAPS.ENTRIES_K : Fld := ⟨0x34004, 31, 16, 256⟩
def PAGE_CAPS.CLASSES : Fld := ⟨0x34004, 7, 0, 4⟩
def CTRL.ENABLE : Fld := ⟨0x34008, 0, 0, 1⟩
def STATUS.REFUSE : Fld := ⟨0x3400C, 31, 28, 0⟩
def STATUS.DISCARDS : Fld := ⟨0x3400C, 27, 8, 0⟩
def EVENT.SPILL_WRAP : Fld := ⟨0x34010, 12, 12, 0⟩
def EVENT.REFUSED : Fld := ⟨0x34010, 11, 11, 0⟩
def EVENT.DROP : Fld := ⟨0x34010, 10, 10, 0⟩
def EVENT.STOPPED : Fld := ⟨0x34010, 9, 9, 0⟩
def EVENT.TRIGGERED : Fld := ⟨0x34010, 8, 8, 0⟩
def MODE.PTR_HALF : Fld := ⟨0x34040, 8, 8, 0⟩
def MODE.MODE : Fld := ⟨0x34040, 1, 0, 0⟩
def POST_TRIG_COUNT.COUNT : Fld := ⟨0x34044, 26, 0, 131072⟩
def TRIG_CMD.PROMOTE_ID : Fld := ⟨0x34048, 29, 16, 0x3FFF⟩
def TRIG_CMD.RESULT : Fld := ⟨0x34048, 11, 10, 0⟩
def TRIG_CMD.PROMOTE : Fld := ⟨0x34048, 8, 8, 1⟩
def TRIG_CMD.CODE : Fld := ⟨0x34048, 2, 0, 0⟩
def TRIG_STATE.MISSED : Fld := ⟨0x3404C, 31, 16, 0⟩
def TRIG_STATE.SOUTH_FULL : Fld := ⟨0x3404C, 13, 13, 0⟩
def TRIG_STATE.NORTH_FULL : Fld := ⟨0x3404C, 12, 12, 0⟩
def TRIG_STATE.ORIGIN : Fld := ⟨0x3404C, 9, 8, 0⟩
def TRIG_STATE.SOUTH : Fld := ⟨0x3404C, 3, 2, 1⟩
def TRIG_STATE.NORTH : Fld := ⟨0x3404C, 1, 0, 1⟩
def WR_PTR.WRAPPED : Fld := ⟨0x34050, 31, 31, 0⟩
def WR_PTR.INDEX : Fld := ⟨0x34050, 26, 0, 0⟩
def TRIG_PTR.VALID : Fld := ⟨0x34054, 31, 31, 0⟩
def TRIG_PTR.INDEX : Fld := ⟨0x34054, 26, 0, 0⟩
def SPILL_BASE_LO : Fld := ⟨0x34058, 31, 0, 0⟩
def SPILL_BASE_HI.ADDR : Fld := ⟨0x3405C, 11, 0, 0⟩
def SPILL_SIZE.UNITS : Fld := ⟨0x34060, 15, 0, 0⟩
def DROP_CLASS.COUNT (n : Nat) : Fld := ⟨0x34064 + n * 0x4, 31, 0, 0⟩
def ACCEPT_LO : Fld := ⟨0x34074, 31, 0, 0⟩
def ACCEPT_HI : Fld := ⟨0x34078, 31, 0, 0⟩

/-- The field table of the page. -/
def rows0 : List Row := [
  .one .ro PAGE_CAPS.ENTRIES_K,
  .one .ro PAGE_CAPS.CLASSES,
  .one .rw CTRL.ENABLE,
  .one .ro STATUS.REFUSE,
  .one .ro STATUS.DISCARDS,
  .one .w1c EVENT.SPILL_WRAP,
  .one .w1c EVENT.REFUSED,
  .one .w1c EVENT.DROP,
  .one .w1c EVENT.STOPPED,
  .one .w1c EVENT.TRIGGERED,
  .one .rw MODE.PTR_HALF,
  .one .rw MODE.MODE,
  .one .rw POST_TRIG_COUNT.COUNT,
  .one .rw TRIG_CMD.PROMOTE_ID,
  .one .ro TRIG_CMD.RESULT,
  .one .rw TRIG_CMD.PROMOTE,
  .one .wo TRIG_CMD.CODE,
  .one .ro TRIG_STATE.MISSED,
  .one .ro TRIG_STATE.SOUTH_FULL,
  .one .ro TRIG_STATE.NORTH_FULL,
  .one .ro TRIG_STATE.ORIGIN,
  .one .ro TRIG_STATE.SOUTH,
  .one .ro TRIG_STATE.NORTH,
  .one .ro WR_PTR.WRAPPED,
  .one .ro WR_PTR.INDEX,
  .one .ro TRIG_PTR.VALID,
  .one .ro TRIG_PTR.INDEX,
  .one .rw SPILL_BASE_LO,
  .one .rw SPILL_BASE_HI.ADDR,
  .one .rw SPILL_SIZE.UNITS,
  ⟨.ro, 4, 0x4, DROP_CLASS.COUNT⟩,
  .one .ro ACCEPT_LO,
  .one .ro ACCEPT_HI]
def rows : List Row := Hdr.rows 13 ++ rows0

end Reg.FUNNEL

/-! ### Page SCORE -/

namespace Reg.SCORE

def PAGE_CAPS.CONTEXTS : Fld := ⟨0x38004, 31, 24, 32⟩
def PAGE_CAPS.ROLLUP_MAX : Fld := ⟨0x38004, 23, 16, 64⟩
def PAGE_CAPS.COUNTERS : Fld := ⟨0x38004, 7, 0, 64⟩
def CTRL.ENABLE : Fld := ⟨0x38008, 0, 0, 1⟩
def STATUS.MERGED : Fld := ⟨0x3800C, 31, 24, 0⟩
def STATUS.LONG : Fld := ⟨0x3800C, 23, 16, 0⟩
def STATUS.DISCARDS : Fld := ⟨0x3800C, 15, 8, 0⟩
def EVENT.LONG : Fld := ⟨0x38010, 11, 11, 0⟩
def EVENT.CONFLICT : Fld := ⟨0x38010, 10, 10, 0⟩
def EVENT.SNAP : Fld := ⟨0x38010, 9, 9, 0⟩
def EVENT.ROLLUP : Fld := ⟨0x38010, 8, 8, 0⟩
def FAULT.COUNTER : Fld := ⟨0x38018, 9, 9, 0⟩
def FAULT.ROLLUP : Fld := ⟨0x38018, 8, 8, 0⟩
def AON_CTRL.SKIPPED : Fld := ⟨0x38040, 31, 16, 0⟩
def AON_CTRL.ROLLUP_EN : Fld := ⟨0x38040, 0, 0, 1⟩
def ROLLUP_PERIOD.REVS : Fld := ⟨0x38044, 6, 0, 1⟩
def CONTEXT_SEL.ASSIGN : Fld := ⟨0x38048, 31, 31, 0⟩
def CONTEXT_SEL.DUP : Fld := ⟨0x38048, 30, 30, 0⟩
def CONTEXT_SEL.BAD_ENTRY : Fld := ⟨0x38048, 29, 29, 0⟩
def CONTEXT_SEL.PENDING : Fld := ⟨0x38048, 28, 28, 0⟩
def CONTEXT_SEL.VALID : Fld := ⟨0x38048, 21, 21, 0⟩
def CONTEXT_SEL.ENTRY : Fld := ⟨0x38048, 20, 16, 0⟩
def CONTEXT_SEL.CTX : Fld := ⟨0x38048, 15, 0, 0xFFFF⟩
def SNAP_CMD.RESULT : Fld := ⟨0x38050, 23, 20, 0⟩
def SNAP_CMD.CODE : Fld := ⟨0x38050, 2, 0, 0⟩
def SNAP_SEQ.COUNT : Fld := ⟨0x38054, 31, 0, 0⟩
def LAST_ROLLUP.REV : Fld := ⟨0x38058, 31, 0, 0⟩
def ROLLUP_FC.FC : Fld := ⟨0x3805C, 15, 0, 0⟩
def CTX_BUSY_LO : Fld := ⟨0x38060, 31, 0, 0⟩
def CTX_BUSY_HI : Fld := ⟨0x38064, 31, 0, 0⟩
def CTX_STALL_LO : Fld := ⟨0x38068, 31, 0, 0⟩
def CTX_STALL_HI : Fld := ⟨0x3806C, 31, 0, 0⟩
def CTX_CERR_LO : Fld := ⟨0x38070, 31, 0, 0⟩
def CTX_CERR_HI : Fld := ⟨0x38074, 31, 0, 0⟩
def CTX_UERR_LO : Fld := ⟨0x38078, 31, 0, 0⟩
def CTX_UERR_HI : Fld := ⟨0x3807C, 31, 0, 0⟩
def CNT_SRC.REGIONS (n : Nat) : Fld := ⟨0x38100 + n * 0x10, 31, 16, 0⟩
def CNT_SRC.CE (n : Nat) : Fld := ⟨0x38100 + n * 0x10, 14, 10, 0⟩
def CNT_SRC.EMIT (n : Nat) : Fld := ⟨0x38100 + n * 0x10, 9, 9, 0⟩
def CNT_SRC.CMD_RESET (n : Nat) : Fld := ⟨0x38100 + n * 0x10, 8, 8, 0⟩
def CNT_SRC.GATE (n : Nat) : Fld := ⟨0x38100 + n * 0x10, 7, 7, 0⟩
def CNT_SRC.CONFLICT (n : Nat) : Fld := ⟨0x38100 + n * 0x10, 6, 6, 0⟩
def CNT_SRC.KIND (n : Nat) : Fld := ⟨0x38100 + n * 0x10, 2, 0, 0⟩
def CNT_EVENT.CODE (n : Nat) : Fld := ⟨0x38104 + n * 0x10, 31, 28, 0⟩
def CNT_EVENT.MASK (n : Nat) : Fld := ⟨0x38104 + n * 0x10, 27, 14, 0⟩
def CNT_EVENT.AGENT (n : Nat) : Fld := ⟨0x38104 + n * 0x10, 13, 0, 0⟩
def CNT_LO (n : Nat) : Fld := ⟨0x38108 + n * 0x10, 31, 0, 0⟩
def CNT_HI (n : Nat) : Fld := ⟨0x3810C + n * 0x10, 31, 0, 0⟩
def CNT_SNAP_LO (n : Nat) : Fld := ⟨0x38A00 + n * 0x10, 31, 0, 0⟩
def CNT_SNAP_HI (n : Nat) : Fld := ⟨0x38A04 + n * 0x10, 31, 0, 0⟩
def CNT_SNAP_TAG (n : Nat) : Fld := ⟨0x38A08 + n * 0x10, 31, 0, 0⟩
def CNT_SNAP_FLAGS.VALID (n : Nat) : Fld := ⟨0x38A0C + n * 0x10, 31, 31, 0⟩
def CNT_SNAP_FLAGS.STAMPED (n : Nat) : Fld := ⟨0x38A0C + n * 0x10, 30, 30, 0⟩
def CNT_SNAP_FLAGS.RESET (n : Nat) : Fld := ⟨0x38A0C + n * 0x10, 29, 29, 0⟩
def CNT_SNAP_FLAGS.NO_PREV (n : Nat) : Fld := ⟨0x38A0C + n * 0x10, 28, 28, 0⟩
def REGION_BUSY_LO (n : Nat) : Fld := ⟨0x38800 + n * 0x20, 31, 0, 0⟩
def REGION_BUSY_HI (n : Nat) : Fld := ⟨0x38804 + n * 0x20, 31, 0, 0⟩
def REGION_STALL_LO (n : Nat) : Fld := ⟨0x38808 + n * 0x20, 31, 0, 0⟩
def REGION_STALL_HI (n : Nat) : Fld := ⟨0x3880C + n * 0x20, 31, 0, 0⟩
def REGION_CERR_LO (n : Nat) : Fld := ⟨0x38810 + n * 0x20, 31, 0, 0⟩
def REGION_CERR_HI (n : Nat) : Fld := ⟨0x38814 + n * 0x20, 31, 0, 0⟩
def REGION_UERR_LO (n : Nat) : Fld := ⟨0x38818 + n * 0x20, 31, 0, 0⟩
def REGION_UERR_HI (n : Nat) : Fld := ⟨0x3881C + n * 0x20, 31, 0, 0⟩

/-- The field table of the page. -/
def rows0 : List Row := [
  .one .ro PAGE_CAPS.CONTEXTS,
  .one .ro PAGE_CAPS.ROLLUP_MAX,
  .one .ro PAGE_CAPS.COUNTERS,
  .one .rw CTRL.ENABLE,
  .one .ro STATUS.MERGED,
  .one .ro STATUS.LONG,
  .one .ro STATUS.DISCARDS,
  .one .w1c EVENT.LONG,
  .one .w1c EVENT.CONFLICT,
  .one .w1c EVENT.SNAP,
  .one .w1c EVENT.ROLLUP,
  .one .w1c FAULT.COUNTER,
  .one .w1c FAULT.ROLLUP,
  .one .ro AON_CTRL.SKIPPED,
  .one .rw AON_CTRL.ROLLUP_EN,
  .one .rw ROLLUP_PERIOD.REVS,
  .one .wo CONTEXT_SEL.ASSIGN,
  .one .ro CONTEXT_SEL.DUP,
  .one .ro CONTEXT_SEL.BAD_ENTRY,
  .one .ro CONTEXT_SEL.PENDING,
  .one .ro CONTEXT_SEL.VALID,
  .one .rw CONTEXT_SEL.ENTRY,
  .one .rw CONTEXT_SEL.CTX,
  .one .ro SNAP_CMD.RESULT,
  .one .wo SNAP_CMD.CODE,
  .one .ro SNAP_SEQ.COUNT,
  .one .ro LAST_ROLLUP.REV,
  .one .ro ROLLUP_FC.FC,
  .one .ro CTX_BUSY_LO,
  .one .ro CTX_BUSY_HI,
  .one .ro CTX_STALL_LO,
  .one .ro CTX_STALL_HI,
  .one .ro CTX_CERR_LO,
  .one .ro CTX_CERR_HI,
  .one .ro CTX_UERR_LO,
  .one .ro CTX_UERR_HI,
  ⟨.rw, 64, 0x10, CNT_SRC.REGIONS⟩,
  ⟨.rw, 64, 0x10, CNT_SRC.CE⟩,
  ⟨.rw, 64, 0x10, CNT_SRC.EMIT⟩,
  ⟨.rw, 64, 0x10, CNT_SRC.CMD_RESET⟩]
def rows1 : List Row := [
  ⟨.rw, 64, 0x10, CNT_SRC.GATE⟩,
  ⟨.ro, 64, 0x10, CNT_SRC.CONFLICT⟩,
  ⟨.rw, 64, 0x10, CNT_SRC.KIND⟩,
  ⟨.rw, 64, 0x10, CNT_EVENT.CODE⟩,
  ⟨.rw, 64, 0x10, CNT_EVENT.MASK⟩,
  ⟨.rw, 64, 0x10, CNT_EVENT.AGENT⟩,
  ⟨.rw, 64, 0x10, CNT_LO⟩,
  ⟨.rw, 64, 0x10, CNT_HI⟩,
  ⟨.ro, 64, 0x10, CNT_SNAP_LO⟩,
  ⟨.ro, 64, 0x10, CNT_SNAP_HI⟩,
  ⟨.ro, 64, 0x10, CNT_SNAP_TAG⟩,
  ⟨.ro, 64, 0x10, CNT_SNAP_FLAGS.VALID⟩,
  ⟨.ro, 64, 0x10, CNT_SNAP_FLAGS.STAMPED⟩,
  ⟨.ro, 64, 0x10, CNT_SNAP_FLAGS.RESET⟩,
  ⟨.ro, 64, 0x10, CNT_SNAP_FLAGS.NO_PREV⟩,
  ⟨.ro, 16, 0x20, REGION_BUSY_LO⟩,
  ⟨.ro, 16, 0x20, REGION_BUSY_HI⟩,
  ⟨.ro, 16, 0x20, REGION_STALL_LO⟩,
  ⟨.ro, 16, 0x20, REGION_STALL_HI⟩,
  ⟨.ro, 16, 0x20, REGION_CERR_LO⟩,
  ⟨.ro, 16, 0x20, REGION_CERR_HI⟩,
  ⟨.ro, 16, 0x20, REGION_UERR_LO⟩,
  ⟨.ro, 16, 0x20, REGION_UERR_HI⟩]
def rows : List Row := Hdr.rows 14 ++ rows0 ++ rows1

end Reg.SCORE

/-! ### Page TWATCH -/

namespace Reg.TWATCH

def PAGE_CAPS.SLOTS : Fld := ⟨0x3C004, 31, 24, 64⟩
def PAGE_CAPS.BINS : Fld := ⟨0x3C004, 23, 16, 32⟩
def PAGE_CAPS.MAX_BAND : Fld := ⟨0x3C004, 15, 8, 22⟩
def PAGE_CAPS.FORMATS : Fld := ⟨0x3C004, 7, 0, 11⟩
def CTRL.ENABLE : Fld := ⟨0x3C008, 0, 0, 1⟩
def STATUS.DISCARDS : Fld := ⟨0x3C00C, 15, 8, 0⟩
def EVENT.REJECTED : Fld := ⟨0x3C010, 11, 11, 0⟩
def EVENT.MERGED : Fld := ⟨0x3C010, 10, 10, 0⟩
def EVENT.LATE : Fld := ⟨0x3C010, 9, 9, 0⟩
def EVENT.RESULT : Fld := ⟨0x3C010, 8, 8, 0⟩
def TAP_SEL.SLOT : Fld := ⟨0x3C040, 5, 0, 0⟩
def TAP_CTRL.AGENT : Fld := ⟨0x3C044, 31, 18, 0⟩
def TAP_CTRL.RANGE : Fld := ⟨0x3C044, 11, 10, 0⟩
def TAP_CTRL.CLOSE : Fld := ⟨0x3C044, 9, 8, 0⟩
def TAP_CTRL.CLOSE_NOW : Fld := ⟨0x3C044, 1, 1, 0⟩
def TAP_CTRL.ENABLE : Fld := ⟨0x3C044, 0, 0, 0⟩
def FORMAT.CODE : Fld := ⟨0x3C048, 3, 0, 0⟩
def BAND_BITS.HIST_LOW : Fld := ⟨0x3C04C, 15, 8, 240⟩
def BAND_BITS.BITS : Fld := ⟨0x3C04C, 4, 0, 12⟩
def RESULT_SEL.SLOT : Fld := ⟨0x3C050, 13, 8, 0⟩
def RESULT_SEL.BANK : Fld := ⟨0x3C050, 2, 0, 0⟩
def W (n : Nat) : Fld := ⟨0x3C054 + n * 0x4, 31, 0, 0⟩

/-- The field table of the page. -/
def rows0 : List Row := [
  .one .ro PAGE_CAPS.SLOTS,
  .one .ro PAGE_CAPS.BINS,
  .one .ro PAGE_CAPS.MAX_BAND,
  .one .ro PAGE_CAPS.FORMATS,
  .one .rw CTRL.ENABLE,
  .one .ro STATUS.DISCARDS,
  .one .w1c EVENT.REJECTED,
  .one .w1c EVENT.MERGED,
  .one .w1c EVENT.LATE,
  .one .w1c EVENT.RESULT,
  .one .rw TAP_SEL.SLOT,
  .one .rw TAP_CTRL.AGENT,
  .one .rw TAP_CTRL.RANGE,
  .one .rw TAP_CTRL.CLOSE,
  .one .sc TAP_CTRL.CLOSE_NOW,
  .one .rw TAP_CTRL.ENABLE,
  .one .rw FORMAT.CODE,
  .one .rw BAND_BITS.HIST_LOW,
  .one .rw BAND_BITS.BITS,
  .one .rw RESULT_SEL.SLOT,
  .one .rw RESULT_SEL.BANK,
  ⟨.ro, 11, 0x4, W⟩]
def rows : List Row := Hdr.rows 15 ++ rows0

end Reg.TWATCH

/-! ### Page HANG -/

namespace Reg.HANG

def PAGE_CAPS.EDGES : Fld := ⟨0x40004, 15, 0, 4096⟩
def CTRL.COLLECT_NOW : Fld := ⟨0x40008, 8, 8, 0⟩
def CTRL.ENABLE : Fld := ⟨0x40008, 0, 0, 1⟩
def STATUS.EXPIRIES : Fld := ⟨0x4000C, 31, 24, 0⟩
def STATUS.DISCARDS : Fld := ⟨0x4000C, 15, 8, 0⟩
def EVENT.COLLECTED : Fld := ⟨0x40010, 12, 12, 0⟩
def EVENT.FW : Fld := ⟨0x40010, 11, 11, 0⟩
def EVENT.REV : Fld := ⟨0x40010, 10, 10, 0⟩
def EVENT.CMD : Fld := ⟨0x40010, 9, 9, 0⟩
def EVENT.UNIT : Fld := ⟨0x40010, 8, 8, 0⟩
def UNIT_WD_FC.LIMIT : Fld := ⟨0x40040, 23, 0, 1000000⟩
def CMD_WD_NOTCH.NOTCHES : Fld := ⟨0x40044, 23, 0, 409600⟩
def REV_WD.REVS : Fld := ⟨0x40048, 15, 0, 1000⟩
def WD_STATUS.UNIT_AGENT : Fld := ⟨0x40050, 31, 18, 0⟩
def WD_STATUS.CMD_ENGINE : Fld := ⟨0x40050, 15, 11, 0⟩
def WD_STATUS.FW_EXP : Fld := ⟨0x40050, 3, 3, 0⟩
def WD_STATUS.REV_EXP : Fld := ⟨0x40050, 2, 2, 0⟩
def WD_STATUS.CMD_EXP : Fld := ⟨0x40050, 1, 1, 0⟩
def WD_STATUS.UNIT_EXP : Fld := ⟨0x40050, 0, 0, 0⟩
def WD_ACTION.FW : Fld := ⟨0x40054, 13, 12, 3⟩
def WD_ACTION.REV : Fld := ⟨0x40054, 9, 8, 3⟩
def WD_ACTION.CMD : Fld := ⟨0x40054, 5, 4, 2⟩
def WD_ACTION.UNIT : Fld := ⟨0x40054, 1, 0, 1⟩
def EDGE_COUNT.SEQ : Fld := ⟨0x40058, 31, 24, 0⟩
def EDGE_COUNT.COLLECTING : Fld := ⟨0x40058, 22, 22, 0⟩
def EDGE_COUNT.NOT_FROZEN : Fld := ⟨0x40058, 21, 21, 0⟩
def EDGE_COUNT.AGENT_OVF : Fld := ⟨0x40058, 20, 20, 0⟩
def EDGE_COUNT.BUF_OVF : Fld := ⟨0x40058, 19, 19, 0⟩
def EDGE_COUNT.VALID : Fld := ⟨0x40058, 18, 18, 0⟩
def EDGE_COUNT.COUNT : Fld := ⟨0x40058, 12, 0, 0⟩
def EDGE_INDEX.INDEX : Fld := ⟨0x4005C, 11, 0, 0⟩
def EDGE_DATA_LO.EDGE : Fld := ⟨0x40060, 31, 0, 0⟩
def EDGE_DATA_HI.AGE_CLASS : Fld := ⟨0x40064, 17, 16, 0⟩
def EDGE_DATA_HI.RECORDER : Fld := ⟨0x40064, 13, 0, 0⟩
def FW_WD.KICK : Fld := ⟨0x40068, 31, 31, 0⟩
def FW_WD.CP : Fld := ⟨0x40068, 25, 24, 0⟩
def FW_WD.PERIOD : Fld := ⟨0x40068, 15, 0, 0⟩

/-- The field table of the page. -/
def rows0 : List Row := [
  .one .ro PAGE_CAPS.EDGES,
  .one .sc CTRL.COLLECT_NOW,
  .one .rw CTRL.ENABLE,
  .one .ro STATUS.EXPIRIES,
  .one .ro STATUS.DISCARDS,
  .one .w1c EVENT.COLLECTED,
  .one .w1c EVENT.FW,
  .one .w1c EVENT.REV,
  .one .w1c EVENT.CMD,
  .one .w1c EVENT.UNIT,
  .one .rw UNIT_WD_FC.LIMIT,
  .one .rw CMD_WD_NOTCH.NOTCHES,
  .one .rw REV_WD.REVS,
  .one .ro WD_STATUS.UNIT_AGENT,
  .one .ro WD_STATUS.CMD_ENGINE,
  .one .w1c WD_STATUS.FW_EXP,
  .one .w1c WD_STATUS.REV_EXP,
  .one .w1c WD_STATUS.CMD_EXP,
  .one .w1c WD_STATUS.UNIT_EXP,
  .one .rw WD_ACTION.FW,
  .one .rw WD_ACTION.REV,
  .one .rw WD_ACTION.CMD,
  .one .rw WD_ACTION.UNIT,
  .one .ro EDGE_COUNT.SEQ,
  .one .ro EDGE_COUNT.COLLECTING,
  .one .ro EDGE_COUNT.NOT_FROZEN,
  .one .ro EDGE_COUNT.AGENT_OVF,
  .one .ro EDGE_COUNT.BUF_OVF,
  .one .ro EDGE_COUNT.VALID,
  .one .ro EDGE_COUNT.COUNT,
  .one .rw EDGE_INDEX.INDEX,
  .one .ro EDGE_DATA_LO.EDGE,
  .one .ro EDGE_DATA_HI.AGE_CLASS,
  .one .ro EDGE_DATA_HI.RECORDER,
  .one .wo FW_WD.KICK,
  .one .rwl FW_WD.CP,
  .one .rwl FW_WD.PERIOD]
def rows : List Row := Hdr.rows 16 ++ rows0

end Reg.HANG

/-! ### Page MILLRACE -/

namespace Reg.MILLRACE

def PAGE_CAPS.CARRIED : Fld := ⟨0x44004, 31, 16, 16⟩
def PAGE_CAPS.MAX_PERIOD : Fld := ⟨0x44004, 15, 0, 256⟩
def CTRL.ENABLE : Fld := ⟨0x44008, 0, 0, 1⟩
def STATUS.IMAGE : Fld := ⟨0x4400C, 31, 28, 0⟩
def STATUS.REFUSE : Fld := ⟨0x4400C, 27, 24, 0⟩
def STATUS.LAST_DISCARD : Fld := ⟨0x4400C, 23, 20, 0⟩
def STATUS.DISCARDS : Fld := ⟨0x4400C, 15, 8, 0⟩
def EVENT.BAD_PTR : Fld := ⟨0x44010, 14, 14, 0⟩
def EVENT.RESTORED : Fld := ⟨0x44010, 13, 13, 0⟩
def EVENT.DISCARDED : Fld := ⟨0x44010, 11, 11, 0⟩
def EVENT.REFUSED : Fld := ⟨0x44010, 10, 10, 0⟩
def EVENT.SKIPPED : Fld := ⟨0x44010, 9, 9, 0⟩
def EVENT.COMMITTED : Fld := ⟨0x44010, 8, 8, 0⟩
def FAULT.TALLY : Fld := ⟨0x44018, 9, 9, 0⟩
def FAULT.RING_STALLED : Fld := ⟨0x44018, 8, 8, 0⟩
def PERIOD_REV.REVS : Fld := ⟨0x44040, 8, 0, 0⟩
def CUT_NOTCH.CARRY_TILES : Fld := ⟨0x44044, 31, 31, 0⟩
def CUT_NOTCH.NO_CODE : Fld := ⟨0x44044, 30, 30, 0⟩
def CUT_NOTCH.PLANE : Fld := ⟨0x44044, 29, 28, 0⟩
def CUT_NOTCH.NOTCH : Fld := ⟨0x44044, 11, 0, 0⟩
def RING_BASE_LO : Fld := ⟨0x44048, 31, 0, 0⟩
def RING_BASE_HI : Fld := ⟨0x4404C, 31, 0, 0⟩
def RING_SIZE.UNITS : Fld := ⟨0x44050, 15, 0, 0⟩
def HEAD.OFFSET : Fld := ⟨0x44054, 31, 0, 0⟩
def TAIL.OFFSET : Fld := ⟨0x44058, 31, 0, 0⟩
def LAG.FRAMES : Fld := ⟨0x4405C, 31, 16, 0⟩
def LAG.REVS : Fld := ⟨0x4405C, 15, 0, 0⟩
def SKIPPED.REASON : Fld := ⟨0x44060, 31, 28, 0⟩
def SKIPPED.COUNT : Fld := ⟨0x44060, 23, 0, 0⟩
def RAW_RECORDS.BLOCKS : Fld := ⟨0x44064, 31, 0, 0⟩
def ROLE.ROLE : Fld := ⟨0x44068, 0, 0, 0⟩
def APPLIED_CUT.ID : Fld := ⟨0x4406C, 31, 0, 0⟩
def RESTORE_CMD.RESULT : Fld := ⟨0x44070, 23, 20, 0⟩
def RESTORE_CMD.CODE : Fld := ⟨0x44070, 2, 0, 0⟩
def RESTORE_STATUS.RELOAD : Fld := ⟨0x44074, 31, 16, 0⟩
def RESTORE_STATUS.OUTCOME : Fld := ⟨0x44074, 11, 8, 0⟩
def RESTORE_STATUS.STATE : Fld := ⟨0x44074, 2, 0, 0⟩
def FRAMES_PRODUCED : Fld := ⟨0x44078, 31, 0, 0⟩
def FRAMES_DONE : Fld := ⟨0x4407C, 31, 0, 0⟩
def FRAMES_DISCARDED : Fld := ⟨0x44080, 31, 0, 0⟩
def ENTRY_BASE_LO (n : Nat) : Fld := ⟨0x44200 + n * 0x10, 31, 0, 0⟩
def ENTRY_BASE_HI (n : Nat) : Fld := ⟨0x44204 + n * 0x10, 11, 0, 0⟩
def ENTRY_LEN.PAGES (n : Nat) : Fld := ⟨0x44208 + n * 0x10, 31, 0, 0⟩
def ENTRY_FLAGS.SEEDED (n : Nat) : Fld := ⟨0x4420C + n * 0x10, 1, 1, 0⟩
def ENTRY_FLAGS.VALID (n : Nat) : Fld := ⟨0x4420C + n * 0x10, 0, 0, 0⟩

/-- The field table of the page. -/
def rows0 : List Row := [
  .one .ro PAGE_CAPS.CARRIED,
  .one .ro PAGE_CAPS.MAX_PERIOD,
  .one .rw CTRL.ENABLE,
  .one .ro STATUS.IMAGE,
  .one .ro STATUS.REFUSE,
  .one .ro STATUS.LAST_DISCARD,
  .one .ro STATUS.DISCARDS,
  .one .w1c EVENT.BAD_PTR,
  .one .w1c EVENT.RESTORED,
  .one .w1c EVENT.DISCARDED,
  .one .w1c EVENT.REFUSED,
  .one .w1c EVENT.SKIPPED,
  .one .w1c EVENT.COMMITTED,
  .one .w1c FAULT.TALLY,
  .one .w1c FAULT.RING_STALLED,
  .one .rw PERIOD_REV.REVS,
  .one .rw CUT_NOTCH.CARRY_TILES,
  .one .rw CUT_NOTCH.NO_CODE,
  .one .rw CUT_NOTCH.PLANE,
  .one .rw CUT_NOTCH.NOTCH,
  .one .rw RING_BASE_LO,
  .one .rw RING_BASE_HI,
  .one .rw RING_SIZE.UNITS,
  .one .rw HEAD.OFFSET,
  .one .rw TAIL.OFFSET,
  .one .ro LAG.FRAMES,
  .one .ro LAG.REVS,
  .one .ro SKIPPED.REASON,
  .one .ro SKIPPED.COUNT,
  .one .ro RAW_RECORDS.BLOCKS,
  .one .rw ROLE.ROLE,
  .one .ro APPLIED_CUT.ID,
  .one .ro RESTORE_CMD.RESULT,
  .one .wo RESTORE_CMD.CODE,
  .one .ro RESTORE_STATUS.RELOAD,
  .one .ro RESTORE_STATUS.OUTCOME,
  .one .ro RESTORE_STATUS.STATE,
  .one .ro FRAMES_PRODUCED,
  .one .ro FRAMES_DONE,
  .one .ro FRAMES_DISCARDED]
def rows1 : List Row := [
  ⟨.rw, 16, 0x10, ENTRY_BASE_LO⟩,
  ⟨.rw, 16, 0x10, ENTRY_BASE_HI⟩,
  ⟨.rw, 16, 0x10, ENTRY_LEN.PAGES⟩,
  ⟨.ro, 16, 0x10, ENTRY_FLAGS.SEEDED⟩,
  ⟨.rw, 16, 0x10, ENTRY_FLAGS.VALID⟩]
def rows : List Row := Hdr.rows 17 ++ rows0 ++ rows1

end Reg.MILLRACE

/-! ### Page TEAM -/

namespace Reg.TEAM

def PAGE_CAPS.MEMBERS : Fld := ⟨0x48004, 31, 16, 256⟩
def PAGE_CAPS.HOP_FC : Fld := ⟨0x48004, 7, 0, 28⟩
def CTRL.CENSUS_NOW : Fld := ⟨0x48008, 9, 9, 0⟩
def CTRL.FAILOVER_EN : Fld := ⟨0x48008, 8, 8, 1⟩
def CTRL.ENABLE : Fld := ⟨0x48008, 0, 0, 1⟩
def STATUS.TOSS_BUSY : Fld := ⟨0x4800C, 16, 16, 0⟩
def STATUS.DISCARDS : Fld := ⟨0x4800C, 15, 8, 0⟩
def EVENT.XW_LATE : Fld := ⟨0x48010, 15, 15, 0⟩
def EVENT.CENSUS_DONE : Fld := ⟨0x48010, 14, 14, 0⟩
def EVENT.RING_CHANGE : Fld := ⟨0x48010, 13, 13, 0⟩
def EVENT.FAILOVER : Fld := ⟨0x48010, 12, 12, 0⟩
def EVENT.TOSS : Fld := ⟨0x48010, 11, 11, 0⟩
def EVENT.REJOINED : Fld := ⟨0x48010, 10, 10, 0⟩
def EVENT.MISSING : Fld := ⟨0x48010, 9, 9, 0⟩
def FAULT.CENSUS_DUP : Fld := ⟨0x48018, 10, 10, 0⟩
def FAULT.TOSS_STORM : Fld := ⟨0x48018, 9, 9, 0⟩
def FAULT.HALF_LOST : Fld := ⟨0x48018, 8, 8, 0⟩
def ROLE.DEPUTY : Fld := ⟨0x48040, 9, 9, 0⟩
def ROLE.DEMOTED : Fld := ⟨0x48040, 8, 8, 0⟩
def ROLE.ROLE : Fld := ⟨0x48040, 1, 0, 0⟩
def MEMBER_ID.STANDBY_VALID : Fld := ⟨0x48044, 24, 24, 0⟩
def MEMBER_ID.STANDBY_FOR : Fld := ⟨0x48044, 23, 16, 0⟩
def MEMBER_ID.ID : Fld := ⟨0x48044, 7, 0, 0⟩
def MEMBER_COUNT.VALID : Fld := ⟨0x48048, 31, 31, 0⟩
def MEMBER_COUNT.MANAGER : Fld := ⟨0x48048, 23, 16, 0⟩
def MEMBER_COUNT.COUNT : Fld := ⟨0x48048, 8, 0, 0⟩
def RING_STATUS.EAST_UP : Fld := ⟨0x4804C, 31, 31, 0⟩
def RING_STATUS.WEST_UP : Fld := ⟨0x4804C, 30, 30, 0⟩
def RING_STATUS.CHAIN : Fld := ⟨0x4804C, 29, 29, 0⟩
def RING_STATUS.FAR_HOPS : Fld := ⟨0x4804C, 23, 16, 0⟩
def RING_STATUS.CRC_ERRS : Fld := ⟨0x4804C, 15, 8, 0⟩
def RING_STATUS.MGR_HOPS : Fld := ⟨0x4804C, 7, 0, 0⟩
def HEARTBEAT_NOTCH.NOTCHES : Fld := ⟨0x48050, 12, 0, 256⟩
def MISS_LIMIT.LIMIT : Fld := ⟨0x48054, 3, 0, 4⟩
def FAILOVER_LAST.VALID : Fld := ⟨0x48058, 31, 31, 0⟩
def FAILOVER_LAST.RECEIVED : Fld := ⟨0x48058, 30, 30, 0⟩
def FAILOVER_LAST.MEMBER : Fld := ⟨0x48058, 23, 16, 0⟩
def FAILOVER_LAST.COUNT : Fld := ⟨0x48058, 15, 0, 0⟩
def MISSING (n : Nat) : Fld := ⟨0x48060 + n * 0x4, 31, 0, 0⟩
def TOSS_LOG.HALF_TOSSES : Fld := ⟨0x48080, 31, 24, 0⟩
def TOSS_LOG.MGR_TOSSES : Fld := ⟨0x48080, 23, 16, 0⟩
def TOSS_LOG.CAUSE : Fld := ⟨0x48080, 15, 12, 0⟩
def TOSS_LOG.WINNER : Fld := ⟨0x48080, 8, 8, 0⟩
def TOSS_LOG.RIVAL : Fld := ⟨0x48080, 7, 0, 0⟩
def XWHISTLE_CMD.NOTCH : Fld := ⟨0x48084, 31, 20, 0⟩
def XWHISTLE_CMD.RESULT : Fld := ⟨0x48084, 19, 16, 0⟩
def XWHISTLE_CMD.SET : Fld := ⟨0x48084, 10, 8, 0⟩
def XWHISTLE_CMD.AT_ANGLE : Fld := ⟨0x48084, 4, 4, 0⟩
def XWHISTLE_CMD.CODE : Fld := ⟨0x48084, 2, 0, 0⟩
def XWHISTLE_STATE.FROM : Fld := ⟨0x48088, 31, 24, 0⟩
def XWHISTLE_STATE.CODE : Fld := ⟨0x48088, 23, 21, 0⟩
def XWHISTLE_STATE.LATE : Fld := ⟨0x48088, 20, 20, 0⟩
def XWHISTLE_STATE.PENDING : Fld := ⟨0x48088, 19, 19, 0⟩
def XWHISTLE_STATE.TARGET_REV : Fld := ⟨0x48088, 15, 0, 0⟩
def HALF_STATUS.SOUTH_CLAIM : Fld := ⟨0x4808C, 9, 9, 0⟩
def HALF_STATUS.NORTH_CLAIM : Fld := ⟨0x4808C, 8, 8, 1⟩
def HALF_STATUS.TOSS_PREF : Fld := ⟨0x4808C, 4, 4, 0⟩
def HALF_STATUS.LANE_OWNER : Fld := ⟨0x4808C, 0, 0, 0⟩

/-- The field table of the page. -/
def rows0 : List Row := [
  .one .ro PAGE_CAPS.MEMBERS,
  .one .ro PAGE_CAPS.HOP_FC,
  .one .sc CTRL.CENSUS_NOW,
  .one .rw CTRL.FAILOVER_EN,
  .one .rw CTRL.ENABLE,
  .one .ro STATUS.TOSS_BUSY,
  .one .ro STATUS.DISCARDS,
  .one .w1c EVENT.XW_LATE,
  .one .w1c EVENT.CENSUS_DONE,
  .one .w1c EVENT.RING_CHANGE,
  .one .w1c EVENT.FAILOVER,
  .one .w1c EVENT.TOSS,
  .one .w1c EVENT.REJOINED,
  .one .w1c EVENT.MISSING,
  .one .w1c FAULT.CENSUS_DUP,
  .one .w1c FAULT.TOSS_STORM,
  .one .w1c FAULT.HALF_LOST,
  .one .rw ROLE.DEPUTY,
  .one .ro ROLE.DEMOTED,
  .one .rw ROLE.ROLE,
  .one .rw MEMBER_ID.STANDBY_VALID,
  .one .rw MEMBER_ID.STANDBY_FOR,
  .one .rw MEMBER_ID.ID,
  .one .ro MEMBER_COUNT.VALID,
  .one .ro MEMBER_COUNT.MANAGER,
  .one .ro MEMBER_COUNT.COUNT,
  .one .ro RING_STATUS.EAST_UP,
  .one .ro RING_STATUS.WEST_UP,
  .one .ro RING_STATUS.CHAIN,
  .one .ro RING_STATUS.FAR_HOPS,
  .one .ro RING_STATUS.CRC_ERRS,
  .one .ro RING_STATUS.MGR_HOPS,
  .one .rw HEARTBEAT_NOTCH.NOTCHES,
  .one .rw MISS_LIMIT.LIMIT,
  .one .ro FAILOVER_LAST.VALID,
  .one .ro FAILOVER_LAST.RECEIVED,
  .one .ro FAILOVER_LAST.MEMBER,
  .one .ro FAILOVER_LAST.COUNT,
  ⟨.ro, 8, 0x4, MISSING⟩,
  .one .ro TOSS_LOG.HALF_TOSSES]
def rows1 : List Row := [
  .one .ro TOSS_LOG.MGR_TOSSES,
  .one .ro TOSS_LOG.CAUSE,
  .one .ro TOSS_LOG.WINNER,
  .one .ro TOSS_LOG.RIVAL,
  .one .rw XWHISTLE_CMD.NOTCH,
  .one .ro XWHISTLE_CMD.RESULT,
  .one .rw XWHISTLE_CMD.SET,
  .one .rw XWHISTLE_CMD.AT_ANGLE,
  .one .wo XWHISTLE_CMD.CODE,
  .one .ro XWHISTLE_STATE.FROM,
  .one .ro XWHISTLE_STATE.CODE,
  .one .ro XWHISTLE_STATE.LATE,
  .one .ro XWHISTLE_STATE.PENDING,
  .one .ro XWHISTLE_STATE.TARGET_REV,
  .one .ro HALF_STATUS.SOUTH_CLAIM,
  .one .ro HALF_STATUS.NORTH_CLAIM,
  .one .ro HALF_STATUS.TOSS_PREF,
  .one .ro HALF_STATUS.LANE_OWNER]
def rows : List Row := Hdr.rows 18 ++ rows0 ++ rows1

end Reg.TEAM

/-! ### Page POWER -/

namespace Reg.POWER

def PAGE_CAPS.STATES : Fld := ⟨0x4C004, 2, 0, 5⟩
def CTRL.ENABLE : Fld := ⟨0x4C008, 0, 0, 1⟩
def STATUS.DISCARDS : Fld := ⟨0x4C00C, 15, 8, 0⟩
def EVENT.READY : Fld := ⟨0x4C010, 10, 10, 0⟩
def EVENT.WAKE : Fld := ⟨0x4C010, 9, 9, 0⟩
def EVENT.STATE : Fld := ⟨0x4C010, 8, 8, 0⟩
def TARGET_STATE.RESULT : Fld := ⟨0x4C040, 23, 20, 0⟩
def TARGET_STATE.STATE : Fld := ⟨0x4C040, 2, 0, 0⟩
def CURRENT_STATE.READY : Fld := ⟨0x4C044, 31, 31, 0⟩
def CURRENT_STATE.FLOOR_WHY : Fld := ⟨0x4C044, 28, 24, 0⟩
def CURRENT_STATE.FLOOR : Fld := ⟨0x4C044, 18, 16, 0⟩
def CURRENT_STATE.LIMIT : Fld := ⟨0x4C044, 14, 12, 0⟩
def CURRENT_STATE.MOVING : Fld := ⟨0x4C044, 8, 8, 0⟩
def CURRENT_STATE.PREV : Fld := ⟨0x4C044, 6, 4, 0⟩
def CURRENT_STATE.STATE : Fld := ⟨0x4C044, 2, 0, 0⟩
def AUTO_CTRL.EN : Fld := ⟨0x4C048, 8, 8, 0⟩
def AUTO_CTRL.DEEPEST : Fld := ⟨0x4C048, 2, 0, 2⟩
def IDLE_REVS.COUNT : Fld := ⟨0x4C04C, 31, 16, 0⟩
def IDLE_REVS.REVS : Fld := ⟨0x4C04C, 15, 0, 100⟩
def WAKE_SOURCES.LAST : Fld := ⟨0x4C050, 31, 28, 0⟩
def WAKE_SOURCES.BSL : Fld := ⟨0x4C050, 2, 2, 1⟩
def WAKE_SOURCES.COMMAND : Fld := ⟨0x4C050, 1, 1, 1⟩
def WAKE_SOURCES.CAM : Fld := ⟨0x4C050, 0, 0, 1⟩
def RESIDENCY.REVS (n : Nat) : Fld := ⟨0x4C054 + n * 0x4, 31, 0, 0⟩
def LAST_EXIT_FC.FROM : Fld := ⟨0x4C068, 31, 29, 0⟩
def LAST_EXIT_FC.FC : Fld := ⟨0x4C068, 28, 0, 0⟩

/-- The field table of the page. -/
def rows0 : List Row := [
  .one .ro PAGE_CAPS.STATES,
  .one .rw CTRL.ENABLE,
  .one .ro STATUS.DISCARDS,
  .one .w1c EVENT.READY,
  .one .w1c EVENT.WAKE,
  .one .w1c EVENT.STATE,
  .one .ro TARGET_STATE.RESULT,
  .one .rw TARGET_STATE.STATE,
  .one .ro CURRENT_STATE.READY,
  .one .ro CURRENT_STATE.FLOOR_WHY,
  .one .ro CURRENT_STATE.FLOOR,
  .one .ro CURRENT_STATE.LIMIT,
  .one .ro CURRENT_STATE.MOVING,
  .one .ro CURRENT_STATE.PREV,
  .one .ro CURRENT_STATE.STATE,
  .one .rw AUTO_CTRL.EN,
  .one .rw AUTO_CTRL.DEEPEST,
  .one .ro IDLE_REVS.COUNT,
  .one .rw IDLE_REVS.REVS,
  .one .ro WAKE_SOURCES.LAST,
  .one .rw WAKE_SOURCES.BSL,
  .one .rw WAKE_SOURCES.COMMAND,
  .one .rw WAKE_SOURCES.CAM,
  ⟨.ro, 5, 0x4, RESIDENCY.REVS⟩,
  .one .ro LAST_EXIT_FC.FROM,
  .one .ro LAST_EXIT_FC.FC]
def rows : List Row := Hdr.rows 19 ++ rows0

end Reg.POWER

/-! ### Page CRASH -/

namespace Reg.CRASH

def EVENT.DROPPED : Fld := ⟨0x50010, 9, 9, 0⟩
def EVENT.CAPTURED : Fld := ⟨0x50010, 8, 8, 0⟩
def STATE.CAPTURES : Fld := ⟨0x50040, 31, 16, 0⟩
def STATE.DROPPED : Fld := ⟨0x50040, 15, 8, 0⟩
def STATE.CUR_SLOT : Fld := ⟨0x50040, 4, 4, 0⟩
def STATE.SLOT1 : Fld := ⟨0x50040, 3, 2, 0⟩
def STATE.SLOT0 : Fld := ⟨0x50040, 1, 0, 0⟩
def CAUSE.KIND : Fld := ⟨0x50044, 31, 24, 0⟩
def CAUSE.ACTION : Fld := ⟨0x50044, 17, 16, 0⟩
def CAUSE.DETAIL : Fld := ⟨0x50044, 15, 0, 0⟩
def POS_LO : Fld := ⟨0x50048, 31, 0, 0⟩
def POS_HI : Fld := ⟨0x5004C, 31, 0, 0⟩
def LEN.BYTES : Fld := ⟨0x50050, 31, 0, 0⟩
def RELEASE.GO : Fld := ⟨0x5005C, 0, 0, 0⟩
def ARM.CAPTURE_NOW : Fld := ⟨0x50060, 1, 1, 0⟩
def ARM.ARMED : Fld := ⟨0x50060, 0, 0, 1⟩
def CTRL.ENABLE : Fld := ⟨0x50008, 0, 0, 1⟩

/-- The field table of the page. -/
def rows0 : List Row := [
  .one .w1c EVENT.DROPPED,
  .one .w1c EVENT.CAPTURED,
  .one .ro STATE.CAPTURES,
  .one .ro STATE.DROPPED,
  .one .ro STATE.CUR_SLOT,
  .one .ro STATE.SLOT1,
  .one .ro STATE.SLOT0,
  .one .ro CAUSE.KIND,
  .one .ro CAUSE.ACTION,
  .one .ro CAUSE.DETAIL,
  .one .ro POS_LO,
  .one .ro POS_HI,
  .one .ro LEN.BYTES,
  .one .wo RELEASE.GO,
  .one .sc ARM.CAPTURE_NOW,
  .one .rw ARM.ARMED,
  .one .ro CTRL.ENABLE]
def rows : List Row := .one .ro (Hdr.PAGE_CAPS 20) :: Hdr.rows 20 ++ rows0

end Reg.CRASH

/-! ### Page UNITWIN -/

namespace Reg.UNITWIN

def AGENT_SEL.ID : Fld := ⟨0x54040, 13, 0, 0⟩
def AGENT_TYPE.TYPE : Fld := ⟨0x54044, 2, 0, 1⟩
def AGENT_STATE.PENDING : Fld := ⟨0x54048, 31, 31, 0⟩
def AGENT_STATE.TIMEOUT : Fld := ⟨0x54048, 30, 30, 0⟩
def AGENT_STATE.UNREACHABLE : Fld := ⟨0x54048, 29, 29, 0⟩
def CTRL.ENABLE : Fld := ⟨0x54008, 0, 0, 1⟩

/-- The field table of the page. -/
def rows0 : List Row := [
  .one .rw AGENT_SEL.ID,
  .one .ro AGENT_TYPE.TYPE,
  .one .ro AGENT_STATE.PENDING,
  .one .ro AGENT_STATE.TIMEOUT,
  .one .ro AGENT_STATE.UNREACHABLE,
  .one .ro CTRL.ENABLE]
def rows : List Row := .one .ro (Hdr.PAGE_CAPS 21) :: Hdr.rows 21 ++ rows0

end Reg.UNITWIN

/-! ### Page DATAWIN -/

namespace Reg.DATAWIN

def WIN_SRC.WRITE_EN (n : Nat) : Fld := ⟨0x58040 + n * 0x40, 8, 8, 0⟩
def WIN_SRC.SRC (n : Nat) : Fld := ⟨0x58040 + n * 0x40, 2, 0, 0⟩
def WIN_OFFSET_LO (n : Nat) : Fld := ⟨0x58044 + n * 0x40, 31, 0, 0⟩
def WIN_OFFSET_HI (n : Nat) : Fld := ⟨0x58048 + n * 0x40, 31, 0, 0⟩
def WIN_DATA (n : Nat) : Fld := ⟨0x5804C + n * 0x40, 31, 0, 0⟩
def WIN_COUNT (n : Nat) : Fld := ⟨0x58050 + n * 0x40, 31, 0, 0⟩
def WIN_STATUS.PREFETCH (n : Nat) : Fld := ⟨0x58054 + n * 0x40, 31, 16, 0⟩
def WIN_STATUS.UE (n : Nat) : Fld := ⟨0x58054 + n * 0x40, 8, 8, 0⟩
def WIN_STATUS.BAD_WRITE (n : Nat) : Fld := ⟨0x58054 + n * 0x40, 7, 7, 0⟩
def WIN_STATUS.BAD_SRC (n : Nat) : Fld := ⟨0x58054 + n * 0x40, 6, 6, 0⟩
def WIN_STATUS.TIMEOUT (n : Nat) : Fld := ⟨0x58054 + n * 0x40, 5, 5, 0⟩
def WIN_STATUS.RANGE (n : Nat) : Fld := ⟨0x58054 + n * 0x40, 4, 4, 0⟩
def WIN_STATUS.READY (n : Nat) : Fld := ⟨0x58054 + n * 0x40, 0, 0, 0⟩
def CTRL.ENABLE : Fld := ⟨0x58008, 0, 0, 1⟩

/-- The field table of the page. -/
def rows0 : List Row := [
  ⟨.rw, 2, 0x40, WIN_SRC.WRITE_EN⟩,
  ⟨.rw, 2, 0x40, WIN_SRC.SRC⟩,
  ⟨.rw, 2, 0x40, WIN_OFFSET_LO⟩,
  ⟨.rw, 2, 0x40, WIN_OFFSET_HI⟩,
  ⟨.rw, 2, 0x40, WIN_DATA⟩,
  ⟨.rw, 2, 0x40, WIN_COUNT⟩,
  ⟨.ro, 2, 0x40, WIN_STATUS.PREFETCH⟩,
  ⟨.ro, 2, 0x40, WIN_STATUS.UE⟩,
  ⟨.ro, 2, 0x40, WIN_STATUS.BAD_WRITE⟩,
  ⟨.ro, 2, 0x40, WIN_STATUS.BAD_SRC⟩,
  ⟨.ro, 2, 0x40, WIN_STATUS.TIMEOUT⟩,
  ⟨.ro, 2, 0x40, WIN_STATUS.RANGE⟩,
  ⟨.ro, 2, 0x40, WIN_STATUS.READY⟩,
  .one .ro CTRL.ENABLE]
def rows : List Row := .one .ro (Hdr.PAGE_CAPS 22) :: Hdr.rows 22 ++ rows0

end Reg.DATAWIN

/-! ### Page SELFTEST -/

namespace Reg.SELFTEST

def CTRL.ENABLE : Fld := ⟨0x5C008, 0, 0, 1⟩
def STATUS.DISCARDS : Fld := ⟨0x5C00C, 15, 8, 0⟩
def EVENT.CAL_DONE : Fld := ⟨0x5C010, 9, 9, 0⟩
def EVENT.TEST_DONE : Fld := ⟨0x5C010, 8, 8, 0⟩
def TEST_SEL.SOUTH : Fld := ⟨0x5C040, 9, 9, 1⟩
def TEST_SEL.NORTH : Fld := ⟨0x5C040, 8, 8, 1⟩
def TEST_SEL.TEST : Fld := ⟨0x5C040, 2, 0, 0⟩
def CMD.RESULT : Fld := ⟨0x5C044, 23, 20, 0⟩
def CMD.CODE : Fld := ⟨0x5C044, 1, 0, 0⟩
def STATE.SOUTH_UNIT : Fld := ⟨0x5C048, 29, 24, 0⟩
def STATE.NORTH_UNIT : Fld := ⟨0x5C048, 21, 16, 0⟩
def STATE.STATE : Fld := ⟨0x5C048, 2, 0, 0⟩
def RESULT.FAILS : Fld := ⟨0x5C04C, 31, 16, 0⟩
def RESULT.FAIL_HALF : Fld := ⟨0x5C04C, 15, 15, 0⟩
def RESULT.FIRST_FAIL : Fld := ⟨0x5C04C, 13, 8, 0⟩
def RESULT.OUTCOME : Fld := ⟨0x5C04C, 3, 0, 0⟩
def BANK_OFFLINE.NORTH_VALID : Fld := ⟨0x5C050, 31, 31, 0⟩
def BANK_OFFLINE.SOUTH_VALID : Fld := ⟨0x5C050, 30, 30, 0⟩
def BANK_OFFLINE.SOUTH : Fld := ⟨0x5C050, 13, 8, 0⟩
def BANK_OFFLINE.NORTH : Fld := ⟨0x5C050, 5, 0, 0⟩
def CAL_CMD.RESULT : Fld := ⟨0x5C054, 23, 20, 0⟩
def CAL_CMD.CODE : Fld := ⟨0x5C054, 1, 0, 0⟩
def CAL_STATUS.BUSY : Fld := ⟨0x5C058, 10, 8, 0⟩
def CAL_STATUS.FAILED : Fld := ⟨0x5C058, 6, 4, 0⟩
def CAL_STATUS.DONE : Fld := ⟨0x5C058, 2, 0, 0⟩

/-- The field table of the page. -/
def rows0 : List Row := [
  .one .rw CTRL.ENABLE,
  .one .ro STATUS.DISCARDS,
  .one .w1c EVENT.CAL_DONE,
  .one .w1c EVENT.TEST_DONE,
  .one .rw TEST_SEL.SOUTH,
  .one .rw TEST_SEL.NORTH,
  .one .rw TEST_SEL.TEST,
  .one .ro CMD.RESULT,
  .one .wo CMD.CODE,
  .one .ro STATE.SOUTH_UNIT,
  .one .ro STATE.NORTH_UNIT,
  .one .ro STATE.STATE,
  .one .ro RESULT.FAILS,
  .one .ro RESULT.FAIL_HALF,
  .one .ro RESULT.FIRST_FAIL,
  .one .ro RESULT.OUTCOME,
  .one .ro BANK_OFFLINE.NORTH_VALID,
  .one .ro BANK_OFFLINE.SOUTH_VALID,
  .one .ro BANK_OFFLINE.SOUTH,
  .one .ro BANK_OFFLINE.NORTH,
  .one .ro CAL_CMD.RESULT,
  .one .wo CAL_CMD.CODE,
  .one .ro CAL_STATUS.BUSY,
  .one .ro CAL_STATUS.FAILED,
  .one .ro CAL_STATUS.DONE]
def rows : List Row := .one .ro (Hdr.PAGE_CAPS 23) :: Hdr.rows 23 ++ rows0

end Reg.SELFTEST

/-- The field table of the page in a slot; slots 24 to 31 are reserved (R59). -/
def pageRows (p : Nat) : List Row :=
  match p with
  | 0 => Reg.HUB.rows
  | 1 => Reg.GUARD.rows
  | 2 => Reg.PORT.rows
  | 3 => Reg.WHEEL.rows
  | 4 => Reg.CAMS.rows
  | 5 => Reg.WHISTLE.rows
  | 6 => Reg.RUNCTL.rows
  | 7 => Reg.BREAK.rows
  | 8 => Reg.CUT.rows
  | 9 => Reg.HOPPER.rows
  | 10 => Reg.MASTER.rows
  | 11 => Reg.FLOW.rows
  | 12 => Reg.CMDTR.rows
  | 13 => Reg.FUNNEL.rows
  | 14 => Reg.SCORE.rows
  | 15 => Reg.TWATCH.rows
  | 16 => Reg.HANG.rows
  | 17 => Reg.MILLRACE.rows
  | 18 => Reg.TEAM.rows
  | 19 => Reg.POWER.rows
  | 20 => Reg.CRASH.rows
  | 21 => Reg.UNITWIN.rows
  | 22 => Reg.DATAWIN.rows
  | 23 => Reg.SELFTEST.rows
  | _ => []

/-- The fields of the register at hub offset `o` (base view), with their access codes. -/
def fieldsAt (o : Nat) : List (Acc × Fld) := (pageRows (o / 0x4000)).filterMap (·.at? o)

end Sys2Proof
end

