-- ==== Sys2Proof/Config.lean ====
section
/-! DEFINITION. What the Folevo F3 configuration fixes (R1) and the free values: constants without a body for the
values the spec leaves open. -/

namespace Sys2Proof

/-- Agents observed (R1, HUB.AGENT_COUNT). -/
def Config.agentCount : Nat := 9268

/-- The first unused agent ID (Table 1-2): IDs 0 to 0x2433 are assigned without a gap. -/
def Config.firstUnusedAgent : Nat := 0x2434

/-- Engines per Hopper (PAGE_CAPS.ENGINES). -/
def Config.hopperEngines : Nat := 16

/-- The free value (assumption log): nothing says what it is. `Config.freeWord n` is the n-th value that the block
takes where the spec leaves a value open; `n` is the counter `State.freeCount`. -/
opaque Config.freeWord : Nat → BitVec 32

/-- A core that runs and of which no command tells is in a locked sequence or not: no rule says which (assumption log).
`Config.lockedSeq a fc` is what HALT_STATUS shows of agent `a` then. -/
opaque Config.lockedSeq : Nat → Nat → Bool

end Sys2Proof
end

