-- ==== Sys2Proof/Machine/StateAgent.lean ====
section
/-! DEFINITION. The state of one Unit Debug Agent (chapter 1, the agent contract). Every field's default is its value
after reset; an agent that the state does not list is at reset. -/

namespace Sys2Proof.Machine

/-- A wait in force (R40): its kind (stall code 1 to 5), link (0 for a wait that is on none), peer (R42), length in
own-clock cycles, whether its edge is recorded, and whether it stands because the receiver holds the link (R169). -/
structure Wait where
  kind : Nat
  link : Nat
  peer : Nat
  len : Nat
  recorded : Bool
  hold : Bool
deriving DecidableEq, Repr

/-- The beginning or end of a hold as the sender sees it (R169): the fc, its output link, and whether it begins. -/
structure HoldEdge where
  fc : Nat
  link : Nat
  on : Bool
deriving DecidableEq, Repr

/-- A scratchpad write that waits (R44, R45): address, bytes, masked, the fc from which its copies are complete (none while it
waits for a preserve slot or for the writes before it), and whether its stall for a slot has been counted. -/
structure WaitingWrite where
  addr : Nat
  data : List Byte
  masked : Bool
  due : Option Nat
  stalled : Bool
deriving DecidableEq, Repr

/-- A blocked edge held by an agent (R41, Table 1-20); `notch` is the count of notch boundaries since hub reset at
the recording, from which AGE is computed. -/
structure Edge where
  peer : Nat
  link : Nat
  kind : Nat
  notch : Int
deriving DecidableEq, Repr

/-- The shadow latch's capture (R33, R36): header values at capture, body bytes from byte 32 on, occupancies, credits
and skid contents of the channel capture (R186). -/
structure Shadow where
  ctx : Nat
  status : Nat
  occ : List Nat
  credits : List Nat
  body : List Byte
  queues : List (List Token)
  skids : List (List Token)
  /-- The channel capture is made (R186, R236). -/
  channels : Bool
  /-- fc of the capture (R238). -/
  fc : Nat
  /-- A_AON0 to 3 and A_PCNT0 to 1 at the capture (R448). -/
  counts : List Nat
  /-- Queues that a ninth skid token has entered since the last channel capture (R31, R176). -/
  ninth : List Nat
deriving DecidableEq, Repr

/-- An arm request an agent has accepted for the next capture: the granule range, dirty granules only, whether a Memory Unit's
dirty marks are cleared at the capture (R245, R317), the context to match, and whether a gateway latches its dirty list and
clears it (R252, R317). -/
structure ArmReq where
  first : Nat
  last : Nat
  dirtyOnly : Bool
  clear : Bool
  ctx : Option Nat
  pages : Bool
  clearPages : Bool
deriving DecidableEq, Repr

/-- What a trace source sends: an entry, or a tally mark that carries the count G (R421). -/
structure TItem where
  src : Nat
  bits : BitVec 128
  mark : Option Nat
deriving DecidableEq, Repr

/-- The flow encoder of a CU or CP (chapter 9); on a command engine only `gen` and `waiting` are used. -/
structure Encoder where
  /-- 0 OFF, 1 ON, 2 HELD, 3 SLEEP. -/
  state : Nat := 0
  /-- The literal buffer's outcomes, oldest first (R359). -/
  lits : List Bool := []
  /-- The run counter RUN of taken outcomes, in run mode (R359, R360). -/
  run : Option Nat := none
  /-- Entries waiting for the drain ring, oldest first, at most 4 (R366, R367). -/
  waiting : List TItem := []
  /-- Entries dropped with 4 waiting and not yet reported (R367). -/
  dropping : List (BitVec 128) := []
  /-- Entries produced since the last SYNC (R363). -/
  sinceSync : Nat := 0
  /-- Pending SYNC reasons (R363). -/
  reasons : List Nat := []
  /-- Entries generated (G of R422). -/
  gen : Nat := 0
  /-- The trigger gate, open after reset (R375), and the KIND of a TRIGGER entry that its change still owes (Table 9-3);
  0 none. -/
  gate : Bool := true
  gateNews : Nat := 0
  /-- The command the sequencer executes: engine index and sequence number (R365). -/
  cmd : Option (Nat × Nat) := none
deriving DecidableEq, Repr

/-- What a tap has reduced (Table 12-2): counts, extremes as keys of R460 (none without a non-NaN element), exact sums in
units of 2^-149 and 2^-298, the sum of the magnitudes and a common divisor by which R458's precision is judged, infinities
and NaN seen by the sums, histogram, digests and flags. -/
structure TapStats where
  count : Nat := 0
  nan : Nat := 0
  inf : Nat := 0
  zero : Nat := 0
  masked : Nat := 0
  minKey : Option Int := none
  maxKey : Option Int := none
  sum : Int := 0
  sumAbs : Nat := 0
  sumGcd : Nat := 0
  sq : Nat := 0
  sqGcd : Nat := 0
  bins : Sparse Nat := []
  digestA : Nat := 0
  digestB : Nat := 0
  overflow : Bool := false
  sat : Bool := false
deriving DecidableEq, Repr

/-- A tap result (R463): agent and slot, cause (0 COMMAND, 1 REVOLUTION, 2 MANUAL, 3 CONFIG), tags, sequence number,
format, statistics, SUM and SUMSQ as rounded, flags, merges. -/
structure TapResult where
  agent : Nat
  slot : Nat
  cause : Nat
  tag : Nat
  firstTag : Nat
  seq : Nat
  fmt : Nat
  stats : TapStats
  sumWord : Nat
  sqWord : Nat
  restored : Bool
  badFormat : Bool
  merges : Nat
deriving DecidableEq, Repr

/-- The configuration the hub last pushed to a tap (R453). -/
structure TapConfig where
  enable : Bool := false
  close : Nat := 0
  range : Nat := 0
  fmt : Nat := 0
  bits : Nat := 12
  histLow : Nat := 0xF0
deriving DecidableEq, Repr

/-- What a tap goes by in an fc: A_TAP_CTRL, A_TAP_FMT and the pushed configuration. -/
structure TapView where
  enable : Bool
  maskEn : Bool
  port : Nat
  slot : Nat
  fmt : Nat
  conf : TapConfig
deriving DecidableEq, Repr

/-- The tensor statistics tap of an MU (chapter 12): pushed configuration, open interval, the beats of the last fc that had one,
which a close of that fc leaves to the new interval (R462), what the tap went by at the start of the fc of its last new
configuration (R454, R470), the interval and the owed RESTORED that the shadow load of an fc found (R470), held results oldest
first, intervals closed since it was enabled, sequence number of the command in progress, close requests on their way (cause 1 or
2, tag), RESTORED owed to the next result (R467), and the fc of the last close (R470). -/
structure Tap where
  conf : TapConfig := {}
  stats : TapStats := {}
  fresh : Option (Nat × TapStats) := none
  was : Option (Nat × TapView) := none
  loaded : Option (Nat × TapStats × Bool) := none
  held : List TapResult := []
  seq : Nat := 0
  cmd : Nat := 0
  reqs : List (Nat × Nat) := []
  restored : Bool := false
  closeFc : Option Nat := none
deriving DecidableEq, Repr

/-- One agent. -/
structure Agent where
  /-- RW fields of the agent page and the words the type-specific registers hold, by field key. -/
  regs : Sparse Nat := []
  /-- Context ID, the one held at the start of the fc of the last switch, that fc, and the own-clock cycle of that fc until
  it is counted (R27). -/
  ctx : Nat := 0
  ctxOld : Nat := 0
  ctxFc : Nat := 0
  ctxCycle : Option Nat := none
  /-- The Whistle: every command driven before this fc is performed or passed over; and the arrival offset of R47 (0: fc 7,
  1: fc 8) once a performed command has shown it. -/
  heard : Nat := 0
  offset : Option Nat := none
  /-- Holds of its receivers that it is about to see, by fc (R169). -/
  sched : List HoldEdge := []
  /-- The command engine that last dispatched a command to it (R42). -/
  dispatcher : Option Nat := none
  /-- Unit state behind the stall code (R26). -/
  asleep : Bool := true
  frozen : Bool := false
  byStop : Bool := false
  halted : Bool := false
  faulted : Bool := false
  /-- The step flag (R49). -/
  stepFlag : Bool := false
  /-- The unit has executed since its reset (R57), and the page offsets of unit registers whose kept values the unit holds
  still: loaded by a restore, set at a halt or written while halted. -/
  executed : Bool := false
  known : List Nat := []
  /-- Reported code, the one before it, and cycles in it (Table 1-13). -/
  code : Nat := 8
  prev : Nat := 8
  dur : Nat := 0
  /-- The own-clock cycle up to which the counts below are brought up to date. -/
  settled : Nat := 0
  /-- Always-on counters (R39). -/
  aon0 : Nat := 0
  aon1 : Nat := 0
  aon2 : Nat := 0
  aon3 : Nat := 0
  waits : List Wait := []
  edges : List Edge := []
  edgeOvf : Bool := false
  /-- Input queues, skid buffers (oldest token first) and credits by queue or link; an unlisted link holds its reset
  credits (R17, R19). -/
  queues : Sparse (List Token) := []
  skids : Sparse (List Token) := []
  credits : Sparse Nat := []
  skidHigh : Nat := 0
  /-- Queues that a ninth skid token has entered and no channel capture has noted (R31). -/
  skidOver : List Nat := []
  shadow : Option Shadow := none
  /-- Shadow body of the unit as it froze (Table 6-8). -/
  unitBody : List Byte := []
  /-- Accumulator tiles that a restore loaded, until the unit executes (R267). -/
  tiles : List TileData := []
  /-- Snap tokens held in queue slots until drained, by queue (R247). -/
  heldTokens : Sparse (List Token) := []
  /-- Faults set in this fc: bit, detail, context (R56, R96), and that fc. -/
  faultNow : List (Nat × Nat × Nat) := []
  faultFc : Nat := 0
  /-- A_FAULT as it stood before the faults of fc `faultFc`, less what has been cleared since. -/
  faultWas : Nat := 0
  /-- Trigger sequencer: state, transitions, lost events, latches of conditions 2 and 3 (R370 to R372). -/
  trig : Nat := 0
  trans : Nat := 0
  evtLost : Nat := 0
  /-- The fc of the last TRIG_RESET, and the program before the last write of A_TRIG_PROG with its fc (R376). -/
  trigResetFc : Option Nat := none
  progOld : Option (Nat × Nat) := none
  ovfLatch : Bool := false
  armLatch : Bool := false
  /-- The fc of the last match of comparators 0 and 1 (R371). -/
  cmp0Fc : Option Nat := none
  cmp1Fc : Option Nat := none
  /-- A_PCNT0/1 carried out of bit 31 and the carry is not yet acted on (R371). -/
  carry0 : Bool := false
  carry1 : Bool := false
  /-- Increments of A_PCNT0/1 in the current fc (R96). -/
  pcntFc : Nat := 0
  pcntInc0 : Nat := 0
  pcntInc1 : Nat := 0
  /-- Halt mode: pending causes, causes at the last halt, reservation and locked sequence, deferral cycles left,
  comparator halts suppressed for the next instruction (R201), stepping, executing a feed; and the address at which a
  comparator of KIND 0 has stopped the core before the instruction there (R197). -/
  haltAt : Option Nat := none
  haltPend : List Nat := []
  haltCauses : List Nat := []
  resCleared : Bool := false
  atHalt : Nat := 0
  reserved : Bool := false
  locked : Bool := false
  deferLeft : Option Nat := none
  suppress : Bool := false
  stepping : Bool := false
  executing : Bool := false
  /-- MU: dirty granules, protected and undrained granules, preserved granules with their old valid mask and bytes (R235),
  scratchpad cells
  and their valid bits, granules waiting for a preserve slot, stalls in this cut. -/
  dirty : List Nat := []
  protectedG : List Nat := []
  preserved : List (Nat × Nat × List Byte) := []
  cells : Sparse Byte := []
  cowArmed : Bool := false
  armReq : Option ArmReq := none
  /-- Dirty granules and pages latched and cleared for the cut in progress (R245, R317). -/
  latchedG : List Nat := []
  latchedP : List Nat := []
  cowStalls : Nat := 0
  /-- Writes that wait for their copies or for a preserve slot (R44, R45), oldest first. -/
  waitingWrites : List WaitingWrite := []
  /-- Valid bits, one per 8 bytes of scratchpad (R257). -/
  valid : Sparse Bool := []
  /-- Gateway: dirty pages of the carried regions, by page number. -/
  dirtyPages : List Nat := []
  /-- Unit watchdog: the wait count of R471 and whether it has alarmed (R472); and the notch boundaries passed when the
  hold in force began (R477, R488). -/
  wdCount : Nat := 0
  heldNotch : Option Nat := none
  alarmed : Bool := false
  /-- Switch records of the always-on counters, oldest first: context, busy, stall, corrected, uncorrected (R432), and
  the counts at the last record. -/
  switches : List (Nat × List Nat) := []
  switchBase : List Nat := [0, 0, 0, 0]
  enc : Encoder := {}
  tap : Tap := {}
deriving DecidableEq, Repr

end Sys2Proof.Machine
end

