-- ==== Sys2Proof/Machine/StateHub.lean ====
section
/-! DEFINITION. The state of the hub's blocks that no register field holds: windows, sequencers, queues and
arbiters. Every field's default is its value after reset. -/

namespace Sys2Proof.Machine

/-! ### Register bank and windows (chapter 2) -/

/-- What an access does, as the bank serves it. -/
inductive AccKind where
  | read
  | peek
  | write (data : Word)
  | rmw (view : View) (data : Word)
deriving DecidableEq, Repr

/-- An access presented to the register bank. -/
structure Access where
  src : Src
  off : Nat
  kind : AccKind
  /-- Whose access it is: 0 of its own, 1 a request frame of the BSL, 2 a REGACC of the TAP, 3 a BSL request that
  a link loss has discarded. -/
  via : Nat := 0
deriving DecidableEq, Repr

/-- The answer to an access: bus error or OK with the data read. -/
structure Resp where
  src : Src
  err : Bool
  data : Word
  /-- The access was a WIN_DATA read that set RANGE (R539). -/
  range : Bool := false
deriving DecidableEq, Repr

/-- A DATAWIN instance (R106, R109, R231, R232): words ready with their UE flag, the memory blocks asked for since the last
flush, the blocks that have come, with their UE flag, by block number, and the writes whose block write has not been issued,
oldest first. -/
structure DataWin where
  ready : List (Word × Bool) := []
  asked : List Nat := []
  blocks : Sparse (List Byte × Bool) := []
  writes : List (Nat × Word) := []
deriving DecidableEq, Repr

/-- The register bank (R65, R76, R77): read latches and write stages by source, the access in progress at a window with its
fc, accesses not yet served, the path served last, the last answers, the fc of the last access performed, the registers whose
parity bit differs, the interrupt routes, the pages that owe EVENT.IDLE_ENTRY, and the fc in which software last wrote 1 to a
self-clearing bit, by field (R96). -/
structure Bank where
  latch : Sparse (Nat × Word) := []
  stage : Sparse (Nat × Word) := []
  busy : Option Access := none
  busyFc : Nat := 0
  held : List Access := []
  lastPath : Nat := 2
  doneFc : Option Nat := none
  resps : List Resp := []
  parityBad : List Nat := []
  irqRoutes : Sparse Nat := []
  draining : List Nat := []
  issued : Sparse Nat := []
  dw0 : DataWin := {}
  dw1 : DataWin := {}
deriving DecidableEq, Repr

/-! ### The Wheel and the Cams (chapter 3) -/

/-- The Wheel: revolution count, fc within the revolution, its length L, revolutions completed since reset, the
spread of a late mark (d, S_d), the setting in effect (R117), whether the Wheel itself made the last boundary and
whether a mark has been accepted for it, the last accepted mark and whether no mark was missed since, the measured P
(R125), a revolution count waiting for the next boundary (R153), marks on their way from the pin (R119), a running
calibration (R131), and the previous revolution's count and last position (R140). -/
structure Wheel where
  rev : Nat := 0
  k : Nat := 0
  len : Nat := 60000
  turns : Nat := 0
  spread : Option (Nat × Nat) := none
  sel : Nat := 0
  period : Nat := 60000
  selfMade : Bool := false
  marked : Bool := false
  lastMark : Option Nat := none
  consecutive : Bool := false
  measured : Option Nat := none
  nextRev : Option (Nat × Option Nat) := none
  pinMarks : List Nat := []
  calRunning : Bool := false
  prevRev : Nat := 0
  prevPos : Nat := 65535
  /-- Position in the fc before this one (R138). -/
  lastSub : Nat := 0
  /-- Revolutions completed when the last ring-delay calibration started (R130). -/
  calTurn : Nat := 0
  /-- fc of the first fc of the current revolution: WHEEL_SYNC_OUT is high for 64 fc from it (R128). -/
  startFc : Nat := 0
  /-- The fc in which the last boundary was made. -/
  madeFc : Option Nat := none
  /-- A change of the Wheel's clock that the next notch boundary brings: to AON_CLK or back to FAB_CLK (R575). -/
  clockNext : Option Bool := none
deriving DecidableEq, Repr

/-- A deferred Cam action (R147): the regions still awaited, and ACTION and ARG as they stood at the firing. -/
structure Deferred where
  cam : Nat
  awaited : Nat
  act : Nat
  arg : Nat
deriving DecidableEq, Repr

/-- A Cam action issued in W3 or W4, which waits for W0 (R584): the Cam, the regions withheld, ACTION and ARG. -/
structure CamWait where
  cam : Nat
  withheld : Nat
  act : Nat
  arg : Nat
deriving DecidableEq, Repr

/-- A hub arm pulse on its way (R372): region mask, fc of the firing, and the agents it has reached. -/
structure ArmPulse where
  mask : Nat
  fc : Nat
  reached : List Nat
deriving DecidableEq, Repr

/-- The Cams: those that fired in the current and in the previous revolution, the deferred actions, and the actions that
wait for W0. -/
structure Cams where
  fired : List Nat := []
  firedPrev : List Nat := []
  deferred : List Deferred := []
  w0 : List CamWait := []
  /-- Arm pulses on their way (R372). -/
  pulses : List ArmPulse := []
deriving DecidableEq, Repr

/-! ### The Whistle (chapter 4) -/

/-- A Whistle request (R157): command code of WHISTLE.CMD, CAUSE source and detail, argument (region mask or context ID),
and branches withheld (R160). -/
structure WReq where
  code : Nat
  source : Nat
  detail : Nat
  arg : Nat
  withheld : Nat
deriving DecidableEq, Repr

/-- A command driven on the Whistle tree: wire, qualifier, branches and fc. -/
structure TreeCmd where
  wire : Nat
  mode : Nat
  field : Nat
  branches : Nat
  fc : Nat
deriving DecidableEq, Repr

/-- A freeze wave that awaits its acknowledge check (R163, R164): the command driven, and the fc in which the first and the
last agent performed it. -/
structure AckWave where
  cmd : TreeCmd
  first : Option Nat
  last : Option Nat
deriving DecidableEq, Repr

/-- The arbiter: branch set of the frozen set (bit 16 the CP branch), last drive, the commands driven in the last 64 fc, oldest
first (R47), held requests, the freeze wave in progress (trigger fc, and whether it is a snap), the waves awaiting their
acknowledge check, the resume wave, the step's own STOP and the snap's RESUME when due. -/
structure Whistle where
  branches : Nat := 0
  last : Option TreeCmd := none
  tree : List TreeCmd := []
  held : List WReq := []
  /-- The fc in which a request was last held, and how many were held in it (R189). -/
  heldFc : Nat × Nat := (0, 0)
  /-- The fc in which CAUSE was last written (R157). -/
  causeFc : Option Nat := none
  /-- The fc in which agents set A_FAULT.PROTOCOL, until the acknowledge path has brought it to the hub (R163). -/
  protocol : List Nat := []
  freezeFc : Option Nat := none
  isSnap : Bool := false
  isStepEnd : Bool := false
  /-- The resume wave in progress ends a snap (R478). -/
  fromSnap : Bool := false
  acks : List AckWave := []
  resumeFc : Option Nat := none
  stepDue : Option TreeCmd := none
  snapDue : Option Nat := none
  /-- The held request taken last, with its outcome and fc (R189); whether STATE was RUNNING then, and the Wheel position as the
  Cut Record's header lays it out. -/
  resolved : Option (WReq × Nat × Nat) := none
  resolvedRun : Bool := false
  resolvedPos : Nat := 0
deriving DecidableEq, Repr

/-! ### Run control and breaks (chapter 5) -/

/-- A run-control command sent to a target (R215): its code, the target, and its number among the HALT_CMD writes. -/
structure RunCmd where
  code : Nat
  target : Nat
  num : Nat
deriving DecidableEq, Repr

/-- A feed in flight (R206, R211): the target, the fc of its start, and the instruction word sent. -/
structure FeedJob where
  target : Nat
  fc : Nat
  instr : Word
deriving DecidableEq, Repr

/-- RUNCTL: the HALT_CMD writes performed, of which RESULT shows the newest, the commands on their way to their targets,
oldest first (R217, R626), the halts and steps that have arrived and whose outcome is awaited (R215), the feeds in flight, the
targets whose feed still executes after its timeout (R211), the target that FEED_STATUS describes, and FEED_STATUS as it
stands for other targets (R217). -/
structure RunCtl where
  sent : Nat := 0
  cmds : List RunCmd := []
  waits : List RunCmd := []
  feeds : List FeedJob := []
  lateFeeds : List Nat := []
  shown : Nat := 0x2430
  status : Sparse Nat := []
deriving DecidableEq, Repr

/-- An event on an event bus (R52, R219): raising agent, code, context held, and fc of raising. -/
structure BusEvent where
  agent : Nat
  code : Nat
  ctx : Nat
  fc : Nat
deriving DecidableEq, Repr

/-- A slot's latches (R222, R627): the fc in which the A-latch was set and the fc from which its window runs; the fc from which
the B-latch's window runs. -/
structure Latches where
  a : Option (Nat × Nat) := none
  b : Option Nat := none
deriving DecidableEq, Repr

/-- The linked-condition logic: the events waiting on each half's bus, the latches, and the actions to issue with the
fc of the hit and the agent that completed it (R224). -/
structure Break where
  /-- The fc in which each half's bus last delivered an event (R219). -/
  northFc : Option Nat := none
  southFc : Option Nat := none
  north : List BusEvent := []
  south : List BusEvent := []
  latches : Sparse Latches := []
  actions : List (Nat × Nat × Nat) := []
deriving DecidableEq, Repr

/-! ### The Cut engine, the memory master and the crash store (chapter 6) -/

/-- An agent's item of AGENT_STATE as drained: agent, shadow, live tiles in ascending index (R256). -/
structure ShadowItem where
  agent : Nat
  shadow : Shadow
  tiles : List TileData
deriving DecidableEq, Repr

/-- An end of links at a cut point (R173): the agent, its occupancies, skid counts and credits, and the queues that a ninth skid
token has entered (R31). -/
structure LinkEnd where
  agent : Nat
  occ : List Nat
  skid : List Nat
  credits : List Nat
  ninth : List Nat
deriving DecidableEq, Repr

/-- A granule as drained: agent, index, preserved copy, valid mask, bytes (R256, R257). -/
structure GranuleItem where
  agent : Nat
  index : Nat
  preserved : Bool
  valid : Nat
  data : List Byte
deriving DecidableEq, Repr

/-- A memory page as read: page number (address / 4,096), LATE, UE, from a dirty list, and its bytes. -/
structure PageItem where
  page : Nat
  late : Bool
  ue : Bool
  dirty : Bool
  data : List Byte
deriving DecidableEq, Repr

/-- A write that waits for a guarded page (R253, R318): the page, the agent that writes it (none: the memory master), the
gateway that guards it, and for a request of the memory master that is still to be issued its requester. -/
structure PageWait where
  page : Nat
  writer : Option Nat
  gw : Nat
  who : Option Requester := none
deriving DecidableEq, Repr

/-- What a dump set selects (Table 6-4), or the Millrace set (R316): `types` and `sections` are numbered from bit 0 for
type or section 1. -/
structure CutSel where
  mask : Nat
  cps : Bool
  types : Nat
  muFirst : Nat
  muLast : Nat
  dirtyOnly : Bool
  accum : Bool
  ctx : Option Nat
  sections : Nat
  coded : Bool
  plane : Nat
  memDirty : Bool
  memBase : Nat
  memLen : Nat
deriving DecidableEq, Repr

/-- The cut in progress. `code` is the CUT.CMD code (Table 6-2), 9 for a Millrace cut; `kind` 0 undecided, 1 snap,
2 held, 3 frozen; `reqSource`, `reqDetail` are the Whistle source and detail of the requester. -/
structure CutJob where
  code : Nat
  set : Nat
  sel : CutSel
  reqSource : Nat
  reqDetail : Nat
  withheld : Nat := 0
  dest : Nat := 0
  limit : Nat := 0
  toPort : Bool := false
  resumeAfter : Bool := false
  kind : Nat := 0
  id : Nat := 0
  /-- A Millrace BASE cut (R314). -/
  base : Bool := false
  /-- The fc of acceptance and the rank of the request (R243): 0 Millrace, 1 + n Cam n, 100 a CMD write. -/
  startFc : Nat := 0
  rank : Nat := 100
  /-- A SNAP of the cut met a held shadow (R35). -/
  overrun : Bool := false
  /-- The Whistle request that waits for its fc or for FROZEN. -/
  waitReq : Option WReq := none
  /-- The engine's own stop left RUNNING, and no other RESUME has followed (R242). -/
  ownStop : Bool := false
  /-- Everything is drained; and a frozen cut's fabric left FROZEN before it was (R244). -/
  drained : Bool := false
  lost : Bool := false
  /-- Selected agents that the engine's stop left running are omitted (R240). -/
  omitted : Bool := false
  trigFc : Nat := 0
  trigPos : Nat := 0
  cause : Nat := 0
  /-- Region totals and hub counters at the trigger fc (R448). -/
  totals : List Nat := []
  counters : List Nat := []
  frozenFc : Option Nat := none
  /-- fc of the capture requests (R237). -/
  capFc : Option Nat := none
  ue : Bool := false
  captured : List Nat := []
  /-- The ends of the other agents that were frozen or snapped at the cut point (R258). -/
  others : List LinkEnd := []
  /-- Blocks of the even and of the odd numbers that Hopper engines have taken for the cut (R277). -/
  takenN : Nat := 0
  takenS : Nat := 0
  /-- Agents whose live tiles are still to be drained, and by segment the agent whose preserved granule was drained last
  (R248). -/
  tileDue : List Nat := []
  turn : Sparse Nat := []
  items : List ShadowItem := []
  granules : List GranuleItem := []
  /-- MUs whose copy-on-write was used (Table 6-7). -/
  cow : List Nat := []
  /-- The pages to read, once known. -/
  pageList : Option (List Nat) := none
  memStarted : Bool := false
  pages : List PageItem := []
  pageFirst : List Nat := []
  late : List Nat := []
  waits : List PageWait := []
  /-- Trace marks sent and not yet checked, identities checked, and those that fail: source and G − (A + D) (R422). -/
  marks : Nat := 0
  traceChecked : Nat := 0
  traceBad : List (Nat × Int) := []
  /-- The counter and Millrace identities at the cut point (R333, R447): counters checked, those that fail with the difference,
  the four terms of Table 8-6 and the difference of their identity. -/
  cntChecked : Nat := 0
  cntBad : List (Nat × Int) := []
  mill : List Nat := []
  millBad : Int := 0
deriving DecidableEq, Repr

/-- The Cut engine: the job, the agents whose undrained shadows it holds (R188), the trigger fc of a snap whose cut ended before
its capture was complete (R264), cuts started since PORST_N, and the last record or stream as produced. -/
structure Cut where
  job : Option CutJob := none
  shadows : List Nat := []
  abandoned : Option Nat := none
  count : Nat := 0
  record : List Byte := []
  /-- Staging words written through DATAWIN since the cut began, by word index (R109). -/
  staged : Sparse Nat := []
deriving DecidableEq, Repr

/-! ### The Hopper page job (chapter 7) -/

/-- A page job (R293): latched registers, headers walked with the source offset reached, originals and outputs by block
index, and the fc in which COMMIT was entered. -/
structure HopJob where
  decompress : Bool
  src : Nat
  len : Nat
  dst : Nat
  limit : Nat
  noZrun : Bool
  checkOnly : Bool
  maxw : Nat
  rawFallback : Bool
  plane : Nat
  ratio : Nat
  startFc : Nat
  hdrs : List BlockHdr := []
  offset : Nat := 0
  origs : Sparse (List Byte) := []
  outs : Sparse (List Byte) := []
  raws : Nat := 0
  commitFc : Option Nat := none
  /-- Blocks that engines have taken, in source order (R277). -/
  taken : Nat := 0
deriving DecidableEq, Repr

/-- A busy Hopper engine (R275 to R277): its Hopper, for whom it works (0 Millrace, 1 the Cut engine, 2 the page job), the block,
and the fc from which the block can be finished. -/
structure EngineUse where
  hopper : Nat
  who : Nat
  idx : Nat
  due : Nat
deriving DecidableEq, Repr

/-- The Hoppers: the busy engines, and by half the blocks started since the page job last received one while it waited (R277); the
HOPPER page: the job in flight, and DST and the output of the last job that ended (R304). -/
structure Hopper where
  busy : List EngineUse := []
  sincePage : Sparse Nat := []
  job : Option HopJob := none
  dst : Nat := 0
  out : List Byte := []
deriving DecidableEq, Repr

/-! ### Millrace (chapter 8) -/

/-- Frames on their way to one applied cut (R334 to R337): first member ID, chain flags, decoded pieces in order, and the
ring offset of each frame. -/
structure ApplyCut where
  member : Nat
  base : Bool
  streamed : Bool
  chain : Nat
  pieces : List (List Byte) := []
  offs : List Nat := []
  lasted : Bool := false
  /-- Ring offset past the newest frame. -/
  tailEnd : Nat := 0
deriving DecidableEq, Repr

/-- Millrace. SOURCE: a pending request, frames committed since enabled, chain index of the last committed cut, whether the
next cut is BASE (R314, R315, R321), frames and ring bytes of the cut in progress, STREAMED, the notch since which the ring
has had no room (R331), an ABANDONED frame still to write, the frames in the ring (offset, length with padding), and the
last Millrace cut's revolution. APPLY: the last accepted sequence number (none: wait for FIRST and
BASE, R335), the highest checked, the cut being received, the reload image (AGENT_STATE and CHANNEL bodies), the
revolution of the newest applied cut point, where the next frame is checked while TAIL is held (R338), where a frame was found
whose bytes are not complete, and a restore in progress (LOAD_ONLY, its HEAD, the fc in which its reload began). -/
structure Millrace where
  pending : Bool := false
  seq : Nat := 0
  chain : Nat := 0
  nextBase : Bool := false
  frames : Nat := 0
  cutBytes : Nat := 0
  streamed : Bool := false
  fullSince : Option Nat := none
  owed : Bool := false
  owedChain : Nat := 0
  ring : List (Nat × Nat) := []
  lastSeq : Option Nat := none
  highSeq : Nat := 0
  /-- Frames discarded since then whose sequence number is not known (Table 8-6). -/
  badFrames : Nat := 0
  cut : Option ApplyCut := none
  imageState : List Byte := []
  imageChan : List Byte := []
  imageFc : Nat := 0
  appliedRev : Option Nat := none
  nextPos : Option Nat := none
  shortAt : Option Nat := none
  restore : Option (Bool × Nat × Nat) := none
  /-- fc in which the restore entered WAITING, with the revolutions completed then. -/
  waitTurn : Option Nat := none
  /-- A UE was found in the reload image (R604). -/
  imageUe : Bool := false
deriving DecidableEq, Repr

/-- An outstanding request of the memory master (R260, chapter 15): port, tag, request and fc of issue. -/
structure MmOut where
  port : Nat
  tag : Nat
  req : MmRequest
  fc : Nat
deriving DecidableEq, Repr

/-- The memory master: outstanding requests, the Governor window's start, the allowances latched for it, the blocks
used at each gateway and in total (R259), blocks issued since each waiting requester was last served (R260), the
last fc that counted as throttled (R261), and whether the trace spill was served last in its shared place (R411). -/
structure Master where
  out : List MmOut := []
  winFc : Nat := 0
  share : Nat := 30
  ceiling : Nat := 256
  used : Sparse Nat := []
  total : Nat := 0
  since : Sparse Nat := []
  throttledFc : Option Nat := none
  spillLast : Bool := false
  /-- Blocks the master last wrote, newest first, as issued on its ports. -/
  lastWrite : Option (Nat × List Byte) := none
  /-- The block that the newest read response brought. -/
  lastRead : List Byte := []
deriving DecidableEq, Repr

/-- A crash record (Table 6-15), structured: cause, header data, syndromes, region totals, command records, edges, and
the status words of the agents that differed from reset (`resetStatus` and `resetSouth` hold for the others of each half). `after` is what follows
the capture: 0 nothing, 1 RESUME. -/
structure CrashRec where
  kind : Nat
  action : Nat
  detail : Nat
  pos : Nat
  cycle : Nat
  ctx : Nat
  ctxOnly : Bool
  after : Nat
  ownStop : Bool
  notFrozen : Bool := false
  member : Nat := 0
  edgesOvf : Bool := false
  syndromes : List (List Byte) := []
  totals : List Nat := []
  records : List (BitVec 128) := []
  edges : List (BitVec 64) := []
  status : Sparse (BitVec 64) := []
  resetStatus : BitVec 64 := 0
  resetSouth : BitVec 64 := 0
deriving DecidableEq, Repr

/-- The crash store (R271): each slot's record while CAPTURING or HELD and after release (R273), the slots that
capture and those HELD, oldest first, fatal errors that wait for power or READY, with the action and
own-stop mark of a Whistle action already taken (R584, R588), the slots of the fatal errors that assert HUB_FAULT_N, none for an error that captured
nothing (R608), and whether a fatal error awaits release (Table 8-9). -/
structure Crash where
  rec0 : Option CrashRec := none
  rec1 : Option CrashRec := none
  capturing : List Nat := []
  order : List Nat := []
  waiting : List (FatalSource × Option (Nat × Bool)) := []
  asserts : List (Option Nat) := []
  hold : Bool := false
  /-- A C3 fault has been raised since reset: HUB_FAULT_N is latched (Table 17-3). -/
  latched : Bool := false
  /-- The interrupts of Table 6-14, each with the context whose agent failed: that of action NONE, and those to the scheduler
  under CAPTURE_CONTEXT_ONLY, until CRASH.RELEASE. -/
  noneIrq : List (Option Nat) := []
  schedIrq : List Nat := []
deriving DecidableEq, Repr

/-! ### Scoreboard (chapter 11) -/

/-- The quantities of R446 that a counter keeps beside its value: W, E and D. -/
structure CntBase where
  w : Nat
  e : Nat
  d : Nat
deriving DecidableEq, Repr

/-- A gather in progress (R439): its counter, the sum so far, the agents that have answered; and the snapshot that
waits for it (R443, R444): tag, STAMPED, RESET and NO_PREV. -/
structure Gather where
  counter : Nat
  sum : Nat
  answered : List Nat
  snap : Bool
  tag : Nat
  stamped : Bool
  reset : Bool
  noPrev : Bool
deriving DecidableEq, Repr

/-- A rollup in progress (R426, R427): boundary revolution count and fc, agents skipped (R430), and the increments taken: region,
context and the four counts. -/
structure Rollup where
  rev : Nat
  fc : Nat
  skipped : Nat
  incs : List (Nat × Nat × List Nat)
deriving DecidableEq, Repr

/-- A command boundary a CMD_RESET counter has still to take (R442): counter, value at the start of the boundary fc,
tag and NO_PREV. -/
structure Boundary where
  counter : Nat
  value : Nat
  tag : Nat
  noPrev : Bool
deriving DecidableEq, Repr

/-- The Scoreboard. `ctxs` are the contexts assigned to entries 0 to 29, `totals` the entries' BUSY, STALL, CERR and
UERR totals, `pend` the assignments that wait, each with its fc (R435), `lastTurn` the revolution last rolled up (revolution 0 begins with reset, not at a boundary), `prev` the
engine's previous command by counter. -/
structure Score where
  ctxs : Sparse Nat := []
  totals : Sparse (List Nat) := []
  pend : List (Nat × Nat × Nat) := []
  lastTurn : Option Nat := some 0
  /-- fc of the last latch point of each half's agents (R430). -/
  latchN : Nat := 0
  latchS : Nat := 0
  rollup : Option Rollup := none
  waiting : Option (Nat × Nat) := none
  /-- Rollup kinds whose identity failed in the newest rollup, with the difference (R434, R447). -/
  bad : List (Nat × Int) := []
  /-- A rollup has completed since reset. -/
  rolled : Bool := false
  gathers : List Gather := []
  due : List Boundary := []
  /-- What the counters have still to count of this fc: hub events with their number, and bus events by agent and code. -/
  events : List (Nat × Nat) := []
  busEvents : List (Nat × Nat) := []
  /-- Counters rebased in this fc, those reset in it, and those whose bank holds a boundary's snapshot of it (Table 11-3). -/
  rebased : List Nat := []
  resets : List Nat := []
  bounded : List Nat := []
  base : Sparse CntBase := []
  prev : Sparse Nat := []
  /-- Snapshot commands whose gathers are not all complete: how many counters still wait (R444). -/
  snapWait : Nat := 0
deriving DecidableEq, Repr

/-! ### Trace (chapters 9 and 10) -/

/-- Dropped entries of a source (R400, R402): count, highest rank, and whether flow trace is among them. -/
structure LostRec where
  count : Nat
  cls : Nat
  flow : Bool
deriving DecidableEq, Repr

/-- An item of a merge buffer: the entry (or mark), its rank (R398), a LOST's record, and whether it is the half's
TRIGGER entry of KIND 0. -/
structure Queued where
  item : TItem
  rank : Nat
  lost : Option LostRec
  trig : Bool
deriving DecidableEq, Repr

/-- One half's funnel and trace buffer. -/
structure FunnelHalf where
  /-- Items on the rings with the fc in which each left its source, oldest first, and those that have arrived in this fc. -/
  inbox : List (Nat × TItem) := []
  arrivals : List TItem := []
  /-- The merge buffer, oldest first. -/
  merge : List Queued := []
  /-- Sources marked lost (R400), the source placed last and the placements of this fc (R401). -/
  lost : Sparse LostRec := []
  lastPlaced : Nat := 0
  placedFc : Nat := 0
  placed : Nat := 0
  /-- Flow sources that are owed a drop notice (R403). -/
  notices : List Nat := []
  /-- Accepted and dropped counts by source (R404). -/
  acc : Sparse Nat := []
  drp : Sparse Nat := []
  /-- Entries the hub's own source generated for this half. -/
  gen : Nat := 0
  /-- Trace buffer entries by index, and the spill FIFO (R407). -/
  buf : Sparse (BitVec 128) := []
  fifo : List (BitVec 128) := []
  /-- Entries written since reset, for TRACE_TAIL (R423). -/
  tail : List (BitVec 128) := []
  wr : Nat := 0
  wrapped : Bool := false
  /-- The entry of the spill area that the spill FIFO writes next (R408). -/
  spillWr : Nat := 0
  /-- Sources whose tally marks are to be checked in this fc (R422). -/
  checks : List Nat := []
  trigPtr : Option Nat := none
  /-- After the TRIGGER entry was written or dropped: entries written since (R413). -/
  post : Option Nat := none
  /-- A stop that waits for the spill FIFO (R414), and a flush before leaving W0 (R417). -/
  stopping : Bool := false
  flushing : Bool := false
  wroteFc : Option Nat := none
deriving DecidableEq, Repr

/-- The funnels, the promoted source, the command history (newest last, R383), and the PC sampler (R385 to R387): fc of
the last due sample, samples due since EN was set, the agent sampled last, the sample whose answer is outstanding with
the position word of its due fc. -/
structure Trace where
  north : FunnelHalf := {}
  south : FunnelHalf := {}
  promoted : Option Nat := none
  /-- The source promoted at the start of the fc (R398). -/
  promotedWas : Option Nat := none
  /-- The triggers of this fc (R412, R424): origin, detail and the source to promote; and the fc of the last STOP_NOW, DISARM or
  MODE write. -/
  trigs : List (Nat × Nat × Option Nat) := []
  cmdFc : Option Nat := none
  /-- By ring segment, the fc of the last two entries that took its slots, newest first (R395). -/
  slots : Sparse (List Nat) := []
  history : List (BitVec 128) := []
  /-- The fc that produced the newest command record, and the engines of that fc's records in the history's order (R379). -/
  histFc : Option Nat := none
  histKs : List Nat := []
  pcsLast : Nat := 0
  pcsSeq : Nat := 0
  pcsAgent : Nat := 0x3FFF
  pcsOut : Option (Nat × Nat × Nat) := none
deriving DecidableEq, Repr

/-! ### Tensor watch (chapter 12) -/

/-- The result that a slot holds (R465): the result, its flag LATE and AGE, the Wheel position and fc of its arrival, and the
result it replaced in that fc (R470). -/
structure SlotResult where
  result : TapResult
  late : Bool
  age : Nat
  pos : Nat
  fc : Nat
deriving DecidableEq, Repr

/-- Tensor watch: the results that the slots hold and held at the start of the fc in which they last changed, the words that
the result window shows, by 16 × bank + word (R466), and the ring segments that still owe a flush acknowledgement (R469),
96 × half + column. -/
structure TWatch where
  held : Sparse SlotResult := []
  before : Sparse SlotResult := []
  window : Sparse Nat := []
  flushing : List Nat := []
  /-- Configurations on their way (R453): slot, agent, configuration. -/
  pushes : List (Nat × Nat × TapConfig) := []
deriving DecidableEq, Repr

/-! ### Watchdogs and hang analysis (chapter 13) -/

/-- The watchdogs: the limit last pushed to the agents and, while the push is on its way, the fc it left and the limit before it
(R473); alarms on their way; the notch boundaries passed when each running command watchdog started; the counts of the revolution
and firmware watchdogs with their due expiries, the revolution's by the fc of its boundary; what the fc in progress settles at its
end (R474 to R476): the expiries taken, by kind and subject, a command END, a kick; a collection that waits for FROZEN, the
collection in progress by its first fc, and the edge buffer (R485). -/
structure Hang where
  limit : Nat := 0
  limitWas : Option (Nat × Nat) := none
  alarms : List Nat := []
  cmdWd : Sparse Nat := []
  revCount : Nat := 0
  revDue : Option Nat := none
  fwCount : Nat := 0
  fwDue : Bool := false
  taken : List (Nat × Nat) := []
  ended : Bool := false
  kicked : Bool := false
  collectDue : Bool := false
  coll : Option Nat := none
  edges : List (BitVec 64) := []
deriving DecidableEq, Repr

/-! ### The team and the Halves (chapter 14) -/

/-- A pending angle command (R515): code, dump set, target revolution [15:0], notch, origin, and the revolution count from
which the target is awaited. -/
structure AngleCmd where
  code : Nat
  set : Nat
  rev : Nat
  notch : Nat
  origin : Nat
deriving DecidableEq, Repr

/-- The team link: own messages sent, sequence numbers acted on by origin (newest last), messages to act on, in order of
arrival with their fc, messages the lanes sent last (0 east, 1 west) with their fc, the pending angle command and the one that reached its
target, heartbeat boundaries by fc (newest last), the fc of the boundary last judged and the miss counts by member, the first
and last fc of the good heartbeats that have arrived since, by member, members that rejoin, rivals for a manager Toss, hop counts, the census due and the
census running, the fc of the last valid message by lane, the outstanding PROBE and the half round trip measured. -/
structure Team where
  seq : Nat := 0
  seen : Sparse (List Nat) := []
  inbox : List (Nat × RingMsg) := []
  tx : List (Nat × RingMsg) := []
  txFc : Nat := 0
  pending : Option AngleCmd := none
  beats : List Nat := []
  lastBeat : Option Nat := none
  judged : Sparse Nat := []
  misses : Sparse Nat := []
  heard : Sparse (Nat × Nat) := []
  rejoin : List Nat := []
  rivals : List Nat := []
  hops : Sparse Nat := []
  censusDue : Bool := false
  census : Option Nat := none
  eastFc : Nat := 0
  westFc : Nat := 0
  probe : Option (Nat × Nat) := none
  rtt : Option Nat := none
  /-- Messages that a silent lane owner would have originated in a Toss (R501): ALL, type, target, payload. -/
  waiting : List (Bool × Nat × Nat × Nat) := []
  /-- A ROLE write that takes effect in the fc after it (R505), and that fc. -/
  roleNext : Option (Nat × Nat) := none
deriving DecidableEq, Repr

/-- The Halves: a Half whose partner it finds silent (R497), the Toss in progress with its cause (1 BOTH_CLAIM, 2 NONE_CLAIM,
3 PARTNER_SILENT), first fc and decision, the Tosses started in the current revolution (R504), and what R503 and R504 latch
until reset. -/
structure Halves where
  silent : Option Nat := none
  toss : Option (Nat × Nat × Bool) := none
  tossTurn : Nat := 0
  tossCount : Nat := 0
  lost : Bool := false
  storm : Bool := false
deriving DecidableEq, Repr

/-! ### Ports (chapter 15) -/

/-- A request frame of the BSL (Table 15-3) in the hub: type (1 READ, 2 WRITE, 3 PEEK, 4 STREAM), TAG, INC, word offset or
DATAWIN instance, words still to do, write data, words read, words done, and whether an access of it is presented. -/
structure BslReq where
  type : Nat
  tag : Nat
  inc : Bool
  word : Nat
  left : Nat
  data : List Word := []
  got : List Word := []
  done : Nat := 0
  asked : Bool := false
deriving DecidableEq, Repr

/-- A frame the hub sends (Table 15-3): TYPE, STATUS, TAG and payload; SEQ is given as it goes out. -/
structure BslFrame where
  type : Nat
  status : Nat
  tag : Nat
  payload : List Word
deriving DecidableEq, Repr

/-- The BSL: sequence numbers expected and next to send, sent frames not acknowledged with their SEQ, oldest first, replays
of the oldest since progress, fc of the last progress, requests, frames ready for a credit, the queued EVENT with its merged
count and flags, the fc of the last EVENT, and the ordered sets and frames last sent (kind 0 ACK, 1 NAK, 2 CRD with their
number; frames by SEQ). -/
structure Bsl where
  rxSeq : Nat := 0
  txSeq : Nat := 0
  unacked : List (Nat × BslFrame) := []
  replays : Nat := 0
  ackFc : Nat := 0
  reqs : List BslReq := []
  out : List BslFrame := []
  event : Option (Nat × Bool × Bool) := none
  eventFc : Option Nat := none
  /-- IRQ_SUMMARY as the EVENT logic last saw it. -/
  irqSeen : Nat := 0
  sets : List (Nat × Nat) := []
  setsFc : Nat := 0
  sent : List (Nat × BslFrame) := []
deriving DecidableEq, Repr

/-- The TAP (Table 15-10): the access outstanding, whether its result is to be discarded (R552), status (0 OK, 1 BUS_ERROR,
2 PENDING, 3 NONE), OVERRUN for the next capture, WORD and DATA of the last access. -/
structure Tap1149 where
  drop : Bool := false
  status : Nat := 3
  overrun : Bool := false
  word : Nat := 0
  data : Nat := 0
  write : Bool := false
deriving DecidableEq, Repr

/-- Debug authentication (R561 to R568): what BUSY does (level being drawn, or response latched), the open challenge (level and
fc of CHALLENGE_READY), consecutive refusals, end of the lockout, and the fuses as loaded at PORST_N. -/
structure Auth where
  drawing : Option Nat := none
  checking : Option (List Word) := none
  challenge : Option (Nat × Nat) := none
  refusals : Nat := 0
  lockout : Option Nat := none
  key : BitVec 256 := 0
  fuseFail : Bool := false
deriving DecidableEq, Repr

/-! ### Power and self-test (chapter 16) -/

/-- The power ladder: wake sources that arose and are not yet taken (codes of Table 16-5), whether one arose in the current
revolution (R578), the fc of the TARGET_STATE write that set a descent in motion (R579), the step
down in progress (target state and first fc), the rise in progress (state left, first fc, state to reach, W2 reached), a step
abandoned or about to be, by fc, state and whether its last fc had come (Table 16-6), and a stay in W3 or W4 that made the staging
SRAM undefined (R575). -/
structure Power where
  wakes : List Nat := []
  arose : Bool := false
  descend : Option Nat := none
  step : Option (Nat × Nat) := none
  rise : Option (Nat × Nat × Nat × Bool) := none
  left : Option (Nat × Nat × Bool) := none
  stagingLost : Bool := false
deriving DecidableEq, Repr

/-- SRAM integrity (R600 to R602): the fc of the error that ECC_LAST holds and its order in that fc, the words in which an error
has been reported in an fc, by SRAM, and the patrol's next word with the fc of its last read, by SRAM. -/
structure Integrity where
  ecc : Option (Nat × Nat) := none
  seen : List (Nat × Nat) := []
  seenFc : Nat := 0
  patrol : Sparse (Nat × Nat) := []
deriving DecidableEq, Repr

/-- Self-test (R591 to R597): the test, the next unit by half while the half runs, that the test ends when its units are
zeroed with this outcome, whether a unit has failed, the fc in which each half's unit was taken out of service, and the halves
that have taken a hub-level trace trigger since the test started (R594). -/
structure SelfTest where
  test : Nat := 0
  north : Option Nat := none
  south : Option Nat := none
  ending : Option Nat := none
  failed : Bool := false
  northFc : Nat := 0
  southFc : Nat := 0
  trigs : List Nat := []
deriving DecidableEq, Repr

end Sys2Proof.Machine
end

