-- ==== Sys2Proof/Machine/State.lean ====
section
/-! DEFINITION. The state of the hub, why a step can stop, and the state after reset. -/

namespace Sys2Proof.Machine

/-- Why a step faults. The block has no command whose effect the spec calls undefined, so no fault exists: the type is
empty. -/
inductive Fault where
deriving DecidableEq, Repr

/-- Why a command is refused. -/
inductive Refusal where
  /-- Raised by an arm of `exec` whose meaning is not written. Safe. -/
  | notModelled (mnemonic : String)
  /-- Raised by a command about an agent ID that Table 1-2 leaves unused, or about a resource that the agent's type
  does not have (Table 1-5): no such unit exists, so no such event can occur. Safe. -/
  | noSuchUnit (agent : Nat)
deriving DecidableEq, Repr

/-- The whole machine. -/
structure State where
  /-- Commands waiting, first in, first out. -/
  pending : List Instr := []
  /-- fc since HUB_RST_N was released (R8, HUB.CYCLE). -/
  fc : Nat := 0
  /-- Register fields of all pages, by field key; an unlisted field holds its reset value. -/
  regs : Sparse Nat := []
  /-- The fields as they stood at the start of this fc (R97). -/
  regs0 : Sparse Nat := []
  /-- What hardware did to a field in this fc: the value before, and the bits set or the increment (R96). -/
  hw : Sparse (Nat × Nat) := []
  /-- Faults raised in this fc: page, bit, detail (R90, R96). -/
  hwFault : List (Nat × Nat × Nat) := []
  /-- The agents that differ from their reset state, by agent ID. -/
  agents : Sparse Agent := []
  /-- Memory Units with writes that wait (R44, R45). -/
  waitingMus : List Nat := []
  /-- Clock of each region: 0 full rate, 1 3/4 rate, 2 1/2 rate, and the residue of fc that is gated (R21). -/
  throttle : Sparse (Nat × Nat) := []
  /-- The model's own counter of free values taken. -/
  freeCount : Nat := 0
  bank : Bank := {}
  wheel : Wheel := {}
  cams : Cams := {}
  whistle : Whistle := {}
  runctl : RunCtl := {}
  brk : Break := {}
  cut : Cut := {}
  hopper : Hopper := {}
  mill : Millrace := {}
  mm : Master := {}
  crash : Crash := {}
  trace : Trace := {}
  score : Score := {}
  tw : TWatch := {}
  hang : Hang := {}
  team : Team := {}
  halves : Halves := {}
  bsl : Bsl := {}
  jtag : Tap1149 := {}
  auth : Auth := {}
  pow : Power := {}
  test : SelfTest := {}
  integ : Integrity := {}
deriving DecidableEq, Repr

/-- The machine in fc 0 of Table 16-7, the release of HUB_RST_N: every field at its reset value, no agent changed. -/
def State.reset : State := {}

end Sys2Proof.Machine
end

