-- ==== Sys2Proof/Machine/Ops.lean ====
section
/-! DEFINITION. The named operations on register fields: reading and writing a field, hardware setting an event,
counting, and raising a fault. -/

namespace Sys2Proof.Machine

/-- A field's present value. -/
def State.get (s : State) (f : Fld) : Nat := Sparse.get s.regs f.key f.rst

/-- A field's value at the start of this fc: what hardware that reads configuration uses (R97). -/
def State.cfg (s : State) (f : Fld) : Nat := Sparse.get s.regs0 f.key f.rst

/-- Write a field; the value is cut to the field's width. -/
def State.put (s : State) (f : Fld) (v : Nat) : State :=
  { s with regs := Sparse.set s.regs f.key (v % 2 ^ f.width) f.rst }

/-- Hardware sets bits `mask` of an event field: a clear in the same fc leaves them set (R96). -/
def State.raiseBits (s : State) (f : Fld) (mask : Nat) : State :=
  let old := s.get f
  let h := Sparse.get s.hw f.key (old, 0)
  { s.put f (old ||| mask) with hw := Sparse.ins s.hw f.key (h.1, h.2 ||| mask) }

/-- Hardware sets a one-bit event field (R96). -/
def State.raise (s : State) (f : Fld) : State := s.raiseBits f 1

/-- Hardware counts `n` in a counter that saturates at its top value (R96). -/
def State.bumpBy (s : State) (f : Fld) (n : Nat) : State :=
  let old := s.get f
  let h := Sparse.get s.hw f.key (old, 0)
  { s.put f (satAdd old n (2 ^ f.width - 1)) with hw := Sparse.ins s.hw f.key (h.1, h.2 + n) }

/-- Count one, saturating. -/
def State.bump (s : State) (f : Fld) : State := s.bumpBy f 1

/-- Count `n` in a counter that wraps at its width. -/
def State.bumpWrap (s : State) (f : Fld) (n : Nat) : State :=
  let old := s.get f
  let h := Sparse.get s.hw f.key (old, 0)
  { s.put f (old + n) with hw := Sparse.ins s.hw f.key (h.1, h.2 + n) }

/-- The value of a 64-bit pair (R622). -/
def State.get64 (s : State) (lo hi : Fld) : Nat := 2 ^ 32 * s.get hi + s.get lo

/-- The value of a 64-bit pair at the start of the fc. -/
def State.cfg64 (s : State) (lo hi : Fld) : Nat := 2 ^ 32 * s.cfg hi + s.cfg lo

/-- Write a 64-bit pair. -/
def State.put64 (s : State) (lo hi : Fld) (v : Nat) : State := (s.put lo v).put hi (v / 2 ^ 32)

/-- A field as it stood before hardware set or counted in it in this fc (R96). -/
def State.before (s : State) (f : Fld) : Nat := (Sparse.get s.hw f.key (s.get f, 0)).1

/-- Software writes 1 to a self-clearing bit: a new command (R96). -/
def State.issueBit (s : State) (f : Fld) : State :=
  { s.put f 1 with bank := { s.bank with issued := Sparse.ins s.bank.issued f.key s.fc } }

/-- The hardware clear that ends a self-clearing bit's command: one that software issues in this fc stays (R96). -/
def State.endBit (s : State) (f : Fld) : State :=
  if Sparse.get s.bank.issued f.key (s.fc + 1) = s.fc then s else s.put f 0

/-- Compose a register word from its fields' values. -/
def composeWord : List (Acc × Fld) → (Fld → Nat) → Nat
  | [], _ => 0
  | (_, f) :: fs, g => g f * 2 ^ f.lo + composeWord fs g

/-- The stored word of the register at hub offset `o`. -/
def State.word (s : State) (o : Nat) : Nat := composeWord (fieldsAt o) s.get

/-- Raise fault bit `b` of page slot `p`: the bit is set, and FAULT_INFO captures it when FAULT was zero (R90). -/
def State.fault (s : State) (p b detail : Nat) : State :=
  let o := 0x4000 * p + 0x18
  let was := s.word o
  let f : Fld := ⟨o, b, b, 0⟩
  let s := s.raise f
  let s := { s with hwFault := s.hwFault ++ [(p, b, detail)] }
  if was = 0 then (s.put (Hdr.FAULT_INFO_FIRST p) b).put (Hdr.FAULT_INFO_DETAIL p) detail else s

/-- Take the next free value: nothing fixes it (assumption log). -/
def State.free (s : State) : Word × State :=
  (Config.freeWord s.freeCount, { s with freeCount := s.freeCount + 1 })

/-! ### Page slots (Table 18-1) -/

/-- Page slot numbers. -/
def Slot.HUB : Nat := 0
def Slot.GUARD : Nat := 1
def Slot.PORT : Nat := 2
def Slot.WHEEL : Nat := 3
def Slot.CAMS : Nat := 4
def Slot.WHISTLE : Nat := 5
def Slot.RUNCTL : Nat := 6
def Slot.BREAK : Nat := 7
def Slot.CUT : Nat := 8
def Slot.HOPPER : Nat := 9
def Slot.MASTER : Nat := 10
def Slot.FLOW : Nat := 11
def Slot.CMDTR : Nat := 12
def Slot.FUNNEL : Nat := 13
def Slot.SCORE : Nat := 14
def Slot.TWATCH : Nat := 15
def Slot.HANG : Nat := 16
def Slot.MILLRACE : Nat := 17
def Slot.TEAM : Nat := 18
def Slot.POWER : Nat := 19
def Slot.CRASH : Nat := 20
def Slot.UNITWIN : Nat := 21
def Slot.DATAWIN : Nat := 22
def Slot.SELFTEST : Nat := 23

/-- The page accepts new commands and jobs: it has no parity error standing (R85). -/
def State.parityOk (s : State) (p : Nat) : Bool := s.get (Hdr.STATUS_PARITY_ERR p) == 0

/-- A Toss between the Halves is running (R72). -/
def State.tossActive (s : State) : Bool := s.get Reg.HUB.ROLE.TOSS_ACTIVE == 1

end Sys2Proof.Machine
end

