-- ==== Sys2Proof/Machine/Operands.lean ====
section
/-! DEFINITION. Operand forms: agent IDs with their type, region and half (Tables 1-2 and 1-3), links and queues (R16
to R19), hub offsets with their page, view and page offset (R59, R60), and access sources. -/

namespace Sys2Proof.Machine

/-! ### Agents -/

/-- The agent's type code (Tables 1-2 and 1-3); 0 NONE for unused IDs. -/
def agentType (a : Nat) : Nat :=
  if a < 0x2400 then (if a % 96 % 3 = 2 then 2 else 1)
  else if a < 0x2408 then 3
  else if a < 0x2410 then 4
  else if a < 0x2430 then 5
  else if a < 0x2434 then 6
  else 0

/-- The clock region (R20, Table 1-2); none for control processors and unused IDs. -/
def agentRegion (a : Nat) : Option Nat :=
  if a < 0x2400 then some (a / 96 / 24 * 4 + a % 96 / 24)
  else if a < 0x2408 then some ((a - 0x2400) / 2)
  else if a < 0x2410 then some (12 + (a - 0x2408) / 2)
  else if a < 0x2430 then some ((a - 0x2410) / 2)
  else none

/-- The Half that serves the agent: 0 North, 1 South (R22). -/
def agentHalf (a : Nat) : Nat :=
  if a < 0x2400 then (if a / 96 < 48 then 0 else 1)
  else if a < 0x2408 then 0
  else if a < 0x2410 then 1
  else if a < 0x2420 then 0
  else if a < 0x2430 then 1
  else if a < 0x2432 then 0
  else 1

/-- A_ID (Table 1-10). -/
def agentIdWord (a : Nat) : Nat :=
  2 ^ 28 * (agentRegion a).getD 0 + 2 ^ 27 * bit (agentType a = 6) + 2 ^ 26 * agentHalf a + 2 ^ 20
    + 2 ^ 16 * agentType a + a

/-- Input queues of an agent: 8 on a fabric unit, 24 on a gateway, none elsewhere (Table 1-5). -/
def agentQueues (a : Nat) : Nat :=
  let t := agentType a
  if t = 1 ∨ t = 2 then 8 else if t = 3 ∨ t = 4 then 24 else 0

/-- The unit has halt mode and a flow encoder (Table 1-5). -/
def agentHaltable (a : Nat) : Bool := agentType a == 1 || agentType a == 6

/-- The gateway has its dirty list and 24 queues. -/
def isGateway (a : Nat) : Bool := agentType a == 3 || agentType a == 4

/-- The branch of the Whistle tree that carries the agent (R156). -/
def agentBranch (a : Nat) : Nat := (agentRegion a).getD 16

/-- Shadow length in bytes (Table 1-7). -/
def shadowBytes (a : Nat) : Nat :=
  match agentType a with
  | 1 => 384
  | 2 => 256
  | 3 | 4 => 512
  | 5 => 1024
  | 6 => 2048
  | _ => 0

/-- The receiving queue of an output link (R16, R18); none for tied-off outputs (R19). -/
def linkReceiver (a l : Nat) : Option (Nat × Nat) :=
  let d := l / 2
  let v := l % 2
  let r := a / 96
  let c := a % 96
  if a < 0x2400 then
    if d = 0 then (if r = 0 then some (0x2400 + c / 12, 2 * (c % 12) + v) else some (a - 96, 4 + v))
    else if d = 1 then (if c = 95 then none else some (a + 1, 6 + v))
    else if d = 2 then (if r = 95 then some (0x2408 + c / 12, 2 * (c % 12) + v) else some (a + 96, v))
    else if d = 3 then (if c = 0 then none else some (a - 1, 2 + v))
    else none
  else if a < 0x2408 ∧ l < 24 then some (12 * (a - 0x2400) + d, v)
  else if 0x2408 ≤ a ∧ a < 0x2410 ∧ l < 24 then some (95 * 96 + 12 * (a - 0x2408) + d, 4 + v)
  else none

/-- The sending agent and output link of an input queue; none for tied-off queues (R19). -/
def queueSender (a q : Nat) : Option (Nat × Nat) :=
  let d := q / 2
  let v := q % 2
  let r := a / 96
  let c := a % 96
  if a < 0x2400 then
    if d = 0 then (if r = 0 then some (0x2400 + c / 12, 2 * (c % 12) + v) else some (a - 96, 4 + v))
    else if d = 1 then (if c = 95 then none else some (a + 1, 6 + v))
    else if d = 2 then (if r = 95 then some (0x2408 + c / 12, 2 * (c % 12) + v) else some (a + 96, v))
    else if d = 3 then (if c = 0 then none else some (a - 1, 2 + v))
    else none
  else if a < 0x2408 ∧ q < 24 then some (12 * (a - 0x2400) + d, v)
  else if 0x2408 ≤ a ∧ a < 0x2410 ∧ q < 24 then some (95 * 96 + 12 * (a - 0x2408) + d, 4 + v)
  else none

/-- A link that crosses between rows 47 and 48 (R23), by its receiving queue. -/
def queueCrosses (a q : Nat) : Bool :=
  (a < 0x2400) && ((a / 96 == 48 && q / 2 == 0) || (a / 96 == 47 && q / 2 == 2))

/-- The latency in fc of the link into input queue `q` of agent `b` (R168): 3 on gateway links and across rows 47/48, else 2. -/
def linkLatency (b q : Nat) : Nat :=
  if isGateway b || (queueSender b q).any (fun x => isGateway x.1) || queueCrosses b q then 3 else 2

/-- The drain ring segment of an agent within its half (R50): its column, or 96, the half's edge ring. -/
def ringSegment (a : Nat) : Nat := if a < 0x2400 then a % 96 else 96

/-- An agent's position on its segment (R50): the row within the half, or the place in ID order among the 26 agents of an edge
ring: 8 gateways, 16 command engines, 2 control processors. -/
def ringPosition (a : Nat) : Nat :=
  if a < 0x2400 then a / 96 % 48
  else if a < 0x2410 then a % 8
  else if a < 0x2430 then 8 + a % 16
  else 24 + a % 2

/-- A segment's number in the hub, and whether two agents lie on one segment. -/
def segmentNo (a : Nat) : Nat := agentHalf a * 97 + ringSegment a
def sameSegment (a b : Nat) : Bool := agentHalf a == agentHalf b && ringSegment a == ringSegment b

/-- Credits a link holds at reset: 16 (R17), 0 on a tied-off output (R19). -/
def resetCredits (a l : Nat) : Nat := if (linkReceiver a l).isSome then 16 else 0

/-! ### Own clocks (R21, R133) -/

/-- Ungated fc of a region's clock before fc `t`: rate 0 full, 1 3/4, 2 1/2; `g` the gated residue. -/
def ownCycles (rate g t : Nat) : Nat :=
  let gatedBefore := fun (m : Nat) => t / m + bit (g % m < t % m)
  if rate = 1 then t - gatedBefore 4 else if rate = 2 then t - gatedBefore 2 else t

/-- A fc in which the region's clock is gated. -/
def gatedFc (rate g t : Nat) : Bool :=
  if rate = 1 then t % 4 == g % 4 else if rate = 2 then t % 2 == g % 2 else false

/-- The clock of an agent: its region's rate and gated residue; control processors run at the full rate (R211). -/
def State.clockOf (s : State) (a : Nat) : Nat × Nat :=
  match agentRegion a with
  | some r => Sparse.get s.throttle r (0, 0)
  | none => (0, 0)

/-- The fc from which an agent performs a Whistle command that reached it in fc `arr`: the first fc after its second sample,
taken at the ends of its ungated fc (R161). -/
def performFrom (clk : Nat × Nat) (arr : Nat) : Nat :=
  match ((List.range 4).map (arr + ·)).filter (fun t => !gatedFc clk.1 clk.2 t) with
  | _ :: t :: _ => t + 1
  | _ => arr + 4

/-- Own-clock cycles of the agent before this fc. -/
def State.ownNow (s : State) (a : Nat) : Nat := let c := s.clockOf a; ownCycles c.1 c.2 s.fc

/-- The agent's clock is gated in this fc. -/
def State.gatedNow (s : State) (a : Nat) : Bool := let c := s.clockOf a; gatedFc c.1 c.2 s.fc

/-! ### Sources and offsets -/

/-- The number of a source: bus masters 0 to 7, 8 BSL, 9 TAP (R76, GUARD_VIOL.SOURCE). -/
def srcNo : Src → Nat
  | .bus m => m.toNat
  | .bsl => 8
  | .tap => 9

/-- The access path: 0 register bus, 1 BSL, 2 TAP (R65). -/
def srcPath : Src → Nat
  | .bus _ => 0
  | .bsl => 1
  | .tap => 2

/-- A port source (R66). -/
def srcIsPort : Src → Bool
  | .bus _ => false
  | _ => true

/-- The Whistle source code of an access (Table 4-1): 1 BUS, 2 PORT. -/
def srcWhistle (x : Src) : Nat := if srcIsPort x then 2 else 1

/-- The page slot of a hub offset (R59). -/
def offSlot (o : Nat) : Nat := o / 0x4000

/-- The view of a hub offset: none for the base view (Table 2-1). -/
def offView (o : Nat) : Option View :=
  match o % 0x4000 / 0x1000 with
  | 1 => some .set
  | 2 => some .clr
  | 3 => some .tgl
  | _ => none

/-- The offset of the same register in the base view. -/
def offBase (o : Nat) : Nat := 0x4000 * (o / 0x4000) + o % 0x1000

/-- The Half's number. -/
def halfNo : Half → Nat
  | .north => 0
  | .south => 1

end Sys2Proof.Machine
end

