-- ==== Sys2Proof/Machine/Flags.lean ====
section
/-! DEFINITION. The agent page's fields. Offsets are those of Table 1-9 (from UNITWIN), fields those of Tables 1-11 to
1-23 and 5-3. -/

namespace Sys2Proof.Machine

namespace AReg

def A_CTRL.FAULT_FATAL : Fld := ⟨0x408, 6, 6, 1⟩
def A_CTRL.ACCSPILL_EVT : Fld := ⟨0x408, 5, 5, 1⟩
def A_CTRL.CMP_EVT : Fld := ⟨0x408, 0, 0, 0⟩
def A_PSEL.CTX_FILTER (n : Nat) : Fld := ⟨0x420 + 4 * n, 9, 9, 0⟩
def A_PSEL.EN (n : Nat) : Fld := ⟨0x420 + 4 * n, 8, 8, 0⟩
def A_PSEL.EVENT (n : Nat) : Fld := ⟨0x420 + 4 * n, 7, 0, 0⟩
def A_PCNT (n : Nat) : Fld := ⟨0x428 + 4 * n, 31, 0, 0⟩
def A_CMP_LO (n : Nat) : Fld := ⟨0x430 + 16 * n, 31, 0, 0⟩
def A_CMP_HI (n : Nat) : Fld := ⟨0x434 + 16 * n, 31, 0, 0⟩
def A_CMP_CTRL.HALT (n : Nat) : Fld := ⟨0x438 + 16 * n, 7, 7, 0⟩
def A_CMP_CTRL.EVT (n : Nat) : Fld := ⟨0x438 + 16 * n, 6, 6, 0⟩
def A_CMP_CTRL.CTX_EN (n : Nat) : Fld := ⟨0x438 + 16 * n, 5, 5, 0⟩
def A_CMP_CTRL.INVERT (n : Nat) : Fld := ⟨0x438 + 16 * n, 4, 4, 0⟩
def A_CMP_CTRL.KIND (n : Nat) : Fld := ⟨0x438 + 16 * n, 3, 1, 0⟩
def A_CMP_CTRL.EN (n : Nat) : Fld := ⟨0x438 + 16 * n, 0, 0, 0⟩
def A_CMP_CTX.CTX_MASK (n : Nat) : Fld := ⟨0x43C + 16 * n, 31, 16, 0xFFFF⟩
def A_CMP_CTX.CTX (n : Nat) : Fld := ⟨0x43C + 16 * n, 15, 0, 0⟩
def A_TRIG_PROG.COUNT (s : Nat) : Fld := ⟨0x450, 8 * s + 7, 8 * s + 7, 0⟩
def A_TRIG_PROG.STOP (s : Nat) : Fld := ⟨0x450, 8 * s + 6, 8 * s + 6, 0⟩
def A_TRIG_PROG.START (s : Nat) : Fld := ⟨0x450, 8 * s + 5, 8 * s + 5, 0⟩
def A_TRIG_PROG.EMIT (s : Nat) : Fld := ⟨0x450, 8 * s + 4, 8 * s + 4, 0⟩
def A_TRIG_PROG.NEXT (s : Nat) : Fld := ⟨0x450, 8 * s + 3, 8 * s + 2, 0⟩
def A_TRIG_PROG.COND (s : Nat) : Fld := ⟨0x450, 8 * s + 1, 8 * s, 0⟩
def A_TRACE_CLASS.EN : Fld := ⟨0x458, 3, 3, 0⟩
def A_TRACE_CLASS.USE_DEFAULT : Fld := ⟨0x458, 2, 2, 1⟩
def A_TRACE_CLASS.CLASS : Fld := ⟨0x458, 1, 0, 0⟩
def A_EDGE_SEL.INDEX : Fld := ⟨0x464, 2, 0, 0⟩
def A_TAP_CTRL.MASK_EN : Fld := ⟨0x470, 9, 9, 1⟩
def A_TAP_CTRL.SLOT : Fld := ⟨0x470, 8, 3, 0⟩
def A_TAP_CTRL.PORT : Fld := ⟨0x470, 2, 1, 0⟩
def A_TAP_CTRL.ENABLE : Fld := ⟨0x470, 0, 0, 0⟩
def A_TAP_FMT.FORMAT : Fld := ⟨0x474, 3, 0, 0⟩
def A_DIRTY_CTRL.COW_EN : Fld := ⟨0x478, 1, 1, 0⟩
def A_DIRTY_CTRL.DIRTY_EN : Fld := ⟨0x478, 0, 0, 0⟩
def A_SHADOW_SEL.WORD : Fld := ⟨0x480, 8, 0, 0⟩
/-- The bits of A_FAULT as one field: bit 8 SNAP_OVERRUN, 7 DRAIN_TIMEOUT, 6 UNIT_FAULT, 5 PROTOCOL, 3 TOKEN_UE,
2 CREDIT, 1 SHADOW_PARITY, 0 SKID_OVF. -/
def A_FAULT : Fld := ⟨0x490, 8, 0, 0⟩
def A_FAULT_INFO.CONTEXT : Fld := ⟨0x494, 31, 16, 0⟩
def A_FAULT_INFO.DETAIL : Fld := ⟨0x494, 15, 8, 0⟩
def A_FAULT_INFO.FIRST : Fld := ⟨0x494, 4, 0, 0⟩
def CU_SEQ_PC : Fld := ⟨0x4A0, 15, 0, 0⟩
def CU_LOOP_DEPTH : Fld := ⟨0x4A4, 2, 0, 0⟩
def CU_LOOP (n : Nat) : Fld := ⟨0x4A8 + 4 * n, 31, 0, 0⟩
def CU_JT_BASE : Fld := ⟨0x4C8, 15, 0, 0⟩
def CU_ACC_SPILLS : Fld := ⟨0x4CC, 31, 16, 0⟩
def CU_ACC_TILES : Fld := ⟨0x4CC, 7, 0, 0⟩
def CU_LANE_MASK_LO : Fld := ⟨0x4D0, 31, 0, 0⟩
def CU_LANE_MASK_HI : Fld := ⟨0x4D4, 31, 0, 0⟩
def MU_AGEN (n : Nat) : Fld := ⟨0x4A0 + 4 * n, 18, 0, 0⟩
def MU_ECC_COUNT : Fld := ⟨0x4B0, 15, 0, 0⟩
def GW_DIRTY_SEL : Fld := ⟨0x4A4, 23, 0, 0⟩
def CE_SEQ : Fld := ⟨0x4A0, 31, 0, 0⟩
def CE_DESC_LO : Fld := ⟨0x4A4, 31, 0, 0⟩
def CE_DESC_HI : Fld := ⟨0x4A8, 31, 0, 0⟩
def CE_NP : Fld := ⟨0x4AC, 8, 8, 0⟩
def CE_ST : Fld := ⟨0x4AC, 2, 0, 0⟩
def CE_DEADLINE : Fld := ⟨0x4B0, 27, 0, 0⟩
/-- The layer and operator IDs of the command's descriptor (R380); no register of the page shows them. -/
def CE_LAYER : Fld := ⟨0x800, 15, 0, 0⟩
def CE_OP : Fld := ⟨0x800, 31, 16, 0⟩
def CP_PC_LO : Fld := ⟨0x4A0, 31, 0, 0⟩
def CP_PC_HI : Fld := ⟨0x4A4, 31, 0, 0⟩
def CP_CAUSE.EXC_CODE : Fld := ⟨0x4AC, 15, 0, 0⟩
def CP_GPR_LO (n : Nat) : Fld := ⟨0x4B0 + 8 * n, 31, 0, 0⟩
def CP_GPR_HI (n : Nat) : Fld := ⟨0x4B4 + 8 * n, 31, 0, 0⟩
def CP_EPC_LO : Fld := ⟨0x5B0, 31, 0, 0⟩
def CP_EPC_HI : Fld := ⟨0x5B4, 31, 0, 0⟩
def CP_RETIRED_LO : Fld := ⟨0x5B8, 31, 0, 0⟩
def CP_RETIRED_HI : Fld := ⟨0x5BC, 31, 0, 0⟩
def CP_RESV_LO : Fld := ⟨0x5C0, 31, 0, 0⟩
def CP_RESV_HI : Fld := ⟨0x5C4, 31, 0, 0⟩

end AReg

/-- A field of an agent. -/
def Agent.get (g : Agent) (f : Fld) : Nat := Sparse.get g.regs f.key f.rst

/-- Write a field of an agent, cut to its width. -/
def Agent.put (g : Agent) (f : Fld) (v : Nat) : Agent :=
  { g with regs := Sparse.set g.regs f.key (v % 2 ^ f.width) f.rst }

/-- A field of A_TRIG_PROG as the cycle of fc `t` uses it: a write takes effect from the next cycle (R376). -/
def Agent.prog (g : Agent) (t : Nat) (f : Fld) : Nat :=
  match g.progOld with
  | some (w, old) => if w = t then bits old f.hi f.lo else g.get f
  | none => g.get f

/-- The stall code that the agent's state gives (R26, Table 1-4): the state of highest precedence. -/
def Agent.stallCode (g : Agent) : Nat :=
  let has := fun k => g.waits.any (fun w => w.kind == k)
  if g.faulted then 9 else if g.halted then 7 else if g.frozen then 6 else if g.asleep then 8
  else if has 5 then 5 else if has 3 then 3 else if has 2 then 2 else if has 1 then 1 else if has 4 then 4 else 0

/-- The unit executes in its ungated cycles (R38). -/
def Agent.executes (g : Agent) : Bool := !(g.frozen || g.halted || g.asleep || g.faulted)

/-- The context ID an event of fc `t` is evaluated against (R27). -/
def Agent.ctxAt (g : Agent) (t : Nat) : Nat := if g.ctxFc = t then g.ctxOld else g.ctx

/-- A masked context match (R37, R221). -/
def ctxMatch (ctx want mask : Nat) : Bool := (ctx &&& mask) == (want &&& mask)

/-- Whether a cycle with a stall code counts for a programmable event (Table 11-1, codes 0x01 to 0x07). -/
def pcntCycleEvent (ev code : Nat) : Bool :=
  (1 ≤ ev && ev ≤ 6 && code + 1 == ev) || (ev == 7 && 1 ≤ code && code ≤ 5)

end Sys2Proof.Machine
end

