-- ==== Sys2Proof/Machine/Count.lean ====
section
/-! DEFINITION. How the hub counters count (R436 to R441, R446): the operations by which hub events and bus events reach
them, and what they count at the end of an fc. -/

namespace Sys2Proof.Machine

/-- The 64 hub counters. -/
def counters : List Nat := List.range 64

/-- Hub power state, 0 for W0 to 4 for W4. -/
def State.power (s : State) : Nat := s.get Reg.POWER.CURRENT_STATE.STATE

/-- A half's agents answer the hub: the hub is in W0 or W1 and the Half is not lost (R104, R503). -/
def State.halfReached (s : State) (h : Nat) : Bool :=
  decide (s.power < 2) && (if h = 0 then s.get Reg.HUB.HALVES.NORTH_OK else s.get Reg.HUB.HALVES.SOUTH_OK) == 1

/-- Wake source codes (Table 16-5). -/
def wkAccess : Nat := 1
def wkFatal : Nat := 2
def wkCam : Nat := 3
def wkCommand : Nat := 4
def wkBsl : Nat := 5
def wkTarget : Nat := 6

/-- A wake source is unmasked (R582). -/
def State.wakeEnabled (s : State) (code : Nat) : Bool :=
  if code = wkCam then s.cfg Reg.POWER.WAKE_SOURCES.CAM == 1
  else if code = wkCommand then s.cfg Reg.POWER.WAKE_SOURCES.COMMAND == 1
  else if code = wkBsl then s.cfg Reg.POWER.WAKE_SOURCES.BSL == 1
  else true

/-- A wake source arises (R581): outside W0, or during a step down, it calls for a rise. -/
def State.wakeNote (s : State) (code : Nat) : State :=
  if s.wakeEnabled code then
    let p := { s.pow with arose := true }
    let calls := s.power != 0 || p.step.isSome
    { s with pow := if calls ∧ ¬ p.wakes.contains code then { p with wakes := p.wakes ++ [code] } else p }
  else s

/-- Counter kinds (R437). -/
def ckHub : Nat := 1
def ckBus : Nat := 2
def ckPcnt : Nat := 3

/-- Counter `n` counts with this KIND in this fc (R431, R438); ENABLE at 0 stops it in the same fc (R449). -/
def State.counting (s : State) (n kind : Nat) : Bool :=
  s.cfg (Reg.SCORE.CNT_SRC.KIND n) == kind && s.cfg Reg.SCORE.CTRL.ENABLE == 1
  && s.get Reg.SCORE.CTRL.ENABLE == 1 && s.get (Reg.SCORE.CNT_SRC.CONFLICT n) == 0 && decide (s.power ≤ 1)

/-- Counter `n` counts in this fc as its gate allows, judged at the end of the fc: its engine is in a command that began in this
fc or earlier and has not reached its END, or the counter is not gated (R441). -/
def State.gateOpen (s : State) (n : Nat) : Bool :=
  s.cfg (Reg.SCORE.CNT_SRC.GATE n) == 0
  || (Sparse.get s.agents (0x2410 + s.cfg (Reg.SCORE.CNT_SRC.CE n)) {}).get AReg.CE_ST != 0

/-- Add `k` to counter `n`, wrapping at 64 bits, with the increment in E (R446). -/
def State.cntAdd (s : State) (n k : Nat) : State :=
  let lo := Reg.SCORE.CNT_LO n
  let hi := Reg.SCORE.CNT_HI n
  let v := s.get64 lo hi
  let b := Sparse.get s.score.base n ⟨0, 0, 0⟩
  let h := Sparse.get s.hw lo.key (v, 0)
  let s := s.put64 lo hi ((v + k) % 2 ^ 64)
  { s with score := { s.score with base := Sparse.ins s.score.base n { b with e := (b.e + k) % 2 ^ 64 } }
           hw := Sparse.ins s.hw lo.key (h.1, h.2 + k) }

/-- Hub event `code` of Table 11-2 occurs `k` times in this fc: the counters count it at the end of the fc. -/
def State.hubEvent (s : State) (code k : Nat) : State :=
  { s with score := { s.score with events := s.score.events ++ [(code, k)] } }

/-- An event of the event bus reaches the linked-condition logic (R437). -/
def State.busCount (s : State) (agent code : Nat) : State :=
  { s with score := { s.score with busEvents := s.score.busEvents ++ [(agent, code)] } }

/-- What counter `n` counts of this fc: the hub events of its code, or the bus events whose CODE, MASK and AGENT match under the
rule of R220 (R437). -/
def State.cntOf (s : State) (n : Nat) : Nat :=
  let ag := s.cfg (Reg.SCORE.CNT_EVENT.AGENT n)
  let m := s.cfg (Reg.SCORE.CNT_EVENT.MASK n)
  if ¬ s.gateOpen n then 0
  else if s.counting n ckHub then (s.score.events.filter (fun e => e.1 == ag % 256)).foldl (fun k e => k + e.2) 0
  else if s.counting n ckBus then
    (s.score.busEvents.filter (fun e => e.2 == s.cfg (Reg.SCORE.CNT_EVENT.CODE n) && (e.1 &&& m) == (ag &&& m))).length
  else 0

/-- At the end of every fc: the counters count what occurred in it. A counter rebased in the fc forgets its engine's previous
command (R442). -/
def State.scoreCount (s : State) : State :=
  let s := counters.foldl (fun s n => let k := s.cntOf n; if k = 0 then s else s.cntAdd n k) s
  let prev := s.score.prev.filter (fun e => !s.score.rebased.contains e.1)
  { s with score := { s.score with events := [], busEvents := [], rebased := [], resets := [], bounded := [], prev := prev } }

end Sys2Proof.Machine
end

