-- ==== Sys2Proof/Machine/Wheel.lean ====
section
/-! DEFINITION. The Wheel's arithmetic and its state machine (chapter 3, R111 to R136). -/

namespace Sys2Proof.Machine

/-- The sub-step 0 to 65,535 at fc `k` of the revolution (R111). -/
def Wheel.sub (w : Wheel) : Nat :=
  let p := match w.spread with
    | none => 65536 * w.k / w.len
    | some (d, sd) => sd + (w.k - d) * (65536 - sd) / (w.len - d)
  if p < 65536 then p else 65535

/-- The notch 0 to 4,095. -/
def Wheel.notch (w : Wheel) : Nat := w.sub / 16

/-- Notch boundaries passed since hub reset. -/
def Wheel.notchCount (w : Wheel) : Nat := 4096 * w.turns + w.notch

/-- The position word as WHEEL.POS_LO lays it out (Table 3-6). -/
def Wheel.posLo (w : Wheel) : Nat := 65536 * (w.rev % 65536) + w.sub

/-- Revolution count bits 47 to 16 (POS_HI). -/
def Wheel.posHi (w : Wheel) : Nat := w.rev / 65536

/-- The 28-bit stamp rev[11:0], notch, sub (CE_DEADLINE's layout). -/
def Wheel.stamp28 (w : Wheel) : Nat := 65536 * (w.rev % 4096) + w.sub

/-- The acceptance window W (R118). -/
def Wheel.window (w : Wheel) : Nat := w.period / 16

/-- P, or the nominal period until two consecutive marks have been accepted (R125). -/
def Wheel.p (w : Wheel) : Nat := w.measured.getD w.period

/-- A revolution length clamped to the acceptance window (R125). -/
def Wheel.clamp (w : Wheel) (l : Int) : Nat :=
  (max (w.period - w.window : Int) (min (w.period + w.window : Int) l)).toNat

/-- The source that a boundary in this fc puts in effect: 0 INTERNAL, 1 PIN, 2 RING (R116, R117, R152). -/
def State.wheelSel (s : State) : Nat :=
  let sel := s.cfg Reg.WHEEL.SOURCE.SEL
  if s.cfg Reg.WHEEL.CTRL.ENABLE = 0 ∨ sel = 3 then 0 else sel

/-- The Wheel's states (Table 3-2). -/
def wheelFree : Nat := 0
def wheelSeeking : Nat := 1
def wheelLocked : Nat := 2
def wheelCoasting : Nat := 3

/-- The revolution count the next revolution takes: a committed POS_LO write (R153), else the count plus 1 (R113). -/
def Wheel.nextCount (w : Wheel) : Nat :=
  let n := (w.rev + 1) % 2 ^ 48
  match w.nextRev with
  | none => n
  | some (lo, none) => 65536 * (n / 65536) + lo
  | some (lo, some hi) => 65536 * hi + lo

/-- Start the next revolution: at fc `k0`, with count `rev`, by the Wheel itself or by a mark. The settings written
since take effect (R117), and the new revolution gets its length (R125). -/
def State.startRev (s : State) (k0 rev : Nat) (selfMade : Bool) : State :=
  let w := s.wheel
  let sel := s.wheelSel
  let period := s.cfg Reg.WHEEL.PERIOD_FC.FC
  let st := s.get Reg.WHEEL.SOURCE.STATE
  let st' := if sel = 0 then wheelFree else if sel = w.sel ∧ st ≠ wheelFree then st else wheelSeeking
  let fresh := st' = wheelSeeking ∧ (st ≠ wheelSeeking ∨ sel ≠ w.sel)
  let w := { w with sel := sel, period := period, nextRev := none, prevRev := w.rev, prevPos := w.lastSub, rev := rev
                    k := k0, turns := w.turns + 1, spread := none, selfMade := selfMade, marked := !selfMade
                    startFc := s.fc - k0, madeFc := some s.fc
                    measured := if fresh then none else w.measured
                    lastMark := if fresh then none else w.lastMark
                    consecutive := if fresh then false else w.consecutive }
  let byP := !selfMade ∨ st' = wheelLocked ∨ st' = wheelCoasting
  let w := { w with len := if byP then w.clamp w.p else w.period }
  let s := { s with wheel := w, cams := { s.cams with fired := [], firedPrev := s.cams.fired } }
  s.put Reg.WHEEL.SOURCE.STATE st'

/-- The lane owner is the Half that its partner finds silent, in a Toss of that cause (R501). -/
def State.ownerSilent (s : State) : Bool :=
  match s.halves.toss, s.halves.silent with
  | some (3, _, _), some survivor => s.get Reg.TEAM.HALF_STATUS.LANE_OWNER != survivor
  | _, _ => false

/-- A member sends a message on both lanes (R505, R507); a SOLO hub sends none. -/
def State.ringOut (s : State) (all : Bool) (type target payload : Nat) : State :=
  if s.get Reg.TEAM.ROLE.ROLE = 0 then s
  else
    let m : RingMsg := ⟨all, BitVec.ofNat 7 type, BitVec.ofNat 8 (s.get Reg.TEAM.MEMBER_ID.ID), BitVec.ofNat 8 target, 0,
      BitVec.ofNat 16 s.team.seq, BitVec.ofNat 48 payload, true⟩
    let old := if s.team.txFc = s.fc then s.team.tx else []
    { s with team := { s.team with seq := (s.team.seq + 1) % 65536, tx := old ++ [(0, m), (1, m)], txFc := s.fc } }

/-- A member originates a message (R501). While the lane owner is silent only heartbeats leave: a WHEEL message is lost, and the
others wait for the end of the Toss. -/
def State.ringSend (s : State) (all : Bool) (type target payload : Nat) : State :=
  if s.ownerSilent ∧ type ≠ 2 then
    if type = 1 then s else { s with team := { s.team with waiting := s.team.waiting ++ [(all, type, target, payload)] } }
  else s.ringOut all type target payload

/-- A calibration starts in the background (R130): a timed PROBE goes to the manager. -/
def State.calStart (s : State) : State :=
  let s := { s with wheel := { s.wheel with calRunning := true, calTurn := s.wheel.turns }, team := { s.team with rtt := none } }
  let n := s.team.seq % 65536
  let s := { s with team := { s.team with probe := some (n, s.fc) } }
  s.ringSend false 6 (s.get Reg.TEAM.MEMBER_COUNT.MANAGER) n

/-- A mark is accepted in state LOCKED, COASTING or SEEKING: the interval since the last accepted mark becomes P when
no mark was missed between them (R125), SLIP takes d (R126), and the Wheel is LOCKED. -/
def State.lockMark (s : State) (markFc : Nat) (d : Int) : State :=
  let w := s.wheel
  let m := match w.consecutive, w.lastMark with
    | true, some l => some (markFc - l)
    | _, _ => w.measured
  let was := s.get Reg.WHEEL.SOURCE.STATE
  let s := { s with wheel := { w with measured := m, lastMark := some markFc, consecutive := true } }
  let s := s.put Reg.WHEEL.SLIP.D (BitVec.ofInt 32 d).toNat
  let s := s.put Reg.WHEEL.SOURCE.STATE wheelLocked
  if was = wheelLocked then s
  else
    let s := s.raise Reg.WHEEL.EVENT.LOCKED
    if s.wheel.sel = 2 ∧ s.cfg Reg.WHEEL.SUBNOTCH_CAL.AUTO = 1 then s.calStart else s

/-- A spurious mark is ignored and counted (R123). -/
def State.spuriousMark (s : State) : State :=
  (s.bump Reg.WHEEL.LOSS_COUNT.SPURIOUS).raise Reg.WHEEL.EVENT.SPURIOUS

/-- The count that a RING message brings is adopted, and a count other than the one expected is a REV_JUMP (R127). -/
def State.ringCount (s : State) (expected : Nat) (ring : Option Nat) : Nat × State :=
  match ring with
  | none => (expected, s)
  | some r => (r, if r = expected then s else s.raise Reg.WHEEL.EVENT.REV_JUMP)

/-- A mark of the source in effect whose fc lies `age` fc back (R119). Answers the state and whether the mark ended a
revolution (R122 to R127). DESIGN CHOICE (assumption log): a late mark spreads the rest of the revolution from the fc in which
it is learned and the position held then (R111); a mark whose fc lies before a boundary already made is a late mark with
negative d (R122). -/
def State.mark (s : State) (age : Nat) (ring : Option Nat) : State × Bool :=
  let w := s.wheel
  let st := s.get Reg.WHEEL.SOURCE.STATE
  let km : Int := w.k - age
  let markFc := s.fc - age
  let natural := w.nextCount
  let newRev := fun (s : State) (d : Int) =>
    let (r, s) := s.ringCount ((w.rev + 1) % 2 ^ 48) ring
    let s := s.lockMark markFc d
    ((s.startRev (min age w.k) (if ring.isSome then r else natural) false).put Reg.WHEEL.SOURCE.STATE
      (if s.wheelSel = 0 then wheelFree else if s.wheelSel = w.sel then wheelLocked else wheelSeeking), true)
  let late := fun (s : State) (d : Int) =>
    let (r, s) := s.ringCount w.rev ring
    let s := s.lockMark markFc d
    let w' := s.wheel
    ({ s with wheel := { w' with rev := r, marked := true, spread := some (w.k, w.sub), len := w'.clamp (w'.p + d) } }, false)
  if st = wheelSeeking then
    if km = 0 ∧ w.selfMade then
      let (r, s) := s.ringCount w.rev ring
      let s := s.lockMark markFc 0
      ({ s with wheel := { s.wheel with rev := r, marked := true } }, false)
    else if km < 0 ∧ w.selfMade then late s km
    else newRev s (km - w.len)
  else if st = wheelLocked ∨ st = wheelCoasting then
    let close := match w.lastMark with
      | some l => decide (markFc < l + w.window)
      | none => false
    if close then (s.spuriousMark, false)
    else if w.selfMade ∧ ¬ w.marked ∧ km < w.window then late s km
    else if w.len ≤ km + w.window ∧ km < w.len then newRev s (km - w.len)
    else (s.spuriousMark, false)
  else (s, false)

/-- No mark by fc W after a boundary that the Wheel made itself (R124). -/
def State.missMark (s : State) : State :=
  let w := s.wheel
  let st := s.get Reg.WHEEL.SOURCE.STATE
  if (st = wheelLocked ∨ st = wheelCoasting) ∧ w.selfMade ∧ ¬ w.marked ∧ w.window ≤ w.k then
    let s := { s with wheel := { w with marked := true, consecutive := false } }
    let s := (s.bump Reg.WHEEL.LOSS_COUNT.MISSED).hubEvent 16 1
    (s.raise Reg.WHEEL.EVENT.MISSED).put Reg.WHEEL.SOURCE.STATE wheelCoasting
  else s

/-- An edge of the Wheel's clock: every fc, and in the states in which FAB_CLK is stopped every AON_CLK edge (R129). The edges
lie in the fc that are multiples of 24 since reset (DESIGN CHOICE, assumption log). -/
def State.wheelEdge (s : State) : Bool := s.get Reg.WHEEL.TIMEBASE_SEL.AON != 1 || s.fc % 24 == 0

/-- A due change of the Wheel's clock takes place at a notch boundary (R575). -/
def State.wheelClock (s : State) (notch : Nat) : State :=
  match s.wheel.clockNext with
  | some v => if s.wheel.notch = notch then s
    else ({ s with wheel := { s.wheel with clockNext := none } }).put Reg.WHEEL.TIMEBASE_SEL.AON (bit v)
  | none => s

/-- One fc passes for the Wheel: on AON_CLK it advances at its edges by the fc since the edge before, 24 in each period, so that a
change of the clock makes no jump (R129, R575). -/
def State.wheelTick (s : State) : State :=
  let w := s.wheel
  let aon := s.get Reg.WHEEL.TIMEBASE_SEL.AON = 1
  let w' := { w with lastSub := w.sub }
  if s.wheelEdge then ({ s with wheel := { w' with k := if aon then s.fc - w.startFc else w.k + 1 } }).wheelClock w.notch
  else { s with wheel := w' }

end Sys2Proof.Machine
end

