-- ==== Sys2Proof/Machine/Whistle.lean ====
section
/-! DEFINITION. The Whistle arbiter (chapter 4): requests, the frozen set, the waves and the meanings of the
Whistle's own events. -/

namespace Sys2Proof.Machine

/-- WHISTLE.CMD.RESULT codes (Table 4-9). -/
def wrDriven : Nat := 1
def wrHeld : Nat := 2
def wrMerged : Nat := 3
def wrNoEffect : Nat := 4
def wrRefusedState : Nat := 5
def wrRefusedTarget : Nat := 6
def wrRefusedDisabled : Nat := 7
def wrBusy : Nat := 8
def wrRefusedShadows : Nat := 9
def wrRefusedParity : Nat := 10
def wrCancelled : Nat := 11

/-- STATE.STATE values. -/
def wsRunning : Nat := 0
def wsFreezing : Nat := 1
def wsFrozen : Nat := 2
def wsResuming : Nat := 3

/-- Tree wires (R47): STOP, RESUME, STEP, SNAP, by their CMD codes. -/
def wireStop : Nat := 1
def wireResume : Nat := 4
def wireStep : Nat := 5
def wireSnap : Nat := 6

/-- All 17 branches (R156): regions 0 to 15 and, as bit 16, the CP branch. -/
def allBranches : Nat := 0x1FFFF

/-- A frozen set (R165): kind 1 ALL, 2 REGIONS, 3 CONTEXT (0 none), branches, and region mask or context ID. -/
structure FrozenSet where
  kind : Nat
  branches : Nat
  arg : Nat
deriving DecidableEq, Repr

/-- The qualifier's MODE for a frozen set's kind (R48, R165). -/
def FrozenSet.mode (f : FrozenSet) : Nat := f.kind - 1

/-- The present frozen set. -/
def State.frozenSet (s : State) : FrozenSet :=
  ⟨s.get Reg.WHISTLE.STATE.KIND, s.whistle.branches, s.get Reg.WHISTLE.STATE.SET⟩

/-- Write the frozen set into STATE. -/
def State.setFrozenSet (s : State) (f : FrozenSet) : State :=
  let s := { s with whistle := { s.whistle with branches := f.branches } }
  let s := s.put Reg.WHISTLE.STATE.KIND f.kind
  let s := s.put Reg.WHISTLE.STATE.SET (if f.kind = 1 then f.branches % 65536 else f.arg)
  s.put Reg.WHISTLE.STATE.CP_BRANCH (bit (testBit f.branches 16))

/-- A branch set less the regions that a hold withholds (R146, R160): a reduced command is always driven on the CP branch,
and one whose whole target is held goes to nothing. -/
def keepBranches (b withheld : Nat) : Nat :=
  if withheld = 0 then b
  else
    let regions := b % 65536 &&& (0xFFFF - withheld % 65536)
    if regions = 0 then 0 else regions + 65536

/-- The set that a stop request names (R165); a Cam's held regions are withheld (R160). -/
def WReq.set (r : WReq) : FrozenSet :=
  if r.code = 1 then ⟨1, keepBranches allBranches r.withheld, 0⟩
  else if r.code = 2 then
    let b := keepBranches r.arg r.withheld
    ⟨2, b, b % 65536⟩
  else ⟨3, keepBranches allBranches r.withheld, r.arg⟩

/-- The priority of a source code of CAUSE (Table 4-1): 1 the highest. -/
def sourcePriority (source : Nat) : Nat :=
  match source with
  | 5 => 1 | 7 => 2 | 4 => 3 | 3 => 4 | 8 => 5 | 6 => 6 | 2 => 7 | _ => 8

/-- The order of a request's kind within one fc (R189): stops, SNAP, STEP and RESUME, CANCEL. -/
def kindOrder (code : Nat) : Nat :=
  if 1 ≤ code ∧ code ≤ 3 then 0 else if code = 6 then 1 else if code = 4 ∨ code = 5 then 2 else 3

/-- Request `a` is evaluated before `b` of the same fc (R189): by kind, then by priority, and of one source the lower detail
first (R143, R225). -/
def WReq.before (a b : WReq) : Bool :=
  let p := sourcePriority a.source
  let q := sourcePriority b.source
  decide (kindOrder a.code < kindOrder b.code)
    || (kindOrder a.code == kindOrder b.code
        && (decide (p < q) || (p == q && (p == 4 || p == 6) && decide (a.detail < b.detail))))

/-- Insert a request among those held in the same fc (R189). -/
def insertReq (r : WReq) : List WReq → List WReq
  | [] => [r]
  | x :: xs => if r.before x then r :: x :: xs else x :: insertReq r xs

/-- Merging a stop into an existing frozen set (R166): the merged set, and whether the merge adds agents. -/
def FrozenSet.merge (old new : FrozenSet) : FrozenSet × Bool :=
  let u := old.branches ||| new.branches
  if old.kind = 3 ∨ new.kind = 3 then
    if old = new then (old, false) else (⟨1, allBranches, 0⟩, decide (old.kind = 3 ∨ old.branches ≠ allBranches))
  else if old.kind = 2 ∧ new.kind = 2 then (⟨2, u, old.arg ||| new.arg⟩, decide (u ≠ old.branches))
  else (⟨1, u, 0⟩, decide (u ≠ old.branches))

/-- No command has been driven in this fc (R155). -/
def State.treeFree (s : State) : Bool :=
  match s.whistle.last with
  | some t => t.fc != s.fc
  | none => true

/-- Drive a command on the tree in this fc. Commands driven more than 64 fc ago have left the tree (assumption log). -/
def State.drive (s : State) (wire mode field branches : Nat) : State :=
  let c : TreeCmd := ⟨wire, mode, field, branches, s.fc⟩
  let s := { s with whistle := { s.whistle with last := some c, tree := s.whistle.tree.filter (fun (x : TreeCmd) => s.fc ≤ x.fc + 64) ++ [c] } }
  s.hubEvent 3 1

/-- Drive the frozen set's command. -/
def State.driveSet (s : State) (wire : Nat) (f : FrozenSet) : State :=
  s.drive wire f.mode (if f.kind = 1 then 0 else f.arg) f.branches

/-- CAUSE and STOP_POS take the request and the Wheel position of the trigger fc (R195). -/
def State.writeCause (s : State) (r : WReq) : State :=
  let s := s.put Reg.WHISTLE.CAUSE.MERGED 0
  let s := s.put Reg.WHISTLE.CAUSE.SOURCE r.source
  let s := s.put Reg.WHISTLE.CAUSE.CMD r.code
  let s := s.put Reg.WHISTLE.CAUSE.DETAIL r.detail
  let s := { s with whistle := { s.whistle with causeFc := some s.fc } }
  s.put64 Reg.WHISTLE.STOP_POS_LO Reg.WHISTLE.STOP_POS_HI (2 ^ 32 * s.wheel.posHi + s.wheel.posLo)

/-- The acknowledge check of the command just driven is due in fc 24 (R163, R164). -/
def State.awaitAck (s : State) : State :=
  match s.whistle.last with
  | some c => { s with whistle := { s.whistle with acks := s.whistle.acks ++ [⟨c, none, none⟩] } }
  | none => s

/-- A freeze wave starts in this fc: FREEZING, with its acknowledge check due in fc 24 (Table 4-2). -/
def State.startFreeze (s : State) (snap : Bool) : State :=
  let s := { s.awaitAck with whistle := { s.awaitAck.whistle with freezeFc := some s.fc, resumeFc := none, isSnap := snap
                                                                  snapDue := if snap then some (s.fc + 16) else none } }
  s.put Reg.WHISTLE.STATE.STATE wsFreezing

/-- Change the cut in progress. -/
def State.modCut (s : State) (f : CutJob → CutJob) : State := { s with cut := { s.cut with job := s.cut.job.map f } }

/-- A resume wave starts in this fc (Table 4-5). A frozen or held cut that is not drained is lost (R244). -/
def State.startResume (s : State) : State :=
  let s := s.modCut (fun j => { j with lost := j.lost || ((j.kind == 2 || j.kind == 3) && !j.drained) })
  let s := { s with whistle := { s.whistle with resumeFc := some s.fc, freezeFc := none, isSnap := false, fromSnap := false } }
  s.put Reg.WHISTLE.STATE.STATE wsResuming

/-- A request that needs a drive in a used fc, or that waits for FROZEN, is held; requests held in one fc stand in the order
of R189 (Table 4-8). -/
def State.holdReq (s : State) (r : WReq) : State × Nat :=
  let w := s.whistle
  let n := if w.heldFc.1 = s.fc then min w.heldFc.2 w.held.length else 0
  let k := w.held.length - n
  let s := { s with whistle := { w with held := w.held.take k ++ insertReq r (w.held.drop k), heldFc := (s.fc, n + 1) } }
  (s.put Reg.WHISTLE.STATE.HELD 1, wrHeld)

/-- A refusal sets EVENT.REFUSED (R190). -/
def State.refuseReq (s : State) (code : Nat) : State × Nat := (s.raise Reg.WHISTLE.EVENT.REFUSED, code)

/-- EVENT.MERGED and CAUSE.MERGED (R166). -/
def State.markMerged (s : State) : State :=
  (s.raise Reg.WHISTLE.EVENT.MERGED).put Reg.WHISTLE.CAUSE.MERGED 1

/-- Of several stops in one fc CAUSE names the one of highest priority (R157); a stop stands before a SNAP (R189). -/
def State.causeOf (s : State) (r : WReq) : State :=
  let old : WReq := ⟨s.get Reg.WHISTLE.CAUSE.CMD, s.get Reg.WHISTLE.CAUSE.SOURCE, s.get Reg.WHISTLE.CAUSE.DETAIL, 0, 0⟩
  if s.whistle.causeFc = some s.fc ∧ r.before old then
    ((s.put Reg.WHISTLE.CAUSE.SOURCE r.source).put Reg.WHISTLE.CAUSE.CMD r.code).put Reg.WHISTLE.CAUSE.DETAIL r.detail
  else s

/-- A stop while a step runs (R190, R192): it writes CAUSE and STOP_POS. Before the step's own STOP it is driven in its
place; after it, it is driven only if it adds agents. -/
def State.stepStopReq (s : State) (r : WReq) : State × Nat :=
  let (m, adds) := s.frozenSet.merge r.set
  if s.whistle.stepDue.isSome ∨ adds then
    if ¬ s.treeFree then s.holdReq r
    else
      let s := ((s.setFrozenSet m).driveSet wireStop m).writeCause r
      let s := { s with whistle := { s.whistle with stepDue := none, isStepEnd := true } }
      (s.startFreeze false, wrDriven)
  else (s.writeCause r, wrNoEffect)

/-- A stop request (R165, R166, R192, Table 4-8). -/
def State.stopReq (s : State) (r : WReq) : State × Nat :=
  let st := s.get Reg.WHISTLE.STATE.STATE
  let new := r.set
  if r.code = 2 ∧ r.arg = 0 then s.refuseReq wrRefusedTarget
  else if new.branches = 0 then (s, wrNoEffect)
  else if s.get Reg.WHISTLE.STATE.STEP_ACTIVE = 1 then s.stepStopReq r
  else if ¬ s.treeFree then
    let (_, adds) := s.frozenSet.merge new
    if ¬ adds ∧ (st = wsFreezing ∨ st = wsFrozen) then
      let s := (s.causeOf r).markMerged
      ({ s with whistle := { s.whistle with snapDue := none, isSnap := false } }, wrNoEffect)
    else ((s.causeOf r).holdReq r)
  else if st = wsRunning ∨ st = wsResuming then
    let s := (s.setFrozenSet new).driveSet wireStop new
    let s := if st = wsRunning then s.writeCause r else s
    (s.startFreeze false, wrDriven)
  else
    let (m, adds) := s.frozenSet.merge new
    let s := s.markMerged
    let s := { s with whistle := { s.whistle with snapDue := none, isSnap := false } }
    if adds then (((s.setFrozenSet m).driveSet wireStop m).startFreeze false, wrMerged)
    else (s, wrNoEffect)

/-- A SNAP request (R185, R187, R188, Table 4-8); `blocked` says that the Cut engine holds undrained shadows. -/
def State.snapReq (s : State) (r : WReq) (blocked : Bool) : State × Nat :=
  let st := s.get Reg.WHISTLE.STATE.STATE
  let f := s.frozenSet
  if blocked then s.refuseReq wrRefusedShadows
  else if st = wsFreezing ∧ s.whistle.isSnap then s.refuseReq wrRefusedShadows
  else if s.get Reg.WHISTLE.STATE.STEP_ACTIVE = 1 ∨ st = wsFreezing then s.holdReq r
  else if st = wsFrozen then
    if f.kind = 1 ∧ f.branches = allBranches then
      if s.treeFree then ((s.drive wireSnap 0 0 allBranches).awaitAck, wrDriven)
      else s.holdReq r
    else s.refuseReq wrRefusedState
  else if ¬ s.treeFree then s.holdReq r
  else
    let s := (s.setFrozenSet ⟨1, allBranches, 0⟩).drive wireSnap 0 0 allBranches
    let s := if st = wsRunning then s.writeCause r else s
    (s.startFreeze true, wrDriven)

/-- A RESUME request (R177). After it the Cut engine no longer resumes what its own stop froze (R242). -/
def State.resumeReq (s : State) (r : WReq) : State × Nat :=
  let st := s.get Reg.WHISTLE.STATE.STATE
  if s.get Reg.WHISTLE.STATE.STEP_ACTIVE = 1 then s.refuseReq wrRefusedState
  else if st = wsResuming then (s, wrNoEffect)
  else if st ≠ wsFrozen then s.refuseReq wrRefusedState
  else if ¬ s.treeFree then s.holdReq r
  else
    let s := s.driveSet wireResume s.frozenSet
    let s := s.modCut (fun j => { j with ownStop := j.ownStop && j.kind == 1 })
    ((s.setFrozenSet ⟨0, 0, 0⟩).startResume, wrDriven)

/-- A STEP request (R181 to R183); a Cam's held regions are withheld (R146, R160). -/
def State.stepReq (s : State) (r : WReq) : State × Nat :=
  let st := s.get Reg.WHISTLE.STATE.STATE
  let scope := s.cfg Reg.WHISTLE.STEP_COUNT.SCOPE
  let n := s.cfg Reg.WHISTLE.STEP_COUNT.COUNT
  let mask := s.cfg Reg.WHISTLE.REGION_MASK.MASK
  let f := s.frozenSet
  if s.get Reg.WHISTLE.STATE.STEP_ACTIVE = 1 ∨ st ≠ wsFrozen then s.refuseReq wrRefusedState
  else if scope = 0 ∨ (scope = 1 ∧ f.kind ≠ 3 ∧ mask ≠ 0 ∧ mask &&& f.branches = mask) then
    if ¬ s.treeFree then s.holdReq r
    else
      let t : FrozenSet := if scope = 0 then f else ⟨2, mask, mask⟩
      let b := keepBranches t.branches r.withheld
      let g : FrozenSet := ⟨t.kind, b, if t.kind = 2 then b % 65536 else t.arg⟩
      if b = 0 then (s, wrNoEffect) else
      let s := s.driveSet wireStep g
      let due : TreeCmd := ⟨wireStop, g.mode, if g.kind = 1 then 0 else g.arg, g.branches, s.fc + n⟩
      let s := { s with whistle := { s.whistle with stepDue := some due } }
      ((s.put Reg.WHISTLE.STATE.STEP_ACTIVE 1).startResume, wrDriven)
  else s.refuseReq wrRefusedTarget

/-- A CANCEL request (R191). -/
def State.cancelReq (s : State) : State × Nat :=
  let n := s.whistle.held.length
  let had := s.whistle.stepDue.isSome
  let due := s.whistle.stepDue.map (fun t => { t with fc := min t.fc s.fc })
  let s := { s with whistle := { s.whistle with held := [], stepDue := due } }
  let s := (s.bumpBy Reg.WHISTLE.STATUS.DISCARDS n).put Reg.WHISTLE.STATE.HELD 0
  (s, if n ≠ 0 ∨ had then wrCancelled else wrNoEffect)

/-- Whether the request's source is switched off (R158). -/
def State.reqSuppressed (s : State) (r : WReq) : Bool :=
  (r.source == 5 && s.cfg Reg.WHISTLE.AUTO_SOURCES.FATAL == 0)
  || (r.source == 7 && s.cfg Reg.WHISTLE.AUTO_SOURCES.TEAM == 0)
  || (r.source == 4 && s.cfg Reg.WHISTLE.AUTO_SOURCES.WATCHDOG == 0)
  || (r.source == 3 && s.cfg Reg.WHISTLE.AUTO_SOURCES.BREAK == 0)
  || (r.source == 6 && s.cfg Reg.WHISTLE.AUTO_SOURCES.CAM == 0)
  || (r.source != 5 && s.cfg Reg.WHISTLE.CTRL.ENABLE == 0)

/-- Undrained shadows are held from an earlier SNAP (R188): until a shadow is drained its agent holds it (R33). -/
def State.snapBlocked (s : State) : Bool := s.agents.any (fun e => e.2.shadow.isSome)

/-- Evaluate a request that is not suppressed. -/
def State.evalReq (s : State) (r : WReq) : State × Nat :=
  if r.code = 1 ∨ r.code = 2 ∨ r.code = 3 then s.stopReq r
  else if r.code = 4 then s.resumeReq r
  else if r.code = 5 then s.stepReq r
  else if r.code = 6 then s.snapReq r s.snapBlocked
  else if r.code = 7 then s.cancelReq
  else (s, wrNoEffect)

/-- A request reaches the arbiter (R157, R158); while a parity error stands it is refused, whoever makes it (R85). A CMD write of code 0 made while ENABLE is 0 is a request like any other and
is suppressed (DESIGN CHOICE, assumption log). -/
def State.whistleReq (s : State) (r : WReq) : State × Nat :=
  if ¬ s.parityOk Slot.WHISTLE then s.refuseReq wrRefusedParity
  else if s.reqSuppressed r then
    (s.bump Reg.WHISTLE.AUTO_SOURCES.SUPPRESSED).refuseReq wrRefusedDisabled
  else s.evalReq r

/-- The request that an automatic source makes (Table 4-1); none for an access. -/
def WSource.req (w : WSource) (code arg : Nat) : Option WReq :=
  match w with
  | .access _ => none
  | .fatal a => some ⟨code, 5, a.toNat, arg, 0⟩
  | .team m => some ⟨code, 7, m.toNat, arg, 0⟩
  | .watchdog k => some ⟨code, 4, k.toNat, arg, 0⟩
  | .brk n => some ⟨code, 3, n.toNat, arg, 0⟩
  | .millrace => some ⟨code, 8, 63, arg, 0⟩
  | .cam n => some ⟨code, 6, n.toNat, arg, 0⟩

/-- A write of WHISTLE.CMD, past the checks of Table 2-2 (R85, R159, R190). LAST_CODE keeps its value when the write is
answered BUSY: it is not performed (R159; DESIGN CHOICE, assumption log). -/
def State.whistleCmd (s : State) (source detail data : Nat) : State :=
  let code := data % 8
  if s.tossActive then s.put Reg.WHISTLE.CMD.RESULT wrBusy
  else
  let s := s.put Reg.WHISTLE.CMD.LAST_CODE code
  let arg := if code = 2 then s.cfg Reg.WHISTLE.REGION_MASK.MASK else if code = 3 then s.cfg Reg.WHISTLE.CONTEXT.CTX else 0
  let (s, r) := s.whistleReq ⟨code, source, detail, arg, 0⟩
  s.put Reg.WHISTLE.CMD.RESULT r

/-- A held request that can be taken now: a free fc, and a SNAP only once no freeze wave and no step is in progress. -/
def State.heldReady (s : State) (r : WReq) : Bool :=
  s.treeFree && (r.code != 6 || (s.get Reg.WHISTLE.STATE.STATE != wsFreezing && s.get Reg.WHISTLE.STATE.STEP_ACTIVE == 0))

/-- Take the first held request that is ready (R189). -/
def State.heldDrive (s : State) : State :=
  match s.whistle.held.find? s.heldReady with
  | none => s
  | some r =>
    let rest := s.whistle.held.erase r
    let s := { s with whistle := { s.whistle with held := rest } }
    let run := s.get Reg.WHISTLE.STATE.STATE == wsRunning
    let s := s.put Reg.WHISTLE.STATE.HELD (bit (!rest.isEmpty))
    let (s, c) := s.evalReq r
    { s with whistle := { s.whistle with resolved := some (r, c, s.fc), resolvedRun := run
                                         resolvedPos := 65536 * s.wheel.rev + s.wheel.sub } }

/-- R189: a held request is driven. -/
def execWhistleHeldDrive (s : State) : Host.Outcome State Fault Refusal := .next s.heldDrive

/-- R182: the step's own STOP is driven in fc N of the step, with the step's qualifier and branches. -/
def execStepStop (s : State) : Host.Outcome State Fault Refusal :=
  .next (match s.whistle.stepDue with
  | some t =>
    if t.fc ≤ s.fc ∧ s.treeFree then
      let s := s.drive t.wire t.mode t.field t.branches
      let s := { s with whistle := { s.whistle with stepDue := none, isStepEnd := true } }
      s.startFreeze false
    else s
  | none => s)

/-- R185: in fc 16 of a running snap RESUME is driven on every branch. -/
def execSnapResume (s : State) : Host.Outcome State Fault Refusal :=
  .next (match s.whistle.snapDue with
  | some f =>
    if f ≤ s.fc ∧ s.treeFree then
      let s := s.drive wireResume 0 0 allBranches
      let s := { s with whistle := { s.whistle with snapDue := none } }
      let s := (s.setFrozenSet ⟨0, 0, 0⟩).startResume
      { s with whistle := { s.whistle with fromSnap := true } }
    else s
  | none => s)

/-- R162, R183: in fc 16 of a freeze wave that no RESUME ends, STATE becomes FROZEN. -/
def execWaveFrozen (s : State) : Host.Outcome State Fault Refusal :=
  .next (match s.whistle.freezeFc with
  | some f =>
    if f + 16 ≤ s.fc ∧ s.whistle.snapDue = none ∧ s.get Reg.WHISTLE.STATE.STATE = wsFreezing then
      let ended := s.whistle.isStepEnd
      let s := { s with whistle := { s.whistle with freezeFc := none, isStepEnd := false, isSnap := false } }
      let s := (s.put Reg.WHISTLE.STATE.STATE wsFrozen).raise Reg.WHISTLE.EVENT.FROZEN
      if ended then (s.put Reg.WHISTLE.STATE.STEP_ACTIVE 0).raise Reg.WHISTLE.EVENT.STEP_DONE else s
    else s
  | none => s)

/-- R177: in fc 12 of a resume wave STATE becomes RUNNING; a hold other than a snap's reloads the revolution watchdog
(R478). -/
def execResumeWaveDone (s : State) : Host.Outcome State Fault Refusal :=
  .next (match s.whistle.resumeFc with
  | some f =>
    if f + 12 ≤ s.fc ∧ s.get Reg.WHISTLE.STATE.STATE = wsResuming then
      let s := { s with whistle := { s.whistle with resumeFc := none } }
      let s := if s.whistle.fromSnap then s else { s with hang := { s.hang with revCount := 0 } }
      (s.put Reg.WHISTLE.STATE.STATE wsRunning).raise Reg.WHISTLE.EVENT.RUNNING
    else s
  | none => s)

end Sys2Proof.Machine
end

