-- ==== Sys2Proof/Machine/Agent.lean ====
section
/-! DEFINITION. The named operations on an agent: bringing its counts up to date, raising events and faults, freezing,
resuming, and the shadow latch (chapter 1; R29 to R57). -/

namespace Sys2Proof.Machine

/-- The agent with an ID; an unlisted agent is at reset. -/
def State.agent (s : State) (a : Nat) : Agent := Sparse.get s.agents a {}

/-- Store an agent; an agent equal to its reset state is not listed. -/
def State.setAgent (s : State) (a : Nat) (g : Agent) : State := { s with agents := Sparse.set s.agents a g {} }

/-- Add `n` to programmable counter `k`, noting a carry out of bit 31 (R371) and the increment of this fc (R96). -/
def Agent.pcntAdd (g : Agent) (fc k n : Nat) : Agent :=
  let v := g.get (AReg.A_PCNT k) + n
  let carry := decide (2 ^ 32 ≤ v)
  let (i0, i1) := if g.pcntFc = fc then (g.pcntInc0, g.pcntInc1) else (0, 0)
  let g := { g.put (AReg.A_PCNT k) v with pcntFc := fc, pcntInc0 := if k = 0 then i0 + n else i0
                                          pcntInc1 := if k = 1 then i1 + n else i1 }
  if k = 0 then { g with carry0 := g.carry0 || carry } else { g with carry1 := g.carry1 || carry }

/-- Programmable counter `k` counts event `ev` in a cycle of context `ctx` (R436). -/
def Agent.pcntOn (g : Agent) (ctx k ev : Nat) : Bool :=
  g.get (AReg.A_PSEL.EN k) == 1 && g.get (AReg.A_PSEL.EVENT k) == ev && !g.frozen
  && (g.get (AReg.A_PSEL.CTX_FILTER k) == 0
      || ctxMatch ctx (g.get (AReg.A_CMP_CTX.CTX 0)) (g.get (AReg.A_CMP_CTX.CTX_MASK 0)))

/-- `n` occurrences of programmable event `ev` in this fc (R436), against the context of R27. -/
def Agent.count (g : Agent) (fc ev n : Nat) : Agent :=
  let ctx := g.ctxAt fc
  let g := if g.pcntOn ctx 0 ev then g.pcntAdd fc 0 n else g
  if g.pcntOn ctx 1 ev then g.pcntAdd fc 1 n else g

/-- Programmable counter `k` over `n` cycles of one stall code and context. -/
def Agent.countCycles (g : Agent) (ctx k n : Nat) : Agent :=
  let ev := g.get (AReg.A_PSEL.EVENT k)
  if g.pcntOn ctx k ev && pcntCycleEvent ev g.code then
    let v := g.get (AReg.A_PCNT k) + n
    let g := g.put (AReg.A_PCNT k) v
    if 2 ^ 32 ≤ v then (if k = 0 then { g with carry0 := true } else { g with carry1 := true }) else g
  else g

/-- Both programmable counters over `n` cycles from the settled cycle on: the cycle in which the context was switched counts
against the context held at its start (R27). -/
def Agent.countSpan (g : Agent) (n : Nat) : Agent :=
  let m := if g.ctxCycle = some g.settled then min n 1 else 0
  let g := if m = 0 then g else (g.countCycles g.ctxOld 0 m).countCycles g.ctxOld 1 m
  if n = m then g else (g.countCycles g.ctx 0 (n - m)).countCycles g.ctx 1 (n - m)

/-- Over `n` own-clock cycles of a running agent each skid buffer gives up to two tokens a cycle to its queue, in arrival
order (R32, R178, R179). -/
def Agent.replay (g : Agent) (n : Nat) : Agent :=
  if g.frozen || g.skids.isEmpty then g
  else { g with queues := g.skids.foldl (fun qs e => Sparse.ins qs e.1 (Sparse.get qs e.1 [] ++ e.2.take (2 * n))) g.queues
                skids := (g.skids.map (fun e => (e.1, e.2.drop (2 * n)))).filter (fun e => e.2 != []) }

/-- Bring the agent's counts up to own-clock cycle `now`: the stall duration, A_AON0 and A_AON1 (R39), the
programmable counters' cycle events, the lengths of the waits in force (R40; paused while frozen or halted), and the
deferral count (R204; paused likewise), the watchdog's wait count (R471), and the skids' replay (R178). The latches of
trigger conditions 2 and 3 clear at the end of the first executing cycle (R371, R372). -/
def Agent.settle (g : Agent) (now : Nat) : Agent :=
  let n := now - g.settled
  if n = 0 then { g with settled := now }
  else
    let g := (g.countSpan n).replay n
    let paused := g.frozen || g.halted
    { g with settled := now
             ctxCycle := none
             dur := satAdd g.dur n (2 ^ 24 - 1)
             wdCount := if g.code = 0 ∨ g.code = 4 ∨ g.code = 8 then 0
               else if 1 ≤ g.code ∧ g.code ≤ 5 then g.wdCount + n else g.wdCount
             alarmed := g.alarmed && !(g.code == 0 || g.code == 4 || g.code == 8)
             aon0 := if g.code = 0 then (g.aon0 + n) % 2 ^ 32 else g.aon0
             aon1 := if 1 ≤ g.code ∧ g.code ≤ 5 then (g.aon1 + n) % 2 ^ 32 else g.aon1
             ovfLatch := g.ovfLatch && !g.executes
             armLatch := g.armLatch && !g.executes
             waits := if paused then g.waits else g.waits.map (fun w => { w with len := w.len + n })
             deferLeft := if paused then g.deferLeft else g.deferLeft.map (fun d => d - n) }

/-- After a change, a new stall code starts its duration at 0 (Table 1-13). -/
def Agent.recode (g : Agent) : Agent :=
  let c := g.stallCode
  if c = g.code then g else { g with code := c, prev := g.code, dur := 0 }

/-- Two waits on one resource. -/
def Wait.same (v w : Wait) : Bool := v.kind == w.kind && v.link == w.link && v.peer == w.peer

/-- An edge that records a wait. -/
def Edge.of (e : Edge) (w : Wait) : Bool := e.kind == w.kind && e.link == w.link && e.peer == w.peer

/-- The waits that satisfy `p` end, and their edges are removed (R40). -/
def Agent.endWaits (g : Agent) (p : Wait → Bool) : Agent :=
  { g with waits := g.waits.filter (fun w => !p w), edges := g.edges.filter (fun e => !g.waits.any (fun w => p w && e.of w)) }

/-- A wait comes in force (R40); one that stands already goes on. -/
def Agent.beginWait (g : Agent) (w : Wait) : Agent := if g.waits.any (·.same w) then g else { g with waits := g.waits ++ [w] }

/-- The sender `a` sees the hold of the receiver of its link begin or end: a WAIT_CREDIT with that receiver as its peer
(R169). -/
def Agent.holdSeen (g : Agent) (a : Nat) (e : HoldEdge) : Agent :=
  let w : Wait := ⟨2, e.link, ((linkReceiver a e.link).getD (a, 0)).1, 0, false, true⟩
  (if e.on then g.beginWait w else g.endWaits (fun v => v.hold && v.same w)).recode

/-- Bring the agent up to fc `t` of its clock: the holds it has seen since, in their order, and its counts. -/
def Agent.advance (g : Agent) (a : Nat) (clk : Nat × Nat) (t : Nat) : Agent :=
  let due := g.sched.filter (fun e => decide (e.fc ≤ t))
  let g := due.foldl (fun g e => (g.settle (ownCycles clk.1 clk.2 e.fc)).holdSeen a e)
    { g with sched := g.sched.filter (fun e => decide (t < e.fc)) }
  g.settle (ownCycles clk.1 clk.2 t)

/-- The agent, up to date in this fc. -/
def State.agentNow (s : State) (a : Nat) : Agent := (s.agent a).advance a (s.clockOf a) s.fc

/-- Insert a hold among those to be seen, by fc. -/
def insertHold (e : HoldEdge) : List HoldEdge → List HoldEdge
  | [] => [e]
  | x :: xs => if e.fc < x.fc then e :: x :: xs else x :: insertHold e xs

/-- Agent `b` asserts or releases hold on the back-channel of each of its input queues: each sender sees it L fc later
(R169). -/
def State.holdSignal (s : State) (b : Nat) (on : Bool) : State :=
  (List.range (agentQueues b)).foldl (fun s q =>
    match queueSender b q with
    | none => s
    | some (a, l) =>
      let g := s.agent a
      s.setAgent a { g with sched := insertHold ⟨s.fc + linkLatency b q, l, on⟩ g.sched }) s

/-- What the hub hears of an agent's faults that are new: a skid overflow is reported at once (R176), PROTOCOL over the
acknowledge path, 8 fc later (R163). -/
def State.faultHeard (s : State) (was now : Nat) : State :=
  let s := if testBit now 0 && !testBit was 0 then s.fault Slot.WHISTLE 9 0 else s
  if testBit now 5 && !testBit was 5 then { s with whistle := { s.whistle with protocol := s.whistle.protocol ++ [s.fc] } } else s

/-- The acknowledge path has brought PROTOCOL faults to the hub (R163, Table 4-9). -/
def State.protocolTick (s : State) : State :=
  if s.whistle.protocol.any (fun f => decide (f + 8 ≤ s.fc)) then
    ({ s with whistle := { s.whistle with protocol := s.whistle.protocol.filter (fun f => decide (s.fc < f + 8)) } }).fault Slot.WHISTLE 10 0
  else s

/-- The agent is held: frozen or halted. -/
def Agent.isHeld (g : Agent) : Bool := g.frozen || g.halted

/-- A hold ends: the ages of its edges did not advance (R488), and a hold other than a snap's reloads the wait count
(R478). -/
def Agent.holdEnd (g : Agent) (since now : Nat) (snap : Bool) : Agent :=
  { g with heldNotch := none, edges := g.edges.map (fun e => { e with notch := e.notch + ((now - since : Nat) : Int) })
           wdCount := if snap then g.wdCount else 0, alarmed := snap && g.alarmed }

/-- The hub's watchdogs at the end of an agent's hold (R477, R478): a command engine's command watchdog goes on after a snap
and restarts after any other hold; the firmware watchdog reloads for the control processor named in FW_WD.CP. -/
def State.holdEnded (s : State) (a since : Nat) (snap : Bool) : State :=
  let now := s.wheel.notchCount
  let k := a - 0x2410
  let s := if agentType a = 5 ∧ Sparse.has s.hang.cmdWd k then
      let start := Sparse.get s.hang.cmdWd k 0
      { s with hang := { s.hang with cmdWd := Sparse.ins s.hang.cmdWd k (if snap then start + (now - since) else now) } }
    else s
  if agentType a = 6 ∧ a = 0x2430 + s.cfg Reg.HANG.FW_WD.CP ∧ ¬ snap then { s with hang := { s.hang with fwCount := 0 } } else s

/-- Store an agent that was `g0` and is now `g`: the beginning and the end of a time in which it is held are noted. -/
def State.storeAgent (s : State) (a : Nat) (g0 g : Agent) : State :=
  let now := s.wheel.notchCount
  match g.heldNotch with
  | none => s.setAgent a (if g.isHeld then { g with heldNotch := some now } else g)
  | some since =>
    if g.isHeld then s.setAgent a g
    else
      let snap := !(g0.byStop || g0.halted)
      (s.setAgent a (g.holdEnd since now snap)).holdEnded a since snap

/-- Change an agent: it is brought up to date first, and its stall code is worked out after; the senders see a hold that
begins or ends (R169), and the hub hears of new faults. -/
def State.modAgent (s : State) (a : Nat) (f : Agent → Agent) : State :=
  let g0 := s.agentNow a
  let g := (f g0).recode
  let s := (s.storeAgent a g0 g).faultHeard (g0.get AReg.A_FAULT) (g.get AReg.A_FAULT)
  if g.frozen = g0.frozen then s else s.holdSignal a g.frozen

/-- Change every listed agent. -/
def State.mapAgents (s : State) (f : Nat → Agent → Agent) : State :=
  s.agents.foldl (fun t e => t.setAgent e.1 (f e.1 (t.agent e.1))) s

/-- A command about agent `a` is refused when the ID is unused or its type has no such resource (Table 1-5);
otherwise `t` is the next state. -/
def onAgent (a : AgentId) (ok : Nat → Bool) (t : State) : Host.Outcome State Fault Refusal :=
  if agentType a.toNat ≠ 0 ∧ ok (agentType a.toNat) then .next t else .refused (.noSuchUnit a.toNat)

/-- Types with a resource. -/
def anyType : Nat → Bool := fun _ => true
def cuOrCp : Nat → Bool := fun t => t == 1 || t == 6
def cuType : Nat → Bool := fun t => t == 1
def muType : Nat → Bool := fun t => t == 2
def gwType : Nat → Bool := fun t => t == 3 || t == 4
def linkType : Nat → Bool := fun t => t == 1 || t == 2 || t == 3 || t == 4
def cpType : Nat → Bool := fun t => t == 6

/-! ### Events and faults -/

/-- Events waiting for the bus of a half (R52). -/
def State.bus (s : State) (h : Nat) : List BusEvent := if h = 0 then s.brk.north else s.brk.south

/-- Replace the events waiting for a half's bus. -/
def State.setBus (s : State) (h : Nat) (l : List BusEvent) : State :=
  if h = 0 then { s with brk := { s.brk with north := l } } else { s with brk := { s.brk with south := l } }

/-- Insert an event in the order of R52: raised earlier first, and in one fc by ascending agent ID. -/
def insertEvent (e : BusEvent) : List BusEvent → List BusEvent
  | [] => [e]
  | x :: xs => if x.fc < e.fc ∨ (x.fc = e.fc ∧ x.agent ≤ e.agent) then x :: insertEvent e xs else e :: x :: xs

/-- An agent raises event `code`: at most 4 of its events wait for the bus, a fifth is dropped and counted in
A_TRIG_STATE.EVT_LOST (R52, R53). -/
def State.raiseEvent (s : State) (a code : Nat) : State :=
  let h := agentHalf a
  let g := s.agent a
  if 4 ≤ ((s.bus h).filter (fun e => e.agent == a)).length then
    s.setAgent a { g with evtLost := satAdd g.evtLost 1 255 }
  else s.setBus h (insertEvent ⟨a, code, g.ctxAt s.fc, s.fc⟩ (s.bus h))

/-- Set bit `b` of A_FAULT; A_FAULT_INFO captures it when A_FAULT was zero (R56). -/
def Agent.fault (g : Agent) (fc b detail : Nat) : Agent :=
  let was := g.get AReg.A_FAULT
  let now := if g.faultFc = fc then g.faultNow else []
  let g := { g.put AReg.A_FAULT (setBit was b true) with
    faultNow := now ++ [(b, detail, g.ctx)], faultFc := fc, faultWas := if g.faultFc = fc ∧ g.faultNow ≠ [] then g.faultWas else was }
  if was = 0 then
    ((g.put AReg.A_FAULT_INFO.FIRST b).put AReg.A_FAULT_INFO.DETAIL detail).put AReg.A_FAULT_INFO.CONTEXT g.ctx
  else g

/-! ### Freezing, resuming and the shadow latch -/

/-- The agent acts on a Whistle command by its qualifier (R48). -/
def Agent.acts (g : Agent) (a fc : Nat) (c : TreeCmd) : Bool :=
  match c.mode with
  | 0 => true
  | 1 => match agentRegion a with
    | some r => testBit c.field r
    | none => false
  | 2 => g.ctxAt fc == c.field
  | _ => false

/-- The agent goes through the commands driven, oldest first, in fc `t` (R156, R161): those on other branches do not reach it;
a command on which its qualifier says not to act is passed over in its time; the first on which it acts is performed if it is
on the named wire and its time has come. A command driven in fc d arrives in fc d + 7 or d + 8 (R47): which of the two holds
for all commands, and the first performed shows it. -/
def Agent.nextCmd (g : Agent) (a t : Nat) (clk : Nat × Nat) (wire : Nat) : List TreeCmd → Agent × Option TreeCmd
  | [] => (g, none)
  | c :: cs =>
    let early := performFrom clk (c.fc + 7 + g.offset.getD 0)
    let late := performFrom clk (c.fc + 7 + g.offset.getD 1)
    if c.fc < g.heard ∨ ¬ testBit c.branches (agentBranch a) then g.nextCmd a t clk wire cs
    else if g.acts a t c then
      if c.wire = wire ∧ early ≤ t then
        ({ g with heard := c.fc + 1, offset := if t < late then some 0 else if t = late ∧ early < late then some 1 else g.offset }, some c)
      else (g, none)
    else if late ≤ t then Agent.nextCmd { g with heard := c.fc + 1 } a t clk wire cs
    else (g, none)

/-- The command that agent `a` performs now on a wire, and the agent after it has heard it. -/
def State.hear (s : State) (a wire : Nat) : State × Option TreeCmd :=
  let (g, c) := (s.agentNow a).nextCmd a s.fc (s.clockOf a) wire s.whistle.tree
  (if g.heard = (s.agent a).heard then s else s.setAgent a g, c)

/-- The lists of queue contents keyed by queue number. -/
def keyed {α : Type} : Nat → List α → Sparse α
  | _, [] => []
  | i, x :: xs => (i, x) :: keyed (i + 1) xs

/-- Take the unit's own state as it freezes. -/
def Agent.takeUnit (g : Agent) (a : Nat) (u : UnitState) : Agent :=
  { g with unitBody := u.body, queues := keyed 0 (u.queues.take (agentQueues a)),
           credits := keyed 0 (u.credits.take (agentQueues a)) }

/-- Occupancy of an input queue; a tied-off queue without tokens reads 0 (R19). -/
def Agent.occ (g : Agent) (q : Nat) : Nat := (Sparse.get g.queues q []).length

/-- Tokens in a skid buffer. -/
def Agent.skid (g : Agent) (q : Nat) : Nat := (Sparse.get g.skids q []).length

/-- Credits held for an output link; a tied-off output reads 0 (R19). -/
def Agent.credit (g : Agent) (a l : Nat) : Nat :=
  if (linkReceiver a l).isNone then 0 else Sparse.get g.credits l 16

/-- Shadow header byte 6 (Table 1-6). -/
def Agent.shadowStatus (g : Agent) : Nat :=
  g.code + 16 * bit (g.frozen && g.byStop) + 32 * bit g.halted + 64 * bit g.stepFlag

/-- The channel capture (R186, R236): occupancies, credits, queue and skid contents as they stand. -/
def Agent.captureChannels (g : Agent) (a : Nat) (h : Shadow) : Shadow :=
  let n := agentQueues a
  { h with occ := (List.range n).map g.occ, credits := (List.range n).map (g.credit a)
           queues := (List.range n).map (fun q => Sparse.get g.queues q [])
           skids := (List.range n).map (fun q => Sparse.get g.skids q []), channels := true, ninth := h.ninth ++ g.skidOver }

/-- Granules an arm request selects. -/
def Agent.armGranules (g : Agent) (r : ArmReq) : List Nat :=
  if r.dirtyOnly then g.dirty.filter (fun k => r.first ≤ k && k ≤ r.last)
  else (List.range (r.last + 1 - r.first)).map (fun i => r.first + i)

/-- What an accepted arm request does at the agent's cut point: an MU protects the selected granules (R245), with
copy-on-write when `cow`, a gateway latches its dirty list (R252), and the dirty marks are cleared where the cut clears
them (R317). -/
def Agent.armAct (g : Agent) (a : Nat) (cow : Bool) : Agent :=
  match g.armReq with
  | none => g
  | some r =>
    let g := { g with armReq := none }
    if r.ctx.isSome && r.ctx != some g.ctx then g
    else if agentType a = 2 then
      let ks := g.armGranules r
      let d := g.dirty.filter (fun k => r.first ≤ k && k ≤ r.last)
      let g := { g with protectedG := ks, cowArmed := cow && ks != [] }
      if r.clear then { g with latchedG := d, dirty := g.dirty.filter (fun k => !d.contains k) } else g
    else if r.pages then
      let g := { g with latchedP := g.dirtyPages }
      if r.clearPages then { g with dirtyPages := [] } else g
    else g

/-- Pad with zero bytes, or cut, to `n` bytes. -/
def padTo (n : Nat) (l : List Byte) : List Byte := (l ++ List.replicate n 0).take n

/-- Bytes written over a byte list from position `k` on. -/
def patchAt (l : List Byte) (k : Nat) (bs : List Byte) : List Byte := padTo k l ++ bs ++ l.drop (k + bs.length)

/-- Where a shadow body holds the unit's register at page offset `o` of a type (Tables 1-23, 5-3 and 6-8): the byte after the
header, and the number of bytes. -/
def unitPlace (t o : Nat) : Option (Nat × Nat) :=
  if t = 1 then
    if o = 0x4A0 then some (0, 2)
    else if o = 0x4A4 then some (4, 1)
    else if 0x4A8 ≤ o ∧ o ≤ 0x4C4 then some (8 + (o - 0x4A8), 4)
    else if o = 0x4C8 then some (2, 2)
    else if o = 0x4CC then some (48, 1)
    else if o = 0x4D0 ∨ o = 0x4D4 then some (40 + (o - 0x4D0), 4)
    else none
  else if t = 2 then (if 0x4A0 ≤ o ∧ o ≤ 0x4AC then some (o - 0x4A0, 4) else none)
  else if t = 3 ∨ t = 4 then (if o = 0x4AC then some (48, 4) else none)
  else if t = 6 then
    if o = 0x4A0 ∨ o = 0x4A4 then some (o - 0x4A0, 4)
    else if o = 0x4AC then some (272, 2)
    else if 0x4B0 ≤ o ∧ o ≤ 0x5B4 then some (8 + (o - 0x4B0), 4)
    else if o = 0x5B8 ∨ o = 0x5BC then some (288 + (o - 0x5B8), 4)
    else if o = 0x5C0 ∨ o = 0x5C4 then some (280 + (o - 0x5C0), 4)
    else none
  else none

/-- The unit's register at page offset `o` as the body of a frozen unit holds it (R57). -/
def Agent.bodyWord (g : Agent) (t o : Nat) : Option Nat :=
  if g.frozen && g.unitBody != [] then
    (unitPlace t o).map (fun x => leVal (((padTo (x.1 + x.2) g.unitBody)).drop x.1))
  else none

/-- What a CU's body says of its locked sequence, reservation and halt (byte 37 of Table 6-8). -/
def Agent.cuFlags (g : Agent) : Nat :=
  let old := (g.unitBody.getD 5 0).toNat
  let locked := g.locked || (!g.halted && testBit old 0)
  let reserved := g.reserved || (!g.halted && testBit old 1)
  bit locked + 2 * bit reserved + 4 * bit g.halted

/-- The shadow body of the unit (Table 6-8): what it brought as it froze, with the registers that the model holds, the halt
flags, an MU's dirty, copy-on-write and tap state, a gateway's count of dirty pages and a command engine's command written
over it. -/
def Agent.bodyNow (g : Agent) (a : Nat) : List Byte :=
  let t := agentType a
  let b := g.known.foldl (fun b o =>
    match unitPlace t o with
    | some (k, n) => patchAt b k (leBytes n (Sparse.get g.regs (o * 8) 0))
    | none => b) g.unitBody
  match t with
  | 1 => patchAt (patchAt b 5 (leBytes 1 g.cuFlags)) 52 (leBytes 4 (g.get AReg.CU_ACC_SPILLS))
  | 2 =>
    let flags := g.get AReg.A_DIRTY_CTRL.DIRTY_EN + 2 * g.get AReg.A_DIRTY_CTRL.COW_EN + 4 * bit g.cowArmed
      + 8 * g.get AReg.A_TAP_CTRL.ENABLE
    let b := patchAt b 80 (leBytes 2 g.dirty.length ++ leBytes 2 g.preserved.length ++ leBytes 4 flags)
    patchAt b 88 (leBytes 4 (g.get AReg.MU_ECC_COUNT)
      ++ leBytes 4 (512 * g.get AReg.A_TAP_CTRL.MASK_EN + 8 * g.get AReg.A_TAP_CTRL.SLOT + 2 * g.get AReg.A_TAP_CTRL.PORT
        + g.get AReg.A_TAP_CTRL.ENABLE))
  | 3 | 4 => patchAt b 52 (leBytes 4 g.dirtyPages.length)
  | 5 => patchAt b 0 (leBytes 4 (g.get AReg.CE_SEQ) ++ leBytes 4 (256 * g.get AReg.CE_NP + g.get AReg.CE_ST)
      ++ leBytes 4 (g.get AReg.CE_DESC_LO) ++ leBytes 4 (g.get AReg.CE_DESC_HI) ++ leBytes 4 (g.get AReg.CE_DEADLINE))
  | _ => b

/-- The channel capture of the shadow held; the marks of R31 move into it. -/
def Agent.channelCapture (g : Agent) (a : Nat) : Agent :=
  match g.shadow with
  | some h => if h.channels then g else { g with shadow := some (g.captureChannels a h), skidOver := [] }
  | none => g

/-- Capture the shadow (R33, R34); with `channels` also the channel capture. -/
def Agent.capture (g : Agent) (a fc : Nat) (channels : Bool) : Agent :=
  let h : Shadow := ⟨g.ctx, g.shadowStatus, (List.range (agentQueues a)).map g.occ,
    (List.range (agentQueues a)).map (g.credit a), g.bodyNow a, [], [], false, fc,
    [g.aon0, g.aon1, g.aon2, g.aon3, g.get (AReg.A_PCNT 0), g.get (AReg.A_PCNT 1)], []⟩
  let g : Agent := { g with shadow := some h }
  if channels then g.channelCapture a else g

/-- Release the shadow (R238). -/
def Agent.release (g : Agent) : Agent := { g with shadow := none }

/-- Freeze: the flow encoder enters HELD elsewhere; the unit launches nothing, consumes nothing and counts nothing
(R29). -/
def Agent.freeze (g : Agent) (byStop : Bool) : Agent := { g with frozen := true, byStop := byStop }

/-- Resume: hold is released and the skids replay cycle by cycle (R32, R178); RESUME clears the step flag, STEP sets it
(R49). -/
def Agent.resume (g : Agent) (step : Bool) : Agent := { g with frozen := false, byStop := false, stepFlag := step }

/-- The unit leaves SLEEP, or is awake already: not while it is frozen, halted or faulted. -/
def Agent.awake (g : Agent) : Option Agent :=
  if g.frozen || g.halted || g.faulted then none else some { g with asleep := false, executed := true, known := [], tiles := [] }

/-- An activity of the unit: nothing when it is frozen, halted or faulted; a sleeping unit that becomes active has left SLEEP
(R38), but one whose encoder is in SLEEP does so by ENCODER_WAKE alone. -/
def Agent.active (g : Agent) : Option Agent := if g.asleep && g.enc.state == 3 then none else g.awake

/-- Perform `f` on the unit if it executes in this fc (R38); otherwise nothing happens. -/
def State.whenActive (s : State) (a : Nat) (f : State → State) : State :=
  if s.gatedNow a then s
  else match (s.agentNow a).active with
    | none => s
    | some g => f (s.setAgent a g.recode)

/-- Perform `f` on a core that goes on to its next instruction: a core that a comparator of KIND 0 has stopped issues nothing
further (R197). -/
def State.whenIssues (s : State) (a : Nat) (f : State → State) : State :=
  if (s.agent a).haltAt.isSome then s else s.whenActive a f

/-- Perform `f` on the unit if this is one of its executing cycles: a sleeping unit stays asleep and nothing happens (R38). -/
def State.whenExecutes (s : State) (a : Nat) (f : State → State) : State :=
  let g := s.agentNow a
  if s.gatedNow a || !g.executes then s else f (s.setAgent a g)

/-- Perform `f` on the unit unless it is held still; a sleeping unit stays asleep. -/
def State.whenFree (s : State) (a : Nat) (f : State → State) : State :=
  let g := s.agentNow a
  if s.gatedNow a || g.frozen || g.halted || g.faulted then s else f (s.setAgent a g)

/-- The shadow's bytes (Tables 1-6, 1-7): the 32-byte header and the body. -/
def Shadow.bytes (h : Shadow) (a : Nat) : List Byte :=
  let eight := fun (l : List Nat) => padTo 8 (l.map (fun v => BitVec.ofNat 8 v))
  let head := leBytes 2 a ++ leBytes 1 (agentType a) ++ leBytes 1 1 ++ leBytes 2 h.ctx ++ leBytes 1 h.status ++ leBytes 1 0
    ++ eight h.occ ++ eight h.credits ++ leBytes 8 0
  let body := if isGateway a then
      padTo 24 (h.occ.map (fun v => BitVec.ofNat 8 v)) ++ padTo 24 (h.credits.map (fun v => BitVec.ofNat 8 v))
        ++ h.body.drop 48
    else h.body
  padTo (shadowBytes a) (head ++ body)

/-- A word of a byte list. -/
def wordAt (l : List Byte) (w : Nat) : Nat := leVal ((l.drop (4 * w)).take 4)

end Sys2Proof.Machine
end

