-- ==== Sys2Proof/Machine/Trace.lean ====
section
/-! DEFINITION. Trace entries, the funnels and the trace buffers (chapters 9 and 10). -/

namespace Sys2Proof.Machine

/-! ### Entries (R349, R350) -/

/-- A trace entry (Table 9-1). -/
def traceEntry (src cls type payload : Nat) : BitVec 128 :=
  BitVec.ofNat 128 (2 ^ 114 * src + 2 ^ 112 * (cls % 4) + 2 ^ 108 * type + payload % 2 ^ 108)

/-- The fields of an entry. -/
def entrySource (e : BitVec 128) : Nat := bits e.toNat 127 114
def entryClass (e : BitVec 128) : Nat := bits e.toNat 113 112
def entryType (e : BitVec 128) : Nat := bits e.toNat 111 108

/-- Entry types (Table 9-2). -/
def tyPad : Nat := 0
def tyBits : Nat := 1
def tyTarget : Nat := 2
def tySync : Nat := 3
def tySleep : Nat := 4
def tyWake : Nat := 5
def tyLost : Nat := 6
def tyPcs : Nat := 7
def tyCmdBegin : Nat := 8
def tyCmdEnd : Nat := 9
def tyCmdEndLate : Nat := 10
def tyTrigger : Nat := 11
def tyCounters : Nat := 12

/-- The hub's own source (R349). -/
def hubSource : Nat := 0x3FFF

/-- An entry of a flow encoder: types 1 to 5, and 11 from an agent (Table 9-2). -/
def isFlowEntry (e : BitVec 128) : Bool :=
  (1 ≤ entryType e && entryType e ≤ 5) || (entryType e == tyTrigger && entrySource e != hubSource)

/-! ### A half's funnel -/

/-- The funnel of a half. -/
def State.fh (s : State) (h : Nat) : FunnelHalf := if h = 0 then s.trace.north else s.trace.south

/-- Replace a half's funnel. -/
def State.setFh (s : State) (h : Nat) (f : FunnelHalf) : State :=
  if h = 0 then { s with trace := { s.trace with north := f } } else { s with trace := { s.trace with south := f } }

/-- The half's TRIG_STATE field. -/
def trigStateFld (h : Nat) : Fld := if h = 0 then Reg.FUNNEL.TRIG_STATE.NORTH else Reg.FUNNEL.TRIG_STATE.SOUTH

/-- Trigger states (Table 10-3). -/
def tsDisarmed : Nat := 0
def tsArmed : Nat := 1
def tsTriggered : Nat := 2
def tsStopped : Nat := 3

/-- Entries per half's buffer (R392). -/
def traceEntries : Nat := 262144

/-- Entries of a half's spill area (R408). -/
def State.spillEntries (s : State) : Nat := s.cfg Reg.FUNNEL.SPILL_SIZE.UNITS * 2048

/-- Hub power state 0 is W0: below it no entry is written (R418). -/
def State.belowW0 (s : State) : Bool := s.get Reg.POWER.CURRENT_STATE.STATE != 0

/-- A half that drops every arrival: stopped, disabled or below W0 (R404, R414, R418, R425). -/
def State.funnelShut (s : State) (h : Nat) : Bool :=
  s.get (trigStateFld h) == tsStopped || s.cfg Reg.FUNNEL.CTRL.ENABLE == 0 || s.belowW0

/-- An entry's rank while source `p` is promoted (R398). -/
def rankUnder (p : Option Nat) (e : BitVec 128) : Nat := if p = some (entrySource e) then max (entryClass e) 2 else entryClass e

/-- An entry's rank in the merge buffer, and as it arrives (R398). -/
def State.rankOf (s : State) (e : BitVec 128) : Nat := rankUnder s.trace.promoted e
def State.arrivalRank (s : State) (e : BitVec 128) : Nat := rankUnder s.trace.promotedWas e

/-- A promotion begins or ends: the queued entries are ranked anew in the same fc (R398, R406). -/
def State.promote (s : State) (p : Option Nat) : State :=
  let rank := fun (l : List Queued) => l.map (fun q => { q with rank := rankUnder p q.item.bits })
  let s := { s with trace := { s.trace with promoted := p } }
  let s := s.setFh 0 { s.fh 0 with merge := rank (s.fh 0).merge }
  s.setFh 1 { s.fh 1 with merge := rank (s.fh 1).merge }

/-- Entries in the merge buffer, tally marks aside (R421). -/
def mergeCount (m : List Queued) : Nat := (m.filter (fun q => q.item.mark.isNone)).length

/-- Entries of rank 0 to 2 in the merge buffer. -/
def mergeLow (m : List Queued) : Nat := (m.filter (fun q => q.item.mark.isNone && q.rank < 3)).length

/-- The victims Table 10-1 may take, newest first: entries of rank below `r` that are their source's newest. -/
def victims (r : Nat) : List Queued → List Nat → List Queued
  | [], _ => []
  | q :: qs, seen =>
    if q.item.mark.isSome then victims r qs seen
    else if seen.contains q.item.src then victims r qs seen
    else if q.rank < r then q :: victims r qs (q.item.src :: seen)
    else victims r qs (q.item.src :: seen)

/-- The victim: the newest entry of the lowest rank present (R399). -/
def victim (r : Nat) (m : List Queued) : Option Queued :=
  let v := victims r m.reverse []
  let low := v.foldl (fun n q => min n q.rank) 4
  v.find? (fun q => q.rank == low)

/-- Remove the last occurrence of an item. -/
def eraseLast (q : Queued) (m : List Queued) : List Queued := (m.reverse.erase q).reverse

/-- The newest queued entry of a source is a LOST not yet written (R400). -/
def newestIsLost (src : Nat) (m : List Queued) : Bool :=
  match m.reverse.find? (fun q => q.item.mark.isNone && q.item.src == src) with
  | some q => q.lost.isSome
  | none => false

/-- Add the drops that `k` counts to a LOST record (R402). -/
def LostRec.add (l k : LostRec) : LostRec := ⟨l.count + k.count, max l.cls k.cls, l.flow || k.flow⟩

/-- The drops `k` of source `src` are recorded: in its newest queued entry where that is a LOST, else in its pending count, which
marks the source lost; a flow source that is so marked is owed a notice if `notice` holds (R400, R403). -/
def State.recordLost (s : State) (h src : Nat) (k : LostRec) (notice : Bool) : State :=
  let f := s.fh h
  if newestIsLost src f.merge then
    let m := (updateFirst (fun q => q.item.mark.isNone && q.item.src == src)
      (fun q => { q with lost := q.lost.map (fun l => l.add k) }) f.merge.reverse).reverse
    s.setFh h { f with merge := m }
  else
    let notices := if notice ∧ cuOrCp (agentType src) ∧ ¬ Sparse.has f.lost src then f.notices ++ [src] else f.notices
    s.setFh h { f with lost := Sparse.ins f.lost src ((Sparse.get f.lost src ⟨0, 0, false⟩).add k), notices := notices }

/-- A drop enters the ledgers of its class (R404). -/
def State.dropCount (s : State) (rank : Nat) : State :=
  ((s.bumpWrap (Reg.FUNNEL.DROP_CLASS.COUNT rank) 1).raise Reg.FUNNEL.EVENT.DROP).hubEvent 10 1

/-- An entry is dropped in a half (R400, R403, R404). -/
def State.dropEntry (s : State) (h : Nat) (e : BitVec 128) (rank : Nat) (notice : Bool) : State :=
  let src := entrySource e
  let s := s.dropCount rank
  let f := s.fh h
  let s := s.setFh h { f with drp := Sparse.ins f.drp src ((Sparse.get f.drp src 0 + 1) % 2 ^ 32) }
  s.recordLost h src ⟨1, rank, isFlowEntry e⟩ notice

/-- A queued entry is dropped. A LOST's own drop is no drop of an entry that its source generated (R4): the drops it counts go
back to the source's pending count (DESIGN CHOICE, assumption log). -/
def State.dropQueued (s : State) (h : Nat) (e : BitVec 128) (rank : Nat) (lost : Option LostRec) : State :=
  match lost with
  | none => s.dropEntry h e rank true
  | some k => (s.dropCount rank).recordLost h (entrySource e) k false

/-- The half's TRIGGER entry was dropped: it counts from this fc and TRIG_PTR is not valid (R413). -/
def State.trigDropped (s : State) (h : Nat) : State :=
  s.setFh h { s.fh h with trigPtr := none, post := some 0 }

/-- An arrival at a half's funnel, with its rank at the start of the fc (R398, R399, Table 10-1). -/
def State.arriveQ (s : State) (h : Nat) (q : Queued) : State :=
  let f := s.fh h
  let src := q.item.src
  let q' := { q with rank := s.rankOf q.item.bits }
  if q.item.mark.isSome then s.setFh h { f with merge := f.merge ++ [q] }
  else
    let drop := fun (s : State) =>
      let s := s.dropEntry h q.item.bits q.rank true
      if q.trig then s.trigDropped h else s
    if s.funnelShut h ∨ (Sparse.has f.lost src ∧ q.lost.isNone) then drop s
    else
      let room := if q.rank < 3 then decide (mergeLow f.merge < 384 ∧ mergeCount f.merge < 512)
        else decide (mergeCount f.merge < 512)
      if room then s.setFh h { f with merge := f.merge ++ [q'] }
      else match victim q.rank f.merge with
        | none => drop s
        | some v =>
          let s := s.setFh h { f with merge := eraseLast v f.merge }
          let s := s.dropEntry h v.item.bits v.rank true
          let s := if v.trig then s.trigDropped h else s
          let f := s.fh h
          s.setFh h { f with merge := f.merge ++ [q'] }

/-- An entry arrives at a half's funnel. -/
def State.arrive (s : State) (h : Nat) (e : BitVec 128) (trig : Bool) : State :=
  s.arriveQ h ⟨⟨entrySource e, e, none⟩, s.arrivalRank e, none, trig⟩

/-- A hub-internal entry is produced and arrives in the same fc (R393, R396). -/
def State.hubEntry (s : State) (h cls type payload : Nat) (trig : Bool) : State :=
  let f := s.fh h
  (s.setFh h { f with gen := f.gen + 1 }).arrive h (traceEntry hubSource cls type payload) trig

/-- Put an item on the ring to its half's funnel. -/
def State.sendItem (s : State) (h : Nat) (i : TItem) : State :=
  let f := s.fh h
  s.setFh h { f with inbox := f.inbox ++ [(s.fc, i)] }

/-- The entry that a merge-buffer item is written as: a LOST carries its record (Table 9-15). -/
def Queued.entry (q : Queued) : BitVec 128 :=
  match q.lost with
  | none => q.item.bits
  | some l =>
    traceEntry q.item.src 3 tyLost
      (2 ^ 106 * l.cls + 2 ^ 105 * bit l.flow + 2 ^ 104 * bit (decide (2 ^ 32 - 1 ≤ l.count)) + min l.count (2 ^ 32 - 1))

/-- The stop count in effect (R413). -/
def State.postLimit (s : State) : Nat :=
  let n := s.cfg Reg.FUNNEL.POST_TRIG_COUNT.COUNT
  if s.cfg Reg.FUNNEL.MODE.MODE = 2 then min n (s.spillEntries - 1) else min n 262143

/-- Every queued entry of a half is dropped; tally marks stay (R414). -/
def State.dropMerge (s : State) (h : Nat) : State :=
  let m := (s.fh h).merge
  let s := s.setFh h { s.fh h with merge := m.filter (fun q => q.item.mark.isSome) }
  (m.filter (fun q => q.item.mark.isNone)).foldl (fun s q =>
    let s := s.dropQueued h q.entry q.rank q.lost
    if q.trig then s.trigDropped h else s) s

/-- End the promotion when its source lies in the half (R406). -/
def State.endPromotion (s : State) (h : Nat) : State :=
  match s.trace.promoted with
  | some a => if agentHalf a = h then s.promote none else s
  | none => s

/-- A half enters STOPPED (Table 10-3, R414). -/
def State.enterStopped (s : State) (h : Nat) : State :=
  let s := s.put (trigStateFld h) tsStopped
  let s := (s.dropMerge h).endPromotion h
  let s := s.setFh h { s.fh h with stopping := false }
  s.raise Reg.FUNNEL.EVENT.STOPPED

/-- A half is to stop: at once, or in SPILL mode once its FIFO has been spilled and padded (R414). -/
def State.stopHalf (s : State) (h : Nat) : State :=
  if s.cfg Reg.FUNNEL.MODE.MODE = 2 ∧ (s.fh h).fifo ≠ [] then s.setFh h { s.fh h with stopping := true }
  else s.enterStopped h

/-- The write index past an offline bank of 16,384 entries (R593). -/
def State.skipOffline (s : State) (h i : Nat) : Nat :=
  let v := s.get (if h = 0 then Reg.SELFTEST.BANK_OFFLINE.NORTH_VALID else Reg.SELFTEST.BANK_OFFLINE.SOUTH_VALID)
  let b := s.get (if h = 0 then Reg.SELFTEST.BANK_OFFLINE.NORTH else Reg.SELFTEST.BANK_OFFLINE.SOUTH)
  if v = 1 ∧ s.test.test = 1 ∧ i / 16384 = b then 16384 * (b + 1) else i

/-- R394, R397, R407: the oldest entry of the merge buffer is written, one in each fc. A LOST is the funnel's own and counts in no
source's accepted entries (R4, R404). -/
def State.funnelWrite (s : State) (h : Nat) : State :=
  let f := s.fh h
  let mode := s.cfg Reg.FUNNEL.MODE.MODE
  let past := s.skipOffline h f.wr
  let f := if mode = 2 then f else { f with wr := if mode = 0 then past % traceEntries else past
                                            wrapped := f.wrapped || (mode == 0 && past == traceEntries) }
  let full := match f.post with
    | some n => decide (s.get (trigStateFld h) = tsTriggered ∧ s.postLimit ≤ n)
    | none => false
  let blocked := s.get (trigStateFld h) == tsStopped || s.belowW0 || f.stopping || full
    || (mode == 1 && f.wr == traceEntries) || (mode == 2 && f.fifo.length == traceEntries) || f.wroteFc == some s.fc
  match f.merge with
  | q :: rest =>
    if blocked ∨ q.item.mark.isSome then s
    else
      let e := q.entry
      let src := q.item.src
      let area := if mode = 2 then s.spillEntries else traceEntries
      let index := if mode = 2 then (f.spillWr + f.fifo.length) % max area 1 else f.wr
      let acc := if q.lost.isSome then f.acc else Sparse.ins f.acc src ((Sparse.get f.acc src 0 + 1) % 2 ^ 32)
      let f := { f with merge := rest, wroteFc := some s.fc, acc := acc
                        tail := f.tail ++ [e]
                        trigPtr := if q.trig then some index else f.trigPtr
                        post := if q.trig then some 0 else f.post.map (· + 1) }
      let f := if mode = 2 then { f with fifo := f.fifo ++ [e] }
        else if mode = 1 then { f with buf := Sparse.set f.buf f.wr e 0, wr := f.wr + 1 }
        else { f with buf := Sparse.set f.buf f.wr e 0, wr := (f.wr + 1) % traceEntries
                      wrapped := f.wrapped || f.wr + 1 == traceEntries }
      ((s.setFh h f).hubEvent 11 1).put64 Reg.FUNNEL.ACCEPT_LO Reg.FUNNEL.ACCEPT_HI
        ((s.get64 Reg.FUNNEL.ACCEPT_LO Reg.FUNNEL.ACCEPT_HI + 1) % 2 ^ 64)
  | [] => s

/-- R411: four entries, completed with PAD entries when the FIFO is being flushed, leave for the spill area; with ENABLE at 0 it
is written out (R425), and so is what it holds when another mode is set, since a MODE write discards nothing (R407). -/
def State.spillUnit (s : State) (h : Nat) : State :=
  let f := s.fh h
  let spills := s.cfg Reg.FUNNEL.MODE.MODE == 2
  let flush := f.stopping || f.flushing || !spills || (s.get Reg.FUNNEL.CTRL.ENABLE == 0 && mergeCount f.merge == 0)
  if f.fifo = [] ∨ (f.fifo.length < 4 ∧ ¬ flush) then s
  else
    let pads := List.replicate (4 - f.fifo.length) (traceEntry hubSource 0 tyPad 0)
    let unit := f.fifo.take 4 ++ pads
    let base := 2 ^ 32 * s.cfg Reg.FUNNEL.SPILL_BASE_HI.ADDR + s.cfg Reg.FUNNEL.SPILL_BASE_LO
    let addr := base + h * s.spillEntries * 16 + 16 * f.spillWr
    let wr := f.spillWr + 4
    let wraps := decide (s.spillEntries ≤ wr)
    let f := { f with fifo := f.fifo.drop 4, spillWr := if wraps then 0 else wr, wrapped := f.wrapped || (spills && wraps)
                      tail := f.tail ++ pads }
    let s := { s.setFh h f with mm := { s.mm with lastWrite := some (addr, unit.flatMap (fun e => leBytes 16 e.toNat)) } }
    let s := if wraps then s.raise Reg.FUNNEL.EVENT.SPILL_WRAP else s
    if f.fifo = [] ∧ f.stopping then s.enterStopped h else s

/-! ### The hub-level trigger (R412 to R415) -/

/-- One half takes a trigger: it enters TRIGGERED, unless FILL_STOP stopped it in this fc, and its TRIGGER entry arrives (R412,
Table 10-4). -/
def State.trigHalf (s : State) (h origin detail : Nat) : State :=
  let payload := 2 ^ 96 * origin + 2 ^ 80 * detail + 2 ^ 52 * s.wheel.stamp28
  let s := if s.test.test = 1 then { s with test := { s.test with trigs := h :: s.test.trigs } } else s
  let s := if s.get (trigStateFld h) = tsStopped then s else s.put (trigStateFld h) tsTriggered
  let s := s.setFh h { s.fh h with post := none, trigPtr := none }
  s.hubEntry h 3 tyTrigger payload true

/-- A half that takes a trigger of this fc: ARMED at its start, with no STOP_NOW, DISARM or MODE write in it (Table 10-4). -/
def State.trigTakes (s : State) (h : Nat) : Bool := s.cfg (trigStateFld h) == tsArmed && s.trace.cmdFc != some s.fc

/-- A hub-level trigger of this fc, with the source it would promote (R405); which trigger of an fc is taken is settled at its
end. -/
def State.trigger (s : State) (origin detail : Nat) (promote : Option Nat) : State :=
  { s with trace := { s.trace with trigs := s.trace.trigs ++ [(origin, detail, promote)] } }

/-- A trigger of a Cam or a break slot: TRIG_CMD.PROMOTE as it was at the start of the fc (R97, R405). -/
def State.autoTrigger (s : State) (origin detail : Nat) (agent : Option Nat) : State :=
  s.trigger origin detail (if s.cfg Reg.FUNNEL.TRIG_CMD.PROMOTE = 1 then agent else none)

/-- Trigger `x` comes before `y` (Table 10-4): break slots, then Cams, each by number, then TRIG_CMD. -/
def trigBefore (x y : Nat × Nat × Option Nat) : Bool := decide (y.1 < x.1) || (x.1 == y.1 && x.1 != 1 && decide (x.2.1 < y.2.1))

/-- The trigger that is taken of those of one fc. -/
def firstTrig : List (Nat × Nat × Option Nat) → Option (Nat × Nat × Option Nat)
  | [] => none
  | x :: xs => match firstTrig xs with
    | some y => if trigBefore y x then some y else some x
    | none => some x

/-- The triggers of the fc are settled: one is taken by every half that takes triggers, and each other one is missed (R412,
R424). -/
def State.takeTrigs (s : State) : State :=
  let l := s.trace.trigs
  let s := { s with trace := { s.trace with trigs := [] } }
  match firstTrig l with
  | none => s
  | some (origin, detail, promote) =>
    let n := s.trigTakes 0
    let u := s.trigTakes 1
    let taken := n || u
    let missed := if taken then l.length - 1 else l.length
    let s := s.bumpBy Reg.FUNNEL.TRIG_STATE.MISSED missed
    let s := if l.any (fun x => x.1 == 1) ∧ s.trace.cmdFc ≠ some s.fc then
        s.put Reg.FUNNEL.TRIG_CMD.RESULT (if taken ∧ origin = 1 then 1 else 2) else s
    if taken then
      let s := if n then s.trigHalf 0 origin detail else s
      let s := if u then s.trigHalf 1 origin detail else s
      let s := (s.put Reg.FUNNEL.TRIG_STATE.ORIGIN origin).raise Reg.FUNNEL.EVENT.TRIGGERED
      if promote.isSome then s.promote promote else s
    else s

/-- TRIG_CMD (R405, R415, R424): what each code does past the checks of Table 2-2. -/
def State.trigCmd (s : State) (srcNum code : Nat) : State :=
  let res := fun (s : State) (r : Nat) => s.put Reg.FUNNEL.TRIG_CMD.RESULT r
  let unpromote := fun (s : State) => s.promote none
  let acts := fun (s : State) => { s with trace := { s.trace with cmdFc := some s.fc } }
  let st := fun h => s.get (trigStateFld h)
  if ¬ s.parityOk Slot.FUNNEL then res s 3
  else if code = 1 then
    let id := s.get Reg.FUNNEL.TRIG_CMD.PROMOTE_ID
    let takes := s.trigTakes 0 || s.trigTakes 1
    res (s.trigger 1 srcNum (if agentType id = 0 ∨ s.get Reg.FUNNEL.TRIG_CMD.PROMOTE = 0 then none else some id)) (if takes then 1 else 2)
  else if code = 2 then
    let any := st 0 ≠ tsStopped ∨ st 1 ≠ tsStopped
    let s := if st 0 ≠ tsStopped then s.stopHalf 0 else s
    let s := if st 1 ≠ tsStopped then s.stopHalf 1 else s
    res (unpromote (acts s)) (if any then 1 else 2)
  else if code = 3 then
    let fill := s.cfg Reg.FUNNEL.MODE.MODE = 1
    let one := fun (s : State) (h : Nat) =>
      let f := s.fh h
      (s.put (trigStateFld h) tsArmed).setFh h { f with wr := if fill then 0 else f.wr, post := none, stopping := false }
    let s := one (one s 0) 1
    let s := if fill then (s.put Reg.FUNNEL.TRIG_STATE.NORTH_FULL 0).put Reg.FUNNEL.TRIG_STATE.SOUTH_FULL 0 else s
    res (unpromote s) 1
  else if code = 4 then
    let any := st 0 = tsArmed ∨ st 0 = tsTriggered ∨ st 1 = tsArmed ∨ st 1 = tsTriggered
    let one := fun (s : State) (h : Nat) =>
      if s.get (trigStateFld h) = tsArmed ∨ s.get (trigStateFld h) = tsTriggered then s.put (trigStateFld h) tsDisarmed else s
    res (unpromote (acts (one (one s 0) 1))) (if any then 1 else 2)
  else res s 2

/-- A MODE write (R407, R409): `mode` and `ptr` as written. -/
def State.funnelMode (s : State) (mode ptr : Nat) : State :=
  let old := s.get Reg.FUNNEL.MODE.MODE
  let base := 2 ^ 32 * s.cfg Reg.FUNNEL.SPILL_BASE_HI.ADDR + s.cfg Reg.FUNNEL.SPILL_BASE_LO
  let units := s.cfg Reg.FUNNEL.SPILL_SIZE.UNITS
  let refuse := fun (s : State) (r : Nat) => (s.put Reg.FUNNEL.STATUS.REFUSE r).raise Reg.FUNNEL.EVENT.REFUSED
  if mode = old ∧ ptr ≠ s.get Reg.FUNNEL.MODE.PTR_HALF then s.put Reg.FUNNEL.MODE.PTR_HALF ptr
  else if mode = 3 then refuse s 4
  else if mode = 2 ∧ units < 128 then refuse s 1
  else if mode = 2 ∧ 2 ^ 44 < base + 65536 * units then refuse s 2
  else if mode = 2 ∧ ¬ s.parityOk Slot.FUNNEL then refuse s 3
  else
    let one := fun (s : State) (h : Nat) =>
      let f := s.fh h
      (s.put (trigStateFld h) tsArmed).setFh h
        { f with wr := 0, wrapped := false, trigPtr := none, post := none, stopping := false
                 spillWr := if mode = 2 then 0 else f.spillWr }
    let s := one (one ((s.put Reg.FUNNEL.MODE.MODE mode).put Reg.FUNNEL.MODE.PTR_HALF ptr) 0) 1
    let s := (s.put Reg.FUNNEL.TRIG_STATE.NORTH_FULL 0).put Reg.FUNNEL.TRIG_STATE.SOUTH_FULL 0
    ({ s with trace := { s.trace with cmdFc := some s.fc } }).promote none

/-! ### The tally at a cut (R421, R422) -/

/-- Check G = A + D for a source whose mark is taken; the cut in progress records the outcome. -/
def State.markCheck (s : State) (h src g : Nat) : State :=
  let f := s.fh h
  let sum := (Sparse.get f.acc src 0 + Sparse.get f.drp src 0) % 2 ^ 32
  match s.cut.job with
  | none => s
  | some j =>
    let j := { j with traceChecked := j.traceChecked + 1, marks := j.marks - 1
                      traceBad := if g % 2 ^ 32 = sum then j.traceBad else j.traceBad ++ [(src, (g : Int) - sum)] }
    { s with cut := { s.cut with job := some j } }

/-- The half's mark of a source that can be checked: at the write point, or anywhere in a half that is shut. Drops that the
source's encoder has still to report come first (R367). -/
def State.takeMark (s : State) (h src : Nat) : State :=
  if (s.agent src).enc.dropping ≠ [] then s else
  let f := s.fh h
  let isMark := fun (q : Queued) => q.item.mark.isSome && q.item.src == src
  let head := match f.merge with
    | q :: _ => isMark q
    | [] => false
  if head || s.funnelShut h then
    match f.merge.find? isMark with
    | some q => (s.setFh h { f with merge := f.merge.erase q }).markCheck h src (q.item.mark.getD 0)
    | none =>
      match f.inbox.find? (fun i => i.2.mark.isSome && i.2.src == src) with
      | some i =>
        if s.funnelShut h then (s.setFh h { f with inbox := f.inbox.erase i }).markCheck h src (i.2.mark.getD 0) else s
      | none => s
  else s

/-! ### The end of an fc -/

/-- The place of a source's ring segment in the order of R396: the edge ring, then the columns. -/
def arrivalPlace (src : Nat) : Nat := if ringSegment src = 96 then 0 else 1 + ringSegment src

/-- Insert an arrival behind those of the same segment and of earlier ones. -/
def insertArrival (i : TItem) : List TItem → List TItem
  | [] => [i]
  | j :: js => if arrivalPlace i.src < arrivalPlace j.src then i :: j :: js else j :: insertArrival i js

/-- The ring arrivals of the fc are handled, and the marks due are checked on the counts after them (R396, R422). -/
def State.halfTick (s : State) (h : Nat) : State :=
  let f := s.fh h
  if f.arrivals = [] ∧ f.checks = [] then s
  else
    let s := s.setFh h { f with arrivals := [], checks := [] }
    let s := (f.arrivals.foldl (fun l i => insertArrival i l) []).foldl (fun s i => s.arriveQ h ⟨i, s.arrivalRank i.bits, none, false⟩) s
    f.checks.foldl (fun s src => s.takeMark h src) s

/-- At the end of every fc, after LOST placements and the other hub-internal entries: its triggers, then its ring arrivals
(R396, R412). -/
def State.funnelTick (s : State) : State :=
  let s := if s.trace.trigs = [] then s else s.takeTrigs
  let s := (s.halfTick 0).halfTick 1
  if s.trace.promotedWas = s.trace.promoted then s else { s with trace := { s.trace with promotedWas := s.trace.promoted } }

end Sys2Proof.Machine
end

