-- ==== Sys2Proof/Machine/Encoder.lean ====
section
/-! DEFINITION. The flow encoders, the command trace and the PC sampler (chapter 9). -/

namespace Sys2Proof.Machine

/-! ### Flow encoders (R352 to R368) -/

/-- Encoder states (Table 9-3). -/
def encOff : Nat := 0
def encOn : Nat := 1
def encHeld : Nat := 2
def encAsleep : Nat := 3

/-- SYNC reasons (Table 9-6). -/
def srPeriodic : Nat := 0
def srStart : Nat := 1
def srWake : Nat := 2
def srContext : Nat := 3
def srCommand : Nat := 4
def srLost : Nat := 5
def srRestore : Nat := 6

/-- Reasons from the highest down (Table 9-6). -/
def srOrder : List Nat := [6, 5, 2, 1, 3, 4, 0]

/-- The source class of an agent (R350). -/
def State.srcClass (s : State) (a : Nat) : Nat :=
  let g := s.agent a
  if g.get AReg.A_TRACE_CLASS.USE_DEFAULT = 1 then s.cfg Reg.FLOW.DEFAULT_CLASS.CLASS else g.get AReg.A_TRACE_CLASS.CLASS

/-- The conditions of R355 other than the gate, sleep and hold. -/
def State.encEnabled (s : State) (a : Nat) : Bool :=
  s.cfg Reg.FLOW.CTRL.ENABLE == 1 && (s.agent a).get AReg.A_TRACE_CLASS.EN == 1 && !s.belowW0
  && (if agentType a = 1 then s.cfg Reg.FLOW.GLOBAL_EN.CU == 1 else if agentType a = 6 then s.cfg Reg.FLOW.GLOBAL_EN.CP == 1 else false)

/-- The unit is held (R355). -/
def Agent.held (g : Agent) : Bool := (g.frozen && g.byStop) || g.halted

/-- A pending SYNC reason. -/
def Encoder.need (e : Encoder) (r : Nat) : Encoder := { e with reasons := if e.reasons.contains r then e.reasons else r :: e.reasons }

/-- Entries waiting for the drain ring, tally marks aside (R366). -/
def Encoder.queued (e : Encoder) : Nat := (e.waiting.filter (fun i => i.mark.isNone)).length

/-- The encoder of agent `a` produces an entry; with 4 waiting it is dropped (R366, R367). -/
def State.produce (s : State) (a type payload : Nat) : State :=
  let g := s.agent a
  let e := traceEntry a (s.srcClass a) type payload
  let c : Encoder := { g.enc with gen := (g.enc.gen + 1) % 2 ^ 32, sinceSync := g.enc.sinceSync + 1 }
  let c := if 4 ≤ c.queued then { c.need srLost with dropping := c.dropping ++ [e] } else { c with waiting := c.waiting ++ [⟨a, e, none⟩] }
  s.setAgent a { g with enc := c }

/-- Outcome bits as a number, oldest in bit 0. -/
def outcomeBits : List Bool → Nat
  | [] => 0
  | b :: bs => bit b + 2 * outcomeBits bs

/-- A literal BITS payload (Table 9-4). -/
def literalBits (l : List Bool) : Nat := 2 ^ 100 * l.length + outcomeBits l

/-- A run BITS payload (Table 9-4). -/
def runBits (n : Nat) (nt : Bool) : Nat := 2 ^ 107 + 2 ^ 32 * bit nt + n

/-- Change an agent's encoder. -/
def State.modEnc (s : State) (a : Nat) (f : Encoder → Encoder) : State :=
  let g := s.agent a
  s.setAgent a { g with enc := f g.enc }

/-- A flush (R361). -/
def State.encFlush (s : State) (a : Nat) : State :=
  let e := (s.agent a).enc
  match e.run with
  | some n => (s.produce a tyBits (runBits n false)).modEnc a (fun e => { e with run := none, lits := [] })
  | none =>
    if e.lits = [] then s
    else (s.produce a tyBits (literalBits e.lits)).modEnc a (fun e => { e with lits := [] })

/-- RUN has reached 2^32 − 1 (R360). -/
def State.runSaturate (s : State) (a : Nat) : State :=
  match (s.agent a).enc.run with
  | some n =>
    if 2 ^ 32 - 1 ≤ n then (s.produce a tyBits (runBits (2 ^ 32 - 1) false)).modEnc a (fun e => { e with run := none, lits := [] })
    else s
  | none => s

/-- An outcome reaches an encoder that is ON (R359, R360). -/
def State.outcome (s : State) (a : Nat) (taken : Bool) : State :=
  let s := s.runSaturate a
  let e := (s.agent a).enc
  match e.run with
  | some n =>
    if taken then s.modEnc a (fun e => { e with run := some (n + 1) })
    else (s.produce a tyBits (runBits n true)).modEnc a (fun e => { e with run := none, lits := [] })
  | none =>
    let l := e.lits ++ [taken]
    if l.length < 100 then s.modEnc a (fun e => { e with lits := l })
    else if l.all id then s.modEnc a (fun e => { e with lits := [], run := some 100 })
    else (s.produce a tyBits (literalBits l)).modEnc a (fun e => { e with lits := [] })

/-- The encoder is ON: it is so only while the conditions of R355 hold, also before its ENCODER_OFF. -/
def State.encIsOn (s : State) (a : Nat) : Bool := (s.agent a).enc.state == encOn && s.encEnabled a && (s.agent a).enc.gate

/-- R359: a conditional branch of an executing unit. -/
def execBranchOutcome (a : AgentId) (taken : Bool) (s : State) : Host.Outcome State Fault Refusal :=
  onAgent a cuOrCp (s.whenIssues a.toNat (fun s =>
    let s := if taken && agentType a.toNat == 1 then s.modAgent a.toNat (fun g => g.count s.fc 0x22 1) else s
    if s.encIsOn a.toNat then s.outcome a.toNat taken else s))

/-- R360: RUN reaches 2^32 − 1. -/
def execRunSaturate (a : AgentId) (s : State) : Host.Outcome State Fault Refusal :=
  onAgent a cuOrCp (s.runSaturate a.toNat)

/-- A TARGET payload (Table 9-5). -/
def targetPayload (kind : TransferKind) (fromPc target : Nat) : Nat :=
  match kind with
  | .indirect => target
  | .exception => 2 ^ 104 + 2 ^ 56 * fromPc + target
  | .excReturn => 2 * 2 ^ 104 + target

/-- Exceptions and exception returns occur on a control processor only (Table 9-5). -/
def transferType (kind : TransferKind) (t : Nat) : Bool := cuOrCp t && (kind == .indirect || t == 6)

/-- R352, R361: an indirect transfer flushes the outcomes and produces a TARGET. A step address has 16 bits. -/
def execIndirectTransfer (a : AgentId) (kind : TransferKind) (fromPc target : BitVec 48) (s : State) :
    Host.Outcome State Fault Refusal :=
  let t := if agentType a.toNat = 1 then target.toNat % 65536 else target.toNat
  onAgent a (transferType kind) (s.whenIssues a.toNat (fun s =>
    let s := if kind = .exception then s.modAgent a.toNat (fun g => g.count s.fc 0xA1 1)
      else if agentType a.toNat = 1 then s.modAgent a.toNat (fun g => g.count s.fc 0x23 1) else s
    if s.encIsOn a.toNat then (s.encFlush a.toNat).produce a.toNat tyTarget (targetPayload kind fromPc.toNat t) else s))

/-- A TRIGGER entry of KIND 1 to 3 (Table 9-8). -/
def State.gateEntry (s : State) (a kind : Nat) : State :=
  let g := s.agent a
  s.produce a tyTrigger (2 ^ 104 * kind + 2 ^ 88 * g.ctx + 2 ^ 86 * g.trig)

/-- The gate's change is reported if it is still owed. -/
def State.gateReport (s : State) (a : Nat) (kinds : List Nat) : State :=
  let k := (s.agent a).enc.gateNews
  if kinds.contains k then ((s.encFlush a).gateEntry a k).modEnc a (fun e => { e with gateNews := 0 }) else s

/-- An encoder enters ON from OFF (Table 9-3). -/
def State.encTurnOn (s : State) (a : Nat) : State :=
  let g := s.agent a
  if g.enc.state = encOff ∧ s.encEnabled a ∧ g.enc.gate ∧ ¬ g.asleep ∧ ¬ g.held then
    (s.gateReport a [1, 3]).modEnc a (fun e => { (e.need srStart) with state := encOn, lits := [], run := none })
  else s

/-- An encoder enters OFF: a condition of R355 other than sleep or hold is false (Table 9-3). -/
def State.encTurnOff (s : State) (a : Nat) : State :=
  let g := s.agent a
  if g.enc.state ≠ encOff ∧ ¬ (s.encEnabled a ∧ g.enc.gate) then
    let s := if g.enc.state = encOn then s.encFlush a else s
    (s.gateReport a [2]).modEnc a (fun e => { e with state := encOff })
  else s

/-- The unit freezes by a Whistle STOP or step end, or halts: flush and HELD (Table 9-3). -/
def State.encHold (s : State) (a : Nat) : State :=
  if s.encIsOn a then (s.encFlush a).modEnc a (fun e => { e with state := encHeld }) else s

/-- RESUME, STEP, RELEASE or STEP_INSTR ends HELD: to ON without entries, or to OFF when a condition failed meanwhile. -/
def State.encUnhold (s : State) (a : Nat) : State :=
  let g := s.agent a
  if g.enc.state = encHeld ∧ ¬ g.held then
    if s.encEnabled a ∧ g.enc.gate then s.modEnc a (fun e => { e with state := encOn }) else s.modEnc a (fun e => { e with state := encOff })
  else s

/-- R355: the encoder enters ON. -/
def execEncoderOn (a : AgentId) (s : State) : Host.Outcome State Fault Refusal := onAgent a cuOrCp (s.encTurnOn a.toNat)

/-- R355: the encoder enters OFF. -/
def execEncoderOff (a : AgentId) (s : State) : Host.Outcome State Fault Refusal := onAgent a cuOrCp (s.encTurnOff a.toNat)

/-- The unit enters SLEEP: its encoder flushes and produces SLEEP (Table 9-3). -/
def State.unitSleep (s : State) (a : Nat) : State :=
  let s := s.modAgent a (fun g => if g.executes then { g with asleep := true } else g)
  if s.encIsOn a ∧ (s.agent a).asleep then
    let s := s.encFlush a
    (s.produce a tySleep (2 ^ 92 * (s.agent a).ctx)).modEnc a (fun e => { e with state := encAsleep })
  else s

/-- The unit leaves SLEEP: its encoder produces WAKE and owes a SYNC with reason WAKE (Table 9-3). -/
def State.unitWake (s : State) (a : Nat) : State :=
  if s.gatedNow a then s
  else match (s.agentNow a).awake with
    | none => s
    | some g =>
      let s := s.setAgent a g.recode
      if g.enc.state = encAsleep then
        if s.encEnabled a ∧ g.enc.gate then
          (s.produce a tyWake (2 ^ 92 * g.ctx)).modEnc a (fun e => { (e.need srWake) with state := encOn })
        else s.modEnc a (fun e => { e with state := encOff })
      else s

/-- R355: a unit with an encoder enters SLEEP. -/
def execEncoderSleep (a : AgentId) (s : State) : Host.Outcome State Fault Refusal := onAgent a cuOrCp (s.unitSleep a.toNat)

/-- R363: a unit with an encoder leaves SLEEP. -/
def execEncoderWake (a : AgentId) (s : State) : Host.Outcome State Fault Refusal := onAgent a cuOrCp (s.unitWake a.toNat)

/-- A SYNC payload (Table 9-7). -/
def syncPayload (ctx reason pc : Nat) (cmd : Option (Nat × Nat)) : Nat :=
  2 ^ 92 * ctx + 2 ^ 56 * reason + pc % 2 ^ 48 + (match cmd with
    | none => 2 ^ 55
    | some (ce, seq) => 2 ^ 60 * seq + 2 ^ 48 * ce)

/-- SYNC_PERIOD entries have been produced since the last SYNC; a value of 0 never produces one (Table 9-6). -/
def State.syncDue (s : State) (a : Nat) : Bool :=
  let n := s.cfg Reg.FLOW.SYNC_PERIOD.ENTRIES
  n != 0 && decide (n ≤ (s.agent a).enc.sinceSync) && s.encIsOn a

/-- An instruction boundary: the CU holds the command it was given (R365), a new one is a reason COMMAND, and the
highest pending reason is reported by one SYNC (R363, R364). -/
def State.syncAt (s : State) (a pc : Nat) (cmd : Option (Nat × Nat)) : State :=
  let e := (s.agent a).enc
  let cmd := if agentType a = 1 then cmd else none
  let started := cmd.isSome && cmd != e.cmd
  let s := s.modEnc a (fun e => { (if started then e.need srCommand else e) with cmd := cmd })
  let s := if s.syncDue a then s.modEnc a (·.need srPeriodic) else s
  let e := (s.agent a).enc
  match s.encIsOn a, srOrder.find? (fun r => e.reasons.contains r) with
  | true, some r =>
    let s := if r = srRestore then s else s.encFlush a
    (s.produce a tySync (syncPayload (s.agent a).ctx r pc cmd)).modEnc a (fun e => { e with reasons := [], sinceSync := 0 })
  | _, _ => s.modEnc a (fun e => { e with reasons := if e.state = encOn then e.reasons else e.reasons.filter (fun r => r == srRestore || r == srLost || r == srWake || r == srStart) })

/-- R363: an instruction boundary at which reasons may be pending. -/
def execSync (a : AgentId) (pc : BitVec 48) (cmd : Option (BitVec 5 × Word)) (s : State) : Host.Outcome State Fault Refusal :=
  let p := if agentType a.toNat = 1 then pc.toNat % 65536 else pc.toNat
  onAgent a cuOrCp (s.whenActive a.toNat (fun s => s.syncAt a.toNat p (cmd.map (fun c => (c.1.toNat, c.2.toNat)))))

/-- R363: SYNC_PERIOD entries since the last SYNC. -/
def execPeriodicSync (a : AgentId) (s : State) : Host.Outcome State Fault Refusal :=
  onAgent a cuOrCp (if s.syncDue a.toNat then s.modEnc a.toNat (·.need srPeriodic) else s)

/-- R367: the encoder's report of a dropped entry is counted by the funnel. -/
def execEncoderDrop (a : AgentId) (s : State) : Host.Outcome State Fault Refusal :=
  onAgent a cuOrCp (match (s.agent a.toNat).enc.dropping with
  | [] => s
  | e :: rest =>
    let s := s.modEnc a.toNat (fun c => { c with dropping := rest })
    s.dropEntry (agentHalf a.toNat) e (s.rankOf e) false)

/-- Items at the head of an encoder's queue that leave together: the oldest entry and the marks that follow it. -/
def headItems : List TItem → List TItem × List TItem
  | [] => ([], [])
  | i :: is => (i :: is.takeWhile (fun j => j.mark.isSome), is.dropWhile (fun j => j.mark.isSome))

/-- Types whose agents send trace entries: CU, CE and CP. -/
def traceType : Nat → Bool := fun t => t == 1 || t == 5 || t == 6

/-- The Cut engine drains the segment of agent `a` (R395): some agent on it has shadows, channel tokens, granules or tiles still
to give. -/
def State.segmentDrains (s : State) (a : Nat) : Bool :=
  match s.cut.job with
  | none => false
  | some j => (s.cut.shadows ++ j.tileDue).any (sameSegment a)
    || s.agents.any (fun e => sameSegment a e.1 && j.captured.contains e.1
        && (e.2.heldTokens != [] || e.2.preserved != [] || e.2.protectedG != []))

/-- Trace may take a slot of the segment of `a`: while the Cut engine drains it, 2 in each 32 fc (R395). -/
def State.slotFree (s : State) (a : Nat) : Bool :=
  let l := Sparse.get s.trace.slots (segmentNo a) []
  !s.segmentDrains a || decide (l.length < 2) || decide (l.getD 1 0 + 32 ≤ s.fc)

/-- R366, R395: the oldest waiting entry leaves over the drain ring segment for its half's funnel. -/
def execEncoderEntrySend (a : AgentId) (s : State) : Host.Outcome State Fault Refusal :=
  let h := headItems (s.agent a.toNat).enc.waiting
  onAgent a traceType (if h.1 = [] ∨ ¬ s.slotFree a.toNat then s
    else
      let l := s.fc :: (Sparse.get s.trace.slots (segmentNo a.toNat) []).take 1
      let s := { s with trace := { s.trace with slots := Sparse.ins s.trace.slots (segmentNo a.toNat) l } }
      h.1.foldl (fun s i => s.sendItem (agentHalf a.toNat) i) (s.modEnc a.toNat (fun e => { e with waiting := h.2 })))

/-- R403: a drop notice reaches the flow encoder. -/
def execDropNotice (a : AgentId) (s : State) : Host.Outcome State Fault Refusal :=
  let h := agentHalf a.toNat
  let f := s.fh h
  onAgent a cuOrCp (if f.notices.contains a.toNat then
    (s.setFh h { f with notices := f.notices.erase a.toNat }).modEnc a.toNat (·.need srLost) else s)

/-! ### Command trace (R377 to R384) -/

/-- The agent ID of command engine `k` (Table 1-2). -/
def ceAgent (k : Nat) : Nat := 0x2410 + k

/-- CE_STATE.ST values (Table 1-23). -/
def ceIdle : Nat := 0
def ceDispatch : Nat := 1

/-- The TAG of a record (Table 9-11). -/
def State.cmdTag (s : State) (desc layer op : Nat) (abandoned : Bool) : Nat :=
  if s.cfg Reg.CMDTR.TAG_MODE.MODE = 1 then 2 ^ 32 * layer + 2 ^ 16 * op + bit abandoned
  else 2 ^ 47 * bit abandoned + desc % 2 ^ 44

/-- A record is produced (R377, R383, R384): it enters the history and waits for the ring. The records of one fc stand in
ascending engine number (R379). -/
def State.cmdRecord (s : State) (k type seq tag : Nat) : State :=
  let a := ceAgent k
  let e := traceEntry a (s.cfg Reg.CMDTR.CLASS.CLASS) type (2 ^ 76 * seq + 2 ^ 28 * tag + s.wheel.stamp28)
  let s := s.modEnc a (fun c => { c with gen := (c.gen + 1) % 2 ^ 32, waiting := c.waiting ++ [⟨a, e, none⟩] })
  let ks := if s.trace.histFc = some s.fc then s.trace.histKs else []
  let n := (ks.takeWhile (fun j => decide (j ≤ k))).length
  let old := s.trace.history
  let at_ := old.length - (ks.length - n)
  let h := old.take at_ ++ [e] ++ old.drop at_
  let s := { s with trace := { s.trace with history := h.drop (h.length - 4096), histFc := some s.fc
                                            histKs := ks.take n ++ [k] ++ ks.drop n } }
  let s := s.put64 Reg.CMDTR.RECORDS_LO Reg.CMDTR.RECORDS_HI ((s.get64 Reg.CMDTR.RECORDS_LO Reg.CMDTR.RECORDS_HI + 1) % 2 ^ 64)
  (if n = ks.length then s.put Reg.CMDTR.LAST_SEQ.SEQ seq else s).hubEvent 12 1

/-- Engine `k` produces records in this fc (R377, R378); ENABLE at 0 stops them in the same fc (R391). -/
def State.cmdTraced (s : State) (k : Nat) : Bool :=
  s.cfg Reg.CMDTR.CTRL.ENABLE == 1 && s.get Reg.CMDTR.CTRL.ENABLE == 1 && testBit (s.cfg Reg.CMDTR.ENGINE_MASK.MASK) k

/-- An END is late (R381): both values 28-bit numbers, 0x0FFF_FFFF no deadline. -/
def endLate (stamp deadline : Nat) : Bool :=
  let d := (stamp + 2 ^ 28 - deadline) % 2 ^ 28
  deadline != 0x0FFFFFFF && decide (1 ≤ d) && decide (d < 2 ^ 27)

/-! ### PC sampling (R385 to R389) -/

/-- Agent `a` is selected for sampling (R385). -/
def State.pcsSelected (s : State) (a : Nat) : Bool :=
  (agentType a == 1 && s.cfg Reg.FLOW.PCS_SET.CUS == 1 && testBit (s.cfg Reg.FLOW.PCS_SET.REGIONS) ((agentRegion a).getD 0))
  || (agentType a == 6 && s.cfg Reg.FLOW.PCS_SET.CPS == 1)

/-- The first of `n` agents from `k` on, wrapping, that satisfies `p`. -/
def findAgent (p : Nat → Bool) : Nat → Nat → Option Nat
  | 0, _ => none
  | n + 1, k =>
    let k := if k < Config.firstUnusedAgent then k else 0
    if p k then some k else findAgent p n (k + 1)

/-- R385, R387: a sample falls due; it goes to the next selected agent, or is skipped while the previous answer is
outstanding or the agent's segment is down. -/
def execPcsSampleDue (s : State) : Host.Outcome State Fault Refusal :=
  .next (
    if s.cfg Reg.FLOW.PCS_CTRL.EN = 1 ∧ s.cfg Reg.FLOW.CTRL.ENABLE = 1 ∧ ¬ s.belowW0
        ∧ s.trace.pcsLast + s.cfg Reg.FLOW.PCS_PERIOD.FC ≤ s.fc then
      match findAgent s.pcsSelected Config.firstUnusedAgent (s.trace.pcsAgent + 1) with
      | none => { s with trace := { s.trace with pcsLast := s.fc } }
      | some a =>
        let seq := (s.trace.pcsSeq + 1) % 4096
        let s := { s with trace := { s.trace with pcsLast := s.fc, pcsSeq := seq, pcsAgent := a } }
        if s.trace.pcsOut.isSome ∨ ¬ s.halfReached (agentHalf a) then (s.bump Reg.FLOW.PCS_CTRL.SKIPPED).raise Reg.FLOW.EVENT.PCS_SKIP
        else { s with trace := { s.trace with pcsOut := some (a, s.wheel.stamp28 / 16, seq) } }
    else s)

/-- The forerunner stall code (Table 9-14). -/
def stall3 (code : Nat) : Nat :=
  match code with
  | 1 => 1 | 2 => 2 | 3 => 3 | 5 => 3 | 4 => 4 | 8 => 4 | 6 => 5 | 7 => 6 | 9 => 7 | _ => 0

/-- The Format 1 record (Table 9-13). -/
def format1 (a code seq pc : Nat) : Nat :=
  2 ^ 48 * a + 2 ^ 45 * stall3 code + 2 ^ 44 * bit (agentType a = 6) + 2 ^ 32 * seq + pc

end Sys2Proof.Machine
end

