-- ==== Sys2Proof/Machine/Score.lean ====
section
/-! DEFINITION. The Scoreboard (chapter 11): rollups, gathers, command boundaries and snapshots. -/

namespace Sys2Proof.Machine

/-! ### Rollup (R426 to R435) -/

/-- The counts between two points, modulo 2^32. -/
def incOf (a b : List Nat) : List Nat := List.zipWith (fun x y => (y + 2 ^ 32 - x) % 2 ^ 32) a b

/-- The four always-on counts. -/
def Agent.aon (g : Agent) : List Nat := [g.aon0, g.aon1, g.aon2, g.aon3]

/-- The increments of an agent since its last latch point: switch records first, then the latch (R433). -/
def Agent.increments (g : Agent) : List (Nat × List Nat) :=
  let step := fun (acc : List Nat × List (Nat × List Nat)) (p : Nat × List Nat) => (p.2, acc.2 ++ [(p.1, incOf acc.1 p.2)])
  ((g.switches ++ [(g.ctx, g.aon)]).foldl step (g.switchBase, [])).2

/-- A switch record is made (R432): two are held; a third change merges into the newer one under 0xFFFF. -/
def Agent.switchRecord (g : Agent) : Agent :=
  match g.switches with
  | [a, _] => { g with switches := [a, (0xFFFF, g.aon)] }
  | l => { g with switches := l ++ [(g.ctx, g.aon)] }

/-- R432: the agent's context ID changes; commands whose time has come are judged against the old one first (R167); its encoder, if any, owes a SYNC with reason CONTEXT (Table 9-6). -/
def execContextSwitch (a : AgentId) (ctx : BitVec 16) (s : State) : Host.Outcome State Fault Refusal :=
  onAgent a anyType (s.whenFree a.toNat (fun s =>
    let g := s.agent a.toNat
    if g.ctx = ctx.toNat then s
    else
      let g := (g.nextCmd a.toNat s.fc (s.clockOf a.toNat) 0 s.whistle.tree).1
      let g := g.switchRecord
      let g := { g with ctxOld := g.ctxAt s.fc, ctxFc := s.fc, ctxCycle := some g.settled, ctx := ctx.toNat }
      let s := s.setAgent a.toNat g
      if s.encIsOn a.toNat then s.modEnc a.toNat (·.need srContext) else s))

/-- Latch every agent that belongs to a region and can be reached (R427, R430), and take its increments. -/
def State.latchAll (s : State) : List (Nat × Nat × List Nat) × State :=
  s.agents.foldl (fun acc e =>
    match agentRegion e.1 with
    | none => acc
    | some r =>
      if ¬ s.halfReached (agentHalf e.1) then acc else
      let g := acc.2.agentNow e.1
      let incs := g.increments.map (fun i => (r, i.1, i.2))
      (acc.1 ++ incs, acc.2.setAgent e.1 { g with switches := [], switchBase := g.aon })) ([], s)

/-- The agents a PCNT_SUM counter owns: those of its regions (R437). -/
def State.ownsAgent (s : State) (n a : Nat) : Bool :=
  match agentRegion a with
  | some r => testBit (s.get (Reg.SCORE.CNT_SRC.REGIONS n)) r
  | none => false

/-- A gather is issued for counter `n`. -/
def State.issueGather (s : State) (n : Nat) (snap : Bool) (tag : Nat) (stamped reset noPrev : Bool) : State :=
  { s with score := { s.score with gathers := s.score.gathers ++ [⟨n, 0, [], snap, tag, stamped, reset, noPrev⟩] } }

/-- A gather for every PCNT_SUM counter at a rollup (R439). -/
def State.rollupGathers (s : State) : State :=
  counters.foldl (fun s n => if s.counting n ckPcnt then s.issueGather n false 0 false false false else s) s

/-- The agents of one half that belong to a region (Table 1-2). -/
def halfAgents : Nat := (Config.agentCount - 4) / 2

/-- The agents of half `h` take part in a rollup, or are skipped (R430): how many are skipped, and the state with their latch
point and the mark of an interval that is too long. -/
def State.halfLatch (s : State) (h : Nat) : Nat × State :=
  if ¬ s.halfReached h then (halfAgents, s)
  else
    let was := if h = 0 then s.score.latchN else s.score.latchS
    let t := { s with score := if h = 0 then { s.score with latchN := s.fc } else { s.score with latchS := s.fc } }
    (0, if 2 ^ 32 - 1 < s.fc - was then (t.raise Reg.SCORE.EVENT.LONG).bumpBy Reg.SCORE.STATUS.LONG halfAgents else t)

/-- A rollup starts: the agents that can be reached latch, and PCNT_SUM counters are gathered (R426, R430, R439). -/
def State.startRollup (s : State) (rev fc : Nat) : State :=
  let (incs, t) := s.rollupGathers.latchAll
  let (n, t) := t.halfLatch 0
  let (u, t) := t.halfLatch 1
  { t with score := { t.score with rollup := some ⟨rev, fc, n + u, incs⟩ } }

/-- R426, R429: in the fc of a boundary whose count is a multiple of ROLLUP_PERIOD a rollup is requested; one that finds
the previous rollup incomplete waits for it. -/
def execRollupRequest (s : State) : Host.Outcome State Fault Refusal :=
  .next (
    let p := s.cfg Reg.SCORE.ROLLUP_PERIOD.REVS
    if s.cfg Reg.SCORE.AON_CTRL.ROLLUP_EN = 1 ∧ s.wheel.rev % p = 0 ∧ s.wheel.madeFc = some s.fc
        ∧ s.score.lastTurn ≠ some s.wheel.turns ∧ s.power ≤ 1 then
      let s := { s with score := { s.score with lastTurn := some s.wheel.turns } }
      if s.score.rollup.isSome then
        let s := s.bump Reg.SCORE.STATUS.MERGED
        { s with score := { s.score with waiting := some (s.wheel.rev, s.fc) } }
      else s.startRollup s.wheel.rev s.fc
    else s)

/-- The context entry that takes a context (R433). -/
def State.ctxEntry (s : State) (ctx : Nat) : Nat :=
  if ctx = 0xFFFF then 31
  else match s.score.ctxs.find? (fun e => e.2 == ctx) with
    | some e => e.1
    | none => 30

/-- The low word of region `r`'s total of kind `k` (0 BUSY, 1 STALL, 2 CERR, 3 UERR), and the high word. -/
def regionTotal (r k : Nat) : Fld × Fld :=
  match k with
  | 0 => (Reg.SCORE.REGION_BUSY_LO r, Reg.SCORE.REGION_BUSY_HI r)
  | 1 => (Reg.SCORE.REGION_STALL_LO r, Reg.SCORE.REGION_STALL_HI r)
  | 2 => (Reg.SCORE.REGION_CERR_LO r, Reg.SCORE.REGION_CERR_HI r)
  | _ => (Reg.SCORE.REGION_UERR_LO r, Reg.SCORE.REGION_UERR_HI r)

/-- Add an increment to the totals of a region and of a context entry (R427, R433). -/
def State.addInc (s : State) (i : Nat × Nat × List Nat) : State :=
  let s := (List.range 4).foldl (fun s k =>
    let f := regionTotal i.1 k
    s.put64 f.1 f.2 ((s.get64 f.1 f.2 + i.2.2.getD k 0) % 2 ^ 64)) s
  let e := s.ctxEntry i.2.1
  let t := Sparse.get s.score.totals e [0, 0, 0, 0]
  let t' := List.zipWith (fun x y => (x + y) % 2 ^ 64) t i.2.2
  { s with score := { s.score with totals := Sparse.ins s.score.totals e t' } }

/-- The assignments made in earlier fc apply to the completing rollup (R435, Table 11-3). -/
def State.applyAssign (s : State) : State :=
  let due := fun (p : Nat × Nat × Nat) => decide (p.2.2 < s.fc)
  let rest := s.score.pend.filter (fun p => !due p)
  let sc := (s.score.pend.filter due).foldl (fun (c : Score) p =>
    { c with ctxs := Sparse.ins c.ctxs p.1 p.2.1, totals := Sparse.del c.totals p.1 }) s.score
  ({ s with score := { sc with pend := rest } }).put Reg.SCORE.CONTEXT_SEL.PENDING (bit (!rest.isEmpty))

/-- Totals of kind `k` over the 16 regions. -/
def State.sumRegions (s : State) (k : Nat) : Nat :=
  (List.range 16).foldl (fun n r => let f := regionTotal r k; n + s.get64 f.1 f.2) 0

/-- Totals of kind `k` over the 32 entries. -/
def State.sumContexts (s : State) (k : Nat) : Nat := s.score.totals.foldl (fun n e => n + e.2.getD k 0) 0

/-- R434: the increments over regions and over entries, modulo 2^64, must be equal. -/
def State.rollupIdentity (before after : State) : List (Nat × Int) :=
  ((List.range 4).map (fun k =>
    (k, (((after.sumRegions k : Int) - before.sumRegions k) - ((after.sumContexts k : Int) - before.sumContexts k)) % 2 ^ 64))).filter
      (fun p => p.2 ≠ 0)

/-- R428: every total, LAST_ROLLUP, ROLLUP_FC and EVENT.ROLLUP change together; a waiting rollup starts (R429). -/
def execRollupComplete (s : State) : Host.Outcome State Fault Refusal :=
  .next (match s.score.rollup with
  | none => s
  | some r =>
    let s := s.applyAssign
    let t := r.incs.foldl State.addInc s
    let bad := State.rollupIdentity s t
    let t := t.put Reg.SCORE.LAST_ROLLUP.REV r.rev
    let t := t.put Reg.SCORE.ROLLUP_FC.FC (min (s.fc - r.fc) 65535)
    let t := (t.put Reg.SCORE.AON_CTRL.SKIPPED r.skipped).raise Reg.SCORE.EVENT.ROLLUP
    let t := if bad = [] then t else t.fault Slot.SCORE 8 0
    let t := { t with score := { t.score with rollup := none, bad := bad, rolled := true, waiting := none } }
    match s.score.waiting with
    | some (rev, fc) => t.startRollup rev fc
    | none => t)

/-- CONTEXT_SEL as written, past the checks of Table 2-2 (R435). -/
def State.contextSel (s : State) (data : Nat) : State :=
  let entry := bits data 20 16
  let ctx := bits data 15 0
  let s := (s.put Reg.SCORE.CONTEXT_SEL.DUP 0).put Reg.SCORE.CONTEXT_SEL.BAD_ENTRY 0
  if testBit data 31 then
    if 30 ≤ entry then s.put Reg.SCORE.CONTEXT_SEL.BAD_ENTRY 1
    else if s.score.ctxs.any (fun e => e.2 == ctx && e.1 != entry)
        || s.score.pend.any (fun p => p.2.1 == ctx && p.1 != entry) then s.put Reg.SCORE.CONTEXT_SEL.DUP 1
    else
      let s := (s.put Reg.SCORE.CONTEXT_SEL.ENTRY entry).put Reg.SCORE.CONTEXT_SEL.PENDING 1
      { s with score := { s.score with pend := s.score.pend.filter (fun p => p.1 != entry) ++ [(entry, ctx, s.fc)] } }
  else s.put Reg.SCORE.CONTEXT_SEL.ENTRY entry

/-! ### Counters: rebase and conflict (R438, R440, R446) -/

/-- Rebase counter `n` at value `w`. A boundary of the same fc is still judged under the old setting, and takes its snapshot
(Table 11-3). -/
def State.rebase (s : State) (n w : Nat) : State :=
  { s with score := { s.score with base := Sparse.ins s.score.base n ⟨w, 0, 0⟩, rebased := s.score.rebased ++ [n] } }

/-- PCNT_SUM counters `m` and `n` share a pair. -/
def State.sharesPair (s : State) (m n : Nat) : Bool :=
  s.get (Reg.SCORE.CNT_SRC.KIND m) == ckPcnt && s.get (Reg.SCORE.CNT_SRC.KIND n) == ckPcnt
  && s.get (Reg.SCORE.CNT_EVENT.AGENT m) % 2 == s.get (Reg.SCORE.CNT_EVENT.AGENT n) % 2
  && (s.get (Reg.SCORE.CNT_SRC.REGIONS m) &&& s.get (Reg.SCORE.CNT_SRC.REGIONS n)) != 0

/-- CONFLICT of every counter, in ascending order (R440). -/
def State.judgeConflicts (s : State) : State :=
  counters.foldl (fun s n =>
    let c := (List.range n).any (fun m => s.get (Reg.SCORE.CNT_SRC.CONFLICT m) == 0 && s.sharesPair m n)
    let was := s.get (Reg.SCORE.CNT_SRC.CONFLICT n)
    let s := if bit c = was then s else s.put (Reg.SCORE.CNT_SRC.CONFLICT n) (bit c)
    if c && was == 0 then s.raise Reg.SCORE.EVENT.CONFLICT else s) s

/-- CNT_n_SRC has been written in the bits `m`: a write of KIND or REGIONS restarts the counter at 0, and conflicts are judged
(R438, R440, Table 11-3). -/
def State.counterConfigured (s : State) (n m : Nat) : State :=
  (if m % 8 ≠ 0 ∨ m / 65536 ≠ 0 then (s.put64 (Reg.SCORE.CNT_LO n) (Reg.SCORE.CNT_HI n) 0).rebase n 0 else s).judgeConflicts

/-- CNT_n_LO has been committed: the counter is rebased at the value it holds (R438). -/
def State.counterWritten (s : State) (n : Nat) : State :=
  s.rebase n (s.get64 (Reg.SCORE.CNT_LO n) (Reg.SCORE.CNT_HI n))

/-! ### Snapshots (R442 to R445) -/

/-- Snapshot `v` of counter `n` is written to its bank (R445). -/
def State.bankSnap (s : State) (n v tag : Nat) (stamped reset noPrev : Bool) : State :=
  let s := s.put64 (Reg.SCORE.CNT_SNAP_LO n) (Reg.SCORE.CNT_SNAP_HI n) v
  let s := s.put (Reg.SCORE.CNT_SNAP_TAG n) tag
  let s := s.put (Reg.SCORE.CNT_SNAP_FLAGS.VALID n) 1
  let s := s.put (Reg.SCORE.CNT_SNAP_FLAGS.STAMPED n) (bit stamped)
  let s := s.put (Reg.SCORE.CNT_SNAP_FLAGS.RESET n) (bit reset)
  s.put (Reg.SCORE.CNT_SNAP_FLAGS.NO_PREV n) (bit noPrev)

/-- A reset removes `v` from counter `n` (R446). -/
def State.cntRemove (s : State) (n v : Nat) : State :=
  let b := Sparse.get s.score.base n ⟨0, 0, 0⟩
  let lo := Reg.SCORE.CNT_LO n
  let hi := Reg.SCORE.CNT_HI n
  let s := s.put64 lo hi ((s.get64 lo hi + 2 ^ 64 - v) % 2 ^ 64)
  { s with score := { s.score with base := Sparse.ins s.score.base n { b with d := (b.d + v) % 2 ^ 64 } } }

/-- A snapshot's COUNTERS entry goes to the Lead half when EMIT is 1 (R393, R445, Table 9-15). -/
def State.emitSnap (s : State) (n v tag : Nat) (stamped : Bool) : State :=
  if s.cfg (Reg.SCORE.CNT_SRC.EMIT n) = 1 then
    s.hubEntry (s.get Reg.HUB.ROLE.LEAD_HALF) 3 tyCounters (2 ^ 102 * n + 2 ^ 70 * tag + 2 ^ 69 * bit stamped + v) false
  else s

/-- Snapshot `v` of counter `n` is taken, and emitted when EMIT is 1 (R445); with `reset` the counter continues without `v`. -/
def State.takeSnap (s : State) (n v tag : Nat) (stamped reset noPrev : Bool) : State :=
  let s := if stamped ∧ s.score.bounded.contains n then s else s.bankSnap n v tag stamped reset noPrev
  let s := if reset then s.cntRemove n v else s
  s.emitSnap n v tag stamped

/-- The counter's value at the start of the fc. -/
def State.cntStart (s : State) (n : Nat) : Nat := s.cfg64 (Reg.SCORE.CNT_LO n) (Reg.SCORE.CNT_HI n)

/-- A snapshot of a HUB or BUS_EVENT counter at the start of the fc. Its reset removes the value once, and nothing from a counter
that was rebased in this fc (Table 11-3). -/
def State.startSnap (s : State) (n v tag : Nat) (stamped reset noPrev : Bool) : State :=
  let s := if stamped ∧ s.score.bounded.contains n then s else s.bankSnap n v tag stamped reset noPrev
  let fresh := !(s.score.rebased.contains n || s.score.resets.contains n)
  let s := if reset ∧ fresh then s.cntRemove n v else s
  let s := { s with score := { s.score with resets := if reset then n :: s.score.resets else s.score.resets
                                            bounded := if stamped then s.score.bounded else n :: s.score.bounded } }
  s.emitSnap n v tag stamped

/-- A boundary of engine `k` with command `seq`: END (`isEnd`) for GATE counters, BEGIN for the others and for
PCNT_SUM (R442). -/
def State.cmdBoundary (s : State) (k seq : Nat) (isEnd : Bool) : State :=
  counters.foldl (fun s n =>
    let kind := s.cfg (Reg.SCORE.CNT_SRC.KIND n)
    let atEnd := s.cfg (Reg.SCORE.CNT_SRC.GATE n) == 1 && kind != ckPcnt
    if 1 ≤ kind ∧ kind ≤ 3 ∧ s.cfg (Reg.SCORE.CNT_SRC.CMD_RESET n) = 1 ∧ s.cfg (Reg.SCORE.CNT_SRC.CE n) = k
        ∧ s.counting n kind ∧ atEnd = isEnd then
      let first := !Sparse.has s.score.prev n
      let tag := if first then 0 else if isEnd then seq else Sparse.get s.score.prev n 0
      { s with score := { s.score with due := s.score.due ++ [⟨n, s.cntStart n, tag, first⟩], prev := Sparse.ins s.score.prev n seq } }
    else s) s

/-- A counter takes a boundary: a HUB or BUS_EVENT counter its snapshot and reset, a PCNT_SUM counter a gather that its snapshot
waits for (R442, R443). -/
def State.takeBoundary (s : State) (b : Boundary) : State :=
  let s := { s with score := { s.score with due := s.score.due.erase b } }
  if s.cfg (Reg.SCORE.CNT_SRC.KIND b.counter) = ckPcnt then s.issueGather b.counter true b.tag false true b.noPrev
  else s.startSnap b.counter b.value b.tag false true b.noPrev

/-- The boundaries that the counters owe are taken in ascending INDEX (R445): no counter below `n` owes one. -/
def State.boundaryTurn (s : State) (n : Nat) : Bool := s.score.due.all (fun b => decide (n ≤ b.counter))

/-- R442, R443: the counter takes the oldest boundary it owes; what is owed at the end of the fc is taken then. -/
def execCommandBoundarySnapshot (n : BitVec 6) (s : State) : Host.Outcome State Fault Refusal :=
  .next (match s.score.due.find? (fun b => b.counter == n.toNat) with
  | none => s
  | some b => if s.boundaryTurn n.toNat then s.takeBoundary b else s)

/-- The boundaries of a fc that no row has taken are taken before the fc ends. -/
def State.scoreDue (s : State) : State :=
  if s.score.due = [] then s else counters.foldl (fun s n => (s.score.due.filter (fun b => b.counter == n)).foldl State.takeBoundary s) s

/-- SNAP_CMD.RESULT codes (Table 11-4). -/
def srDone : Nat := 1
def srPending : Nat := 2

/-- A snapshot under R444 of every counter that is not OFF, with `reset` for CODE 2. -/
def State.snapAll (s : State) (reset : Bool) : State :=
  let stamp := s.wheel.stamp28
  let s := counters.foldl (fun s n =>
    let kind := s.cfg (Reg.SCORE.CNT_SRC.KIND n)
    if kind = ckHub ∨ kind = ckBus then s.startSnap n (s.cntStart n) stamp true reset false
    else if kind = ckPcnt then
      let s := s.issueGather n true stamp true reset false
      { s with score := { s.score with snapWait := s.score.snapWait + 1 } }
    else s) s
  let s := s.bumpWrap Reg.SCORE.SNAP_SEQ.COUNT 1
  if s.score.snapWait = 0 then (s.put Reg.SCORE.SNAP_CMD.RESULT srDone).raise Reg.SCORE.EVENT.SNAP
  else s.put Reg.SCORE.SNAP_CMD.RESULT srPending

/-- SNAP_CMD as written, past the checks of Table 2-2 (R85, R444). -/
def State.snapCmd (s : State) (code : Nat) : State :=
  if code = 0 then s
  else if s.cfg Reg.SCORE.CTRL.ENABLE = 0 then s.put Reg.SCORE.SNAP_CMD.RESULT 3
  else if ¬ s.parityOk Slot.SCORE then s.put Reg.SCORE.SNAP_CMD.RESULT 4
  else if code = 1 ∨ code = 2 then s.snapAll (code = 2)
  else s.put Reg.SCORE.SNAP_CMD.RESULT 5

/-- A Cam or break slot with action COUNTER_SNAPSHOT issues CODE 1 (R444). -/
def State.snapAuto (s : State) : State := s.snapCmd 1

/-! ### Gathers (R439) -/

/-- Agent `a` answers a gather of counter `n`: it hands over A_PCNTx and zeroes it; an increment of this cycle stays
(R96). -/
def State.gatherAnswer (s : State) (n a : Nat) (g : Gather) : State × Gather :=
  let x := s.cfg (Reg.SCORE.CNT_EVENT.AGENT n) % 2
  let ag := s.agentNow a
  let inc := if ag.pcntFc = s.fc then (if x = 0 then ag.pcntInc0 else ag.pcntInc1) else 0
  let v := ag.get (AReg.A_PCNT x)
  let take := v - min v inc
  (s.setAgent a (ag.put (AReg.A_PCNT x) (v - take)), { g with sum := g.sum + take, answered := a :: g.answered })

/-- Replace the first element equal to `x`. -/
def replaceFirst {α : Type} [DecidableEq α] (x y : α) (l : List α) : List α := updateFirst (fun z => z == x) (fun _ => y) l

/-- R439: a gather reaches an agent, which answers once. -/
def execGatherRequest (n : BitVec 6) (a : AgentId) (s : State) : Host.Outcome State Fault Refusal :=
  onAgent a anyType (
    match s.score.gathers.find? (fun g => g.counter == n.toNat && !g.answered.contains a.toNat) with
    | none => s
    | some g =>
      if s.ownsAgent n.toNat a.toNat ∧ s.halfReached (agentHalf a.toNat) then
        let (t, g') := s.gatherAnswer n.toNat a.toNat g
        { t with score := { t.score with gathers := replaceFirst g g' t.score.gathers } }
      else s)

/-- R439, R443, R444: the counter's oldest gather completes: every agent that has not yet answered answers, the
contributions are added, and a waiting snapshot is taken. -/
def execGatherComplete (n : BitVec 6) (s : State) : Host.Outcome State Fault Refusal :=
  .next (match s.score.gathers.find? (fun g => g.counter == n.toNat) with
  | none => s
  | some g =>
    let s := { s with score := { s.score with gathers := s.score.gathers.erase g } }
    let (s, g) := s.agents.foldl (fun acc e =>
      if acc.1.ownsAgent n.toNat e.1 && acc.1.halfReached (agentHalf e.1) && !acc.2.answered.contains e.1 then acc.1.gatherAnswer n.toNat e.1 acc.2 else acc) (s, g)
    let s := s.cntAdd n.toNat g.sum
    let s := if g.snap then
        s.takeSnap n.toNat (s.get64 (Reg.SCORE.CNT_LO n.toNat) (Reg.SCORE.CNT_HI n.toNat)) g.tag g.stamped g.reset g.noPrev
      else s
    if g.stamped ∧ 0 < s.score.snapWait then
      let s := { s with score := { s.score with snapWait := s.score.snapWait - 1 } }
      if s.score.snapWait = 0 then
        let s := s.put Reg.SCORE.SNAP_CMD.RESULT srDone
        if g.snap then s.raise Reg.SCORE.EVENT.SNAP else s
      else s
    else s)

/-- ABORT on SCORE (R449): the snapshots still waiting are discarded; their gathers go on. Answers how many. -/
def State.scoreAbort (s : State) : State × Nat :=
  let n := (s.score.gathers.filter (fun (g : Gather) => g.snap)).length
  let s := { s with score := { s.score with gathers := s.score.gathers.map (fun (g : Gather) => { g with snap := false }) } }
  (s.bumpBy Reg.SCORE.STATUS.DISCARDS n, n)

/-! ### The identity of R446 at a cut -/

/-- W + E − (live + D), modulo 2^64, of counter `n`. -/
def State.cntIdentity (s : State) (n : Nat) : Nat :=
  let b := Sparse.get s.score.base n ⟨0, 0, 0⟩
  let live := s.get64 (Reg.SCORE.CNT_LO n) (Reg.SCORE.CNT_HI n)
  (b.w + b.e + 2 * 2 ^ 64 - (live + b.d)) % 2 ^ 64

/-- Counters whose KIND is not OFF. -/
def State.enabledCounters (s : State) : List Nat :=
  counters.filter (fun n => let k := s.get (Reg.SCORE.CNT_SRC.KIND n); 1 ≤ k && k ≤ 3)

end Sys2Proof.Machine
end

