-- ==== Sys2Proof/Machine/Units.lean ====
section
/-! DEFINITION. What an agent does on a Whistle command and on the events of its unit (chapter 1, the agent contract). -/

namespace Sys2Proof.Machine

/-! ### Whistle commands at the agent (R29 to R35, R49, R177 to R186) -/

/-- Tied-off queues that the unit reports as occupied: A_FAULT.PROTOCOL (R19). -/
def Agent.tiedOff (g : Agent) (a fc : Nat) : Agent :=
  if (List.range (agentQueues a)).any (fun q => (queueSender a q).isNone && g.occ q != 0) then g.fault fc 5 0 else g

/-- The agent freezes, taking the unit's own state as it stands. -/
def Agent.freezeWith (g : Agent) (a fc : Nat) (u : UnitState) (byStop : Bool) : Agent :=
  if g.frozen then { g with byStop := g.byStop || byStop } else ((g.takeUnit a u).freeze byStop).recode.tiedOff a fc

/-- The acknowledge path sees the agent perform the command of a wave in this fc (R163). -/
def State.ackPerform (s : State) (c : TreeCmd) : State :=
  { s with whistle := { s.whistle with acks := s.whistle.acks.map (fun w =>
      if w.cmd.fc = c.fc then { w with first := some (min (w.first.getD s.fc) s.fc), last := some (max (w.last.getD s.fc) s.fc) } else w) } }

/-- R29: the agent performs a received STOP (R156, R161); its encoder flushes and enters HELD. -/
def execAgentStop (a : AgentId) (unit : UnitState) (s : State) : Host.Outcome State Fault Refusal :=
  let n := a.toNat
  onAgent a anyType (match s.hear n wireStop with
  | (s, none) => s
  | (s, some c) => ((s.encHold n).modAgent n (fun g => g.freezeWith n s.fc unit true)).ackPerform c)

/-- RESUME or STEP at an agent: one that is not frozen raises PROTOCOL; in a snap the channel capture is made first
(R186). -/
def State.agentRun (s : State) (n : Nat) (step : Bool) : State :=
  let s := s.modAgent n (fun g => if g.frozen then (g.channelCapture n).resume step else g.fault s.fc 5 0)
  s.encUnhold n

/-- R32: the agent performs a received RESUME. -/
def execAgentResume (a : AgentId) (s : State) : Host.Outcome State Fault Refusal :=
  onAgent a anyType (match s.hear a.toNat wireResume with
  | (s, none) => s
  | (s, some _) => s.agentRun a.toNat false)

/-- R49: the agent performs a received STEP: as RESUME, and its step flag is set. -/
def execAgentStep (a : AgentId) (s : State) : Host.Outcome State Fault Refusal :=
  onAgent a anyType (match s.hear a.toNat wireStep with
  | (s, none) => s
  | (s, some _) => s.agentRun a.toNat true)

/-- A SNAP at an agent (R33 to R35): a held shadow stays and SNAP_OVERRUN is set; an agent already frozen by a stop makes its
channel capture at once (R187). -/
def Agent.snap (g : Agent) (n fc : Nat) (u : UnitState) : Agent :=
  let was := g.frozen
  let g := g.freezeWith n fc u false
  if g.shadow.isSome then g.fault fc 8 0 else (g.capture n fc was).armAct n true

/-- R35: the cut whose SNAP met a held shadow is counted as skipped, once. -/
def State.snapOverrun (s : State) : State :=
  match s.cut.job with
  | none => s
  | some j => if j.overrun then s else ({ s with cut := { s.cut with job := some { j with overrun := true } } }).bump Reg.CUT.STATUS.SKIPPED
    |>.raise Reg.CUT.EVENT.SKIPPED

/-- R33 to R35: the agent performs a received SNAP. -/
def execAgentSnap (a : AgentId) (unit : UnitState) (s : State) : Host.Outcome State Fault Refusal :=
  let n := a.toNat
  onAgent a anyType (match s.hear n wireSnap with
  | (s, none) => s
  | (s, some c) =>
    let held := (s.agentNow n).shadow.isSome
    let s := ((s.encHold n).modAgent n (fun g => g.snap n s.fc unit)).ackPerform c
    if held then s.snapOverrun else s)

/-- R30, R31: a token arrives at a frozen agent and enters the skid buffer of its queue; a ninth token is written into
the queue and SKID_OVF is set. A token for a tied-off queue raises PROTOCOL (R19). After a resume a token joins the tail of a
skid that is not yet empty (R178); at a halted unit that is not frozen the queue takes it while it has room (R198). -/
def execSkidTokenArrival (a : AgentId) (q : QueueNo) (tok : Token) (s : State) : Host.Outcome State Fault Refusal :=
  let n := a.toNat
  let k := q.toNat
  if agentQueues n ≤ k then .refused (.noSuchUnit n)
  else .next (s.modAgent n (fun g =>
    let enqueue := fun (g : Agent) => ({ g with queues := Sparse.ins g.queues k (Sparse.get g.queues k [] ++ [tok]) } : Agent)
    if g.frozen || g.skid k != 0 then
      let g := if (queueSender n k).isNone then g.fault s.fc 5 0 else g
      let g := g.count s.fc 0x0A 1
      if g.skid k < 8 then
        let g := { g with skids := Sparse.ins g.skids k (Sparse.get g.skids k [] ++ [tok]) }
        { g with skidHigh := max g.skidHigh (g.skid k) }
      else { (enqueue g).fault s.fc 0 k with skidOver := insertSorted k g.skidOver }
    else if g.halted && decide (g.occ k < 16) then enqueue g
    else g))

/-- R170: a credit that arrives at a frozen agent is added to its count; a count that leaves 0 to 16 sets
A_FAULT.CREDIT. A tied-off output never changes and never faults (R19). -/
def execFrozenCreditArrival (a : AgentId) (link : QueueNo) (s : State) : Host.Outcome State Fault Refusal :=
  let n := a.toNat
  let l := link.toNat
  if agentQueues n ≤ l then .refused (.noSuchUnit n)
  else .next (s.modAgent n (fun g =>
    if g.frozen && (linkReceiver n l).isSome then
      let c := g.credit n l + 1
      let g := { g with credits := Sparse.ins g.credits l c }
      if 16 < c then g.fault s.fc 2 l else g
    else g))

/-! ### The acknowledge check (R163, R164, R195) -/

/-- The wave's command targets the agent (R163). -/
def State.ackTargets (s : State) (w : AckWave) (a : Nat) : Bool :=
  testBit w.cmd.branches (agentBranch a) && (s.agent a).acts a s.fc w.cmd

/-- The lowest targeted agent that is not frozen: the AND of the FROZEN flags has not risen (R163, R164). -/
def State.ackMissing (s : State) (w : AckWave) : Option Nat :=
  (List.range Config.agentCount).find? (fun a => s.ackTargets w a && !(s.agent a).frozen)

/-- The largest skid occupancy and the lowest agent ID among those that report it (R163). -/
def State.skidMost (s : State) : Nat × Nat :=
  s.agents.foldl (fun m e =>
    let k := e.2.skids.foldl (fun k x => max k x.2.length) 0
    if m.1 < k then (k, e.1) else m) (0, 0)

/-- What the acknowledge check records (R163, R164, R195). The latency counts from the trigger fc to the fc in which the last
agent performed the wave's command, the spread from the first agent's fc to the last one's. With NO_ACK the latency and the
spread keep their values and BOUND is not judged, and FAULT_INFO.DETAIL is 0 for BOUND, PROTOCOL and SKID_OVF (DESIGN CHOICE,
assumption log). -/
def State.ackRecord (s : State) (w : AckWave) : State :=
  let (most, who) := s.skidMost
  let s := match s.ackMissing w with
    | some a => s.fault Slot.WHISTLE 8 a
    | none =>
      let last := w.last.getD w.cmd.fc
      let lat := last - w.cmd.fc
      let skew := last - w.first.getD last
      let s := s.put Reg.WHISTLE.SKEW_MAX.LATENCY (min lat 255)
      let s := s.put Reg.WHISTLE.SKEW_MAX.SKEW (min skew 255)
      let s := s.put Reg.WHISTLE.SKEW_MAX.WORST (max (s.get Reg.WHISTLE.SKEW_MAX.WORST) (min skew 255))
      if 12 < lat ∨ 3 < skew then s.fault Slot.WHISTLE 11 0 else s
  let s := s.put Reg.WHISTLE.SKID_HIGH.LAST most
  let s := s.put Reg.WHISTLE.SKID_HIGH.AGENT who
  s.put Reg.WHISTLE.SKID_HIGH.WORST (max (s.get Reg.WHISTLE.SKID_HIGH.WORST) most)

/-- R164: the acknowledge check in fc 24 of each freeze wave, the oldest wave first. -/
def execAckCheck (s : State) : Host.Outcome State Fault Refusal :=
  .next (match s.whistle.acks with
  | [] => s
  | w :: rest =>
    if w.cmd.fc + 24 ≤ s.fc then ({ s with whistle := { s.whistle with acks := rest } }).ackRecord w else s)

/-! ### Blocked edges (R40 to R42) -/

/-- The peer of a wait of agent `a` (R42): for a link wait the unit at the other end, a tied-off link's own agent; for a memory
wait the unit that the command names; for a lack of commands the engine that last dispatched one, or CE 2 × region, and a
command engine or control processor itself; for WAIT_ACCUM itself. -/
def Agent.waitPeer (g : Agent) (a : Nat) (w : WaitId) : Nat :=
  let own := ((agentRegion a).map (fun r => 0x2410 + 2 * r)).getD a
  match w.kind.toNat with
  | 1 => ((queueSender a w.link.toNat).getD (a, 0)).1
  | 2 => ((linkReceiver a w.link.toNat).getD (a, 0)).1
  | 3 => w.peer.toNat
  | 4 => if agentType a = 5 ∨ agentType a = 6 then a else g.dispatcher.getD own
  | _ => a

/-- The wait as the agent tracks it (R40): a wait that is on no link has link 0. -/
def Agent.waitOf (g : Agent) (a : Nat) (w : WaitId) : Wait :=
  ⟨w.kind.toNat, if w.kind = 1 ∨ w.kind = 2 then w.link.toNat else 0, g.waitPeer a w, 0, false, false⟩

/-- A wait comes in force (R40); a unit that lacks anything but a command is awake. -/
def Agent.waitStarts (g : Agent) (w : Wait) : Agent :=
  (if w.kind = 4 then g else { g with asleep := false, executed := true, known := [], tiles := [] }).beginWait w

/-- R40, R41: a wait that is not in force comes in force. One that has lasted 64 cycles of the agent's clock is recorded as an
edge, unless 8 are held; the first overflow raises event 7. -/
def State.edgeRecord (s : State) (n : Nat) (w : Wait) : State :=
  let g := s.agentNow n
  if g.frozen ∨ g.halted then s
  else match g.waits.find? (·.same w) with
  | none => s.modAgent n (fun g => g.waitStarts w)
  | some v =>
    let mark := fun (g : Agent) => ({ g with waits := g.waits.map (fun v => if v.same w then { v with recorded := true } else v) } : Agent)
    if v.recorded ∨ v.len < 64 then s
    else if g.edges.length < 8 then
      s.modAgent n (fun g => ({ mark g with edges := g.edges ++ [(⟨w.peer, w.link, w.kind, s.wheel.notchCount⟩ : Edge)] }).count s.fc 0x0D 1)
    else
      let s := s.modAgent n (fun g => { mark g with edgeOvf := true })
      if g.edgeOvf then s else s.raiseEvent n 7

/-- Kinds of a wait: stall codes 1 to 5, link waits on a link that the type has, WAIT_ACCUM on a CU. -/
def waitOk (w : WaitId) (t : Nat) : Bool :=
  1 ≤ w.kind.toNat && w.kind.toNat ≤ 5 && t != 0 && (w.kind.toNat != 5 || t == 1)
    && (3 ≤ w.kind.toNat || decide (w.link.toNat < if t = 1 ∨ t = 2 then 8 else if t = 3 ∨ t = 4 then 24 else 0))

/-- R40: a wait begins, or has lasted 64 cycles and its edge is recorded. -/
def execEdgeRecord (a : AgentId) (w : WaitId) (s : State) : Host.Outcome State Fault Refusal :=
  onAgent a (waitOk w) (s.edgeRecord a.toNat ((s.agentNow a.toNat).waitOf a.toNat w))

/-- R40: a wait ends, and its edge is removed in that cycle; a link that its receiver holds is waited for as long as the hold
lasts (R169). -/
def execWaitEnd (a : AgentId) (w : WaitId) (s : State) : Host.Outcome State Fault Refusal :=
  onAgent a (waitOk w) (s.modAgent a.toNat (fun g => g.endWaits (fun x => !x.hold && x.same (g.waitOf a.toNat w))))

/-- A_CTRL.CLR_EDGES (R41): the record empties and every wait in force restarts at length 0. -/
def Agent.clearEdges (g : Agent) : Agent :=
  { g with edges := [], edgeOvf := false, waits := g.waits.map (fun w => { w with len := 0, recorded := false }) }

/-! ### Scratchpad granules (R43 to R45, R257) -/

/-- Write bytes from an address on. -/
def writeCells (m : Sparse Byte) : Nat → List Byte → Sparse Byte
  | _, [] => m
  | a, b :: bs => writeCells (Sparse.set m a b 0) (a + 1) bs

/-- The 256 bytes of granule `k`; a byte that nothing has written reads 0 (assumption log). -/
def Agent.granule (g : Agent) (k : Nat) : List Byte := (List.range 256).map (fun i => Sparse.get g.cells (k * 256 + i) 0)

/-- The valid mask of granule `k`: one bit per 8 bytes (R257). -/
def Agent.validMask (g : Agent) (k : Nat) : Nat :=
  (List.range 32).foldl (fun n i => n + bit (Sparse.get g.valid (k * 32 + i) false) * 2 ^ i) 0

/-- Set or clear the valid bits of the bytes written (R257). -/
def Agent.setValid (g : Agent) (addr len : Nat) (v : Bool) : Agent :=
  { g with valid := (List.range len).foldl (fun m i => Sparse.set m ((addr + i) / 8) v false) g.valid }

/-- Granules that a write of `len` bytes at `addr` touches. -/
def granulesOf (addr len : Nat) : List Nat :=
  if len = 0 then [] else (List.range ((addr + len - 1) / 256 - addr / 256 + 1)).map (fun i => addr / 256 + i)

/-- Granule `k` must be preserved before it is written (R44, R246). -/
def Agent.needsPreserve (g : Agent) (k : Nat) : Bool :=
  g.cowArmed && g.protectedG.contains k && !(g.preserved.any (fun p => p.1 == k))

/-- Perform a write: the bytes, the valid bits and the dirty marks (R43, R257), and the 64-byte writes counted (Table 11-1). -/
def Agent.doWrite (g : Agent) (addr : Nat) (data : List Byte) (masked : Bool) (fc : Nat) : Agent :=
  let ks := granulesOf addr data.length
  let new := ks.filter (fun k => !g.dirty.contains k)
  let track := g.get AReg.A_DIRTY_CTRL.DIRTY_EN == 1
  let g := g.count fc 0x41 (if data = [] then 0 else (addr + data.length - 1) / 64 - addr / 64 + 1)
  let g := ({ g with cells := writeCells g.cells addr data }).setValid addr data.length (!masked)
  if track then ({ g with dirty := new.foldl (fun l k => insertSorted k l) g.dirty }).count fc 0x43 new.length else g

/-- The wait that a Memory Unit's waiting writes put in force (R44, R45): WAIT_MEMORY, owed by itself. -/
def Agent.writeWait (g : Agent) (n : Nat) : Agent :=
  let w : Wait := ⟨3, 0, n, 0, false, false⟩
  if g.waitingWrites = [] then g.endWaits (·.same w) else g.beginWait w

/-- Store a Memory Unit whose waiting writes have changed. -/
def State.storeWriter (s : State) (n : Nat) (g : Agent) : State :=
  let s := { s with waitingMus := if g.waitingWrites = [] then s.waitingMus.filter (· ≠ n) else insertSorted n s.waitingMus }
  s.modAgent n (fun _ => g.writeWait n)

/-- The write `w` of agent `n` is tried, ahead of the writes that wait: protected granules not yet drained are preserved first,
and the write completes 4 fc later (R44). A write that needs more slots than are free stalls whole, even where some of the 64
slots are free, and its stall is counted once; the copies of one write are made side by side (DESIGN CHOICE, assumption
log). -/
def State.tryWrite (s : State) (n : Nat) (w : WaitingWrite) : State :=
  let g := s.agentNow n
  let need := (granulesOf w.addr w.data.length).filter g.needsPreserve
  if need = [] then s.storeWriter n (g.doWrite w.addr w.data w.masked s.fc)
  else if 64 < g.preserved.length + need.length then
    let g : Agent := { g with waitingWrites := { w with stalled := true } :: g.waitingWrites
                              cowStalls := if w.stalled then g.cowStalls else satAdd g.cowStalls 1 65535 }
    let s := s.storeWriter n g
    if w.stalled then s else (s.hubEvent 15 1).bumpBy Reg.CUT.COW_STALLS.COUNT 1
  else
    let g : Agent := { g with preserved := g.preserved ++ need.map (fun k => (k, g.validMask k, g.granule k))
                              waitingWrites := { w with due := some (s.fc + 4) } :: g.waitingWrites }
    s.storeWriter n (g.count s.fc 0x42 need.length)

/-- Writes that wait go on, in their order, as far as their copies are complete and slots are free (R44, R45); a frozen unit
writes nothing. -/
def State.retryWrites : Nat → State → Nat → State
  | 0, s, _ => s
  | fuel + 1, s, n =>
    let g := s.agentNow n
    match g.waitingWrites with
    | [] => s
    | w :: rest =>
      if g.frozen then s
      else match w.due with
      | some f =>
        if f ≤ s.fc then
          State.retryWrites fuel (s.storeWriter n (({ g with waitingWrites := rest } : Agent).doWrite w.addr w.data w.masked s.fc)) n
        else s
      | none =>
        let t := (s.setAgent n { g with waitingWrites := rest }).tryWrite n w
        if (t.agent n).waitingWrites.length ≤ rest.length then State.retryWrites fuel t n else t

/-- The writes of agent `n` that wait go on. -/
def State.writesGoOn (s : State) (n : Nat) : State := State.retryWrites (s.agent n).waitingWrites.length s n

/-- In each fc the waiting writes whose copies are complete go on (R44). -/
def State.writeTick (s : State) : State := s.waitingMus.foldl State.writesGoOn s

/-- A write to the scratchpad; writes of one unit are performed in their order. -/
def State.granuleWrite (s : State) (n addr : Nat) (data : List Byte) (masked : Bool) : State :=
  let g := s.agentNow n
  let w : WaitingWrite := ⟨addr, data, masked, none, false⟩
  if g.waitingWrites = [] then s.tryWrite n w else s.storeWriter n { g with waitingWrites := g.waitingWrites ++ [w] }

/-- R43: the MU's unit writes its scratchpad; bytes past its end do not exist. -/
def execGranuleWrite (a : AgentId) (addr : BitVec 19) (data : List Byte) (masked : Bool) (s : State) :
    Host.Outcome State Fault Refusal :=
  onAgent a muType (s.whenActive a.toNat (fun s =>
    s.granuleWrite a.toNat addr.toNat (data.take (2 ^ 19 - addr.toNat)) masked))

/-! ### Other unit events -/

/-- R46: a tile request that finds all 8 tiles live: WAIT_ACCUM, SPILLS, event 3 and programmable event 0x24. -/
def execAccumulatorSpill (a : AgentId) (s : State) : Host.Outcome State Fault Refusal :=
  let n := a.toNat
  onAgent a cuType (s.whenActive n (fun s =>
    let g := s.agent n
    let g := (g.endWaits (·.kind == 5)).beginWait ⟨5, 0, n, 0, false, false⟩
    let g := g.put AReg.CU_ACC_SPILLS (satAdd (g.get AReg.CU_ACC_SPILLS) 1 65535)
    let s := s.setAgent n (g.count s.fc 0x24 1).recode
    if g.get AReg.A_CTRL.ACCSPILL_EVT = 1 then s.raiseEvent n 3 else s))

/-- R268, Table 1-22: the unit's own fatal fault: UNIT_FAULT with the unit's code, stall code FAULT and event 6. -/
def execUnitFault (a : AgentId) (code : Byte) (s : State) : Host.Outcome State Fault Refusal :=
  onAgent a anyType ((s.modAgent a.toNat (fun g => { (g.fault s.fc 6 code.toNat) with faulted := true })).raiseEvent a.toNat 6)

/-- R371: a carry out of bit 31 of A_PCNT0 or A_PCNT1 raises event 4 or 5; that of A_PCNT0 is latched for trigger
condition 2. -/
def execPcntOverflow (a : AgentId) (n : BitVec 1) (s : State) : Host.Outcome State Fault Refusal :=
  onAgent a anyType ((s.modAgent a.toNat (fun g =>
    if n = 0 then { g with carry0 := false, ovfLatch := true } else { g with carry1 := false })).raiseEvent a.toNat (4 + n.toNat))

/-- The pulse reaches agent `a` and has not done so yet (R372). -/
def ArmPulse.due (p : ArmPulse) (a fc : Nat) : Bool :=
  decide (fc ≤ p.fc + 64) && !p.reached.contains a
  && (match agentRegion a with
    | some r => testBit p.mask r
    | none => false)

/-- R372: an arm pulse on its way reaches a targeted agent and is latched. -/
def execArmPulse (a : AgentId) (s : State) : Host.Outcome State Fault Refusal :=
  let n := a.toNat
  onAgent a anyType (
    if s.cams.pulses.any (fun p => p.due n s.fc) then
      let s := { s with cams := { s.cams with pulses := updateFirst (fun p => p.due n s.fc) (fun p => { p with reached := p.reached ++ [n] }) s.cams.pulses } }
      s.modAgent n (fun g => { g with armLatch := true })
    else s)

/-- The condition of the present trigger state holds in this cycle (R371). -/
def Agent.condHolds (g : Agent) (fc : Nat) : Bool :=
  if g.trigResetFc = some fc then false else
  match g.prog fc (AReg.A_TRIG_PROG.COND g.trig) with
  | 0 => g.cmp0Fc == some fc
  | 1 => g.cmp1Fc == some fc
  | 2 => g.ovfLatch
  | _ => g.armLatch

/-- The entry actions of trigger state `st` (R373, R374). -/
def State.trigEntry (s : State) (n st : Nat) : State :=
  let g := s.agent n
  let s := if g.prog s.fc (AReg.A_TRIG_PROG.COUNT st) = 1 then s.setAgent n (g.pcntAdd s.fc 1 1) else s
  let s := if g.prog s.fc (AReg.A_TRIG_PROG.EMIT st) = 1 then s.raiseEvent n 2 else s
  let start := g.prog s.fc (AReg.A_TRIG_PROG.START st) == 1
  let stop := g.prog s.fc (AReg.A_TRIG_PROG.STOP st) == 1
  if !cuOrCp (agentType n) || (!start && !stop) then s
  else
    let e := (s.agent n).enc
    let others := s.encEnabled n
    if start && stop then
      if e.state == encOn then ((s.encFlush n).gateEntry n 3).modEnc n (·.need srStart)
      else s.modEnc n (fun e => { e with gate := true, gateNews := if others then 3 else 0 })
    else if start then
      if e.gate then s else s.modEnc n (fun e => { e with gate := true, gateNews := if others then 1 else 0 })
    else
      if e.gate then s.modEnc n (fun e => { e with gate := false, gateNews := if others then 2 else 0 }) else s

/-- R370: the trigger sequencer moves to NEXT and performs NEXT's entry actions. -/
def execTrigTransition (a : AgentId) (s : State) : Host.Outcome State Fault Refusal :=
  let n := a.toNat
  onAgent a anyType (if ¬ (s.agentNow n).condHolds s.fc then s else s.whenExecutes n (fun s =>
    let g := s.agent n
    if g.condHolds s.fc then
      let next := g.prog s.fc (AReg.A_TRIG_PROG.NEXT g.trig)
      let s := s.setAgent n { g with trig := next, trans := (g.trans + 1) % 65536, ovfLatch := false, armLatch := false
                                     cmp0Fc := none, cmp1Fc := none }
      s.trigEntry n next
    else s))

end Sys2Proof.Machine
end

