-- ==== Sys2Proof/Machine/RunControl.lean ====
section
/-! DEFINITION. Run control (chapter 5): halt mode, locked sequences, feeds and the RUNCTL commands. -/

namespace Sys2Proof.Machine

/-- HALT_STATUS.STATE of an agent (Table 5-5). -/
def Agent.haltState (g : Agent) (a : Nat) : Nat :=
  if ¬ agentHaltable a then 4
  else if g.executing then 3
  else if g.halted then 2
  else if g.deferLeft.isSome then 1
  else 0

/-- The core is in a locked sequence: as a command has told, or, of a core that runs, as its unit shows (R202, Table 5-5). -/
def Agent.inLock (g : Agent) (a fc : Nat) : Bool :=
  g.locked || (agentHaltable a && g.executed && !g.halted && !g.frozen && Config.lockedSeq a fc)

/-- HALT_CMD.RESULT codes (Table 5-5). -/
def hrDone : Nat := 1
def hrInProgress : Nat := 2
def hrDeferred : Nat := 3
def hrRefusedType : Nat := 4
def hrRefusedState : Nat := 5
def hrRefusedDisabled : Nat := 6
def hrBusy : Nat := 7
def hrUnreachable : Nat := 8
def hrNoEffect : Nat := 9
def hrRefusedParity : Nat := 10

/-- Write HALT_CMD.RESULT. -/
def State.haltResult (s : State) (r : Nat) : State := s.put Reg.RUNCTL.HALT_CMD.RESULT r

/-- The drain rings are powered down: in W2, W3 and W4 (R574). -/
def State.unreachable (s : State) : Bool := decide (2 ≤ s.power)

/-- A write of HALT_CMD, past the checks of Table 2-2: the judgement of the hub (R216, R626, Table 5-4). From then on RESULT
shows this write's outcome; earlier commands still in flight go on (R215). -/
def State.haltCmd (s : State) (code : Nat) : State :=
  let t := s.get Reg.RUNCTL.TARGET.ID
  let g := s.agentNow t
  let st := g.haltState t
  let s := { s with runctl := { s.runctl with sent := s.runctl.sent + 1 } }
  let send := fun (s : State) =>
    ({ s with runctl := { s.runctl with cmds := s.runctl.cmds ++ [(⟨code, t, s.runctl.sent⟩ : RunCmd)] } }).haltResult hrInProgress
  if s.tossActive then s.haltResult hrBusy
  else if ¬ s.parityOk Slot.RUNCTL then s.haltResult hrRefusedParity
  else if code = 0 then s.haltResult hrNoEffect
  else if s.cfg Reg.RUNCTL.CTRL.ENABLE = 0 then s.haltResult hrRefusedDisabled
  else if ¬ agentHaltable t then s.haltResult hrRefusedType
  else if s.unreachable then s.haltResult hrUnreachable
  else match code with
    | 1 => if st = 0 then send s else if st = 2 then s.haltResult hrNoEffect else s.haltResult hrRefusedState
    | 2 => if st = 2 then send s else s.haltResult hrRefusedState
    | 3 => if st = 2 ∧ ¬ g.frozen then send s else s.haltResult hrRefusedState
    | 4 => if st = 1 then send s else s.haltResult hrRefusedState
    | _ => s.haltResult hrRefusedState

/-- A halt request with cause `c` reaches the core (R196); in a locked sequence, which the command tells or an earlier request
has found and nothing has ended, it is deferred (R202 to R204). -/
def Agent.haltRequest (g : Agent) (c count : Nat) (locked : Bool) : Agent :=
  let inLock := locked || g.locked
  let g := { g with haltPend := insertSorted c g.haltPend, locked := inLock, reserved := g.reserved || locked }
  if inLock && g.deferLeft.isNone then { g with deferLeft := some count } else g

/-- The core leaves halt mode by RELEASE or STEP_INSTR; comparator halts of its first instruction are suppressed
(R201). -/
def Agent.leaveHalt (g : Agent) (stepping : Bool) : Agent :=
  { g with halted := false, stepping := stepping, suppress := true, known := [], haltAt := none }

/-- R626: the oldest command reaches its target and is judged again there. -/
def State.haltArrive (s : State) (locked : Bool) : State :=
  match s.runctl.cmds with
  | [] => s
  | c :: rest =>
    let t := c.target
    let s := { s with runctl := { s.runctl with cmds := rest } }
    let res := fun (s : State) (r : Nat) => if c.num = s.runctl.sent then s.haltResult r else s
    let await := fun (s : State) => ({ s with runctl := { s.runctl with waits := s.runctl.waits ++ [c] } } : State)
    let g := s.agentNow t
    let n := s.cfg Reg.RUNCTL.LOCK_DEFER.COUNT
    match c.code with
    | 1 =>
      if g.halted ∨ g.executing then res s hrNoEffect
      else
        let s := s.modAgent t (fun g => g.haltRequest 1 n locked)
        res (await s) (if (s.agent t).deferLeft.isSome then hrDeferred else hrInProgress)
    | 2 =>
      if g.executing then res s hrRefusedState
      else if g.halted then res ((s.modAgent t (fun g => g.leaveHalt false)).encUnhold t) hrDone
      else res s hrNoEffect
    | 3 =>
      if g.halted ∧ ¬ g.executing ∧ ¬ g.frozen then await ((s.modAgent t (fun g => g.leaveHalt true)).encUnhold t)
      else res s hrRefusedState
    | _ =>
      if g.halted then res s hrRefusedState
      else if g.deferLeft.isSome then
        let s := s.modAgent t (fun g => { g with deferLeft := none, haltPend := [] })
        let s := { s with runctl := { s.runctl with waits := s.runctl.waits.filter (fun w => !(w.target == t && w.code == 1)) } }
        res s hrDone
      else res s hrNoEffect

/-- R626: a command arrives over the drain ring; `locked` says whether the core is in a locked sequence. -/
def execHaltRequestArrival (locked : Bool) (s : State) : Host.Outcome State Fault Refusal := .next (s.haltArrive locked)

/-- The core's program counter, as the agent page shows it (R625). -/
def Agent.setPc (g : Agent) (a pc : Nat) : Agent :=
  if agentType a = 6 then (g.put AReg.CP_PC_LO pc).put AReg.CP_PC_HI (pc / 2 ^ 32) else g.put AReg.CU_SEQ_PC pc

/-- The core halts at an instruction boundary with the causes `cs` (R197, R199); `clear` says that its reservation is
cleared (R202, R205). -/
def State.coreHalts (s : State) (n pc : Nat) (cs : List Nat) (clear : Bool) : State :=
  let s := s.encHold n
  let s := s.modAgent n (fun g =>
    { g.setPc n pc with atHalt := g.code, halted := true, haltCauses := cs, haltPend := [], deferLeft := none, haltAt := none
                        stepping := false, suppress := false, resCleared := clear
                        reserved := g.reserved && !clear, locked := g.locked && !clear, executed := true
                        known := [0x4A0] ++ (if agentType n = 6 then [0x4A4] else []) })
  let s := if s.get Reg.RUNCTL.TARGET.ID = n then s.raise Reg.RUNCTL.EVENT.HALTED else s
  let done := s.runctl.waits.filter (fun c => c.target == n)
  let s := { s with runctl := { s.runctl with waits := s.runctl.waits.filter (fun c => c.target != n) } }
  if done.any (fun c => c.num == s.runctl.sent) then s.haltResult hrDone else s

/-- A boundary at which a core can halt: it is not frozen, not halted, and runs. -/
def Agent.canHalt (g : Agent) : Bool := !g.frozen && !g.halted && !g.faulted

/-- R197, R199: the core halts at an instruction boundary with every cause present; a deferred halt waits. A core that a
comparator of KIND 0 has stopped halts before the matching instruction: no other boundary is its next one. -/
def execCoreHalt (a : AgentId) (pc : BitVec 64) (s : State) : Host.Outcome State Fault Refusal :=
  let g := s.agentNow a.toNat
  let here := g.haltAt.all (fun p => p == pc.toNat % 2 ^ 32)
  onAgent a cuOrCp (if g.haltPend ≠ [] ∧ g.deferLeft = none ∧ g.canHalt ∧ ¬ g.stepping ∧ here then
    s.coreHalts a.toNat pc.toNat g.haltPend false else s)

/-- R202: the locked sequence ends; a deferred halt takes effect at that boundary. -/
def execLockedSequenceEnd (a : AgentId) (pc : BitVec 64) (s : State) : Host.Outcome State Fault Refusal :=
  let n := a.toNat
  onAgent a cuOrCp (s.whenActive n (fun s =>
    let g := s.agent n
    let s := s.modAgent n (fun g => { g with locked := false, reserved := false })
    if g.deferLeft.isSome ∧ g.haltPend ≠ [] then s.coreHalts n pc.toNat g.haltPend false else s))

/-- R202, R204: the deferral count has expired: the core halts, its reservation is cleared, and cause 6 is recorded. -/
def execLockDeferExpire (a : AgentId) (pc : BitVec 64) (s : State) : Host.Outcome State Fault Refusal :=
  let n := a.toNat
  let g := s.agentNow n
  onAgent a cuOrCp (if g.deferLeft = some 0 ∧ g.canHalt then
    (s.coreHalts n pc.toNat (insertSorted 6 g.haltPend) true).bump Reg.RUNCTL.LOCK_DEFER.EXPIRIES else s)

/-- R624, R205: the stepped instruction has retired. A load-reserved, or an instruction inside a locked sequence, leaves the
core without its reservation: `reserves` says that the instruction was one of these, beside a sequence that the core is known
to be in. -/
def execStepInstrDone (a : AgentId) (pc : BitVec 64) (reserves : Bool) (s : State) : Host.Outcome State Fault Refusal :=
  let n := a.toNat
  let g := s.agentNow n
  let inLock := g.locked || g.reserved || reserves
  onAgent a cuOrCp (if g.stepping ∧ g.canHalt then
    s.coreHalts n pc.toNat (insertSorted 5 (if inLock then insertSorted 6 g.haltPend else g.haltPend)) inLock else s)

/-! ### Feeds (R206 to R211, R218) -/

/-- The fields of FEED_STATUS (Table 5-5). -/
def feedFields : List Fld :=
  [Reg.RUNCTL.FEED_STATUS.FEEDS, Reg.RUNCTL.FEED_STATUS.EXC_CODE, Reg.RUNCTL.FEED_STATUS.FROZEN, Reg.RUNCTL.FEED_STATUS.OVERRUN,
   Reg.RUNCTL.FEED_STATUS.NOT_HALTED, Reg.RUNCTL.FEED_STATUS.TIMEOUT, Reg.RUNCTL.FEED_STATUS.EXCEPTION,
   Reg.RUNCTL.FEED_STATUS.BUSY, Reg.RUNCTL.FEED_STATUS.DONE]

/-- FEED_STATUS describes target `t` from now on (R217); what it showed is kept for the target before. -/
def State.showFeeds (s : State) (t : Nat) : State :=
  if t = s.runctl.shown then s
  else
    let kept := Sparse.set s.runctl.status s.runctl.shown (s.word 0x18058) 0
    let v := Sparse.get kept t 0
    feedFields.foldl (fun s f => s.put f (bits v f.hi f.lo)) { s with runctl := { s.runctl with shown := t, status := kept } }

/-- Change FEED_STATUS as it stands for target `t`. -/
def State.feedStatus (s : State) (t : Nat) (f : State → State) : State := (f (s.showFeeds t)).showFeeds s.runctl.shown

/-- A write of FEED_INSTR, past the checks of Table 2-2: FEED_STATUS [6:2] are cleared first (R218). -/
def State.feedInstr (s : State) (word : Nat) : State :=
  let t := s.get Reg.RUNCTL.TARGET.ID
  let g := s.agentNow t
  if s.tossActive then s.haltResult hrBusy
  else
    let s := (((((s.put Reg.RUNCTL.FEED_STATUS.FROZEN 0).put Reg.RUNCTL.FEED_STATUS.OVERRUN 0).put Reg.RUNCTL.FEED_STATUS.NOT_HALTED 0).put
      Reg.RUNCTL.FEED_STATUS.TIMEOUT 0).put Reg.RUNCTL.FEED_STATUS.EXCEPTION 0)
    if ¬ s.parityOk Slot.RUNCTL then s.haltResult hrRefusedParity
    else if s.cfg Reg.RUNCTL.CTRL.ENABLE = 0 then s.haltResult hrRefusedDisabled
    else
      let busy := s.get Reg.RUNCTL.FEED_STATUS.BUSY == 1
      let s := s.put Reg.RUNCTL.FEED_STATUS.FROZEN (bit g.frozen)
      let s := s.put Reg.RUNCTL.FEED_STATUS.OVERRUN (bit busy)
      let s := s.put Reg.RUNCTL.FEED_STATUS.NOT_HALTED (bit (!g.halted))
      if g.frozen || busy || !g.halted then s
      else if g.executing then s.haltResult hrRefusedState
      else
        let s := (s.put Reg.RUNCTL.FEED_STATUS.BUSY 1).put Reg.RUNCTL.FEED_STATUS.DONE 0
        let job : FeedJob := ⟨t, s.fc, BitVec.ofNat 32 word⟩
        ({ s with runctl := { s.runctl with feeds := s.runctl.feeds ++ [job] } }).modAgent t (fun g => { g with executing := true })

/-- A write of FEED_DATA while a feed is in progress on the target is discarded (R210). -/
def State.feedDataBusy (s : State) : Bool := s.get Reg.RUNCTL.FEED_STATUS.BUSY == 1

/-- A fed instruction has executed: of the unit's registers it leaves only the PC as it was (R206). -/
def Agent.fedDone (g : Agent) : Agent :=
  { g with executing := false, known := g.known.filter (fun o => o == 0x4A0 || o == 0x4A4) }

/-- R208, R211: the instruction fed to a target completes: its write to the debug data register, or its exception; after a
timeout both are discarded. -/
def execFeedDone (a : AgentId) (data : Option (BitVec 64)) (exc : Option Byte) (s : State) : Host.Outcome State Fault Refusal :=
  let n := a.toNat
  onAgent a cuOrCp (
    if s.runctl.feeds.any (fun f => f.target == n) then
      let s := { s with runctl := { s.runctl with feeds := s.runctl.feeds.filter (fun f => f.target != n) } }
      let s := s.modAgent n (fun g => g.fedDone)
      let s := s.feedStatus n (fun s =>
        let s := (s.put Reg.RUNCTL.FEED_STATUS.BUSY 0).put Reg.RUNCTL.FEED_STATUS.DONE 1
        let s := s.bumpWrap Reg.RUNCTL.FEED_STATUS.FEEDS 1
        match exc with
        | some c => (s.put Reg.RUNCTL.FEED_STATUS.EXCEPTION 1).put Reg.RUNCTL.FEED_STATUS.EXC_CODE c.toNat
        | none => s)
      let s := s.raise Reg.RUNCTL.EVENT.FEED_DONE
      match data with
      | some d => s.put64 Reg.RUNCTL.FEED_DATA_LO Reg.RUNCTL.FEED_DATA_HI d.toNat
      | none => s
    else if s.runctl.lateFeeds.contains n then
      ({ s with runctl := { s.runctl with lateFeeds := s.runctl.lateFeeds.filter (· ≠ n) } }).modAgent n (fun g => g.fedDone)
    else s)

/-- R211: a feed has not completed within 65,536 fc. -/
def execFeedTimeout (s : State) : Host.Outcome State Fault Refusal :=
  .next (match s.runctl.feeds.find? (fun f => decide (f.fc + 65536 ≤ s.fc)) with
  | some f =>
    let s := { s with runctl := { s.runctl with feeds := s.runctl.feeds.erase f, lateFeeds := insertSorted f.target s.runctl.lateFeeds } }
    s.feedStatus f.target (fun s => (s.put Reg.RUNCTL.FEED_STATUS.TIMEOUT 1).put Reg.RUNCTL.FEED_STATUS.BUSY 0)
  | none => s)

/-! ### Comparators (R37, R38, R196, R201) -/

/-- A comparator's KIND selects the access (Table 1-16). -/
def kindMatches (k : Nat) (x : AccessKind) : Bool :=
  match x with
  | .fetch => k == 0
  | .read => k == 1 || k == 3
  | .write => k == 2 || k == 3

/-- Comparator `n` matches the access (R37). -/
def Agent.cmpMatches (g : Agent) (fc n : Nat) (x : AccessKind) (addr : Nat) : Bool :=
  let inside := decide (g.get (AReg.A_CMP_LO n) ≤ addr) && decide (addr ≤ g.get (AReg.A_CMP_HI n))
  g.get (AReg.A_CMP_CTRL.EN n) == 1 && kindMatches (g.get (AReg.A_CMP_CTRL.KIND n)) x
  && (inside != (g.get (AReg.A_CMP_CTRL.INVERT n) == 1))
  && (g.get (AReg.A_CMP_CTRL.CTX_EN n) == 0
      || ctxMatch (g.ctxAt fc) (g.get (AReg.A_CMP_CTX.CTX n)) (g.get (AReg.A_CMP_CTX.CTX_MASK n)))

/-- R37, R52, R196: a comparator match: its event, its count, and its halt. `first` says that the access belongs to the
first instruction that the core executes since RELEASE or STEP_INSTR, whose halt is suppressed (R201). A match of KIND 0 stops
the core before the matching instruction, one of KIND 1 to 3 after the accessing instruction (R197). -/
def execComparatorMatch (a : AgentId) (n : BitVec 1) (kind : AccessKind) (addr : Word) (locked first : Bool) (s : State) :
    Host.Outcome State Fault Refusal :=
  let m := a.toNat
  let k := n.toNat
  onAgent a anyType (s.whenExecutes m (fun s =>
    let g := s.agent m
    if g.cmpMatches s.fc k kind addr.toNat && (g.haltAt.isNone || kind != .fetch) then
      let g := if k = 0 then { g with cmp0Fc := some s.fc } else { g with cmp1Fc := some s.fc }
      let g := g.count s.fc (0x0B + k) 1
      let halts := g.get (AReg.A_CMP_CTRL.HALT k) == 1 && agentHaltable m
      let g := if halts then
          if g.suppress && first then g
          else
            let g := ({ g with suppress := false }).haltRequest (2 + k) (s.cfg Reg.RUNCTL.LOCK_DEFER.COUNT) locked
            if kind == .fetch && g.deferLeft.isNone then { g with haltAt := some addr.toNat } else g
        else g
      let s := s.setAgent m g
      if g.get AReg.A_CTRL.CMP_EVT = 1 ∧ g.get (AReg.A_CMP_CTRL.EVT k) = 1 then s.raiseEvent m k else s
    else s))

/-- A break slot halts the agent that raised the completing event (Table 5-7). -/
def State.haltByBreak (s : State) (a : Nat) (locked : Bool) : State :=
  let g := s.agentNow a
  if agentHaltable a && !g.halted then
    s.modAgent a (fun g => g.haltRequest 4 (s.cfg Reg.RUNCTL.LOCK_DEFER.COUNT) locked)
  else s

/-- ABORT on RUNCTL: each deferred halt that HALT_CMD asked for is cancelled at its target; the causes that comparators and
break slots brought there stay (R215). Answers how many. -/
def State.runctlAbort (s : State) : State × Nat :=
  let gone := s.runctl.waits.filter (fun c => c.code == 1 && (s.agentNow c.target).deferLeft.isSome)
  let s := { s with runctl := { s.runctl with waits := s.runctl.waits.filter (fun c => !gone.contains c) } }
  let s := gone.foldl (fun s c => s.modAgent c.target (fun g =>
    let rest := g.haltPend.erase 1
    { g with haltPend := rest, deferLeft := if rest = [] then none else g.deferLeft })) s
  (s.bumpBy Reg.RUNCTL.STATUS.DISCARDS gone.length, gone.length)

end Sys2Proof.Machine
end

