-- ==== Sys2Proof/Machine/Breaks.lean ====
section
/-! DEFINITION. The linked-condition slots (chapter 5, R219 to R229). -/

namespace Sys2Proof.Machine

/-- Cam `n` is enabled (R141). -/
def State.camEnabled (s : State) (n : Nat) : Bool :=
  if n < 32 then testBit (s.get Reg.CAMS.ENABLE_LO) n else testBit (s.get Reg.CAMS.ENABLE_HI) (n - 32)

/-- A CAM_ARM sets the ARMED bit of an enabled Cam (R142). -/
def State.camArm (s : State) (n : Nat) : State :=
  if s.camEnabled n then s.put (Reg.CAMS.CAM_FLAGS.ARMED n) 1 else s

/-- A slot source matches an event (R220). -/
def sourceMatches (code mask agent : Nat) (e : BusEvent) : Bool :=
  decide (e.code < 8) && e.code == code && (e.agent &&& mask) == (agent &&& mask)

/-- The event matches source A, source B of slot `n`. -/
def State.matchesA (s : State) (n : Nat) (e : BusEvent) : Bool :=
  sourceMatches (s.cfg (Reg.BREAK.SLOT_SRC_A.CODE n)) (s.cfg (Reg.BREAK.SLOT_SRC_A.MASK n)) (s.cfg (Reg.BREAK.SLOT_SRC_A.AGENT n)) e
def State.matchesB (s : State) (n : Nat) (e : BusEvent) : Bool :=
  sourceMatches (s.cfg (Reg.BREAK.SLOT_SRC_B.CODE n)) (s.cfg (Reg.BREAK.SLOT_SRC_B.MASK n)) (s.cfg (Reg.BREAK.SLOT_SRC_B.AGENT n)) e

/-- Slot `n` evaluates events: its SLOT_ENABLE bit is 1 and the page is enabled (R226, R227). -/
def State.slotOn (s : State) (n : Nat) : Bool := testBit (s.cfg Reg.BREAK.SLOT_ENABLE) n && s.cfg Reg.BREAK.CTRL.ENABLE == 1

/-- A set latch whose window runs from fc `f` still lives in this fc (R222); a slot that does not evaluate holds its latches
unchanged (R226, R227). -/
def State.latchLives (s : State) (n f : Nat) : Bool :=
  let w := s.cfg (Reg.BREAK.SLOT_LINK.WINDOW n)
  w == 0 || !s.slotOn n || decide (s.fc < f + w)

/-- The latches of slot `n` without those that have expired. -/
def State.liveLatches (s : State) (n : Nat) (l : Latches) : Latches :=
  ⟨l.a.filter (fun x => s.latchLives n x.2), l.b.filter (s.latchLives n)⟩

/-- The latches of slot `n`. -/
def State.latches (s : State) (n : Nat) : Latches := Sparse.get s.brk.latches n {}

/-- Replace the latches of slot `n`. -/
def State.setLatches (s : State) (n : Nat) (l : Latches) : State :=
  { s with brk := { s.brk with latches := Sparse.set s.brk.latches n l {} } }

/-- What an event does to a slot's latches, and whether it completes (Table 5-6, R627). -/
def State.slotStep (s : State) (n : Nat) (e : BusEvent) : Latches × Bool :=
  let l := s.liveLatches n (s.latches n)
  let ma := s.matchesA n e
  let mb := s.matchesB n e
  match s.cfg (Reg.BREAK.SLOT_LINK.OP n) with
  | 0 => (l, ma)
  | 1 =>
    let l : Latches := ⟨if ma then some (s.fc, s.fc) else l.a, if mb then some s.fc else l.b⟩
    if (ma || mb) && l.a.isSome && l.b.isSome then ({}, true) else (l, false)
  | 2 => (l, ma || mb)
  | 3 =>
    let earlier := match l.a with
      | some f => decide (f.1 < s.fc)
      | none => false
    let done := mb && earlier
    let l : Latches := if done then { l with a := none } else l
    (if ma then { l with a := some ((l.a.getD (s.fc, s.fc)).1, s.fc) } else l, done)
  | _ => (l, false)

/-- A completion (R223, R224): CURRENT counts, and on reaching TARGET the slot hits, once in a fc. -/
def State.slotComplete (s : State) (n agent : Nat) : State :=
  let cur := s.get (Reg.BREAK.SLOT_COUNT.CURRENT n) + 1
  let target := max 1 (s.cfg (Reg.BREAK.SLOT_COUNT.TARGET n))
  let hitNow := s.brk.actions.any (fun x => x.1 == n && x.2.1 == s.fc)
  if target ≤ cur ∧ ¬ hitNow then
    let s := s.put (Reg.BREAK.SLOT_COUNT.CURRENT n) (cur - target)
    let s := (s.raiseBits Reg.BREAK.SLOT_HIT (2 ^ n)).bump (Reg.BREAK.SLOT_HITS.COUNT n)
    let s := s.hubEvent 5 1
    { s with brk := { s.brk with actions := s.brk.actions ++ [(n, s.fc, agent)] } }
  else s.put (Reg.BREAK.SLOT_COUNT.CURRENT n) (min cur 65535)

/-- Slot `n` evaluates an event (R220 to R224). -/
def State.slotEval (s : State) (e : BusEvent) (n : Nat) : State :=
  let on := s.slotOn n
    && !(s.cfg (Reg.BREAK.SLOT_LINK.ONCE n) == 1 && testBit (s.get Reg.BREAK.SLOT_HIT) n)
    && (s.cfg (Reg.BREAK.SLOT_LINK.CTX_EN n) == 0
        || ctxMatch e.ctx (s.cfg (Reg.BREAK.SLOT_CONTEXT.CTX n)) (s.cfg (Reg.BREAK.SLOT_CONTEXT.CTX_MASK n)))
  if on then
    let (l, done) := s.slotStep n e
    let s := s.setLatches n l
    if done then s.slotComplete n e.agent else s
  else s

/-- The 32 slots. -/
def slots : List Nat := List.range 32

/-- The oldest event waiting for a half's bus reaches the logic: at most one per fc and half, and in W0 and W1 only
(R52, R219, Table 16-2); after the South event of a fc no North event is taken in it, since the North event comes first. -/
def State.breakArrival (s : State) (h : Nat) : State :=
  let last := if h = 0 then s.brk.northFc else s.brk.southFc
  match s.bus h with
  | [] => s
  | e :: rest =>
    if last = some s.fc ∨ 2 ≤ s.power ∨ (h = 0 ∧ s.brk.southFc = some s.fc) then s
    else
      let s := s.setBus h rest
      let s := if h = 0 then { s with brk := { s.brk with northFc := some s.fc } } else { s with brk := { s.brk with southFc := some s.fc } }
      let s := (s.hubEvent 17 1).busCount e.agent e.code
      slots.foldl (fun s n => s.slotEval e n) s

/-- R219: an event reaches the linked-condition logic and every enabled slot evaluates it. -/
def execBreakEventArrival (half : Half) (s : State) : Host.Outcome State Fault Refusal := .next (s.breakArrival (halfNo half))

/-- R222: a latch expires WINDOW fc after it was set; `b` names the B-latch. -/
def execLatchExpire (slot : BitVec 5) (b : Bool) (s : State) : Host.Outcome State Fault Refusal :=
  let n := slot.toNat
  let l := s.latches n
  let live := s.liveLatches n l
  .next (s.setLatches n (if b then { l with b := live.b } else { l with a := live.a }))

/-- The slot's action (Table 5-7). -/
def State.slotAct (s : State) (n agent : Nat) (locked : Bool) : State :=
  let arg := s.cfg (Reg.BREAK.SLOT_ACTION.ARG n)
  match s.cfg (Reg.BREAK.SLOT_ACTION.KIND n) with
  | 1 =>
    let c := s.cfg (Reg.BREAK.SLOT_ACTION.WCMD n)
    if c = 1 ∨ c = 6 then (s.whistleReq ⟨c, 3, n, 0, 0⟩).1
    else if c = 2 ∨ c = 3 then (s.whistleReq ⟨c, 3, n, arg, 0⟩).1
    else s
  | 2 => s.autoTrigger 3 n (some agent)
  | 3 => s.snapAuto
  | 4 => s.raise Reg.BREAK.EVENT.HIT
  | 5 => s.camArm (arg % 64)
  | 6 => s.haltByBreak agent locked
  | _ => s

/-- R224: in the fc after a hit the slot issues its action, and IRQ sets EVENT.HIT; slots of one fc act in ascending
order (R225): a slot waits for the hits before its own. -/
def execSlotAction (slot : BitVec 5) (locked : Bool) (s : State) : Host.Outcome State Fault Refusal :=
  let n := slot.toNat
  .next (match s.brk.actions.find? (fun x => x.1 == n && decide (x.2.1 < s.fc)
    && s.brk.actions.all (fun y => decide (x.2.1 < y.2.1) || (x.2.1 == y.2.1 && decide (x.1 ≤ y.1)))) with
  | none => s
  | some x =>
    let s := { s with brk := { s.brk with actions := s.brk.actions.erase x } }
    let s := if s.cfg (Reg.BREAK.SLOT_ACTION.IRQ n) = 1 then s.raise Reg.BREAK.EVENT.HIT else s
    s.slotAct n x.2.2 locked)

/-- A slot's latches and CURRENT are cleared (R226). -/
def State.slotClear (s : State) (n : Nat) : State := (s.setLatches n {}).put (Reg.BREAK.SLOT_COUNT.CURRENT n) 0

/-- A slot holds a set latch or a non-zero CURRENT (R227). -/
def State.slotBusy (s : State) (n : Nat) : Bool :=
  let l := s.liveLatches n (s.latches n)
  l.a.isSome || l.b.isSome || s.get (Reg.BREAK.SLOT_COUNT.CURRENT n) != 0

/-- ABORT on BREAK (R227). Answers how many slots held work. -/
def State.breakAbort (s : State) : State × Nat :=
  let busy := slots.filter s.slotBusy
  ((busy.foldl State.slotClear s).bumpBy Reg.BREAK.STATUS.DISCARDS busy.length, busy.length)

end Sys2Proof.Machine
end

