-- ==== Sys2Proof/Machine/Crash.lean ====
section
/-! DEFINITION. Fatal errors and the crash store (chapter 6, R268 to R273). -/

namespace Sys2Proof.Machine

/-- The hub has reached READY (R588). -/
def State.isReady (s : State) : Bool := s.get Reg.POWER.CURRENT_STATE.READY == 1

/-- AGE of an edge of agent `g` in notches, at most 2,047 (Table 1-20); it does not advance while the agent is held
(R488). -/
def State.edgeAge (s : State) (g : Agent) (e : Edge) : Nat :=
  min ((g.heldNotch.getD s.wheel.notchCount : Nat) - e.notch : Int).toNat 2047

/-- The link direction of a wait of agent `a` (R16, Table 1-20): the direction its tokens come from or go to; the links of a
gateway all lead to row 0 or to row 95 (R18). 0 for waits on no link. -/
def edgeDir (a : Nat) (e : Edge) : Nat :=
  if e.kind ≠ 1 ∧ e.kind ≠ 2 then 0 else if agentType a = 3 then 2 else if agentType a = 4 then 0 else e.link / 2

/-- The word of A_EDGE_DATA for an edge of agent `a` (Table 1-20); AGE saturates at 2,047 notches. -/
def State.edgeWord (s : State) (a : Nat) (g : Agent) (e : Edge) : Nat :=
  2 ^ 18 * e.peer + 2 ^ 16 * edgeDir a e + 2 ^ 15 * (e.link % 2) + e.kind * 2 ^ 11 + s.edgeAge g e

/-- The 64-byte header of a crash record (Table 6-15). -/
def CrashRec.header (r : CrashRec) : List Byte :=
  let flags := bit (!r.ctxOnly) + 2 * bit r.edgesOvf + 4 * bit (decide (r.records.length < 4096)) + 8 * bit r.ctxOnly
    + 16 * bit r.notFrozen
  let h := leBytes 4 0x53524358 ++ leBytes 2 1 ++ leBytes 1 1 ++ leBytes 1 flags ++ leBytes 2 r.member ++ leBytes 2 0
    ++ leBytes 4 (2 ^ 24 * r.kind + 2 ^ 16 * r.action + r.detail) ++ leBytes 8 r.pos ++ leBytes 8 r.cycle
    ++ leBytes 2 r.records.length ++ leBytes 2 r.edges.length ++ leBytes 2 r.syndromes.length ++ leBytes 2 9268
    ++ leBytes 4 176544 ++ leBytes 2 r.ctx ++ leBytes 14 0
  h ++ leBytes 4 (crc32c h)

/-- The bytes of a crash record from its start (Table 6-15); `n` bytes of the part at `off`. Reserved bytes are 0. -/
def CrashRec.word (r : CrashRec) (off : Nat) : Nat :=
  let at4 := fun (l : List Byte) (o : Nat) => leVal ((l.drop o).take 4)
  if off < 0x40 then at4 r.header off
  else if off < 0x440 then at4 (r.syndromes.getD ((off - 0x40) / 16) []) ((off - 0x40) % 16)
  else if off < 0x640 then r.totals.getD ((off - 0x440) / 4) 0
  else if off < 0x1000 then 0
  else if off < 0x11000 then bits (r.records.getD ((off - 0x1000) / 16) 0).toNat (off % 16 * 8 + 31) (off % 16 * 8)
  else if off < 0x19000 then bits (r.edges.getD ((off - 0x11000) / 8) 0).toNat (off % 8 * 8 + 31) (off % 8 * 8)
  else if off < 0x2B1A0 then
    bits (Sparse.get r.status ((off - 0x19000) / 8)
      (if agentHalf ((off - 0x19000) / 8) = 0 then r.resetStatus else r.resetSouth)).toNat (off % 8 * 8 + 31) (off % 8 * 8)
  else 0

/-! ### What a capture records -/

/-- An agent's status word (Table 6-15). `reachable` reads 1 unless its half is lost or the hub sleeps. -/
def State.statusWord (s : State) (a : Nat) : BitVec 64 :=
  let g := s.agentNow a
  BitVec.ofNat 64 (2 ^ 48 * g.ctx + 2 ^ 44 * g.code + 2 ^ 40 * g.prev + 2 ^ 39 * bit g.frozen + 2 ^ 38 * bit g.halted
    + 2 ^ 37 * bit g.shadow.isSome + 2 ^ 36 * bit (s.halfReached (agentHalf a)) + 2 ^ 27 * g.get AReg.A_FAULT + g.dur)

/-- The status word of an agent at reset in half `h`, whose duration has run since then at the full rate. -/
def State.resetStatusWord (s : State) (h : Nat) : BitVec 64 :=
  BitVec.ofNat 64 (8 * 2 ^ 44 + 8 * 2 ^ 40 + 2 ^ 36 * bit (s.halfReached h) + min s.fc (2 ^ 24 - 1))

/-- Two free words as eight bytes. -/
def State.freeBytes8 (s : State) : List Byte × State :=
  let (x, s) := s.free
  let (y, s) := s.free
  (leBytes 4 x.toNat ++ leBytes 4 y.toNat, s)

/-- A syndrome entry (Table 6-15): source, kind, address or offset; the syndrome data are free values. -/
def State.syndrome (s : State) (acc : List (List Byte)) (source kind addr : Nat) : List (List Byte) × State :=
  let (d, s) := s.freeBytes8
  (acc ++ [leBytes 2 source ++ leBytes 1 kind ++ leBytes 1 0 ++ leBytes 4 addr ++ d], s)

/-- The syndromes of a capture: `own`, which its own reads added, then pages by type with their UE and parity faults, then agents
with a fault, at most 64. -/
def State.syndromes (s : State) (own : List (List Byte)) : List (List Byte) × State :=
  let (l, s) := (List.range 24).foldl (fun (acc : List (List Byte) × State) p =>
    let s := acc.2
    let d := s.get (Hdr.FAULT_INFO_DETAIL p)
    let acc := if s.get (Hdr.FAULT_UE p) = 1 ∧ (own = [] ∨ p ≠ Slot.CRASH) then s.syndrome acc.1 (p + 1) 1 d else acc
    if s.get (Hdr.FAULT_PARITY p) = 1 then acc.2.syndrome acc.1 (p + 1) 2 d else acc) (own, s)
  let (l, s) := s.agents.foldl (fun (acc : List (List Byte) × State) e =>
    if e.2.get AReg.A_FAULT ≠ 0 ∧ acc.1.length < 64 then
      let (addr, t) := acc.2.free
      t.syndrome acc.1 (2 ^ 15 + e.1) 3 addr.toNat
    else acc) (l, s)
  (l.take 64, s)

/-- The region totals as SCORE 0x800 to 0x9FC lays them out. -/
def State.regionWords (s : State) : List Nat :=
  (List.range 16).flatMap (fun r => (List.range 4).flatMap (fun k =>
    let f := regionTotal r k
    [s.get f.1, s.get f.2]))

/-- The blocked edges in agent ID order (Table 6-15), of every agent or of one context. -/
def State.allEdges (s : State) (ctx : Option Nat) : List (BitVec 64) :=
  s.agents.flatMap (fun e =>
    if ctx = none ∨ ctx = some e.2.ctx then e.2.edges.map (fun x => BitVec.ofNat 64 (2 ^ 32 * e.1 + s.edgeWord e.1 e.2 x)) else [])

/-- A slot's record. -/
def Crash.slot (c : Crash) (k : Nat) : Option CrashRec := if k = 0 then c.rec0 else c.rec1

/-- Replace a slot's record. -/
def Crash.setSlot (c : Crash) (k : Nat) (r : CrashRec) : Crash :=
  if k = 0 then { c with rec0 := some r } else { c with rec1 := some r }

/-- The slot's state field: 0 EMPTY, 1 CAPTURING, 2 HELD. -/
def slotStateFld (k : Nat) : Fld := if k = 0 then Reg.CRASH.STATE.SLOT0 else Reg.CRASH.STATE.SLOT1

/-- CAUSE, POS and LEN describe the oldest HELD slot, which CUR_SLOT names (R271). -/
def State.crashShow (s : State) : State :=
  match s.crash.order with
  | [] =>
    let s := ((s.put Reg.CRASH.CAUSE.KIND 0).put Reg.CRASH.CAUSE.ACTION 0).put Reg.CRASH.CAUSE.DETAIL 0
    ((s.put64 Reg.CRASH.POS_LO Reg.CRASH.POS_HI 0).put Reg.CRASH.LEN.BYTES 0).put Reg.CRASH.STATE.CUR_SLOT 0
  | k :: _ => match s.crash.slot k with
    | none => s
    | some r =>
      let s := ((s.put Reg.CRASH.CAUSE.KIND r.kind).put Reg.CRASH.CAUSE.ACTION r.action).put Reg.CRASH.CAUSE.DETAIL r.detail
      ((s.put64 Reg.CRASH.POS_LO Reg.CRASH.POS_HI r.pos).put Reg.CRASH.LEN.BYTES 176544).put Reg.CRASH.STATE.CUR_SLOT k

/-- The slot a capture takes: the first EMPTY one, the Lead half's first (R271). -/
def State.emptySlot (s : State) : Option Nat :=
  let lead := s.get Reg.HUB.ROLE.LEAD_HALF
  if s.get (slotStateFld lead) = 0 then some lead
  else if s.get (slotStateFld (1 - lead)) = 0 then some (1 - lead) else none

/-- A capture starts, or is dropped with both slots in use or the store disarmed (R271). Answers the slot taken. -/
def State.capture (s : State) (r : CrashRec) : Option Nat × State :=
  match (if s.cfg Reg.CRASH.ARM.ARMED = 1 then s.emptySlot else none) with
  | none => (none, (s.bump Reg.CRASH.STATE.DROPPED).raise Reg.CRASH.EVENT.DROPPED)
  | some k =>
    let s := s.put (slotStateFld k) 1
    (some k, { s with crash := { s.crash.setSlot k r with capturing := s.crash.capturing ++ [k] } })

/-- The Wheel position as POS_LO/HI lay it out. -/
def State.posWord (s : State) : Nat := 2 ^ 32 * s.wheel.posHi + s.wheel.posLo

/-! ### Fatal errors (R268, Table 6-14) -/

/-- Fatal actions (Table 6-14). -/
def faHold : Nat := 0
def faRelease : Nat := 1
def faContext : Nat := 2
def faNone : Nat := 3

/-- A watchdog kind's `WD_ACTION` field (Table 13-1). -/
def wdAct (k : Nat) : Fld :=
  if k = 1 then Reg.HANG.WD_ACTION.UNIT else if k = 2 then Reg.HANG.WD_ACTION.CMD
  else if k = 3 then Reg.HANG.WD_ACTION.REV else Reg.HANG.WD_ACTION.FW

/-- The fatal condition holds (R268, Table 17-4): an agent's own fault under its FAULT_FATAL, or TOKEN_UE or CREDIT; a
UE in the hub's control state; a watchdog whose WD_ACTION selects CRASH. -/
def State.isFatal (s : State) : FatalSource → Bool
  | .agent a =>
    let g := s.agent a.toNat
    let f := g.get AReg.A_FAULT
    (testBit f 6 && g.get AReg.A_CTRL.FAULT_FATAL == 1) || testBit f 3 || testBit f 2
  | .watchdog k => decide (1 ≤ k.toNat ∧ k.toNat ≤ 4) && s.cfg (wdAct k.toNat) == 3
  | _ => true

/-- KIND and DETAIL of a fatal error (Table 6-17). -/
def fatalCause : FatalSource → Nat × Nat
  | .agent a | .tokenUe a _ | .credit a _ => (1, a.toNat)
  | .hub => (2, 0x3FFF)
  | .watchdog k => (3, k.toNat)

/-- The context of the faulting agent, if an agent reports. -/
def State.faultCtx (s : State) : FatalSource → Option Nat
  | .agent a | .tokenUe a _ | .credit a _ => some (s.agent a.toNat).ctx
  | _ => none

/-- The action applied (Table 6-14, R607): without a faulting agent CAPTURE_CONTEXT_ONLY acts as FREEZE_AND_HOLD. -/
def State.fatalAction (s : State) (f : FatalSource) : Nat :=
  let a := s.cfg Reg.HUB.FATAL_ACTION.ACTION
  if s.get (Hdr.FAULT_PARITY 0) = 1 ∧ s.get (Hdr.FAULT_INFO_DETAIL 0) = 0x050 then faHold
  else if a = faContext ∧ s.faultCtx f = none then faHold
  else a

/-- The Whistle action of a fatal error; answers whether its own stop left RUNNING (R242). -/
def State.fatalWhistle (s : State) (f : FatalSource) (act : Nat) : State × Bool :=
  let detail := match f with
    | .agent a | .tokenUe a _ | .credit a _ => a.toNat
    | _ => 0x3FFF
  let was := s.get Reg.WHISTLE.STATE.STATE
  if act = faNone then (s, false)
  else
    let r : WReq := if act = faContext then ⟨3, 5, detail, (s.faultCtx f).getD 0, 0⟩ else ⟨1, 5, detail, 0, 0⟩
    let (s, c) := s.whistleReq r
    (s, was == wsRunning && (c == wrDriven || c == wrHeld))

/-- The interrupts of Table 6-14. The spec names no page and no line for them, so they are plain state (DESIGN CHOICE, assumption
log). -/
def State.fatalIrq (s : State) (f : FatalSource) (act : Nat) : State :=
  if act = faNone then { s with crash := { s.crash with noneIrq := s.crash.noneIrq ++ [s.faultCtx f] } }
  else if act = faContext then { s with crash := { s.crash with schedIrq := s.crash.schedIrq ++ [(s.faultCtx f).getD 0] } }
  else s

/-- Capture for a fatal error, HUB_FAULT_N and the interrupts (Table 6-14, R608). -/
def State.fatalCapture (s : State) (f : FatalSource) (act : Nat) (own : Bool) : State :=
  let (kind, detail) := fatalCause f
  let s := s.fatalIrq f act
  let s := { s with crash := { s.crash with hold := true } }
  let assert := fun (s : State) (k : Option Nat) =>
    if act = faHold ∨ act = faNone then { s with crash := { s.crash with asserts := s.crash.asserts ++ [k] } } else s
  if act = faNone then assert s none
  else
    let ctx := (s.faultCtx f).getD 0
    let stops := s.cfg Reg.WHISTLE.AUTO_SOURCES.FATAL == 1
    let after := if act = faRelease ∨ act = faContext then 1 else 0
    let (k, s) := s.capture ⟨kind, act, detail, s.posWord, s.fc, ctx, act == faContext, after, own, !stops, 0, false, [], [],
      [], [], [], 0, 0⟩
    let s := match k with
      | none => if after = 1 ∧ own then (s.whistleReq ⟨4, 5, 0, 0, 0⟩).1 else s
      | some _ => s
    assert s k

/-- A fatal error (R268, R584, R588): before READY and in W3 or W4 all of it waits; in W1 and W2 the capture waits. -/
def State.fatal (s : State) (f : FatalSource) : State :=
  let act := s.fatalAction f
  let s := s.wakeNote wkFatal
  if ¬ s.isReady ∨ 3 ≤ s.power then
    { s with crash := { s.crash with waiting := s.crash.waiting ++ [(f, none)], hold := true } }
  else
    let (s, own) := s.fatalWhistle f act
    if s.power ≠ 0 then
      { s with crash := { s.crash with waiting := s.crash.waiting ++ [(f, some (act, own))], hold := true } }
    else s.fatalCapture f act own

/-- The fatal errors that waited are acted on, in the fc of READY or the first fc of W0. -/
def State.fatalWaiting (s : State) : State :=
  let l := s.crash.waiting
  let s := { s with crash := { s.crash with waiting := [] } }
  l.foldl (fun s p => match p.2 with
    | some (act, own) => s.fatalCapture p.1 act own
    | none =>
      let act := s.fatalAction p.1
      let (s, own) := s.fatalWhistle p.1 act
      s.fatalCapture p.1 act own) s

/-- R268: a fatal error is acted on. A token UE counts in A_AON3 (R39); a tied-off output never raises CREDIT (R19). -/
def execFatalError (src : FatalSource) (s : State) : Host.Outcome State Fault Refusal :=
  match src with
  | .agent a => onAgent a anyType (if s.isFatal (.agent a) then s.fatal (.agent a) else s)
  | .tokenUe a q => onAgent a (fun _ => q.toNat < agentQueues a.toNat)
      ((s.modAgent a.toNat (fun g => { g with aon3 := (g.aon3 + 1) % 2 ^ 32 }.fault s.fc 3 q.toNat)).fatal (.agent a))
  | .credit a l => onAgent a (fun _ => l.toNat < agentQueues a.toNat)
      (if (linkReceiver a.toNat l.toNat).isNone then s
       else (s.modAgent a.toNat (fun g => g.fault s.fc 2 l.toNat)).fatal (.agent a))
  | .hub => .next ((s.fault Slot.HUB 1 0).fatal .hub)
  | .watchdog k => .next (if s.isFatal (.watchdog k) then s.fatal (.watchdog k) else s)

/-- The rest of a crash record as the capture completes (Table 6-15). -/
def State.fillCrash (s : State) (r : CrashRec) : CrashRec × State :=
  let (syn, s) := s.syndromes r.syndromes
  let edges := s.allEdges (if r.ctxOnly then some r.ctx else none)
  let frozen := s.get Reg.WHISTLE.STATE.STATE == wsFrozen
  ({ r with
      notFrozen := r.notFrozen || !frozen
      member := s.get Reg.TEAM.MEMBER_ID.ID
      edgesOvf := decide (4096 < edges.length)
      syndromes := syn
      totals := s.regionWords
      records := s.trace.history
      edges := edges.take 4096
      status := s.agents.map (fun e => (e.1, s.statusWord e.1))
      resetStatus := s.resetStatusWord 0
      resetSouth := s.resetStatusWord 1 }, s)

/-- R270: the oldest capture in progress completes: its slot is HELD, and the action's RESUME is driven if the error's
own stop left RUNNING. -/
def execCrashCaptureDone (s : State) : Host.Outcome State Fault Refusal :=
  .next (match s.crash.capturing with
  | [] => s
  | k :: rest => match s.crash.slot k with
    | none => s
    | some r =>
      let (r, s) := s.fillCrash r
      let s := { s with crash := { s.crash.setSlot k r with capturing := rest, order := s.crash.order ++ [k] } }
      let s := ((s.put (slotStateFld k) 2).bumpWrap Reg.CRASH.STATE.CAPTURES 1).raise Reg.CRASH.EVENT.CAPTURED
      let s := s.crashShow
      if r.after = 1 ∧ r.ownStop then (s.whistleReq ⟨4, 5, 0, 0, 0⟩).1 else s)

/-- ARM.CAPTURE_NOW (Table 6-17): a capture with KIND SOFTWARE and no Whistle action. -/
def State.captureNow (s : State) : State :=
  (s.capture ⟨4, faNone, 0, s.posWord, s.fc, 0, false, 0, false, false, 0, false, [], [], [], [], [], 0, 0⟩).2

/-- RELEASE.GO (R273, R608): the oldest HELD slot becomes EMPTY, its contents stay; every assertion of HUB_FAULT_N
whose slot is then EMPTY, or which captured nothing, is released. -/
def State.crashRelease (s : State) : State :=
  let s := match s.crash.order with
    | [] => s
    | k :: rest => { s.put (slotStateFld k) 0 with crash := { s.crash with order := rest } }
  let keep := s.crash.asserts.filter (fun (k : Option Nat) => match k with
    | none => false
    | some k => s.get (slotStateFld k) != 0)
  ({ s with crash := { s.crash with asserts := keep, hold := false, noneIrq := [], schedIrq := [] } }).crashShow

end Sys2Proof.Machine
end

