-- ==== Sys2Proof/Machine/Hopper.lean ====
section
/-! DEFINITION. Jobs on the HOPPER page (chapter 7, R293 to R306). -/

namespace Sys2Proof.Machine

/-- Job states (Table 7-8). -/
def hjIdle : Nat := 0
def hjSetup : Nat := 1
def hjWalk : Nat := 2
def hjCoding : Nat := 3
def hjCommit : Nat := 4

/-- The engines leave the page job's blocks (R302). -/
def State.pageEngines (s : State) : State := { s with hopper := { s.hopper with busy := s.hopper.busy.filter (fun e => e.who != 2) } }

/-- An engine works on block `idx` of the page job. -/
def State.pageBlock (s : State) (idx : Nat) : Option EngineUse := s.hopper.busy.find? (fun e => e.who == 2 && e.idx == idx)

/-- Busy engines of Hopper `n`; blocks of Millrace and the Cut engine end at their fc (R276). -/
def State.busyIn (s : State) (n : Nat) : Nat :=
  (s.hopper.busy.filter (fun e => e.hopper == n && (e.who == 2 || decide (s.fc < e.due)))).length

/-- The engines of Hopper `n` that are in service (R275, R593): 16, less one that a self-test has taken out. -/
def State.enginesOf (s : State) (n : Nat) : Nat :=
  if s.test.test = 4 ∧ (if n < 2 then s.test.north else s.test.south).any (fun u => u / 16 == n % 2) then 15 else 16

/-- ENGINES_BUSY (Table 7-9). -/
def State.enginesBusy (s : State) : Nat :=
  s.busyIn 0 + 2 ^ 8 * s.busyIn 1 + 2 ^ 16 * s.busyIn 2 + 2 ^ 24 * s.busyIn 3

/-- Replace the page job. -/
def State.setHop (s : State) (j : HopJob) : State := { s with hopper := { s.hopper with job := some j } }

/-- The job ends other than DONE (R299, R301, R303): `idx` is the failing block. -/
def State.hopFail (s : State) (code idx : Nat) : State :=
  match s.hopper.job with
  | none => s
  | some j =>
    let s := { s.pageEngines with hopper := { s.pageEngines.hopper with job := none, dst := j.dst, out := [] } }
    let s := ((s.put Reg.HOPPER.RESULT.CODE code).put Reg.HOPPER.RESULT.BLOCKS idx).put Reg.HOPPER.RESULT.RAW_BLOCKS j.raws
    let s := ((s.put Reg.HOPPER.OUT_LEN.BYTES 0).put Reg.HOPPER.CRC.VALUE 0).put Reg.HOPPER.STATUS.JOB_STATE hjIdle
    (s.bumpWrap Reg.HOPPER.JOBS_FAILED.COUNT 1).raise Reg.HOPPER.EVENT.FAILED

/-- An uncorrectable error ends the job with UE (R306); nothing fixes what FAULT_INFO.DETAIL then takes. -/
def State.hopUe (s : State) (idx : Nat) : State :=
  let (d, s) := s.free
  (s.fault Slot.HOPPER 1 (d.toNat % 65536)).hopFail hcUe idx

/-- A GO write with START 1 (R293, R294), judged against the state at the start of its fc. -/
def State.hopperGo (s : State) : State :=
  let reject := fun (n : Nat) => (s.put Reg.HOPPER.STATUS.LAST_REJECT n).raise Reg.HOPPER.EVENT.REJECTED
  if s.cfg Reg.HOPPER.STATUS.JOB_STATE ≠ hjIdle ∨ s.hopper.job.isSome then reject 1
  else if s.cfg Reg.HOPPER.CTRL.ENABLE = 0 then reject 2
  else if s.cfg (Hdr.STATUS_PARITY_ERR Slot.HOPPER) = 1 then reject 3
  else
    let j : HopJob := {
      decompress := s.cfg Reg.HOPPER.MODE.OP == 1
      src := s.cfg64 Reg.HOPPER.SRC_LO Reg.HOPPER.SRC_HI
      len := s.cfg Reg.HOPPER.SRC_LEN.BYTES
      dst := s.cfg64 Reg.HOPPER.DST_LO Reg.HOPPER.DST_HI
      limit := s.cfg Reg.HOPPER.DST_LIMIT.BYTES
      noZrun := s.cfg Reg.HOPPER.MODE.NO_ZRUN == 1
      checkOnly := s.cfg Reg.HOPPER.MODE.CHECK_ONLY == 1
      maxw := s.cfg Reg.HOPPER.MODE.MAXW
      rawFallback := s.cfg Reg.HOPPER.MODE.RAW_FALLBACK == 1
      plane := s.cfg Reg.HOPPER.MODE.PLANE
      ratio := s.cfg Reg.HOPPER.EXPAND_LIMIT.RATIO
      startFc := s.fc }
    (s.setHop j).put Reg.HOPPER.STATUS.JOB_STATE hjSetup

/-- The arguments that SETUP refuses (R295). -/
def HopJob.badArgs (j : HopJob) : Bool :=
  j.len == 0 || decide (16777216 < j.len) || decide (2 ^ 44 ≤ j.src) || decide (2 ^ 44 ≤ j.dst) || decide (4 < j.maxw)
    || (!j.decompress && decide (j.limit < 16))

/-- The source and destination ranges meet (R295). -/
def HopJob.overlaps (j : HopJob) : Bool := decide (j.src < j.dst + j.limit) && decide (j.dst < j.src + j.len)

/-- R295: SETUP checks the arguments; a compress job writes 16 zero bytes at DST. -/
def execHopperSetup (s : State) : Host.Outcome State Fault Refusal :=
  .next (match s.hopper.job with
  | none => s
  | some j =>
    if s.get Reg.HOPPER.STATUS.JOB_STATE = hjSetup ∧ j.startFc + 4 ≤ s.fc then
      if j.badArgs then s.hopFail hcArgs 0
      else if j.overlaps then s.hopFail hcOverlap 0
      else if j.decompress then s.put Reg.HOPPER.STATUS.JOB_STATE hjWalk
      else
        let s := { s with mm := { s.mm with lastWrite := some (j.dst, List.replicate 16 0) } }
        s.put Reg.HOPPER.STATUS.JOB_STATE hjCoding
    else s)

/-- Sum of the original lengths of the headers walked. -/
def HopJob.sumOrig (j : HopJob) : Nat := j.hdrs.foldl (fun n h => n + h.orig) 0

/-- The job's blocks have all been taken: COMMIT is entered. -/
def State.hopCommitIf (s : State) (j : HopJob) (blocks : Nat) : State :=
  if blocks ≤ j.outs.length then (s.setHop { j with commitFc := some s.fc }).put Reg.HOPPER.STATUS.JOB_STATE hjCommit
  else s.setHop j

/-- The walk ends: the blocks are decoded (R300). -/
def State.hopWalked (s : State) (j : HopJob) : State :=
  (s.put Reg.HOPPER.STATUS.JOB_STATE hjCoding).hopCommitIf j j.hdrs.length

/-- R292: the next block header, or the bytes that remain at the end, is read and checked. -/
def execHopperHeaderRead (hdr : List Byte) (s : State) : Host.Outcome State Fault Refusal :=
  .next (match s.hopper.job with
  | none => s
  | some j =>
    let left := j.len - j.offset
    if s.get Reg.HOPPER.STATUS.JOB_STATE ≠ hjWalk ∨ hdr.length < min left 16 then s
    else if left < 16 then
      if 7 < left ∨ (hdr.take left).any (· != 0) then s.hopFail hcBadHeader j.hdrs.length else s.hopWalked j
    else match headerCheck (hdr.take 16) (left - 16) j.sumOrig (if j.checkOnly then none else some j.limit) j.ratio with
      | .error e => s.hopFail e j.hdrs.length
      | .ok h =>
        let j := { j with hdrs := j.hdrs ++ [h], offset := j.offset + 16 + h.coded }
        if j.offset = j.len then s.hopWalked j else s.setHop j)

/-- Bytes of source block `idx` of a compress job (R296). -/
def HopJob.blockLen (j : HopJob) (idx : Nat) : Nat := min 65536 (j.len - 65536 * idx)

/-- The first block in source order whose bytes would pass DST_LIMIT, over the blocks done without a gap (R298). -/
def HopJob.noSpace (j : HopJob) : Nat → Nat → Nat → Option Nat
  | 0, _, _ => none
  | fuel + 1, idx, used =>
    if Sparse.has j.outs idx then
      let n := used + (Sparse.get j.outs idx []).length
      if j.limit < n then some idx else j.noSpace fuel (idx + 1) n
    else none

/-- A compress job's block (R296, R297). -/
def State.hopEncode (s : State) (j : HopJob) (idx : Nat) (raw : List Byte) : State :=
  let (out, isRaw) := codeBlock j.maxw j.plane j.noZrun raw
  if isRaw ∧ ¬ j.rawFallback then s.hopFail hcNotShrunk idx
  else
    let j := { j with outs := Sparse.ins j.outs idx out, origs := Sparse.ins j.origs idx raw, raws := j.raws + bit isRaw }
    let s := s.hubEvent 14 1
    match j.noSpace (j.outs.length + 1) 0 0 with
    | some i => (s.setHop j).hopFail hcNoSpace i
    | none => s.hopCommitIf j (ceilDiv j.len 65536)

/-- A decompress job's block. -/
def State.hopDecode (s : State) (j : HopJob) (idx : Nat) (h : BlockHdr) (raw : List Byte) : State :=
  match decodeBlock h raw with
  | .error e => s.hopFail e idx
  | .ok b => (s.hubEvent 14 1).hopCommitIf { j with outs := Sparse.ins j.outs idx b } j.hdrs.length

/-- R276: an engine that has taken block `idx` finishes it, no sooner than its rate allows; `raw` are the block's source bytes, for
a decompress job its body. -/
def execHopperBlockDone (idx : Nat) (raw : List Byte) (s : State) : Host.Outcome State Fault Refusal :=
  .next (match s.hopper.job with
  | none => s
  | some j =>
    match s.pageBlock idx with
    | none => s
    | some e =>
      if s.get Reg.HOPPER.STATUS.JOB_STATE ≠ hjCoding ∨ Sparse.has j.outs idx ∨ s.fc < e.due then s
      else
        let free := { s with hopper := { s.hopper with busy := s.hopper.busy.erase e } }
        if j.decompress then match j.hdrs[idx]? with
          | some h => if raw.length = h.coded then free.hopDecode j idx h raw else s
          | none => s
        else if 65536 * idx < j.len ∧ raw.length = j.blockLen idx then free.hopEncode j idx raw
        else s)

/-- R302: an engine reports a failure of block `idx` (a RESULT code of Table 7-9); a UE also sets FAULT.UE (R306). -/
def execHopperBlockFail (idx : Nat) (code : Nat) (s : State) : Host.Outcome State Fault Refusal :=
  .next (
    let st := s.get Reg.HOPPER.STATUS.JOB_STATE
    if st ≠ hjWalk ∧ (st ≠ hjCoding ∨ (s.pageBlock idx).isNone) then s
    else if code = hcUe then s.hopUe idx
    else if hcNotShrunk ≤ code ∧ code < hcUe then s.hopFail code idx
    else s)

/-- R303: the job commits: a compress job's first header is written, then RESULT, OUT_LEN and CRC are set. -/
def execHopperCommit (s : State) : Host.Outcome State Fault Refusal :=
  .next (match s.hopper.job with
  | none => s
  | some j => match j.commitFc with
    | none => s
    | some f =>
      if f + 64 ≤ s.fc then
        let out := j.outs.flatMap (·.2)
        let crc := if j.decompress then crc32c out else crc32c (j.origs.flatMap (·.2))
        let kept := if j.checkOnly ∧ j.decompress then [] else out
        let s := { s with hopper := { s.hopper with job := none, dst := j.dst, out := kept }
                          mm := { s.mm with lastWrite := if kept = [] then s.mm.lastWrite else some (j.dst, kept) } }
        let s := ((s.put Reg.HOPPER.RESULT.CODE hcDone).put Reg.HOPPER.RESULT.BLOCKS j.outs.length).put
          Reg.HOPPER.RESULT.RAW_BLOCKS j.raws
        let s := ((s.put Reg.HOPPER.OUT_LEN.BYTES kept.length).put Reg.HOPPER.CRC.VALUE crc).put
          Reg.HOPPER.STATUS.JOB_STATE hjIdle
        (s.bumpWrap Reg.HOPPER.JOBS_DONE.COUNT 1).raise Reg.HOPPER.EVENT.DONE
      else s)

/-- CTRL.ABORT on the HOPPER page (R305): a job whose COMMIT write is not yet issued is discarded. -/
def State.hopAbort (s : State) : State × Bool :=
  match s.hopper.job with
  | none => (s, false)
  | some j =>
    let committed := match j.commitFc with
      | some f => decide (f + 1 < s.fc)
      | none => false
    if committed then (s, false) else ((s.bump Reg.HOPPER.STATUS.DISCARDS).hopFail hcAborted j.outs.length, true)

end Sys2Proof.Machine
end

