-- ==== Sys2Proof/Machine/Governor.lean ====
section
/-! DEFINITION. The memory master and the Governor (R259 to R261, R555 to R557). -/

namespace Sys2Proof.Machine

/-- Grant slots per fc of gateway `g`: SG0 to SG7, then XG0 to XG7 (Table 6-11). -/
def gatewaySlots (g : Nat) : Nat := if g < 8 then 16 else 4

/-- A gateway's allowance in the window (R259). -/
def Master.gateAllowance (m : Master) (g : Nat) : Nat := m.share * gatewaySlots g * 1536 / 1000

/-- The total allowance in the window (R259). -/
def Master.totalAllowance (m : Master) : Nat := m.ceiling * 10

/-- Blocks of an allowance released by the end of the window's fc `j` (R259). -/
def released (a j : Nat) : Nat := ceilDiv (a * (j + 1)) 1536

/-- A request to gateway `g` is within the allowances in this fc. -/
def State.withinAllowance (s : State) (g : Nat) : Bool :=
  let j := min (s.fc - s.mm.winFc) 1535
  decide (Sparse.get s.mm.used g 0 < released (s.mm.gateAllowance g) j) && decide (s.mm.total < released s.mm.totalAllowance j)

/-- R259: a window starts in every fc in which HUB.CYCLE is a multiple of 1,536; changed settings take effect. -/
def execGovernorWindow (s : State) : Host.Outcome State Fault Refusal :=
  .next (if s.fc % 1536 = 0 then
    { s with mm := { s.mm with winFc := s.fc, share := s.cfg Reg.MASTER.GOV_SHARE.PERMILLE
                               ceiling := s.cfg Reg.MASTER.GOV_CEILING.UNITS, used := [], total := 0 } }
  else s)

/-- A requester's priority (R260): the Cut engine and the spill FIFOs share a place. -/
def requesterRank : Requester → Nat
  | .crash => 0
  | .millrace => 1
  | .cut | .spillNorth | .spillSouth => 2
  | .hopper => 3
  | .dw0 => 4
  | .dw1 => 5

/-- A requester's number. -/
def requesterNo : Requester → Nat
  | .crash => 0
  | .millrace => 1
  | .cut => 2
  | .spillNorth => 3
  | .spillSouth => 4
  | .hopper => 5
  | .dw0 => 6
  | .dw1 => 7

/-- A trace spill FIFO. -/
def isSpill (r : Requester) : Bool := r == .spillNorth || r == .spillSouth

/-- The port can take the request: fewer than 64 outstanding, its tag free there, and no request to the block
outstanding on either port (R555). -/
def State.portFree (s : State) (r : MmRequest) : Bool :=
  let here := s.mm.out.filter (fun o => o.port == r.port.toNat)
  decide (here.length < 64) && !(here.any (fun o => o.tag == r.tag.toNat))
    && !(s.mm.out.any (fun o => o.req.addr.toNat / 64 == r.addr.toNat / 64))

/-- The better of two requests by priority; in the shared place the kind not served last comes first (R411). -/
def State.better (s : State) (a b : MmRequest) : Bool :=
  let ra := requesterRank a.who
  let rb := requesterRank b.who
  if ra ≠ rb then decide (ra < rb) else if ra = 2 ∧ isSpill a.who ≠ isSpill b.who then isSpill b.who == s.mm.spillLast else true

/-- The blocks that have passed over a requester while it waited. -/
def State.passedOver (s : State) (r : MmRequest) : Nat := Sparse.get s.mm.since (requesterNo r.who) 0

/-- The requester that must be served now if every waiting one is to receive a block in 16 (R260): for some n at least n
requesters wait that 16 − n blocks or more have passed over; of them the one passed over most. -/
def State.mustServe (s : State) (l : List MmRequest) : Option MmRequest :=
  if (List.range 8).any (fun n => decide (n + 1 ≤ (l.filter (fun r => decide (15 - n ≤ s.passedOver r))).length)) then
    l.foldl (fun (b : Option MmRequest) r => match b with
      | none => some r
      | some x => if s.passedOver x < s.passedOver r then some r else some x) none
  else none

/-- The request that is issued: one that must be served now, else the one of highest priority (R260). -/
def State.pickRequest (s : State) (l : List MmRequest) : Option MmRequest :=
  match s.mustServe l with
  | some r => some r
  | none => l.foldl (fun (b : Option MmRequest) r => match b with
    | none => some r
    | some x => if s.better x r then some x else some r) none

/-- Bytes a request moves: a block read, or the bytes a write's mask covers. -/
def requestBytes (r : MmRequest) : Nat :=
  if r.write then (List.range 64).foldl (fun n i => n + bit (r.mask.getLsbD i)) 0 else 64

/-! ### Requests of the DATAWIN instances (R106, R109, R231, R232) -/

/-- A DATAWIN instance. -/
def State.dw (s : State) (i : Nat) : DataWin := if i = 0 then s.bank.dw0 else s.bank.dw1

/-- Change a DATAWIN instance. -/
def State.setDw (s : State) (i : Nat) (d : DataWin) : State :=
  { s with bank := if i = 0 then { s.bank with dw0 := d } else { s.bank with dw1 := d } }

/-- The byte offset of a DATAWIN instance. -/
def State.winOffset (s : State) (i : Nat) : Nat := s.get64 (Reg.DATAWIN.WIN_OFFSET_LO i) (Reg.DATAWIN.WIN_OFFSET_HI i)

/-- The DATAWIN instance of a requester. -/
def dwOf : Requester → Option Nat
  | .dw0 => some 0
  | .dw1 => some 1
  | _ => none

/-- The next memory block that the prefetch of an instance reads (R106): the first that holds a word still to be transferred,
up to 256 bytes ahead, and that has been neither asked for nor read; none while a write waits (R232). -/
def State.winBlock (s : State) (i : Nat) : Option Nat :=
  let d := s.dw i
  let count := s.get (Reg.DATAWIN.WIN_COUNT i)
  if s.get (Reg.DATAWIN.WIN_SRC.SRC i) ≠ 0 ∨ count = 0 ∨ d.writes ≠ [] ∨ s.get Reg.POWER.CURRENT_STATE.STATE ≠ 0 then none
  else
    let off := s.winOffset i
    let first := (off + 4 * d.ready.length) / 64
    let last := min (off + 4 * (count - 1)) (off + 255) / 64
    ((List.range 6).map (first + ·)).find? (fun b =>
      decide (b ≤ last) && decide (b < 2 ^ 38) && !d.asked.contains b && !Sparse.has d.blocks b)

/-- The 64 bytes of a write of one word at byte `off`. -/
def wordBlock (off : Nat) (w : Word) : List Byte :=
  let k := off % 64 / 4 * 4
  (List.replicate k 0 ++ leBytes 4 w.toNat ++ List.replicate (60 - k) 0)

/-- What a DATAWIN instance asks for with the port, tag and gateway of `r`: its oldest write, as one block write whose mask
covers the 4 bytes of its word (R109), or the next block of its prefetch. -/
def State.dwRequest (s : State) (i : Nat) (r : MmRequest) : Option MmRequest :=
  match (s.dw i).writes with
  | (off, w) :: _ =>
    some { r with write := true, addr := BitVec.ofNat 44 (off / 64 * 64), mask := BitVec.ofNat 64 (15 * 2 ^ (off % 64 / 4 * 4)),
                  data := wordBlock off w }
  | [] => (s.winBlock i).map (fun b => { r with write := false, addr := BitVec.ofNat 44 (64 * b), mask := 0, data := [] })

/-- The requests that can be made: a DATAWIN instance asks for one block at a time, in its own order (R232); the other requesters'
are as they come. -/
def State.mmAsked (s : State) (ready : List MmRequest) : List MmRequest :=
  (ready.foldl (fun (acc : List MmRequest) r => match dwOf r.who with
    | none => acc ++ [r]
    | some i => if acc.any (fun q => q.who == r.who) then acc
      else match s.dwRequest i r with
        | some q => acc ++ [q]
        | none => acc) [])

/-- A DATAWIN instance's request is issued: the block is asked for, or the write leaves. -/
def State.dwIssued (s : State) (r : MmRequest) : State :=
  match dwOf r.who with
  | none => s
  | some i =>
    let d := s.dw i
    s.setDw i (if r.write then { d with writes := d.writes.drop 1 } else { d with asked := d.asked ++ [r.addr.toNat / 64] })

/-- A block comes for a DATAWIN instance; one asked for before the last flush is dropped. -/
def State.dwArrived (s : State) (r : MmRequest) (data : List Byte) (ue : Bool) : State :=
  match dwOf r.who with
  | none => s
  | some i =>
    let d := s.dw i
    let b := r.addr.toNat / 64
    if r.write ∨ ¬ d.asked.contains b then s
    else s.setDw i { d with asked := d.asked.erase b, blocks := Sparse.ins d.blocks b (data, ue) }

/-- Carried regions (Table 8-12): some valid entry holds the page. -/
def State.carried (s : State) (page : Nat) : Bool :=
  (List.range 16).any (fun e =>
    let base := (2 ^ 32 * s.get (Reg.MILLRACE.ENTRY_BASE_HI e) + s.get (Reg.MILLRACE.ENTRY_BASE_LO e)) / 4096
    s.get (Reg.MILLRACE.ENTRY_FLAGS.VALID e) == 1 && decide (base ≤ page) && decide (page < base + s.get (Reg.MILLRACE.ENTRY_LEN.PAGES e)))

/-- A write of a page at gateway `gw` marks it dirty there where a carried region holds it; event 0x62 counts a page newly
marked (R233). -/
def State.dirtyPage (s : State) (gw page : Nat) : State :=
  if s.carried page then
    s.modAgent (0x2400 + gw) (fun g =>
      let g := if g.dirtyPages.contains page || g.frozen then g else g.count s.fc 0x62 1
      { g with dirtyPages := insertSorted page g.dirtyPages })
  else s

/-! ### Guarded pages (R253, R318) -/

/-- The page is not yet read by the cut. -/
def CutJob.unread (j : CutJob) (page : Nat) : Bool := !(j.pages.any (fun i => i.page == page))

/-- The page is guarded now: in a frozen cut from DRAIN_MEMORY on, by the selected gateways (R253); in a Millrace cut from the
cut point on (R318); until it is read. -/
def State.pageGuarded (s : State) (j : CutJob) (page gw : Nat) : Bool :=
  let listed := match j.pageList with
    | none => false
    | some l => l.contains page
  j.unread page && ((j.kind == 3 && j.memStarted && listed && j.captured.contains (0x2400 + gw))
    || (j.code == 9 && (listed || s.agents.any (fun e => isGateway e.1 && e.2.latchedP.contains page))))

/-- A write waits for a guarded page: the page moves ahead in the read order, and the stall is counted. -/
def State.guardStall (s : State) (j : CutJob) (w : PageWait) : State :=
  let s := { s with cut := { s.cut with job := some { j with
    pageFirst := if j.pageFirst.contains w.page then j.pageFirst else j.pageFirst ++ [w.page]
    waits := j.waits ++ [w] } } }
  (s.bump Reg.CUT.COW_STALLS.COUNT).hubEvent 15 1

/-- A block write of the memory master meets a guarded page: in a frozen cut those of the DATAWIN instances, the Hopper jobs and
the trace spill wait (R253), in a Millrace cut every one (R318). -/
def State.mmGuarded (s : State) (r : MmRequest) : Bool :=
  match s.cut.job with
  | none => false
  | some j => r.write && s.pageGuarded j (r.addr.toNat / 4096) r.gw.toNat
      && (j.code == 9 || r.who == .hopper || isSpill r.who || (dwOf r.who).isSome)

/-- The block writes that meet a guarded page begin to wait. -/
def State.mmStall (s : State) (rs : List MmRequest) : State :=
  rs.foldl (fun s r => match s.cut.job with
    | none => s
    | some j =>
      let w : PageWait := ⟨r.addr.toNat / 4096, none, r.gw.toNat, some r.who⟩
      if s.mmGuarded r && !j.waits.contains w then s.guardStall j w else s) s

/-- A block is issued. -/
def State.issueBlock (s : State) (waiting : List MmRequest) (r : MmRequest) : State :=
  let g := r.gw.toNat
  let others := (List.range 8).foldl (fun (m : Sparse Nat) n =>
    if n ≠ requesterNo r.who ∧ waiting.any (fun q => requesterNo q.who == n) then Sparse.ins m n (Sparse.get s.mm.since n 0 + 1)
    else m) []
  let m := { s.mm with out := s.mm.out ++ [⟨r.port.toNat, r.tag.toNat, r, s.fc⟩], used := Sparse.ins s.mm.used g (Sparse.get s.mm.used g 0 + 1)
                       total := s.mm.total + 1, since := others, spillLast := if requesterRank r.who = 2 then isSpill r.who else s.mm.spillLast
                       lastWrite := if r.write then some (r.addr.toNat, r.data) else s.mm.lastWrite }
  let s := (({ s with mm := m }).dwIssued r).hubEvent 9 1
  let s := if r.write then s.dirtyPage g (r.addr.toNat / 4096) else s
  let f := if r.write then (Reg.MASTER.BYTES_WRITTEN_LO, Reg.MASTER.BYTES_WRITTEN_HI)
    else (Reg.MASTER.BYTES_READ_LO, Reg.MASTER.BYTES_READ_HI)
  s.put64 f.1 f.2 ((s.get64 f.1 f.2 + requestBytes r) % 2 ^ 64)

/-- R260, R261: of the ready requests one block is issued within the allowances; a fc in which a ready request waits for
allowance counts once in GOV_THROTTLED. -/
def execMmRequestIssue (ready : List MmRequest) (s : State) : Host.Outcome State Fault Refusal :=
  .next (
    let asked := s.mmAsked ready
    let ready := asked.filter (fun r => !s.mmGuarded r)
    let s := s.mmStall asked
    let ok := ready.filter (fun r => s.withinAllowance r.gw.toNat)
    let s := if ok.length < ready.length ∧ s.mm.throttledFc ≠ some s.fc then
        ({ s with mm := { s.mm with throttledFc := some s.fc } }).bump Reg.MASTER.GOV_THROTTLED.FC |>.hubEvent 8 1
      else s
    match s.pickRequest (ok.filter s.portFree) with
    | none => s
    | some r => s.issueBlock ready r)

/-- A block treated as UE by its requester (R557): a Hopper job ends UE (R306) at the block read, a Cut Record takes its UE
flag. -/
def State.blockUe (s : State) (who : Requester) (addr : Nat) : State :=
  match who with
  | .hopper => match s.hopper.job with
    | some j => s.hopUe (if j.decompress then j.hdrs.length else (addr - j.src) / 65536)
    | none => s
  | .cut => match s.cut.job with
    | some j => { s with cut := { s.cut with job := some { j with ue := true } } }
    | none => s
  | _ => s

/-- R556, R557: a response for an outstanding request; an error status is a UE in the block. -/
def execMmResponse (port : BitVec 1) (tag : BitVec 6) (err : Bool) (data : List Byte) (s : State) :
    Host.Outcome State Fault Refusal :=
  .next (match s.mm.out.find? (fun o => o.port == port.toNat && o.tag == tag.toNat) with
  | none => s
  | some o =>
    let t := { s with mm := { s.mm with out := s.mm.out.erase o, lastRead := if o.req.write then s.mm.lastRead else data } }
    let t := t.dwArrived o.req data err
    if err then t.blockUe o.req.who o.req.addr.toNat else t)

/-- `n` words that the spec leaves open. -/
def State.freeBlock : Nat → State → List Byte × State
  | 0, s => ([], s)
  | n + 1, s =>
    let (w, s) := s.free
    let (l, s) := State.freeBlock n s
    (leBytes 4 w.toNat ++ l, s)

/-- R557: a request unanswered for 65,536 fc sets MM_TIMEOUT, and its requester treats the block as UE; what a DATAWIN instance
then reads from the block is free. -/
def execMmTimeout (port : BitVec 1) (tag : BitVec 6) (s : State) : Host.Outcome State Fault Refusal :=
  .next (match s.mm.out.find? (fun o => o.port == port.toNat && o.tag == tag.toNat) with
  | none => s
  | some o =>
    if o.fc + 65536 ≤ s.fc then
      let t := { s with mm := { s.mm with out := s.mm.out.erase o } }
      let (b, t) := if (dwOf o.req.who).isSome ∧ ¬ o.req.write then t.freeBlock 16 else ([], t)
      let t := t.dwArrived o.req b true
      (t.fault Slot.MASTER 8 0).blockUe o.req.who o.req.addr.toNat
    else s)

end Sys2Proof.Machine
end

