-- ==== Sys2Proof/Machine/CutRecord.lean ====
section
/-! DEFINITION. The Cut Record (chapter 6, R254 to R258): its sections, the link tally and the header; and reading a record
back (R266, R267). -/

namespace Sys2Proof.Machine

/-! ### Selection (R251, R316) -/

/-- Dump set `n` as its registers stand (Table 6-4); SECTIONS bit 5 (TALLY) always reads 1. -/
def State.cutSel (s : State) (n : Nat) : CutSel :=
  { mask := s.cfg (Reg.CUT.SET_REGIONS.MASK n)
    cps := s.cfg (Reg.CUT.SET_REGIONS.CPS n) == 1
    types := s.cfg (Reg.CUT.SET_TYPES.TYPE n)
    muFirst := s.cfg (Reg.CUT.SET_TYPES.MU_FIRST n)
    muLast := s.cfg (Reg.CUT.SET_TYPES.MU_LAST n)
    dirtyOnly := s.cfg (Reg.CUT.SET_TYPES.MU_DIRTY_ONLY n) == 1
    accum := s.cfg (Reg.CUT.SET_TYPES.ACCUM n) == 1
    ctx := if s.cfg (Reg.CUT.SET_CONTEXT.CTX_EN n) = 1 then some (s.cfg (Reg.CUT.SET_CONTEXT.CTX n)) else none
    sections := s.cfg (Reg.CUT.SET_SECTIONS.TYPE n) ||| 16
    coded := s.cfg (Reg.CUT.SET_SECTIONS.CODED n) == 1
    plane := s.cfg (Reg.CUT.SET_SECTIONS.PLANE n)
    memDirty := s.cfg (Reg.CUT.SET_SECTIONS.MEM_DIRTY_ONLY n) == 1
    memBase := s.cfg64 (Reg.CUT.SET_MEM_BASE_LO n) (Reg.CUT.SET_MEM_BASE_HI n)
    memLen := s.cfg64 (Reg.CUT.SET_MEM_LEN_LO n) (Reg.CUT.SET_MEM_LEN_HI n) }

/-- The Millrace set (R316): every agent, AGENT_STATE, CHANNEL, MU_REGION, MEMORY_PAGES and TALLY, stored raw. -/
def millSel (base tiles : Bool) : CutSel :=
  { mask := 0xFFFF, cps := true, types := 0x3F, muFirst := 0, muLast := 2047, dirtyOnly := !base, accum := tiles, ctx := none,
    sections := 0x1F, coded := false, plane := 0, memDirty := true, memBase := 0, memLen := 0 }

/-- Section `t` is selected. -/
def CutSel.has (c : CutSel) (t : Nat) : Bool := testBit c.sections (t - 1)

/-- The agent's region and type are selected (R251). -/
def CutSel.picks (c : CutSel) (a : Nat) : Bool :=
  agentType a != 0 && testBit c.types (agentType a - 1)
    && (match agentRegion a with
      | some r => testBit c.mask r
      | none => c.cps)

/-- The agent is selected at its cut point with context `ctx` (R251). -/
def CutSel.picksCtx (c : CutSel) (a ctx : Nat) : Bool := c.picks a && (c.ctx == none || c.ctx == some ctx)

/-- The regions that hold agents of a type: gateways lie in the first and last four. -/
def typeRegions (t : Nat) : Nat := if t = 3 then 0x000F else if t = 4 then 0xF000 else if t = 6 then 0 else 0xFFFF

/-- The set selects no agent by region and type (R252). -/
def CutSel.empty (c : CutSel) : Bool :=
  !((c.cps && testBit c.types 5) || (List.range 5).any (fun i => testBit c.types i && (c.mask &&& typeRegions (i + 1)) != 0))

/-! ### The link tally (R173, R174, R258) -/

/-- The end that a shadow with its channel capture gives. -/
def Shadow.linkEnd (h : Shadow) (a : Nat) : LinkEnd := ⟨a, h.occ, h.skids.map List.length, h.credits, h.ninth⟩

/-- The end that a captured shadow gives. -/
def ShadowItem.linkEnd (i : ShadowItem) : LinkEnd := i.shadow.linkEnd i.agent

/-- The end of a frozen agent as it stands. -/
def Agent.linkEnd (g : Agent) (a : Nat) : LinkEnd :=
  let n := agentQueues a
  ⟨a, (List.range n).map g.occ, (List.range n).map g.skid, (List.range n).map (g.credit a), g.skidOver⟩

/-- The ends of the agents in the record. -/
def CutJob.mine (j : CutJob) : List LinkEnd := j.items.map ShadowItem.linkEnd

/-- Every end that was frozen or snapped at the cut point (R173). -/
def CutJob.ends (j : CutJob) : List LinkEnd := j.mine ++ j.others

/-- A tally entry (Table 6-10). -/
structure TallyEntry where
  kind : Nat
  queue : Nat := 0
  recv : Nat := 0
  send : Nat := 0
  credits : Nat := 0
  skid : Nat := 0
  occ : Nat := 0
  diff : Int := 0
deriving DecidableEq, Repr

/-- A difference saturated at ±2^31 and as a 32-bit word. -/
def diffWord (d : Int) : Nat := (BitVec.ofInt 32 (max (-2 ^ 31) (min (2 ^ 31 - 1) d))).toNat

/-- The entry's bytes; the wire term is 0 at every capture point (R173). -/
def TallyEntry.bytes (e : TallyEntry) : List Byte :=
  leBytes 1 e.kind ++ leBytes 1 e.queue ++ leBytes 2 e.recv ++ leBytes 2 e.send ++ leBytes 1 e.credits ++ leBytes 1 e.skid
    ++ leBytes 1 e.occ ++ leBytes 1 0 ++ leBytes 2 (e.credits + e.skid + e.occ) ++ leBytes 4 (diffWord e.diff)

/-- Entries that record a failed identity (R623). -/
def TallyEntry.mismatch (e : TallyEntry) : Bool := e.kind != 2 && e.kind != 3

/-- The end of agent `a`. -/
def endOf (ends : List LinkEnd) (a : Nat) : Option LinkEnd := ends.find? (fun e => e.agent == a)

/-- The entries of an end's input queues: internal queues that do not balance, boundary queues, tied-off queues that hold
tokens, and the queues that a ninth skid token has entered (R31, R173, R174, R623). -/
def inEntries (ends : List LinkEnd) (e : LinkEnd) : List TallyEntry :=
  (List.range (agentQueues e.agent)).flatMap (fun q =>
    let o := e.occ.getD q 0
    let k := e.skid.getD q 0
    let own : List TallyEntry := match queueSender e.agent q with
      | none => if o ≠ 0 then [{ kind := 4, queue := q, recv := e.agent, skid := k, occ := o }] else []
      | some (b, l) => match endOf ends b with
        | none => [{ kind := 2, queue := q, recv := e.agent, send := b, skid := k, occ := o }]
        | some f =>
          let c := f.credits.getD l 0
          if c + k + o = 16 then [] else [{ kind := 1, queue := q, recv := e.agent, send := b, credits := c, skid := k, occ := o }]
    own ++ (if e.ninth.contains q then [{ kind := 5, queue := q, recv := e.agent, skid := k, occ := o }] else []))

/-- The entries of an end's output links whose receiver is not captured (BOUNDARY_OUT). -/
def outEntries (ends : List LinkEnd) (e : LinkEnd) : List TallyEntry :=
  (List.range (agentQueues e.agent)).flatMap (fun l =>
    match linkReceiver e.agent l with
    | none => []
    | some (c, q) =>
      if (endOf ends c).isSome then [] else [{ kind := 3, queue := q, recv := c, send := e.agent, credits := e.credits.getD l 0 }])

/-- The link entries of the ends `mine`, where `ends` are frozen or snapped. -/
def linkEntries (mine ends : List LinkEnd) : List TallyEntry := mine.flatMap (fun e => inEntries ends e ++ outEntries ends e)

/-- Link queues of `mine` checked: both ends frozen or snapped (R258). -/
def linksChecked (mine ends : List LinkEnd) : Nat :=
  mine.foldl (fun n e => n + ((List.range (agentQueues e.agent)).filter (fun q => match queueSender e.agent q with
    | some (b, _) => (endOf ends b).isSome
    | none => false)).length) 0

/-! ### Sections (Tables 6-6, 6-7) -/

/-- Pad with zero bytes to a multiple of 8 (R254). -/
def pad8 (l : List Byte) : List Byte := l ++ List.replicate ((8 - l.length % 8) % 8) 0

/-- A section with its header (Table 6-6). -/
def sectionBytes (t items : Nat) (coded : Bool) (pl : Nat) (raw : List Byte) : List Byte :=
  let body := pad8 (if coded then codeSection pl raw else raw)
  leBytes 2 t ++ leBytes 2 (bit coded) ++ leBytes 4 items ++ leBytes 8 body.length ++ leBytes 8 raw.length
    ++ leBytes 4 (crc32c body) ++ leBytes 4 0 ++ body

/-- A token's 64 bytes. -/
def tokenBytes (t : Token) : List Byte := leBytes 64 t.toNat

/-- A tile is PADDED when a lane of its mask is 0 or fewer than 32 rows are valid (R257). -/
def tilePadded (t : TileData) : Bool := t.mask != BitVec.allOnes 64 || decide (t.rows.toNat < 32)

/-- A tile block (R256): 8,208 bytes. -/
def tileBytes (t : TileData) : List Byte :=
  leBytes 1 t.index.toNat ++ leBytes 1 t.rows.toNat ++ leBytes 1 (bit (tilePadded t)) ++ leBytes 5 0 ++ leBytes 8 t.mask.toNat
    ++ padTo 8192 t.data

/-- AGENT_STATE item: header, shadow, tiles. -/
def ShadowItem.bytes (i : ShadowItem) : List Byte :=
  let sh := i.shadow.bytes i.agent
  let tiles := i.tiles.flatMap tileBytes
  leBytes 2 i.agent ++ leBytes 1 (agentType i.agent) ++ leBytes 1 (bit (i.tiles != []) + 2 * bit (testBit i.shadow.status 6))
    ++ leBytes 4 (sh.length + tiles.length) ++ sh ++ tiles

/-- A CHANNEL item. -/
def channelItem (recv q : Nat) (boundary tied : Bool) (occ skid credits : Nat) (toks : List Token) : List Byte :=
  leBytes 2 recv ++ leBytes 1 q ++ leBytes 1 (bit boundary + 2 * bit tied + 4 * bit (queueCrosses recv q)) ++ leBytes 1 occ
    ++ leBytes 1 skid ++ leBytes 1 credits ++ leBytes 1 0 ++ toks.flatMap tokenBytes

/-- The CHANNEL items of a captured agent (R256), and of its links to receivers that are neither frozen nor snapped. -/
def ShadowItem.channels (i : ShadowItem) (ends : List LinkEnd) : List (List Byte) :=
  let h := i.shadow
  let ins := (List.range (agentQueues i.agent)).filterMap (fun q =>
    let qt := h.queues.getD q []
    let st := h.skids.getD q []
    let o := h.occ.getD q 0
    match queueSender i.agent q with
    | none => if o ≠ 0 then some (channelItem i.agent q false true o st.length 0 (qt ++ st)) else none
    | some (b, l) => match endOf ends b with
      | none => some (channelItem i.agent q true false o st.length 0 (qt ++ st))
      | some f => if o + st.length ≠ 0 then some (channelItem i.agent q false false o st.length (f.credits.getD l 0) (qt ++ st)) else none)
  let outs := (List.range (agentQueues i.agent)).filterMap (fun l =>
    match linkReceiver i.agent l with
    | none => none
    | some (c, q) => if (endOf ends c).isSome then none else some (channelItem c q true false 0 0 (h.credits.getD l 0) []))
  ins ++ outs

/-- A granule entry (R256); PADDED when its valid mask is not all ones (R257). -/
def GranuleItem.bytes (g : GranuleItem) : List Byte :=
  leBytes 2 g.index ++ leBytes 2 (bit g.preserved + 2 * bit (g.valid != 2 ^ 32 - 1)) ++ leBytes 4 g.valid ++ padTo 256 g.data

/-- Insert a granule in ascending index. -/
def insertGranule (g : GranuleItem) : List GranuleItem → List GranuleItem
  | [] => [g]
  | x :: xs => if g.agent < x.agent ∨ (g.agent = x.agent ∧ g.index ≤ x.index) then g :: x :: xs else x :: insertGranule g xs

/-- MU_REGION items: one for each MU that has granules. -/
def CutJob.muItems (j : CutJob) : List (List Byte) :=
  (j.items.map (·.agent)).filterMap (fun a =>
    let gs := j.granules.filter (fun g => g.agent == a)
    if gs = [] then none
    else some (leBytes 2 a ++ leBytes 2 (bit j.sel.dirtyOnly + 2 * bit (j.cow.contains a)) ++ leBytes 4 gs.length
      ++ leBytes 2 j.sel.muFirst ++ leBytes 2 j.sel.muLast ++ leBytes 4 0 ++ gs.flatMap GranuleItem.bytes))

/-- A MEMORY_PAGES item. -/
def PageItem.bytes (p : PageItem) : List Byte :=
  leBytes 8 (4096 * p.page) ++ leBytes 4 (bit p.late + 2 * bit p.ue + 4 * bit p.dirty) ++ leBytes 4 4096 ++ padTo 4096 p.data

/-- COUNTERS (R448): region totals, hub counters, then each agent's counts. -/
def CutJob.countersBody (j : CutJob) : List Byte :=
  padTo 512 (j.totals.flatMap (leBytes 4)) ++ padTo 512 (j.counters.flatMap (leBytes 8))
    ++ j.items.flatMap (fun i => leBytes 2 i.agent ++ leBytes 2 0 ++ (i.shadow.counts.flatMap (leBytes 4)) ++ leBytes 4 0)

/-- The newest entries of a list. -/
def lastN {α : Type} (n : Nat) (l : List α) : List α := l.drop (l.length - n)

/-- TRACE_TAIL entries (R423). -/
def State.traceTail (s : State) : List (BitVec 128) :=
  let n := s.cfg Reg.CUT.POLICY.TRACE_TAIL * 512
  lastN n s.trace.north.tail ++ lastN n s.trace.south.tail

/-- The header of the held crash record, if one is held. -/
def State.heldCrash (s : State) : Option CrashRec :=
  match s.crash.order with
  | [] => none
  | k :: _ => s.crash.slot k

/-- The four Millrace terms of TALLY bytes 32 to 63 (R333). -/
def State.millTerms (s : State) : List Nat :=
  [s.get Reg.MILLRACE.FRAMES_PRODUCED, s.get Reg.MILLRACE.FRAMES_DONE, s.get Reg.MILLRACE.LAG.FRAMES,
    s.get Reg.MILLRACE.FRAMES_DISCARDED]

/-- The Millrace identity's difference: produced − (applied + pending + discarded), modulo 2^32 (Table 8-6). -/
def State.millDiff (s : State) : Int :=
  match s.millTerms with
  | [p, a, n, d] => (BitVec.ofInt 32 ((p : Int) - (a + n + d))).toInt
  | _ => 0

/-- What the tally of a cut finds: entries, link queues checked, trace sources checked, counters checked. -/
structure TallyResult where
  entries : List TallyEntry
  links : Nat
  traces : Nat
  counters : Nat
deriving DecidableEq, Repr

/-- Entries of the given kinds. -/
def TallyResult.count (t : TallyResult) (ks : List Nat) : Nat := (t.entries.filter (fun e => ks.contains e.kind)).length

/-- Mismatches (R623). -/
def TallyResult.mismatches (t : TallyResult) : Nat := (t.entries.filter TallyEntry.mismatch).length

/-- The TALLY body (Table 6-9, then the entries). -/
def TallyResult.body (t : TallyResult) (mill : List Nat) : List Byte :=
  leBytes 4 t.links ++ leBytes 4 (t.count [1, 4, 5]) ++ leBytes 4 (t.count [2, 3]) ++ leBytes 4 t.traces
    ++ leBytes 4 (t.count [6]) ++ leBytes 4 t.counters ++ leBytes 4 (t.count [7])
    ++ leBytes 4 (bit (t.mismatches != 0) + 2 * bit (t.count [5] != 0)) ++ mill.flatMap (leBytes 8)
    ++ t.entries.flatMap TallyEntry.bytes

/-- Counters checked at a cut point (R447): those whose KIND is not OFF, and the four identities of the newest completed
rollup; the failing ones by index, 0x100 + k for rollup kind k. -/
def State.counterTally (s : State) : List (Nat × Int) × Nat :=
  let on := counters.filter (fun n => s.get (Reg.SCORE.CNT_SRC.KIND n) != 0)
  let bad := on.filterMap (fun n =>
    let d := (BitVec.ofNat 64 (s.cntIdentity n)).toInt
    if d = 0 then none else some (n, d))
  (bad ++ s.score.bad.map (fun p => (0x100 + p.1, p.2)), on.length + (if s.score.rolled then 4 else 0))

/-- The tally of the cut in progress (R258). -/
def CutJob.tally (j : CutJob) : TallyResult :=
  let tr := j.traceBad.map (fun p => ({ kind := 6, recv := p.1, diff := p.2 } : TallyEntry))
  let cnt := j.cntBad.map (fun p => ({ kind := 7, recv := p.1, diff := p.2 } : TallyEntry))
  let ml : List TallyEntry := if j.millBad = 0 then [] else [{ kind := 8, diff := j.millBad }]
  ⟨linkEntries j.mine j.ends ++ tr ++ cnt ++ ml, linksChecked j.mine j.ends, j.traceChecked, j.cntChecked⟩

/-- Selected sections in the record's order: ascending type, TALLY last (R254). -/
def CutSel.order (c : CutSel) : List Nat := [1, 2, 3, 4, 6, 7, 8, 5].filter c.has

/-- The item count and the raw body of section `t` as the job stands. -/
def State.sectionRaw (s : State) (j : CutJob) (t : Nat) : Nat × List Byte :=
  match t with
  | 1 => (j.items.length, j.items.flatMap ShadowItem.bytes)
  | 2 =>
    let l := j.items.flatMap (fun i => i.channels j.ends)
    (l.length, l.flatten)
  | 3 => (j.muItems.length, j.muItems.flatten)
  | 4 => (j.pages.length, j.pages.flatMap PageItem.bytes)
  | 5 => let r := j.tally; (r.entries.length, r.body j.mill)
  | 6 => (j.items.length, j.countersBody)
  | 7 => let l := s.traceTail; (l.length, l.flatMap (fun e => leBytes 16 e.toNat))
  | _ => match s.heldCrash with
    | some r => (1, r.header)
    | none => (0, [])

/-- Section `t` of the record as the job stands. -/
def State.sectionOf (s : State) (j : CutJob) (t : Nat) : List Byte :=
  let r := s.sectionRaw j t
  sectionBytes t r.1 j.sel.coded j.sel.plane r.2

/-- Frozen fc of the cut for header byte 56: 16 for a snap, measured for a held cut, 0 for a frozen cut. -/
def State.frozenFor (s : State) (j : CutJob) : Nat :=
  if j.kind = 1 then (if j.ownStop then 16 else 0)
  else if j.kind = 2 then s.fc - j.frozenFc.getD s.fc else 0

/-- The engine stops the set (R240): a held cut, STOP_AND_CUT and CONTEXT_SAVE. -/
def CutJob.stops (j : CutJob) : Bool := j.kind == 2 || j.code == 2 || j.code == 3

/-- The engine's stop has left a selected agent running (R240), judged at the cut point. -/
def State.leftRunning (s : State) (j : CutJob) : Bool :=
  j.stops && (List.range Config.firstUnusedAgent).any (fun a => j.sel.picksCtx a (s.agent a).ctx && !(s.agent a).frozen)

/-- The 64-byte header (Table 6-5) of a record whose sections take `len` bytes. -/
def State.recordHeader (s : State) (j : CutJob) (len : Nat) : List Byte :=
  let r := j.tally
  let mis := r.mismatches
  let flags := bit (j.kind == 1) + 2 * bit (j.kind == 2) + 4 * bit (j.kind == 3) + 8 * bit (j.code == 3) + 16 * bit (j.code == 9)
    + 32 * bit (mis != 0) + 64 * bit j.toPort + 128 * bit j.ue
  let h := leBytes 4 0x54554358 ++ leBytes 2 1 ++ leBytes 1 1 ++ leBytes 1 flags ++ leBytes 2 (s.get Reg.TEAM.MEMBER_ID.ID)
    ++ leBytes 1 j.set ++ leBytes 1 (bit j.omitted) ++ leBytes 4 j.cause ++ leBytes 8 j.id ++ leBytes 8 j.trigPos
    ++ leBytes 4 j.sel.order.length ++ leBytes 2 (if j.code = 3 then j.sel.ctx.getD 0 else 0) ++ leBytes 2 0
    ++ leBytes 8 (len + 64) ++ leBytes 4 (2 ^ 31 * bit (mis != 0) + min mis (2 ^ 24 - 1)) ++ leBytes 4 r.links
    ++ leBytes 4 (min (s.frozenFor j) (2 ^ 32 - 1))
  h ++ leBytes 4 (crc32c h)

/-- The sections of the complete record. -/
def State.recordSections (s : State) (j : CutJob) : List Byte := j.sel.order.flatMap (s.sectionOf j)

/-! ### Reading a record back (R266, R267, R615) -/

/-- A section as it stands in a stream: type, item count, CODED, declared stored length, CRC, and the body bytes present. -/
structure ReadSection where
  type : Nat
  items : Nat
  coded : Bool
  len : Nat
  rawLen : Nat
  crc : Nat
  body : List Byte
deriving DecidableEq, Repr

/-- The sections of a stream, the last perhaps incomplete. -/
def readSections : Nat → List Byte → List ReadSection
  | 0, _ => []
  | fuel + 1, l =>
    if l.length < 32 then []
    else
      let f := fun (o n : Nat) => leVal ((l.drop o).take n)
      let len := f 8 8
      ⟨f 0 2, f 4 4, testBit (f 2 2) 0, len, f 16 8, f 24 4, (l.drop 32).take len⟩ :: readSections fuel (l.drop (32 + len))

/-- A complete section's CRC holds. -/
def ReadSection.good (r : ReadSection) : Bool := r.body.length == r.len && crc32c r.body == r.crc

/-- A section's raw body; none when its blocks do not decode. -/
def ReadSection.raw (r : ReadSection) : Option (List Byte) :=
  if r.coded then match decodeBlocks (r.body.length + 1) r.body with
    | .ok l => some (l.take r.rawLen)
    | .error _ => none
  else some (r.body.take r.rawLen)

/-- AGENT_STATE items of a body: agent, type, shadow bytes, tiles. -/
def readAgents : Nat → List Byte → List (Nat × Nat × Nat × List Byte)
  | 0, _ => []
  | fuel + 1, l =>
    if l.length < 8 then []
    else
      let f := fun (o n : Nat) => leVal ((l.drop o).take n)
      let n := f 4 4
      if l.length < 8 + n then [] else (f 0 2, f 2 1, f 3 1, (l.drop 8).take n) :: readAgents fuel (l.drop (8 + n))

/-- The tile blocks that follow a shadow in an AGENT_STATE item. -/
def readTiles : Nat → List Byte → List TileData
  | 0, _ => []
  | fuel + 1, l =>
    if l.length < 8208 then []
    else
      let f := fun (o n : Nat) => leVal ((l.drop o).take n)
      ⟨BitVec.ofNat 3 (f 0 1), BitVec.ofNat 6 (f 1 1), BitVec.ofNat 64 (f 8 8), (l.drop 16).take 8192⟩ :: readTiles fuel (l.drop 8208)

/-- CHANNEL items of a body: receiver, queue, flags, queue tokens, skid tokens, sender credits. -/
def readChannels : Nat → List Byte → List (Nat × Nat × Nat × List Token × List Token × Nat)
  | 0, _ => []
  | fuel + 1, l =>
    if l.length < 8 then []
    else
      let f := fun (o n : Nat) => leVal ((l.drop o).take n)
      let o := f 4 1
      let k := f 5 1
      let toks := (List.range (o + k)).map (fun i => BitVec.ofNat 512 (f (8 + 64 * i) 64))
      (f 0 2, f 2 1, f 3 1, toks.take o, toks.drop o, f 6 1) :: readChannels fuel (l.drop (8 + 64 * (o + k)))

/-- Granule entries: index, valid mask, bytes. -/
def readGranules : Nat → List Byte → List (Nat × Nat × List Byte)
  | 0, _ => []
  | fuel + 1, l =>
    if l.length < 264 then []
    else (leVal (l.take 2), leVal ((l.drop 4).take 4), (l.drop 8).take 256) :: readGranules fuel (l.drop 264)

/-- MU_REGION items: agent and its granules; an item may be incomplete at the end of a stream. -/
def readRegions : Nat → List Byte → List (Nat × List (Nat × Nat × List Byte))
  | 0, _ => []
  | fuel + 1, l =>
    if l.length < 16 then []
    else
      let n := leVal ((l.drop 4).take 4)
      (leVal (l.take 2), readGranules n ((l.drop 16).take (264 * n))) :: readRegions fuel (l.drop (16 + 264 * n))

/-- MEMORY_PAGES items: address and bytes. -/
def readPages : Nat → List Byte → List (Nat × List Byte)
  | 0, _ => []
  | fuel + 1, l =>
    if l.length < 16 + 4096 then []
    else (leVal (l.take 8), (l.drop 16).take 4096) :: readPages fuel (l.drop (16 + 4096))

/-- The AGENT_STATE item is acceptable to this hub (R615): the agent exists with that type, and the shadow's layout
version and length are the agent's. -/
def agentItemOk (i : Nat × Nat × Nat × List Byte) : Bool :=
  agentType i.1 != 0 && agentType i.1 == i.2.1 && leVal ((i.2.2.2.drop 3).take 1) == 1
    && (if testBit i.2.2.1 0 then decide (shadowBytes i.1 ≤ i.2.2.2.length) else i.2.2.2.length == shadowBytes i.1)

/-- A header's CRC, magic and version hold (R255): 0 good, 6 BAD_RECORD, 7 REFUSED_COMPAT as CUT_STATE.OUTCOME codes. -/
def headerFault (h : List Byte) (len : Nat) : Nat :=
  let f := fun (o n : Nat) => leVal ((h.drop o).take n)
  if h.length ≠ 64 ∨ f 0 4 ≠ 0x54554358 ∨ f 60 4 ≠ crc32c (h.take 60) ∨ f 40 8 ≠ len ∨ f 4 2 = 0 ∨ 1 < f 4 2 then 6
  else if f 6 1 = 0 ∨ 1 < f 6 1 then 7 else 0

end Sys2Proof.Machine
end

