-- ==== Sys2Proof/Machine/TensorWatch.lean ====
section
/-! DEFINITION. Tensor watch (chapter 12): number formats, what a tap reduces, intervals and results. -/

namespace Sys2Proof.Machine

/-! ### Slot registers: TAP_SEL selects which slot's copy stands at 0x3_C044 to 0x3_C04C -/

namespace TapSlot

def AGENT (n : Nat) : Fld := ⟨0x80000 + n * 0x20, 31, 18, 0⟩
def RANGE (n : Nat) : Fld := ⟨0x80000 + n * 0x20, 11, 10, 0⟩
def CLOSE (n : Nat) : Fld := ⟨0x80000 + n * 0x20, 9, 8, 0⟩
def ENABLE (n : Nat) : Fld := ⟨0x80000 + n * 0x20, 0, 0, 0⟩
def FORMAT (n : Nat) : Fld := ⟨0x80004 + n * 0x20, 3, 0, 0⟩
def HIST_LOW (n : Nat) : Fld := ⟨0x80008 + n * 0x20, 15, 8, 0xF0⟩
def BITS (n : Nat) : Fld := ⟨0x80008 + n * 0x20, 4, 0, 12⟩
/-- The slot's counters (Table 12-5, bank 4). -/
def RESULTS (n : Nat) : Fld := ⟨0x8000C + n * 0x20, 31, 0, 0⟩
def LATE (n : Nat) : Fld := ⟨0x80010 + n * 0x20, 31, 0, 0⟩
def MERGED (n : Nat) : Fld := ⟨0x80014 + n * 0x20, 31, 0, 0⟩
def REJECTED (n : Nat) : Fld := ⟨0x80018 + n * 0x20, 31, 0, 0⟩

end TapSlot

/-! ### Number formats (R456, Table 12-1) -/

/-- A decoded element: a magnitude is in units of 2^-149. -/
inductive Elem where
  | nan
  | inf (neg : Bool)
  | num (neg : Bool) (mag : Nat)
deriving DecidableEq, Repr

/-- Bits per element. -/
def elemBits (fmt : Nat) : Nat :=
  if fmt = 0 then 32 else if fmt = 1 ∨ fmt = 2 then 16 else if fmt = 7 ∨ fmt = 10 then 4 else 8

/-- A block-scaled format. -/
def elemScaled (fmt : Nat) : Bool := fmt == 5 || fmt == 6 || fmt == 7 || fmt == 9 || fmt == 10

/-- A magnitude of 2^128 or more is an infinity. -/
def clampElem (neg : Bool) (mag : Nat) : Elem := if 2 ^ 277 ≤ mag then .inf neg else .num neg mag

/-- A binary floating-point element: `eb` exponent and `mb` mantissa bits, exponent bias, IEEE infinities and NaN, NaN of
E4M3, scale byte (127 where unscaled). -/
def floatElem (eb mb bias : Nat) (ieee e4m3 : Bool) (scale raw : Nat) : Elem :=
  let neg := testBit raw (eb + mb)
  let e := bits raw (eb + mb - 1) mb
  let m := raw % 2 ^ mb
  if ieee && e == 2 ^ eb - 1 then (if m = 0 then .inf neg else .nan)
  else if e4m3 && e == 15 && m == 7 then .nan
  else clampElem neg ((if e = 0 then m else 2 ^ mb + m) * 2 ^ (max e 1 + 149 + scale - bias - mb - 127))

/-- A two's complement element of `w` bits. -/
def intElem (w scale raw : Nat) : Elem :=
  let neg := testBit raw (w - 1)
  clampElem neg ((if neg then 2 ^ w - raw else raw) * 2 ^ (149 + scale - 127))

/-- An element by its format code. -/
def decodeElem (fmt scale raw : Nat) : Elem :=
  if elemScaled fmt && scale == 255 then .nan
  else match fmt with
    | 0 => floatElem 8 23 127 true false 127 raw
    | 1 => floatElem 8 7 127 true false 127 raw
    | 2 => floatElem 5 10 15 true false 127 raw
    | 3 => floatElem 4 3 7 false true 127 raw
    | 4 => floatElem 5 2 15 true false 127 raw
    | 5 => floatElem 4 3 7 false true scale raw
    | 6 => floatElem 5 2 15 true false scale raw
    | 7 => floatElem 2 1 1 false false scale raw
    | 8 => intElem 8 127 raw
    | 9 => intElem 8 scale raw
    | _ => intElem 4 scale raw

/-- Bits 30 to 0 of the FP32 pattern of a magnitude (R460). -/
def fp32Bits (mag : Nat) : Nat :=
  let drop := Nat.log2 mag - 23
  2 ^ 23 * drop + mag / 2 ^ drop

/-- The key K of a non-NaN element (R460). -/
def Elem.key : Elem → Int
  | .nan => 0
  | .inf neg => if neg then -0x7F800000 else 0x7F800000
  | .num neg mag => if neg then -(fp32Bits mag : Int) else fp32Bits mag

/-- An FP32 word from a key. -/
def keyWord (k : Int) : Nat := if k < 0 then 2 ^ 31 + k.natAbs else k.natAbs

/-- The value n × 2^-e rounded to nearest even FP32; out of range ±Inf (Table 12-2). -/
def roundFp32 (n : Int) (e : Nat) : Nat :=
  let a := n.natAbs
  let drop := max (Nat.log2 a - 23) (e - 149)
  let q := a / 2 ^ drop
  let r := a % 2 ^ drop
  let up := decide (2 ^ drop < 2 * r) || (decide (2 * r = 2 ^ drop) && drop != 0 && q % 2 == 1)
  let w := 2 ^ 23 * (drop - (e - 149)) + (if up then q + 1 else q)
  (if n < 0 then 2 ^ 31 else 0) + min w 0x7F800000

/-! ### Digests (R460, R461) -/

/-- The hash of R461. -/
def bandHash (p : Nat) (c : Int) : Nat :=
  let u := 2 ^ 32 * (p % 2 ^ 32) + (c % 2 ^ 32).toNat
  let u := u ^^^ (u >>> 33)
  let u := (0xFF51AFD7ED558CCD * u) % 2 ^ 64
  let u := u ^^^ (u >>> 33)
  let u := (0xC4CEB9FE1A85EC53 * u) % 2 ^ 64
  let u := u ^^^ (u >>> 33)
  u % 2 ^ 32

/-- The cells A and B' of a key under band B (R460). -/
def bandCells (k : Int) (b : Nat) : Int × Int :=
  let st : Int := 2 ^ (23 - b)
  (k / st, (k + st / 2) / st)

/-! ### Reduction (R457 to R459) -/

/-- A count that saturates and sets SAT. -/
def satCount (v n : Nat) : Nat × Bool := (satAdd v n (2 ^ 32 - 1), decide (2 ^ 32 - 1 < v + n))

/-- The exponent histogram's bin of a magnitude (R459); `low` is HIST_LOW as a byte. -/
def histBin (low mag : Nat) : Nat :=
  let l := if low < 128 then low + 149 else low + 149 - 256
  if mag < 2 ^ l then 0 else min 31 (Nat.log2 mag - l + 1)

/-- Add `n` to bin `b`. -/
def TapStats.bin (t : TapStats) (b n : Nat) : TapStats :=
  let (v, f) := satCount (Sparse.get t.bins b 0) n
  { t with bins := Sparse.ins t.bins b v, sat := t.sat || f }

/-- Count one element at position `p` (R457 to R461). -/
def TapStats.element (t : TapStats) (c : TapConfig) (p : Nat) (x : Elem) (scaled : Bool) : TapStats :=
  let (n, f) := satCount t.count 1
  let t := { t with count := n, sat := t.sat || f }
  match x with
  | .nan => let (n, f) := satCount t.nan 1; { t with nan := n, sat := t.sat || f }
  | _ =>
    let k := x.key
    let cells := bandCells k c.bits
    let t := { t with
                minKey := some (match t.minKey with
                  | some m => min m k
                  | none => k)
                maxKey := some (match t.maxKey with
                  | some m => max m k
                  | none => k)
                digestA := (t.digestA + bandHash p cells.1) % 2 ^ 32
                digestB := (t.digestB + bandHash p cells.2) % 2 ^ 32 }
    match x with
    | .num neg mag =>
      let t := t.bin (histBin c.histLow mag) 1
      let (z, f) := satCount t.zero (if mag = 0 then 1 else 0)
      { t with zero := z, sat := t.sat || f
               sum := if neg then t.sum - mag else t.sum + mag
               sumAbs := t.sumAbs + mag, sumGcd := Nat.gcd t.sumGcd mag
               sq := t.sq + mag * mag, sqGcd := Nat.gcd t.sqGcd (mag * mag) }
    | _ =>
      let t := t.bin 31 1
      let (i, f) := satCount t.inf 1
      { t with inf := i, sat := t.sat || f, overflow := t.overflow || scaled }

/-- The elements of a beat, with their positions P and valid bits (R455, R456, R460). -/
def beatElems (b : Beat) (fmt : Nat) : List (Nat × Bool × Elem × Bool) :=
  let w := elemBits fmt
  (List.range (512 / w)).map (fun i =>
    let raw := b.data.toNat / 2 ^ (i * w) % 2 ^ w
    let scale := b.scales.toNat / 2 ^ (8 * (i / 32)) % 256
    let x := decodeElem fmt scale raw
    let p := 2 * b.addr.toNat + i * w / 4
    let ovf := elemScaled fmt && !(fmt == 6 && raw / 4 % 32 == 31)
    (p, testBit b.valid.toNat i, x, ovf))

/-- Reduce a selected beat (R457). -/
def TapStats.beat (t : TapStats) (c : TapConfig) (fmt : Nat) (maskEn : Bool) (b : Beat) : TapStats :=
  (beatElems b fmt).foldl (fun t e =>
    if maskEn && !e.2.1 then let (n, f) := satCount t.masked 1; { t with masked := n, sat := t.sat || f }
    else t.element c e.1 e.2.2.1 e.2.2.2) t

/-- Two statistics merge (R463). -/
def TapStats.merge (a b : TapStats) : TapStats :=
  let add := fun (x y : Nat) => satCount x y
  let (c, f1) := add a.count b.count
  let (n, f2) := add a.nan b.nan
  let (i, f3) := add a.inf b.inf
  let (z, f4) := add a.zero b.zero
  let (m, f5) := add a.masked b.masked
  let pick := fun (f : Int → Int → Int) (x y : Option Int) => match x, y with
    | some u, some v => some (f u v)
    | some u, none => some u
    | none, v => v
  let t : TapStats :=
    { count := c, nan := n, inf := i, zero := z, masked := m
      minKey := pick min a.minKey b.minKey, maxKey := pick max a.maxKey b.maxKey
      sum := a.sum + b.sum, sumAbs := a.sumAbs + b.sumAbs, sumGcd := Nat.gcd a.sumGcd b.sumGcd
      sq := a.sq + b.sq, sqGcd := Nat.gcd a.sqGcd b.sqGcd, bins := a.bins
      digestA := (a.digestA + b.digestA) % 2 ^ 32, digestB := (a.digestB + b.digestB) % 2 ^ 32
      overflow := a.overflow || b.overflow, sat := a.sat || b.sat || f1 || f2 || f3 || f4 || f5 }
  b.bins.foldl (fun t e => t.bin e.1 e.2) t

/-- What the tap goes by from the next cycle on. -/
def Agent.tapView (g : Agent) : TapView :=
  ⟨g.get AReg.A_TAP_CTRL.ENABLE == 1, g.get AReg.A_TAP_CTRL.MASK_EN == 1, g.get AReg.A_TAP_CTRL.PORT, g.get AReg.A_TAP_CTRL.SLOT
  , g.get AReg.A_TAP_FMT.FORMAT, g.tap.conf⟩

/-- What the tap goes by in fc `fc`: a configuration applies from the cycle after it came (R453, R454, R470). -/
def Agent.tapNow (g : Agent) (fc : Nat) : TapView :=
  match g.tap.was with
  | some (f, v) => if f = fc then v else g.tapView
  | none => g.tapView

/-- The tap counts: both enables are set (R454). -/
def tapOpen (v : TapView) : Bool := v.enable && v.conf.enable

/-- The beat is selected by RANGE (R457). -/
def Agent.tapSelects (g : Agent) (range fc addr : Nat) : Bool :=
  match range with
  | 0 => true
  | 1 => g.cmpMatches fc 0 .write addr
  | 2 => g.cmpMatches fc 1 .write addr
  | _ => false

/-- The interval that a close in fc `fc` ends: without the beats of that fc (R462), and with what a shadow load of that fc found
(R470). -/
def tapClosing (t : Tap) (fc : Nat) : TapStats :=
  let base := match t.loaded with
    | some (f, st, _) => if f = fc then st else t.stats
    | none => t.stats
  match t.fresh with
  | some (f, x) => if f = fc then base else base.merge x
  | none => base

/-- The beats of fc `fc` so far. -/
def tapFresh (t : Tap) (fc : Nat) : Option (Nat × TapStats) := t.fresh.filter (fun e => e.1 == fc)

/-- R457: a beat enters the tapped port. -/
def execTapBeat (a : AgentId) (beat : Beat) (s : State) : Host.Outcome State Fault Refusal :=
  let n := a.toNat
  onAgent a muType (s.whenActive n (fun s =>
    let g := s.agent n
    let v := g.tapNow s.fc
    if tapOpen v ∧ tapOpen g.tapView ∧ s.power = 0 ∧ v.port = beat.port.toNat ∧ v.fmt < 11
        ∧ g.tapSelects v.conf.range s.fc beat.addr.toNat then
      let (old, new) := match tapFresh g.tap s.fc with
        | some (_, x) => (g.tap.stats, x)
        | none => (tapClosing g.tap s.fc, {})
      s.setAgent n { g with tap := { g.tap with stats := old, fresh := some (s.fc, new.beat v.conf v.fmt v.maskEn beat) } }
    else s))

/-! ### Intervals and results (R462 to R467) -/

/-- Causes of a close (Table 12-6). -/
def tcCommand : Nat := 0
def tcRevolution : Nat := 1
def tcManual : Nat := 2
def tcConfig : Nat := 3

/-- The order in which one of two closes of a cycle gives the cause (R470). -/
def causeRank (c : Nat) : Nat := if c = 3 then 3 else if c = 0 then 2 else if c = 1 then 1 else 0

/-- A sum that every accumulation of FP64 precision or more gives exactly: all partial sums are multiples of a power of two
2^t and below 2^(53+t). -/
def sumExact (abs g : Nat) : Bool := decide (abs < 2 ^ 53 * Nat.gcd g (2 ^ 700))

/-- SUM and SUMSQ as rounded at a close: the value is free where the accumulation precision, which R458 leaves open above
FP64, can show. -/
def State.tapSums (s : State) (t : TapStats) : Nat × Nat × State :=
  let (a, s) := if sumExact t.sumAbs t.sumGcd then (roundFp32 t.sum 149, s) else let (w, s) := s.free; (w.toNat, s)
  let (b, s) := if sumExact t.sq t.sqGcd then (roundFp32 t.sq 298, s) else let (w, s) := s.free; (w.toNat, s)
  (a, b, s)

/-- The tag that a close of cause `c` carries: of the cause, or for CONFIG of the mode in force (R462). -/
def State.tapTag (s : State) (t : Tap) (c : Nat) : Nat :=
  let mode := if c = tcConfig then t.conf.close else c
  if mode = 0 then t.cmd else if mode = 1 then s.wheel.rev % 2 ^ 32 else s.wheel.stamp28

/-- Close the open interval of agent `a` (R462, R463, R470); nothing happens while the tap does not count. -/
def State.closeTap (s : State) (a cause tag : Nat) : State :=
  let g := s.agent a
  let t := g.tap
  let v := g.tapNow s.fc
  if ¬ tapOpen v then s
  else if t.closeFc = some s.fc then
    let held := (updateFirst (fun _ => true)
      (fun (r : TapResult) => if causeRank r.cause < causeRank cause then
        { r with cause := cause, tag := tag, firstTag := if r.merges = 0 then tag else r.firstTag } else r) t.held.reverse).reverse
    s.setAgent a { g with tap := { t with held := held } }
  else
    let seq := (t.seq + 1) % 65536
    let fmt := v.fmt
    let old := if t.held.length < 2 then none else t.held.getLast?
    let mine := tapClosing t s.fc
    let stats := match old with
      | some r => r.stats.merge mine
      | none => mine
    let loadNow := t.loaded.filter (fun e => e.1 == s.fc)
    let restored := match loadNow with
      | some (_, _, r) => r
      | none => t.restored
    let (sw, qw, s) := s.tapSums stats
    let r : TapResult :=
      { agent := a, slot := v.slot, cause := cause, tag := tag
        firstTag := match old with
          | some o => o.firstTag
          | none => tag
        seq := seq, fmt := fmt, stats := stats, sumWord := sw, sqWord := qw
        restored := restored || (match old with
          | some o => o.restored
          | none => false)
        badFormat := decide (11 ≤ fmt)
        merges := match old with
          | some o => o.merges + 1
          | none => 0 }
    let held := if old.isSome then t.held.dropLast ++ [r] else t.held ++ [r]
    s.setAgent a { g with tap := { t with stats := {}, fresh := tapFresh t s.fc, loaded := none, held := held, seq := seq
                                          restored := loadNow.isSome, closeFc := some s.fc } }

/-- The agent takes the oldest close request of cause `c` that has reached it. -/
def Tap.takeReq (t : Tap) (c : Nat) : Option (Nat × Nat) × Tap :=
  match t.reqs.find? (fun r => r.1 == c) with
  | some r => (some r, { t with reqs := t.reqs.erase r })
  | none => (none, t)

/-- A request of the hub is performed; a REVOLUTION request closes only in that mode. -/
def State.tapRequest (s : State) (a c : Nat) : State :=
  let g := s.agent a
  match g.tap.takeReq c with
  | (some r, t) =>
    let s := s.setAgent a { g with tap := t }
    if c = tcRevolution ∧ (g.tapNow s.fc).conf.close ≠ 1 then s else s.closeTap a c r.2
  | (none, _) => s

/-- R462: a close takes effect at the agent. -/
def execTapClose (a : AgentId) (cause : TapCause) (s : State) : Host.Outcome State Fault Refusal :=
  let n := a.toNat
  onAgent a muType (match cause with
    | .command q =>
      let t := (s.agent n).tap
      let s := if ((s.agent n).tapNow s.fc).conf.close = 0 ∧ t.cmd ≠ q.toNat then s.closeTap n tcCommand t.cmd else s
      let g := s.agent n
      s.setAgent n { g with tap := { g.tap with cmd := q.toNat } }
    | .revolution => s.tapRequest n tcRevolution
    | .manual => s.tapRequest n tcManual)

/-- A new configuration `f` of the tap (R453, R454): it closes the open interval with cause CONFIG and applies from the next
cycle; SEQ counts from when the tap is enabled (R463). -/
def State.tapReconfigure (s : State) (a : Nat) (f : Agent → Agent) : State :=
  let s := s.closeTap a tcConfig (s.tapTag (s.agent a).tap tcConfig)
  let g := s.agent a
  let was := some (s.fc, g.tapNow s.fc)
  let g' := f g
  let seq := if !tapOpen g.tapView && tapOpen g'.tapView then 0 else g'.tap.seq
  let fresh := if tapOpen g'.tapView then g'.tap.fresh else none
  s.setAgent a { g' with tap := { g'.tap with was := was, seq := seq, fresh := fresh } }

/-- The configuration of a slot as a push carries it (R453). -/
def State.slotConfig (s : State) (n : Nat) : TapConfig :=
  { enable := s.get (TapSlot.ENABLE n) == 1, close := s.get (TapSlot.CLOSE n), range := s.get (TapSlot.RANGE n)
    fmt := s.get (TapSlot.FORMAT n), bits := s.get (TapSlot.BITS n), histLow := s.get (TapSlot.HIST_LOW n) }

/-- A push leaves for slot `n`'s agent (R453, R469). -/
def State.tapPush (s : State) (n : Nat) : State :=
  let a := s.get (TapSlot.AGENT n)
  if s.cfg Reg.TWATCH.CTRL.ENABLE = 1 ∧ agentType a = 2 then
    { s with tw := { s.tw with pushes := s.tw.pushes ++ [(n, a, s.slotConfig n)] } }
  else s

/-- R453: a push reaches the agent. -/
def execTapConfigPush (slot : BitVec 6) (s : State) : Host.Outcome State Fault Refusal :=
  .next (match s.tw.pushes.find? (fun p => p.1 == slot.toNat) with
  | none => s
  | some p =>
    let a := p.2.1
    let s := { s with tw := { s.tw with pushes := s.tw.pushes.erase p } }
    s.tapReconfigure a (fun g =>
      if p.2.2.enable then
        let g := g.put AReg.A_TAP_FMT.FORMAT p.2.2.fmt
        { g with tap := { g.tap with conf := p.2.2 } }
      else { g with tap := { g.tap with conf := { g.tap.conf with enable := false } } }))

/-- A MANUAL close request leaves for slot `n`'s agent (R462). -/
def State.tapManual (s : State) (n : Nat) : State :=
  let a := s.get (TapSlot.AGENT n)
  if s.cfg Reg.TWATCH.CTRL.ENABLE = 1 ∧ agentType a = 2 then
    let g := s.agent a
    s.setAgent a { g with tap := { g.tap with reqs := g.tap.reqs ++ [(tcManual, s.wheel.stamp28)] } }
  else s

/-- The REVOLUTION close request of a boundary goes on every segment (R462, R468): it waits at every tap in that mode, or to which
that mode is being pushed. -/
def State.tapBoundary (s : State) : State :=
  if s.cfg Reg.TWATCH.CTRL.ENABLE = 1 ∧ s.power = 0 then
    let mode := fun (c : TapConfig) => c.enable && c.close == 1
    let req := fun (g : Agent) => { g with tap := { g.tap with reqs := g.tap.reqs ++ [(tcRevolution, s.wheel.rev % 2 ^ 32)] } }
    let pushed := ((s.tw.pushes.filter (fun p => mode p.2.2)).map (fun p => p.2.1)).dedup.filter (fun a => !mode (s.agent a).tap.conf)
    let s := s.mapAgents (fun _ g => if mode g.tap.conf then req g else g)
    pushed.foldl (fun s a => s.modAgent a req) s
  else s

/-- The 64 slots. -/
def tapSlots : List Nat := List.range 64

/-- Before the hub leaves W0 it sends a MANUAL close to every enabled slot (R468). -/
def State.tapLeaveW0 (s : State) : State :=
  tapSlots.foldl (fun s n => if s.get (TapSlot.ENABLE n) = 1 then s.tapManual n else s) s

/-- The drain ring segment of an MU: 96 × half + column. -/
def muSegment (a : Nat) : Nat := agentHalf a * 96 + ringSegment a

/-- Slot `n` accepts the result, judged against the values at the start of the fc (R452, R97). -/
def State.tapAccepts (s : State) (r : TapResult) : Bool :=
  s.cfg (TapSlot.ENABLE r.slot) == 1 && s.cfg (TapSlot.AGENT r.slot) == r.agent && s.cfg (TapSlot.FORMAT r.slot) == r.fmt

/-- R464, R465: the agent's oldest held result reaches the hub; `age` is how many cycles of the agent's clock after its
close its first byte entered the segment. -/
def execTapResultArrival (a : AgentId) (age : Nat) (s : State) : Host.Outcome State Fault Refusal :=
  let n := a.toNat
  let g := s.agent n
  onAgent a muType (match g.tap.held with
    | [] => s
    | r :: rest =>
      if s.power ≠ 0 then s
      else
        let s := s.setAgent n { g with tap := { g.tap with held := rest } }
        if s.tw.flushing.contains (muSegment n) then s.bump Reg.TWATCH.STATUS.DISCARDS
        else if s.tapAccepts r then
          let late := decide (4096 < age)
          let k := r.slot
          let before := match s.tw.held.find? (fun e => e.1 == k) with
            | some e => if e.2.fc = s.fc then s.tw.before else Sparse.ins s.tw.before k e.2
            | none => Sparse.del s.tw.before k
          let sr : SlotResult := ⟨r, late, min age 65535, 2 ^ 32 * s.wheel.posHi + s.wheel.posLo, s.fc⟩
          let s := { s with tw := { s.tw with held := Sparse.ins s.tw.held k sr, before := before } }
          let s := (s.bumpWrap (TapSlot.RESULTS k) 1).bumpWrap (TapSlot.MERGED k) r.merges
          let s := if late then (s.bumpWrap (TapSlot.LATE k) 1).raise Reg.TWATCH.EVENT.LATE else s
          let s := if r.merges = 0 then s else s.raise Reg.TWATCH.EVENT.MERGED
          s.raise Reg.TWATCH.EVENT.RESULT
        else (s.bumpWrap (TapSlot.REJECTED r.slot) 1).raise Reg.TWATCH.EVENT.REJECTED)

/-- STATUS of a result (Table 12-6). -/
def SlotResult.status (x : SlotResult) : Nat :=
  let r := x.result
  2 ^ 16 * r.seq + 2 ^ 12 * r.fmt + r.cause * 2 ^ 10 + bit r.restored * 128 + bit r.badFormat * 64 + bit r.stats.overflow * 32
    + bit r.stats.sat * 16 + bit (r.merges != 0) * 8 + bit x.late * 4 + 1

/-- An extreme as an FP32 word: 0x7FC0_0000 without a non-NaN element. -/
def extremeWord (k : Option Int) : Nat :=
  match k with
  | some k => keyWord k
  | none => 0x7FC00000

/-- A held result's words in the result window (Table 12-5): bank and word. -/
def SlotResult.word (x : SlotResult) (bank w : Nat) : Nat :=
  let r := x.result
  let t := r.stats
  if bank = 0 then
    match w with
    | 0 => t.count | 1 => t.nan | 2 => t.inf | 3 => t.zero | 4 => extremeWord t.minKey | 5 => extremeWord t.maxKey
    | 6 => r.sumWord | 7 => r.sqWord | 8 => t.digestA | 9 => t.digestB | _ => x.status
  else if bank < 4 then
    if bank = 3 ∧ w = 10 then t.masked else Sparse.get t.bins (11 * (bank - 1) + w) 0
  else
    match w with
    | 0 => r.tag | 1 => r.firstTag | 2 => x.pos % 2 ^ 32 | 3 => x.pos / 2 ^ 32 | 4 => 65536 * min r.merges 65535 + x.age | _ => 0

/-- A write of RESULT_SEL copies slot `n` as it stood at the start of the fc (R466, R470). -/
def State.tapCopy (s : State) (n : Nat) : State :=
  let held := match s.tw.held.find? (fun (e : Nat × SlotResult) => e.1 == n) with
    | some e => if e.2.fc = s.fc then Prod.snd <$> s.tw.before.find? (fun (b : Nat × SlotResult) => b.1 == n) else some e.2
    | none => none
  let word := fun (b w : Nat) =>
    if b = 4 ∧ w = 5 then s.cfg (TapSlot.RESULTS n) else if b = 4 ∧ w = 6 then s.cfg (TapSlot.LATE n)
    else if b = 4 ∧ w = 7 then s.cfg (TapSlot.MERGED n) else if b = 4 ∧ w = 8 then s.cfg (TapSlot.REJECTED n)
    else match held with
      | some x => x.word b w
      | none => 0
  let win := (List.range 80).map (fun i => (i, if i % 16 < 11 then word (i / 16) (i % 16) else 0))
  { s with tw := { s.tw with window := win.filter (fun e => e.2 != 0) } }

/-- The 192 column segments. -/
def tapSegments : List Nat := List.range 192

/-- ABORT on TWATCH: a flush goes on every segment (R469); the pushes on their way and the close requests are discarded (R94). -/
def State.tapAbort (s : State) : State :=
  let s := s.mapAgents (fun _ g => if g.tap.reqs = [] then g else { g with tap := { g.tap with reqs := [] } })
  { s with tw := { s.tw with flushing := tapSegments, pushes := [] } }

/-- R469: a segment's flush is acknowledged; its agents have dropped their held results. -/
def execTapFlushDone (half : Half) (column : BitVec 7) (s : State) : Host.Outcome State Fault Refusal :=
  let seg := 96 * halfNo half + column.toNat
  .next (if s.tw.flushing.contains seg ∧ column.toNat < 96 then
    let mine := fun (a : Nat) => agentType a == 2 && muSegment a == seg
    let n := s.agents.foldl (fun n e => if mine e.1 then n + e.2.tap.held.length else n) 0
    let s := s.mapAgents (fun a g => if mine a then { g with tap := { g.tap with held := [] } } else g)
    ({ s with tw := { s.tw with flushing := s.tw.flushing.erase seg } }).bumpBy Reg.TWATCH.STATUS.DISCARDS n
  else s)

/-- A MANUAL close that the hub sent is on its way, or its result is (R468). -/
def State.tapResultsDue (s : State) : Bool :=
  s.agents.any (fun e => e.2.tap.reqs.any (fun r => r.1 == tcManual) || e.2.tap.held.any (fun r => r.cause == tcManual))

/-- Closes and pushes that the hub has sent and whose results or acknowledgements have not arrived (R469); a COMMAND close is not
the hub's. -/
def State.tapWork (s : State) : Bool :=
  s.tw.pushes != [] || s.agents.any (fun e => e.2.tap.reqs != [] || e.2.tap.held.any (fun r => r.cause != tcCommand))

/-- The TWATCH page has work in flight, or a flush goes on. -/
def State.tapBusy (s : State) : Bool :=
  s.tw.flushing != [] || s.tapWork

end Sys2Proof.Machine
end

