-- ==== Sys2Proof/Machine/Cut.lean ====
section
/-! DEFINITION. The Cut engine (chapter 6): commands, capture, drain, commit and the ways a cut ends. -/

namespace Sys2Proof.Machine

/-- CUT.CMD.RESULT codes (Table 6-16). -/
def crAccepted : Nat := 1
def crBusy : Nat := 2
def crSet : Nat := 3
def crDest : Nat := 4
def crState : Nat := 5
def crShadows : Nat := 6
def crDisabled : Nat := 7
def crParity : Nat := 8

/-- CUT_STATE.STATE values (Table 6-3). -/
def csIdle : Nat := 0
def csSetup : Nat := 1
def csStopping : Nat := 2
def csAgents : Nat := 3
def csRegions : Nat := 4
def csMemory : Nat := 5
def csCommit : Nat := 6
def csResuming : Nat := 7
def csRestore : Nat := 8

/-- CUT_STATE.OUTCOME values. -/
def coDone : Nat := 1
def coTally : Nat := 2
def coNoSpace : Nat := 3
def coAborted : Nat := 4
def coResumed : Nat := 5
def coBadRecord : Nat := 6
def coCompat : Nat := 7
def coTimeout : Nat := 8

/-- Skip and abandon reasons of Millrace (Table 8-5). -/
def msPending : Nat := 1
def msWhistle : Nat := 2
def msFatal : Nat := 3
def msTiles : Nat := 4
def msRing : Nat := 5
def msEngine : Nat := 6
def msDisabled : Nat := 7
def msAbort : Nat := 8

/-- Replace the job. -/
def State.setCut (s : State) (j : CutJob) : State := { s with cut := { s.cut with job := some j } }

/-- The engine's state. -/
def State.cutState (s : State) : Nat := s.get Reg.CUT.CUT_STATE.STATE

/-- A Millrace cut is skipped or abandoned (R330). -/
def State.millSkip (s : State) (reason : Nat) : State :=
  (((s.bump Reg.MILLRACE.SKIPPED.COUNT).put Reg.MILLRACE.SKIPPED.REASON reason).raise Reg.MILLRACE.EVENT.SKIPPED).hubEvent 7 1

/-- A Cam's or Millrace's request to the Cut engine is skipped (R243). -/
def State.cutSkip (s : State) : State := (s.bump Reg.CUT.STATUS.SKIPPED).raise Reg.CUT.EVENT.SKIPPED

/-! ### Starting a cut (R239 to R243, R252, R262) -/

/-- Why a set or destination is refused (R252, R262); 0 when it is not. -/
def State.setRefused (s : State) (code : Nat) (c : CutSel) : Nat :=
  if c.empty ∨ c.muLast < c.muFirst ∨ c.memBase % 4096 ≠ 0 ∨ c.memLen % 4096 ≠ 0 ∨ (code = 3 ∧ c.ctx = none) then crSet
  else if s.cfg Reg.CUT.POLICY.DEST = 0
      ∧ (s.cfg Reg.CUT.DEST_LO % 64 ≠ 0 ∨ s.cfg64 Reg.CUT.LIMIT_LO Reg.CUT.LIMIT_HI < 65536) then crDest
  else 0

/-- The engine can take a request of rank `rank`: no cut is in progress, or only one that a request of this same fc began which
R243 takes after it. -/
def State.cutYields (s : State) (rank : Nat) : Bool :=
  match s.cut.job with
  | none => true
  | some j => decide (j.startFc = s.fc ∧ rank < j.rank ∧ (s.cutState = csSetup ∨ s.cutState = csRestore))

/-- The cut that a later request of the same fc displaces is given up: its own request was not the first (R243). -/
def State.cutYield (s : State) : State :=
  match s.cut.job with
  | none => s
  | some j =>
    let n := if j.code = 4 then s.cut.count else s.cut.count - 1
    let s := ({ s with cut := { s.cut with job := none, count := n } }).put Reg.CUT.CUT_STATE.STATE csIdle
    if j.rank = 100 then s.put Reg.CUT.CMD.RESULT crBusy else s.cutSkip

/-- A request is accepted: SETUP begins (Table 6-3), and the counts of stalls start at 0 (R45). -/
def State.cutStart (s : State) (j : CutJob) (source : Nat) : State :=
  let s := s.cutYield.mapAgents (fun _ g => { g with cowStalls := 0 })
  let s := { s with hopper := { s.hopper with busy := s.hopper.busy.filter (fun e => e.who == 2) } }
  let n := s.cut.count + 1
  let port := s.cfg Reg.CUT.POLICY.DEST == 1 && j.code != 9
  let j := { j with id := n
                    startFc := s.fc
                    dest := s.cfg64 Reg.CUT.DEST_LO Reg.CUT.DEST_HI
                    limit := s.cfg64 Reg.CUT.LIMIT_LO Reg.CUT.LIMIT_HI
                    toPort := port
                    resumeAfter := s.cfg Reg.CUT.POLICY.RESUME_AFTER == 1 && j.code == 2 }
  let s := { s with cut := { s.cut with count := if j.code = 4 then s.cut.count else n, job := some j, staged := [] } }
  let s := if j.code ≠ 4 ∧ j.code ≠ 9 ∧ ¬ port then { s with mm := { s.mm with lastWrite := some (j.dest, List.replicate 64 0) } } else s
  let s := (s.put Reg.CUT.COW_STALLS.COUNT 0).put64 Reg.CUT.LEN_LO Reg.CUT.LEN_HI 0
  let s := (s.put Reg.CUT.CUT_STATE.SOURCE source).put Reg.CUT.CUT_STATE.OUTCOME 0
  (s.put Reg.CUT.CUT_STATE.FREEZE 0).put Reg.CUT.CUT_STATE.STATE (if j.code = 4 then csRestore else csSetup)

/-- A request of code 1 to 4 for set `set`: the RESULT code, and the state (R239, R241, R243, R252, R262, R274, R339). A request
that Millrace has pending takes the engine as soon as it is IDLE (R328), so that it finds the engine busy. -/
def State.cutRequest (s : State) (code set : Nat) (sel : CutSel) (reqSource reqDetail withheld source rank : Nat) : Nat × State :=
  let st := s.get Reg.WHISTLE.STATE.STATE
  let apply := s.get Reg.MILLRACE.ROLE.ROLE = 1 ∧ s.get Reg.MILLRACE.CTRL.ENABLE = 1
  if s.tossActive then (crBusy, s)
  else if ¬ s.parityOk Slot.CUT then (crParity, s)
  else if s.cfg Reg.CUT.CTRL.ENABLE = 0 then (crDisabled, s)
  else if ¬ s.cutYields rank ∨ s.mill.pending ∨ apply then (crBusy, s)
  else if s.snapBlocked then (crShadows, s)
  else if st = wsFreezing ∨ st = wsResuming then (crState, s)
  else if code = 1 ∧ st = wsRunning ∧ s.cfg Reg.CUT.POLICY.DEST = 1 then (crState, s)
  else if code = 4 then
    if st ≠ wsFrozen then (crState, s)
    else if s.cfg Reg.CUT.POLICY.DEST = 0 ∧ s.cfg Reg.CUT.DEST_LO % 64 ≠ 0 then (crDest, s)
    else (crAccepted, s.cutStart { code := 4, set := set, sel := sel, reqSource := reqSource, reqDetail := reqDetail, rank := rank } source)
  else
    let r := s.setRefused code sel
    if r ≠ 0 then (r, s)
    else
      let j : CutJob := { code := code, set := set, sel := sel, reqSource := reqSource, reqDetail := reqDetail, withheld := withheld,
                          rank := rank, kind := if code = 1 ∧ st = wsFrozen then 3 else 0 }
      (crAccepted, s.cutStart j source)

/-- A CUT.CMD write past the checks of Table 2-2, or the team's CUT: `set` replaces SET_SEL. -/
def State.cutCmd (s : State) (code set reqSource reqDetail : Nat) : State :=
  if 1 ≤ code ∧ code ≤ 4 then
    let (r, s) := s.cutRequest code set (s.cutSel set) reqSource reqDetail 0 0 100
    s.put Reg.CUT.CMD.RESULT r
  else s

/-- A Cam's CUT of set `set`, without the held regions `withheld` (R146, R243). -/
def State.cutCam (s : State) (cam set withheld : Nat) : State :=
  let c := s.cutSel set
  let c := { c with mask := c.mask &&& (0xFFFF - withheld % 0x10000) }
  let (r, s) := s.cutRequest 1 set c 6 cam withheld 1 (1 + cam)
  if r = crAccepted then s else s.cutSkip

/-! ### Ending a cut -/

/-- The stalled writes to a guarded page go on, and mark a carried page dirty (R233); a request of the memory master is issued
only now. -/
def State.releaseWaits (s : State) (page : Option Nat) : State :=
  match s.cut.job with
  | none => s
  | some j =>
    let go := j.waits.filter (fun w => page == none || page == some w.page)
    let rest := j.waits.filter (fun w => !go.contains w)
    let s := s.setCut { j with waits := rest }
    go.foldl (fun s w =>
      let s := if w.who.isSome then s else s.dirtyPage w.gw w.page
      match w.writer with
      | none => s
      | some a =>
        if rest.any (fun x => x.writer == some a) then s
        else s.modAgent a (fun g => { g with waits := g.waits.filter (fun w => w.kind != 3) })) s

/-- Remove every tally mark (R421). -/
def State.purgeMarks (s : State) : State :=
  let one := fun (s : State) (h : Nat) =>
    let f := s.fh h
    s.setFh h { f with inbox := f.inbox.filter (fun i => i.2.mark.isNone), arrivals := f.arrivals.filter (fun i => i.mark.isNone)
                       merge := f.merge.filter (fun q => q.item.mark.isNone) }
  (one (one s 0) 1).mapAgents (fun _ g => { g with enc := { g.enc with waiting := g.enc.waiting.filter (fun i => i.mark.isNone) } })

/-- The job's snap has been driven. -/
def State.snapDriven (s : State) (j : CutJob) : Bool := j.kind == 1 && j.waitReq.isNone && decide (csStopping ≤ s.cutState)

/-- Release what the cut holds in the agents (R264): every shadow of its own snap or captures; `keep` is an agent that keeps its
shadow (R238), and `remark` marks latched granules and pages dirty again (R321). Agents that have still to perform the snap
release their shadows as soon as they have made them. -/
def State.releaseCut (s : State) (j : CutJob) (keep : Option Nat) (remark : Bool) : State :=
  let held := s.cut.shadows
  let snap := s.snapDriven j
  let s := if snap ∧ s.cutState = csStopping then { s with cut := { s.cut with abandoned := some j.trigFc } } else s
  let s := s.releaseWaits none
  let s := s.mapAgents (fun a g =>
    let ours := held.contains a || (snap && (match g.shadow with
      | some h => decide (j.trigFc ≤ h.fc)
      | none => false))
    let g := if ours && keep != some a then g.release else g
    let g := if remark then { g with dirty := g.latchedG.foldl (fun l k => insertSorted k l) g.dirty
                                     dirtyPages := g.latchedP.foldl (fun l k => insertSorted k l) g.dirtyPages } else g
    { g with heldTokens := [], protectedG := [], preserved := [], cowArmed := false, armReq := none, latchedG := [], latchedP := [] })
  let s := { s with cut := { s.cut with shadows := [] } }
  s.writeTick.purgeMarks

/-- A Millrace cut ends without commit (R321). -/
def State.millAbandon (s : State) (j : CutJob) (reason : Nat) : State :=
  let m := s.mill
  let m := { m with frames := 0, cutBytes := 0, streamed := false, fullSince := none, owed := m.owed || m.frames != 0,
                    owedChain := if j.base then 0 else m.chain + 1, nextBase := m.nextBase || m.streamed || j.base }
  ({ s with mill := m }).millSkip reason

/-- A request of the engine that still waits at the arbiter is withdrawn with the cut that made it (R264). -/
def State.withdrawWait (s : State) (j : CutJob) : State :=
  match j.waitReq with
  | none => s
  | some r =>
    let s := { s with whistle := { s.whistle with held := s.whistle.held.erase r } }
    s.put Reg.WHISTLE.STATE.HELD (bit (!s.whistle.held.isEmpty))

/-- The shadows that agents have made since for a snap whose cut has ended are released (R264). -/
def State.snapDrop (s : State) : State :=
  match s.cut.abandoned with
  | none => s
  | some f =>
    let s := s.mapAgents (fun _ g => match g.shadow with
      | some h => if f ≤ h.fc then g.release else g
      | none => g)
    if f + 25 ≤ s.fc then { s with cut := { s.cut with abandoned := none } } else s

/-- A cut ends without commit (R264): OUTCOME, and for a Millrace cut the reason it is abandoned with. A held cut's
fabric is still to be resumed. -/
def State.cutEnd (s : State) (outcome : Nat) (discard : Bool) (keep : Option Nat) (reason : Nat) : State :=
  match s.cut.job with
  | none => s
  | some j =>
    let s := (s.releaseCut j keep (j.code == 9)).withdrawWait j
    let s := if j.code = 9 then s.millAbandon j reason else s
    let s := (s.put Reg.CUT.CUT_STATE.OUTCOME outcome).raise Reg.CUT.EVENT.FAILED
    let s := if discard then s.bump Reg.CUT.STATUS.DISCARDS else s
    if j.kind = 2 ∧ j.ownStop then s.put Reg.CUT.CUT_STATE.STATE csResuming
    else ({ s with cut := { s.cut with job := none } }).put Reg.CUT.CUT_STATE.STATE csIdle

/-- The Whistle refuses the cut's stop or snap: a Cam's or Millrace's cut is skipped (R188, R330), another ends. -/
def State.cutRefused (s : State) : State :=
  match s.cut.job with
  | none => s
  | some j =>
    let drop := fun (s : State) =>
      ({ s with cut := { s.cut with job := none } }).mapAgents (fun _ g => { g with armReq := none }) |>.put Reg.CUT.CUT_STATE.STATE csIdle
    if j.code = 9 then ({ drop s with mill := { s.mill with nextBase := s.mill.nextBase || j.base } }).millSkip msWhistle
    else if j.reqSource = 6 then (drop s).cutSkip
    else (drop ((s.put Reg.CUT.CUT_STATE.OUTCOME coAborted).raise Reg.CUT.EVENT.FAILED))

/-! ### SETUP and STOPPING -/

/-- The stop of R240, with a Cam's held regions withheld. -/
def CutJob.stopReq (j : CutJob) : WReq :=
  match j.sel.ctx with
  | some c => ⟨3, j.reqSource, j.reqDetail, c, j.withheld⟩
  | none =>
    if j.sel.mask = 0xFFFF ∧ j.sel.cps then ⟨1, j.reqSource, j.reqDetail, 0, j.withheld⟩
    else ⟨2, j.reqSource, j.reqDetail, j.sel.mask, j.withheld⟩

/-- The arm request that the job makes of an agent (R245, R252, R317). -/
def State.armOf (s : State) (j : CutJob) : ArmReq :=
  let idle := s.cfg Reg.MILLRACE.PERIOD_REV.REVS = 0
  ⟨j.sel.muFirst, j.sel.muLast, j.sel.dirtyOnly, j.code = 9 ∨ (idle ∧ j.sel.dirtyOnly), j.sel.ctx, j.sel.has 4 && j.sel.memDirty,
    j.code = 9 ∨ (idle ∧ j.sel.memDirty)⟩

/-- An agent that the arm request concerns: an MU when MU_REGION is selected, a gateway under MEM_DIRTY_ONLY. -/
def CutSel.arms (c : CutSel) (a : Nat) : Bool :=
  c.picks a && ((agentType a == 2 && c.has 3) || (isGateway a && c.has 4 && c.memDirty))

/-- Some selected MU answers NOT_ARMED: its COW_EN is 0 (R239). -/
def State.notArmed (s : State) (c : CutSel) : Bool :=
  c.has 3 && (List.range 0x2400).any (fun a => agentType a == 2 && c.picks a && (s.agent a).get AReg.A_DIRTY_CTRL.COW_EN == 0)

/-- What the trigger fc fixes: its fc and position, the Whistle cause, region totals and counters (R448). -/
def State.noteTrig (s : State) (j : CutJob) (fc pos : Nat) : CutJob :=
  { j with trigFc := fc, trigPos := pos, cause := s.word 0x14054, totals := s.regionWords
           counters := counters.map (fun n => s.get64 (Reg.SCORE.CNT_LO n) (Reg.SCORE.CNT_HI n)) }

/-- The 64-bit Wheel position of this fc as the header lays it out. -/
def State.pos64 (s : State) : Nat := 65536 * s.wheel.rev + s.wheel.sub

/-- A Whistle outcome that refuses the request. -/
def wrRefused (c : Nat) : Bool := c == wrRefusedState || c == wrRefusedTarget || c == wrRefusedDisabled || c == wrRefusedShadows || c == wrRefusedParity

/-- The engine drives its stop or snap (R240, R185). -/
def State.cutDrive (s : State) (j : CutJob) (r : WReq) : State :=
  let was := s.get Reg.WHISTLE.STATE.STATE
  let (s, c) := s.whistleReq r
  if wrRefused c then (s.setCut j).cutRefused
  else if c = wrHeld then (s.setCut { j with waitReq := some r }).put Reg.CUT.CUT_STATE.STATE csStopping
  else
    let j := s.noteTrig { j with ownStop := was == wsRunning && c == wrDriven } s.fc s.pos64
    (s.setCut j).put Reg.CUT.CUT_STATE.STATE csStopping

/-- R239: SETUP ends: the kind of cut is decided, and its stop or snap is driven. `tooSlow` says that the engine cannot
finish reading the memory range before the next revolution boundary. -/
def execCutArmResponse (tooSlow : Bool) (s : State) : Host.Outcome State Fault Refusal :=
  .next (match s.cut.job with
  | none => s
  | some j =>
    if s.cutState ≠ csSetup ∨ j.lost then s
    else
      let snapReq : WReq := ⟨6, j.reqSource, j.reqDetail, 0, 0⟩
      if j.code = 2 ∨ j.code = 3 then s.cutDrive { j with kind := 3 } j.stopReq
      else if j.kind = 3 then
        let j := s.noteTrig j s.fc s.pos64
        (s.setCut j).put Reg.CUT.CUT_STATE.STATE csStopping
      else if j.sel.accum ∨ s.notArmed j.sel ∨ (¬ j.toPort ∧ j.code ≠ 9 ∧ j.sel.has 4 ∧ ¬ j.sel.memDirty ∧ tooSlow) then
        s.cutDrive { j with kind := 2 } j.stopReq
      else
        let r := s.armOf j
        let s := s.mapAgents (fun a g => if j.sel.arms a then { g with armReq := some r } else g)
        let s := (List.range 16).foldl (fun s g =>
          if j.sel.arms (0x2400 + g) then s.modAgent (0x2400 + g) (fun u => { u with armReq := some r }) else s) s
        s.cutDrive { j with kind := 1 } snapReq)

/-! ### Capture (R236, R237) -/

/-- Producers of trace among the selected agents (R421): CUs, CEs and CPs. -/
def CutSel.producers (c : CutSel) : Nat :=
  let n := (List.range 16).foldl (fun n r => n + bit (testBit c.mask r)) 0
  n * (384 * bit (testBit c.types 0) + 2 * bit (testBit c.types 4)) + 4 * bit (c.cps && testBit c.types 5)

/-- The cut point: the Scoreboard and the Millrace evaluate their identities (R333, R447), and every selected producer latches
G and sends a mark (R421). A producer that has generated nothing balances at once. -/
def State.sendMarks (s : State) (j : CutJob) : State :=
  let listed := s.agents.filter (fun e => traceType (agentType e.1) && j.sel.picks e.1)
  let active := (listed.filter (fun e => j.sel.picksCtx e.1 e.2.ctx)).map (·.1)
  let quiet := if j.sel.ctx = none ∨ j.sel.ctx = some 0 then j.sel.producers - listed.length else 0
  let s := active.foldl (fun s a =>
    let e := (s.agent a).enc
    let m : TItem := ⟨a, 0, some e.gen⟩
    if e.waiting = [] then s.sendItem (agentHalf a) m else s.modEnc a (fun e => { e with waiting := e.waiting ++ [m] })) s
  let hub := fun (s : State) (h : Nat) =>
    let f := s.fh h
    s.setFh h { f with merge := f.merge ++ [⟨⟨hubSource, 0, some f.gen⟩, 0, none, false⟩] }
  let s := hub (hub s 0) 1
  let c := s.counterTally
  s.setCut { j with marks := active.length + 2, traceChecked := quiet
                    cntChecked := c.2, cntBad := c.1, mill := s.millTerms, millBad := s.millDiff }

/-- The pages the job reads (R253, R316). -/
def State.pagesOf (s : State) (j : CutJob) : List Nat :=
  if ¬ j.sel.has 4 then []
  else if j.sel.memDirty then
    let all := s.agents.foldl (fun l e => if j.captured.contains e.1 then e.2.latchedP.foldl (fun l p => insertSorted p l) l else l) []
    if j.code = 9 then all
    else all.filter (fun p => j.sel.memBase ≤ 4096 * p && 4096 * p < j.sel.memBase + j.sel.memLen)
  else (List.range (j.sel.memLen / 4096)).map (fun i => j.sel.memBase / 4096 + i)

/-- A snap cut takes the shadows of the selected agents that its own SNAP has made (R35); the others are released, their ends
being noted for the tally (R258), and channel tokens are held in their queues (R238, R247). -/
def State.snapTaken (s : State) (j : CutJob) : State :=
  let made := s.agents.filterMap (fun e => match e.2.shadow with
    | some h => if j.trigFc ≤ h.fc then some (e.1, if h.channels then h else e.2.captureChannels e.1 h) else none
    | none => none)
  let mine := (made.filter (fun e => j.sel.picksCtx e.1 e.2.ctx)).map (·.1)
  let others := (made.filter (fun e => !j.sel.picksCtx e.1 e.2.ctx)).map (fun e => e.2.linkEnd e.1)
  let s := s.mapAgents (fun a g => match g.shadow with
    | none => g
    | some h =>
      if h.fc < j.trigFc then g
      else if mine.contains a then
        let h := if h.channels then h else g.captureChannels a h
        let toks := List.zipWith (· ++ ·) h.queues h.skids
        { g with shadow := some h, heldTokens := (keyed 0 toks).filter (fun e => e.2 != []) }
      else g.release)
  let cow := (s.agents.filter (fun e => mine.contains e.1 && e.2.cowArmed)).map (·.1)
  let j := { j with captured := mine, cow := cow, others := others }
  let s := { s with cut := { s.cut with shadows := mine } }
  s.sendMarks { j with pageList := some (s.pagesOf j) }

/-- The ends of the frozen agents that are not selected (R258). -/
def State.frozenOthers (s : State) (j : CutJob) : List LinkEnd :=
  (s.agents.filter (fun e => e.2.frozen && !j.sel.picksCtx e.1 e.2.ctx)).map (fun e => e.2.linkEnd e.1)

/-- The stop or snap has reached its point: the engine begins to drain. -/
def State.cutReached (s : State) (j : CutJob) : State :=
  let s := s.put Reg.CUT.CUT_STATE.STATE csAgents
  if j.kind = 1 then s.snapTaken j
  else s.sendMarks { j with capFc := some s.fc, frozenFc := some s.fc, others := s.frozenOthers j, omitted := s.leftRunning j }

/-- A held request of the engine has been taken by the arbiter: none while it waits. -/
def State.cutResolved (s : State) (j : CutJob) : Option (State × Option CutJob) :=
  match j.waitReq with
  | none => some (s, some j)
  | some r =>
    if s.whistle.held.contains r then none
    else match s.whistle.resolved with
      | some (q, c, f) =>
        if q = r ∧ ¬ wrRefused c then
          let own := c == wrDriven && s.whistle.resolvedRun
          some (s, some (s.noteTrig { j with waitReq := none, ownStop := own } f s.whistle.resolvedPos))
        else some (s.cutRefused, none)
      | none => some (s.cutRefused, none)

/-- In the fc in which the arbiter takes the engine's held request, the engine notes it (R189, R448). -/
def State.cutWaits (s : State) : State :=
  match s.cut.job with
  | none => s
  | some j =>
    if s.cutState ≠ csStopping ∨ j.waitReq = none then s
    else match s.cutResolved j with
      | none => s
      | some (t, none) => t
      | some (t, some j) => t.setCut j

/-- What the Cut engine does in every fc by itself. -/
def State.cutTick (s : State) : State := s.cutWaits.snapDrop

/-- R237: a snap reaches fc 25 after its trigger fc, or the stop reaches FROZEN: capture requests go out, draining begins. -/
def execCutFrozen (s : State) : Host.Outcome State Fault Refusal :=
  .next (match s.cut.job with
  | none => s
  | some j =>
    if s.cutState ≠ csStopping ∨ j.lost then s
    else match s.cutResolved j with
      | none => s
      | some (t, none) => t
      | some (t, some j) =>
        let ready := if j.kind = 1 then decide (j.trigFc + 25 ≤ t.fc) else t.get Reg.WHISTLE.STATE.STATE == wsFrozen
        if ready then t.cutReached j else t.setCut j)

/-- R236: a frozen selected agent captures its shadow and channels; one that is not frozen captures nothing. -/
def execCaptureRequest (a : AgentId) (s : State) : Host.Outcome State Fault Refusal :=
  let n := a.toNat
  onAgent a anyType (match s.cut.job with
  | none => s
  | some j =>
    let g := s.agentNow n
    if j.capFc.isNone ∨ j.captured.contains n ∨ ¬ j.sel.picksCtx n g.ctx ∨ ¬ g.frozen then s
    else
      let r := s.armOf j
      let s := s.modAgent n (fun g =>
        let g := g.capture n s.fc true
        if j.sel.arms n then ({ g with armReq := some r }).armAct n false else g)
      ({ s with cut := { s.cut with shadows := s.cut.shadows ++ [n] } }).setCut { j with captured := j.captured ++ [n] })

/-! ### Draining (R238, R245 to R248, R253) -/

/-- A selected frozen agent has still to capture. -/
def CutJob.toCapture (j : CutJob) (e : Nat × Agent) : Bool :=
  j.kind != 1 && e.2.frozen && j.sel.picksCtx e.1 e.2.ctx && !j.captured.contains e.1

/-- Every selected frozen agent has captured, and every shadow and live tile has been drained. -/
def State.agentsDone (s : State) (j : CutJob) : Bool :=
  s.cut.shadows == [] && j.tileDue == [] && !s.agents.any j.toCapture

/-- Some agent on the segment of `a` has a shadow to give (R248). -/
def State.segShadows (s : State) (j : CutJob) (a : Nat) : Bool :=
  s.cut.shadows.any (sameSegment a) || s.agents.any (fun e => sameSegment a e.1 && j.toCapture e)

/-- The captured agents on the segment of `a` that satisfy `p`, in ascending ID. -/
def State.segAgents (s : State) (j : CutJob) (a : Nat) (p : Agent → Bool) : List Nat :=
  (s.agents.filter (fun e => sameSegment a e.1 && j.captured.contains e.1 && p e.2)).map (·.1)

/-- The segment of `a` has given its shadows and its held channel tokens (R248). -/
def State.segOpen (s : State) (j : CutJob) (a : Nat) : Bool :=
  !s.segShadows j a && s.segAgents j a (fun g => g.heldTokens != []) == []

/-- Agents on the segment of `a` with preserved granules to drain. -/
def State.segPreserved (s : State) (j : CutJob) (a : Nat) : List Nat := s.segAgents j a (fun g => g.preserved != [])

/-- It is the turn of agent `a` to give a preserved granule: round-robin on its segment, in ascending ID (R248). -/
def State.preservedTurn (s : State) (j : CutJob) (a : Nat) : Bool :=
  let l := s.segPreserved j a
  let last := Sparse.get j.turn (segmentNo a) 0
  let next := if Sparse.has j.turn (segmentNo a) then (l.find? (fun x => decide (last < x))).orElse (fun _ => l.head?) else l.head?
  next == some a

/-- The granules of the captured MUs are drained. -/
def State.regionsDone (s : State) (j : CutJob) : Bool :=
  !j.sel.has 3 || s.agents.all (fun e => !j.captured.contains e.1 || e.2.protectedG == [])

/-- Every selected page is read. -/
def CutJob.pagesDone (j : CutJob) : Bool :=
  !j.sel.has 4 || (match j.pageList with
    | none => false
    | some l => l.all (fun p => j.pages.any (fun i => i.page == p)))

/-- Held channel tokens are drained. -/
def State.tokensDone (s : State) (j : CutJob) : Bool :=
  s.agents.all (fun e => !j.captured.contains e.1 || e.2.heldTokens == [])

/-- Sections that are complete as the job stands, in the record's order. -/
def State.readySections (s : State) (j : CutJob) : List Nat :=
  let done := fun t =>
    if t = 3 then s.agentsDone j && s.regionsDone j
    else if t = 4 then j.pagesDone
    else if t = 5 ∨ t = 7 then false
    else s.agentsDone j
  if j.capFc.isNone ∧ j.kind ≠ 1 then [] else j.sel.order.takeWhile done

/-- The bytes of the record stream that are complete. -/
def State.readyBytes (s : State) (j : CutJob) : List Byte := (s.readySections j).flatMap (s.sectionOf j)

/-- The stream ring of a port dump (R263): 4 MiB. -/
def portRing : Nat := 0x400000

/-- Bytes the reader has consumed (R263). -/
def State.consumed (s : State) : Nat := s.get64 Reg.CUT.LIMIT_LO Reg.CUT.LIMIT_HI

/-- A port dump whose ring is full waits (R263). -/
def State.portFull (s : State) (j : CutJob) : Bool :=
  j.toPort && decide (s.consumed + portRing ≤ s.get64 Reg.CUT.LEN_LO Reg.CUT.LEN_HI)

/-- LEN follows the bytes written: to memory the 64 zero bytes and the complete sections, to the port what the ring takes. -/
def State.showLen (s : State) (j : CutJob) : State :=
  if j.code = 9 then s
  else
    let b := s.readyBytes j
    let n := if j.toPort then min b.length (s.consumed + portRing) else 64 + b.length
    let s := s.put64 Reg.CUT.LEN_LO Reg.CUT.LEN_HI n
    if j.toPort then { s with cut := { s.cut with record := b } } else s

/-- After a drain step: the next state of Table 6-3. -/
def State.cutAdvance (s : State) : State :=
  match s.cut.job with
  | none => s
  | some j =>
    let s := if s.cutState = csAgents ∧ s.agentsDone j then s.put Reg.CUT.CUT_STATE.STATE csRegions else s
    let j := { j with drained := s.agentsDone j && s.regionsDone j && j.pagesDone }
    (s.setCut j).showLen j

/-- Insert an item in ascending agent ID. -/
def insertItem (i : ShadowItem) : List ShadowItem → List ShadowItem
  | [] => [i]
  | x :: xs => if i.agent ≤ x.agent then i :: x :: xs else x :: insertItem i xs

/-- The cut is draining. -/
def State.draining (s : State) : Bool := decide (csAgents ≤ s.cutState ∧ s.cutState ≤ csMemory)

/-- The live tile bits that a shadow of agent `a` shows (Table 6-8). -/
def Shadow.liveTiles (h : Shadow) (a : Nat) : Nat := if agentType a = 1 then (h.body.getD 48 0).toNat else 0

/-- The live tiles in ascending index, once each is among those read. -/
def liveTileData (live : Nat) (ts : List TileData) : Option (List TileData) :=
  let ks := (List.range 8).filter (testBit live)
  let l := ks.filterMap (fun k => ts.find? (fun t => t.index.toNat == k))
  if l.length = ks.length then some l else none

/-- An agent's shadow is drained and released; its live tiles are due where the set takes them. A Millrace cut without
CARRY_TILES that meets a live tile is abandoned (R320). -/
def State.drainShadow (s : State) (j : CutJob) (n : Nat) (h : Shadow) : State :=
  let live := h.liveTiles n
  if j.code = 9 ∧ ¬ j.sel.accum ∧ live ≠ 0 then s.cutEnd coAborted false none msTiles
  else
    let s := s.modAgent n Agent.release
    let s := { s with cut := { s.cut with shadows := s.cut.shadows.erase n } }
    (s.setCut { j with items := insertItem ⟨n, h, []⟩ j.items
                       tileDue := if j.sel.accum ∧ live ≠ 0 then j.tileDue ++ [n] else j.tileDue }).cutAdvance

/-- An agent's live tiles are drained, after the shadows, held tokens and preserved granules of its segment (R248): those that a
restore loaded stand in the agent, the others come with the drain. -/
def State.drainTiles (s : State) (j : CutJob) (n : Nat) (tiles : List TileData) : State :=
  if ¬ s.segOpen j n ∨ s.segPreserved j n ≠ [] then s
  else match j.items.find? (fun i => i.agent == n) with
  | none => s
  | some i => match liveTileData (i.shadow.liveTiles n) ((s.agent n).tiles ++ tiles) with
    | none => s
    | some l => (s.setCut { j with items := j.items.map (fun x => if x.agent = n then { x with tiles := l } else x)
                                   tileDue := j.tileDue.erase n }).cutAdvance

/-- R238, R248: an agent's shadow is drained and released, and later, when its segment has come to them, its live tiles are
drained. -/
def execShadowDrained (a : AgentId) (tiles : List TileData) (s : State) : Host.Outcome State Fault Refusal :=
  let n := a.toNat
  onAgent a anyType (match s.cut.job with
  | none => s
  | some j =>
    if ¬ s.draining ∨ s.portFull j then s
    else match (s.agent n).shadow with
    | some h => if s.cut.shadows.contains n then s.drainShadow j n h else s
    | none => if j.tileDue.contains n then s.drainTiles j n tiles else s)

/-- R238: no ring has collected the agent's shadow for 65,536 fc: the agent sets DRAIN_TIMEOUT and keeps the shadow, and a cut
that holds it ends. -/
def execAgentDrainTimeout (a : AgentId) (s : State) : Host.Outcome State Fault Refusal :=
  let n := a.toNat
  onAgent a anyType (match (s.agent n).shadow with
  | none => s
  | some h =>
    if h.fc + 65536 ≤ s.fc then
      let t := (s.modAgent n (fun g => g.fault s.fc 7 0)).fault Slot.CUT 9 n
      if s.cut.shadows.contains n then t.cutEnd coTimeout false (some n) msEngine else t
    else s)

/-- R247: the oldest held token of a queue is drained: its slot is freed and its credit returned. Shadows of the segment come
first (R248). -/
def execHeldTokenDrained (a : AgentId) (q : QueueNo) (s : State) : Host.Outcome State Fault Refusal :=
  let n := a.toNat
  if agentQueues n ≤ q.toNat then .refused (.noSuchUnit n)
  else .next (match s.cut.job with
  | none => s
  | some j =>
    if s.segShadows j n ∨ s.portFull j then s
    else
      let s := s.modAgent n (fun g => { g with heldTokens := match Sparse.get g.heldTokens q.toNat [] with
        | [] => g.heldTokens
        | _ :: rest => Sparse.set g.heldTokens q.toNat rest [] })
      s.cutAdvance)

/-- Granule `k` of agent `n` is the next that its segment gives (R248): a preserved one in its turn, or, once the segment has
neither preserved granules nor live tiles left, the lowest of the lowest agent. -/
def State.granuleNext (s : State) (j : CutJob) (n k : Nat) : Bool :=
  let u := s.agent n
  s.segOpen j n && (if u.preserved.any (fun p => p.1 == k) then s.preservedTurn j n
    else s.segPreserved j n == [] && !j.tileDue.any (sameSegment n)
      && (s.segAgents j n (fun g => g.protectedG != [])).head? == some n && u.protectedG.head? == some k)

/-- R246: a protected granule is drained, from the preserve buffer where it was preserved, with the valid mask it had at the cut
point (R235). The slot it frees lets stalled writes go on. -/
def execGranuleDrained (a : AgentId) (g : BitVec 11) (s : State) : Host.Outcome State Fault Refusal :=
  let n := a.toNat
  let k := g.toNat
  onAgent a muType (match s.cut.job with
  | none => s
  | some j =>
    let u := s.agent n
    if ¬ u.protectedG.contains k ∨ ¬ s.granuleNext j n k ∨ ¬ s.draining ∨ s.portFull j then s
    else
      let held := u.preserved.any (fun p => p.1 == k)
      let (mask, data) := Sparse.get u.preserved k (u.validMask k, u.granule k)
      let item : GranuleItem := ⟨n, k, held, mask, data⟩
      let rest := u.protectedG.filter (· ≠ k)
      let s := s.modAgent n (fun u => { u with protectedG := rest, preserved := u.preserved.filter (fun p => p.1 ≠ k), cowArmed := u.cowArmed && rest != [] })
      let s := s.setCut { j with granules := insertGranule item j.granules
                                 turn := if held then Sparse.ins j.turn (segmentNo n) n else j.turn }
      (s.writesGoOn n).cutAdvance)

/-- Memory requests in flight at a frozen gateway, as its body holds them (R234). -/
def Agent.outstanding (g : Agent) : Nat := leVal ((padTo 52 g.unitBody).drop 48)

/-- The selected gateways. -/
def CutJob.gateways (j : CutJob) : List Nat := j.captured.filter isGateway

/-- Requests that the selected gateways issued before they froze complete: `left` says how many are still in flight, none at a
gateway it does not name (R234). -/
def State.gatewaysQuiet (s : State) (j : CutJob) (left : List (BitVec 4 × BitVec 10)) : State :=
  j.gateways.foldl (fun s a => s.modAgent a (fun g =>
    let n := match left.find? (fun e => 0x2400 + e.1.toNat == a) with
      | some e => min e.2.toNat g.outstanding
      | none => 0
    { g with unitBody := patchAt g.unitBody 48 (leBytes 4 n) })) s

/-- R253: DRAIN_MEMORY starts, in a held or frozen cut once GW_OUTSTANDING reads 0 on every selected gateway. -/
def execDrainMemoryStart (left : List (BitVec 4 × BitVec 10)) (s : State) : Host.Outcome State Fault Refusal :=
  .next (match s.cut.job with
  | none => s
  | some j =>
    if s.draining ∧ ¬ j.memStarted ∧ j.sel.has 4 ∧ s.agentsDone j then
      let s := if j.kind = 1 then s else s.gatewaysQuiet j left
      if j.kind ≠ 1 ∧ j.gateways.any (fun a => (s.agent a).outstanding != 0) then s
      else
        let j := { j with memStarted := true, pageList := match j.pageList with
          | none => some (s.pagesOf j)
          | l => l }
        ((s.setCut j).put Reg.CUT.CUT_STATE.STATE csMemory).showLen j
    else s)

/-- A write of the fabric at a frozen gateway is one of the requests in flight there (R234): none is made when none is left. A
control processor's write is not held up by the freeze. -/
def State.gatewayPasses (s : State) (writer : Option Nat) (gw : Nat) : Option State :=
  match writer with
  | none => some s
  | some a =>
    let g := s.agent (0x2400 + gw)
    if agentType a = 6 ∨ ¬ g.frozen then some s
    else if g.outstanding = 0 then none
    else some (s.modAgent (0x2400 + gw) (fun g => { g with unitBody := patchAt g.unitBody 48 (leBytes 4 (g.outstanding - 1)) }))

/-- The page's cut point has passed at gateway `gw` (Table 6-1): in a snap with the gateway's own capture. -/
def State.pastCut (s : State) (j : CutJob) (gw : Nat) : Bool :=
  s.draining || (s.cutState == csStopping && s.snapDriven j && (match (s.agent (0x2400 + gw)).shadow with
    | some h => decide (j.trigFc ≤ h.fc)
    | none => false))

/-- R253, R318: a write of a page at gateway `gw`, by an agent or by the memory master. A guarded page stalls it and moves
ahead in the read order; otherwise the write goes on, marks a carried page dirty, and where the fabric writes makes an unread
page of a snap or held cut LATE. -/
def execGuardedPageWrite (page : BitVec 32) (writer : Option AgentId) (gw : BitVec 4) (s : State) :
    Host.Outcome State Fault Refusal :=
  let p := page.toNat
  let w := writer.map (·.toNat)
  .next (match s.gatewayPasses w gw.toNat with
  | none => s
  | some s => match s.cut.job with
    | none => s.dirtyPage gw.toNat p
    | some j =>
      if s.pageGuarded j p gw.toNat then
        let s := s.guardStall j ⟨p, w, gw.toNat, none⟩
        match w with
        | none => s
        | some a => if agentType a = 0 then s
          else s.modAgent a (fun g => { g with waits := if g.waits.any (fun (x : Wait) => x.kind == 3) then g.waits
            else g.waits ++ [(⟨3, 0, 0x2400 + gw.toNat, 0, false, false⟩ : Wait)] })
      else
        let late := j.kind ≠ 3 ∧ j.code ≠ 9 ∧ w.isSome ∧ j.unread p ∧ s.pastCut j gw.toNat
        (s.setCut (if late then { j with late := insertSorted p j.late } else j)).dirtyPage gw.toNat p)

/-- R318: a page's last block is read: its guard ends and stalled writes go on. Guarded pages with waiting writes are read
first. -/
def execPageReadDone (page : BitVec 32) (data : List Byte) (ue late : Bool) (s : State) : Host.Outcome State Fault Refusal :=
  let p := page.toNat
  .next (match s.cut.job with
  | none => s
  | some j =>
    let unread := (j.pageList.getD []).contains p && j.unread p
    let ahead := j.pageFirst.filter j.unread
    if ¬ unread ∨ ¬ s.draining ∨ (ahead ≠ [] ∧ ¬ ahead.contains p) ∨ (j.kind ≠ 1 ∧ ¬ j.memStarted) ∨ s.portFull j then s
    else
      let isLate := (late || j.late.contains p) && j.kind != 3 && j.code != 9
      let item : PageItem := ⟨p, isLate, ue, j.sel.memDirty, data⟩
      let put := j.pages.filter (fun i => i.page < p) ++ [item] ++ j.pages.filter (fun i => p < i.page)
      ((s.setCut { j with pages := put, ue := j.ue || ue }).releaseWaits (some p)).cutAdvance)

/-! ### Commit (R255, R263, R623) -/

/-- Everything is drained and every trace mark checked; a frozen cut that the fabric has left does not commit (R244). -/
def State.cutComplete (s : State) (j : CutJob) : Bool :=
  s.draining && s.agentsDone j && s.tokensDone j && s.regionsDone j && j.pagesDone && j.marks == 0 && !j.lost

/-- The faults that the cut's tally sets (R623, R447, R333). -/
def State.tallyFaults (s : State) (r : TallyResult) : State :=
  let n := r.mismatches
  let s := (s.put Reg.CUT.TALLY.FAULT (bit (n != 0))).put Reg.CUT.TALLY.MISMATCHES (min n (2 ^ 24 - 1))
  let s := if n ≠ 0 then s.fault Slot.CUT 8 0 else s
  let first := fun (lo hi : Nat) => r.entries.find? (fun e => e.kind == 7 && decide (lo ≤ e.recv) && decide (e.recv < hi))
  let s := match first 0 0x100 with
    | some e => s.fault Slot.SCORE 9 e.recv
    | none => s
  let s := match first 0x100 0x200 with
    | some e => s.fault Slot.SCORE 8 (e.recv - 0x100)
    | none => s
  if r.count [8] ≠ 0 then s.fault Slot.MILLRACE 9 0 else s

/-- The record is committed: LEN, TALLY, CUT_ID, OUTCOME, FREEZE and EVENT.DONE; latched dirty marks are given up. -/
def State.cutDone (s : State) (j : CutJob) (len : Nat) : State :=
  let r := j.tally
  let s := s.tallyFaults r
  let out := if r.mismatches = 0 then coDone else coTally
  let fz := if j.kind = 1 then bit j.ownStop else min ((s.fc - j.frozenFc.getD s.fc) / 16) 65535
  let s := (s.put64 Reg.CUT.LEN_LO Reg.CUT.LEN_HI len).put Reg.CUT.CUT_ID.LOW j.id
  let s := (s.put Reg.CUT.CUT_STATE.OUTCOME out).put Reg.CUT.CUT_STATE.FREEZE fz
  let s := (s.raise Reg.CUT.EVENT.DONE).hubEvent 6 1
  let s := s.mapAgents (fun _ g => { g with latchedG := [], latchedP := [] })
  if j.ownStop ∧ (j.kind = 2 ∨ (j.kind = 3 ∧ j.resumeAfter)) then s.put Reg.CUT.CUT_STATE.STATE csResuming
  else ({ s with cut := { s.cut with job := none } }).put Reg.CUT.CUT_STATE.STATE csIdle

/-- The raw lengths of the blocks that the sections `l` are coded in (R278). -/
def State.cutBlocks (s : State) (j : CutJob) (l : List Nat) : List Nat :=
  if j.sel.coded ∧ j.code ≠ 9 then
    l.flatMap (fun t => (chunks 65536 ((s.sectionRaw j t).2.length + 1) (s.sectionRaw j t).2).map List.length)
  else []

/-- Hopper engines have finished the first `n` blocks of the cut for the requester `who`: even blocks are coded in the North Half,
odd ones in the South Half (R277; assumption log). -/
def State.blocksCoded (s : State) (j : CutJob) (who n : Nat) : Bool :=
  decide ((n + 1) / 2 ≤ j.takenN) && decide (n / 2 ≤ j.takenS)
    && s.hopper.busy.all (fun e => e.who != who || decide (n ≤ e.idx) || decide (e.due ≤ s.fc))

/-- The complete sections of a cut have been coded. -/
def State.cutCoded (s : State) (j : CutJob) : Bool := s.blocksCoded j 1 (s.cutBlocks j (s.readySections j)).length

/-- R255: TALLY and then the header are written. A memory record that would pass LIMIT ends NO_SPACE (R262); a port stream
waits while the ring cannot take its end (R263); a Millrace record goes into frames and commits with the last of them. -/
def execCutCommit (s : State) : Host.Outcome State Fault Refusal :=
  .next (match s.cut.job with
  | none => s
  | some j =>
    if ¬ ((s.cutComplete j ∧ s.cutCoded j) ∨ s.cutState = csCommit) then s
    else if j.code = 9 then
      if s.cutState = csCommit then s
      else
        let secs := s.recordSections j
        ({ s with cut := { s.cut with record := secs ++ s.recordHeader j secs.length } }).put Reg.CUT.CUT_STATE.STATE csCommit
    else if j.toPort then
      let rec' := if s.cutState = csCommit then s.cut.record
        else let secs := s.recordSections j; secs ++ s.recordHeader j secs.length
      let s := ({ s with cut := { s.cut with record := rec' } }).put Reg.CUT.CUT_STATE.STATE csCommit
      if rec'.length ≤ s.consumed + portRing then s.cutDone j rec'.length
      else s.put64 Reg.CUT.LEN_LO Reg.CUT.LEN_HI (s.consumed + portRing)
    else
      let secs := s.recordSections j
      if j.limit < 64 + secs.length then s.cutEnd coNoSpace true none msEngine
      else
        let rec' := s.recordHeader j secs.length ++ secs
        let s := { s with cut := { s.cut with record := rec' }, mm := { s.mm with lastWrite := some (j.dest, rec') } }
        (s.hubEvent 14 ((s.cutBlocks j j.sel.order).length - (j.takenN + j.takenS))).cutDone j rec'.length)

/-- R262: the bytes drained so far already pass LIMIT. -/
def execCutNoSpace (s : State) : Host.Outcome State Fault Refusal :=
  .next (match s.cut.job with
  | none => s
  | some j =>
    let n := 64 + (j.sel.order.filter (fun t => t ≠ 5 ∧ t ≠ 7 ∧ t ≠ 8)).foldl (fun n t => n + (s.sectionOf j t).length) 0
    if s.draining ∧ ¬ j.toPort ∧ j.code ≠ 9 ∧ j.limit < n then s.cutEnd coNoSpace true none msEngine else s)

/-- R244: a frozen or held cut whose fabric runs again before it has drained. A stop that merges and takes STATE to FREEZING sets
no agent free, and the cut goes on (R193, R270). -/
def execCutResumedFail (s : State) : Host.Outcome State Fault Refusal :=
  .next (match s.cut.job with
  | none => s
  | some j =>
    let st := s.get Reg.WHISTLE.STATE.STATE
    let runs := s.draining && (st == wsRunning || st == wsResuming)
    if (j.kind = 2 ∨ j.kind = 3) ∧ ¬ j.drained ∧ (j.lost ∨ runs) then s.cutEnd coResumed true none msEngine else s)

/-- The header of a held cut's record with the frozen fc measured up to its RESUME (R239); a Millrace record's header has left
with the LAST frame and keeps the fc measured then (assumption log). -/
def State.headerResume (s : State) (j : CutJob) : State :=
  if j.kind ≠ 2 ∨ j.code = 9 ∨ s.cut.record = [] then s
  else
    let n := s.fc - j.frozenFc.getD s.fc
    let h := (s.cut.record.take 56) ++ leBytes 4 (min n (2 ^ 32 - 1))
    let hdr := h ++ leBytes 4 (crc32c h)
    { s with cut := { s.cut with record := hdr ++ s.cut.record.drop 64 }, mm := { s.mm with lastWrite := some (j.dest, hdr) } }

/-- The cut is over. -/
def State.cutOver (s : State) : State :=
  ({ s with cut := { s.cut with job := none } }).put Reg.CUT.CUT_STATE.STATE csIdle

/-- R242: RESUME is driven after a held cut, or under RESUME_AFTER, when the engine's own stop left RUNNING; where another RESUME
has come before it, none is driven. -/
def execCutResumeAfter (s : State) : Host.Outcome State Fault Refusal :=
  .next (match s.cut.job with
  | none => s
  | some j =>
    if s.cutState ≠ csResuming then s
    else if ¬ j.ownStop then s.cutOver
    else if s.get Reg.WHISTLE.STATE.STATE = wsFrozen then
      let s := (s.whistleReq ⟨4, j.reqSource, j.reqDetail, 0, 0⟩).1
      let s := s.put Reg.CUT.CUT_STATE.FREEZE (min ((s.fc - j.frozenFc.getD s.fc) / 16) 65535)
      let s := if s.get Reg.CUT.CUT_STATE.OUTCOME = coDone ∨ s.get Reg.CUT.CUT_STATE.OUTCOME = coTally then s.headerResume j else s
      s.cutOver
    else s)

/-- CTRL.ABORT on the CUT page (R274). -/
def State.cutAbort (s : State) : State × Bool :=
  match s.cut.job with
  | none => (s, false)
  | some _ => if s.cutState = csResuming then (s, false) else (s.cutEnd coAborted true none msEngine, true)

/-- A LIMIT write in PORT mode (R263): the bytes consumed; below the current value or above LEN it is discarded. -/
def State.portLimit (s : State) (v : Nat) : State :=
  if v < s.consumed ∨ s.get64 Reg.CUT.LEN_LO Reg.CUT.LEN_HI < v then s
  else
    let s := s.put64 Reg.CUT.LIMIT_LO Reg.CUT.LIMIT_HI v
    match s.cut.job with
    | none => s
    | some j =>
      if ¬ j.toPort then s
      else if s.cutState = csCommit then
        s.put64 Reg.CUT.LEN_LO Reg.CUT.LEN_HI (min s.cut.record.length (v + portRing))
      else s.showLen j

/-! ### Restore (R266, R267) -/

/-- Little-endian bytes `o` to `o + n - 1` of a shadow. -/
def shadowField (b : List Byte) (o n : Nat) : Nat := leVal ((b.drop o).take n)

/-- The unit registers that a shadow loads (Tables 1-23, 6-8). -/
def Agent.loadRegs (g : Agent) (a : Nat) (b : List Byte) : Agent :=
  let f := shadowField b
  match agentType a with
  | 1 =>
    let g := ((g.put AReg.CU_SEQ_PC (f 32 2)).put AReg.CU_JT_BASE (f 34 2)).put AReg.CU_LOOP_DEPTH (f 36 1)
    let g := (List.range 8).foldl (fun (g : Agent) n => g.put (AReg.CU_LOOP n) (f (40 + 4 * n) 4)) g
    let g := (g.put AReg.CU_LANE_MASK_LO (f 72 4)).put AReg.CU_LANE_MASK_HI (f 76 4)
    let g := (g.put AReg.CU_ACC_TILES (f 80 1)).put AReg.CU_ACC_SPILLS (min (f 84 4) 65535)
    { g with locked := testBit (f 37 1) 0, reserved := testBit (f 37 1) 1 }
  | 2 =>
    let g := (List.range 4).foldl (fun (g : Agent) n => g.put (AReg.MU_AGEN n) (f (32 + 4 * n) 4)) g
    (g.put AReg.MU_ECC_COUNT (f 120 4))
  | 5 =>
    let g := ((g.put AReg.CE_SEQ (f 32 4)).put AReg.CE_ST (f 36 4)).put AReg.CE_NP (f 36 4 / 256)
    ((g.put AReg.CE_DESC_LO (f 40 4)).put AReg.CE_DESC_HI (f 44 4)).put AReg.CE_DEADLINE (f 48 4)
  | 6 =>
    let g := (g.put AReg.CP_PC_LO (f 32 4)).put AReg.CP_PC_HI (f 36 4)
    let g := (List.range 32).foldl (fun (g : Agent) n =>
      if n = 0 then g else (g.put (AReg.CP_GPR_LO n) (f (40 + 8 * n) 4)).put (AReg.CP_GPR_HI n) (f (44 + 8 * n) 4)) g
    let g := (g.put AReg.CP_EPC_LO (f 296 4)).put AReg.CP_EPC_HI (f 300 4)
    let g := g.put AReg.CP_CAUSE.EXC_CODE (f 304 4)
    let g := (g.put AReg.CP_RESV_LO (f 312 4)).put AReg.CP_RESV_HI (f 316 4)
    (g.put AReg.CP_RETIRED_LO (f 320 4)).put AReg.CP_RETIRED_HI (f 324 4)
  | _ => g

/-- Load an item of AGENT_STATE, its shadow and its tiles, into a frozen agent (R267): context, step flag, body, registers,
credits. -/
def Agent.loadShadow (g : Agent) (a fc : Nat) (item : List Byte) : Agent :=
  let b := item.take (shadowBytes a)
  let f := shadowField b
  let n := agentQueues a
  let co := if isGateway a then 56 else 16
  { (g.loadRegs a b) with
      ctx := f 4 2
      stepFlag := testBit (f 6 1) 6
      unitBody := b.drop 32
      tiles := readTiles (item.length + 1) (item.drop (shadowBytes a))
      executed := true
      known := (List.range 74).map (fun i => 0x4A0 + 4 * i)
      tap := { g.tap with stats := {}, fresh := none, loaded := some (fc, tapClosing g.tap fc, g.tap.restored), restored := true }
      credits := keyed 0 ((List.range n).map (fun l => f (co + l) 1)) }

/-- A CHANNEL item as it is read: receiver, queue, flags, queue tokens, skid tokens, sender credits. -/
abbrev ChannelItem := Nat × Nat × Nat × List Token × List Token × Nat

/-- The record holds the receiving end of a CHANNEL item: `ids` are the agents of its AGENT_STATE section. Of a boundary link only
one end is recorded (R174). -/
def receiverEnd (ids : List Nat) (c : ChannelItem) : Bool :=
  !testBit c.2.2.1 0 || ids.contains c.1 || (ids == [] && c.2.2.2.2.2 == 0)

/-- The sending end of a CHANNEL item whose credits the record holds: the agent and its link. -/
def senderEnd (ids : List Nat) (c : ChannelItem) : Option (Nat × Nat) :=
  match queueSender c.1 c.2.1 with
  | none => none
  | some x => if (testBit c.2.2.1 0 && receiverEnd ids c) || !(ids == [] || ids.contains x.1) then none else some x

/-- Load a CHANNEL item at its recorded ends (R267): the tokens at the receiver, the credits at the sender. -/
def State.loadChannel (s : State) (ids : List Nat) (c : ChannelItem) : State :=
  let s := if receiverEnd ids c then
      s.modAgent c.1 (fun g => { g with queues := Sparse.set g.queues c.2.1 c.2.2.2.1 [], skids := Sparse.set g.skids c.2.1 c.2.2.2.2.1 [] })
    else s
  match senderEnd ids c with
  | none => s
  | some (b, l) => s.modAgent b (fun g => { g with credits := Sparse.ins g.credits l c.2.2.2.2.2 })

/-- The agents that a record's CHANNEL items name at a recorded end. -/
def channelAgents (ids : List Nat) (l : List ChannelItem) : List Nat :=
  l.flatMap (fun c => (if receiverEnd ids c then [c.1] else []) ++ (match senderEnd ids c with
    | some x => [x.1]
    | none => []))

/-- Load the agents and channels of a record (R267, R340). -/
def State.loadAgents (s : State) (agents : List (Nat × Nat × Nat × List Byte))
    (chans : List ChannelItem) : State :=
  let s := agents.foldl (fun s i =>
    let s := s.modAgent i.1 (fun g => { g.loadShadow i.1 s.fc i.2.2.2 with queues := [], skids := [] })
    if cuOrCp (agentType i.1) then s.modEnc i.1 (·.need srRestore) else s) s
  chans.foldl (fun s c => s.loadChannel (agents.map (·.1)) c) s

/-- Load granules with their valid masks (R257, R267). -/
def State.loadGranules (s : State) (regs : List (Nat × List (Nat × Nat × List Byte))) : State :=
  regs.foldl (fun s r => r.2.foldl (fun s g =>
    if agentType r.1 = 2 then s.modAgent r.1 (fun u =>
      let u := { u with cells := writeCells u.cells (g.1 * 256) g.2.2 }
      { u with valid := (List.range 32).foldl (fun m w => Sparse.set m (g.1 * 32 + w) (testBit g.2.1 w) false) u.valid })
    else s) s) s

/-- Pages loaded through the memory master. -/
def State.loadPages (s : State) (pages : List (Nat × List Byte)) : State :=
  pages.foldl (fun s p => { s with mm := { s.mm with lastWrite := some p } }) s

/-- The link tally on the loaded state of the given agents, among all that are frozen (R173, R267). -/
def State.loadedTally (s : State) (ids : List Nat) : TallyResult :=
  let mine := ids.map (fun a => (s.agent a).linkEnd a)
  let others := (s.agents.filter (fun e => e.2.frozen && !ids.contains e.1)).map (fun e => e.2.linkEnd e.1)
  ⟨linkEntries mine (mine ++ others), linksChecked mine (mine ++ others), 0, 0⟩

/-- The raw body of section type `t`. -/
def rawOf (secs : List ReadSection) (t : Nat) : List Byte :=
  match secs.find? (fun r => r.type == t) with
  | some r => r.raw.getD []
  | none => []

/-- R267: the record at DEST has been read: it is checked and loaded, and the tally is computed (R266, R615). -/
def execRestoreLoadDone (record : List Byte) (s : State) : Host.Outcome State Fault Refusal :=
  .next (match s.cut.job with
  | none => s
  | some j =>
    if s.cutState ≠ csRestore then s
    else
      let fail := fun (s : State) (o : Nat) =>
        let s := (s.put Reg.CUT.CUT_STATE.OUTCOME o).raise Reg.CUT.EVENT.FAILED
        ({ s with cut := { s.cut with job := none } }).put Reg.CUT.CUT_STATE.STATE csIdle
      let hdr := record.take 64
      let secs := readSections (record.length + 1) (record.drop 64)
      let hf := if j.limit < record.length then coBadRecord else headerFault hdr record.length
      let count := leVal ((hdr.drop 32).take 4)
      let bad := secs.length ≠ count ∨ secs.any (fun r => !r.good || r.raw.isNone)
      let agents := readAgents (record.length + 1) (rawOf secs 1)
      if hf = coBadRecord ∨ bad then fail s coBadRecord
      else if hf ≠ 0 ∨ agents.any (fun i => !agentItemOk i) then fail s coCompat
      else
      let chans := readChannels (record.length + 1) (rawOf secs 2)
      let regions := readRegions (record.length + 1) (rawOf secs 3)
      let ids := agents.map (·.1)
      let named := ids ++ channelAgents ids chans ++ regions.map (·.1)
      if named.any (fun a => !(s.agent a).frozen) then fail (s.put Reg.CUT.CMD.RESULT crState) 0
      else
        let s := ((s.loadAgents agents chans).loadGranules regions).loadPages (readPages (record.length + 1) (rawOf secs 4))
        let r := s.loadedTally ids
        let s := s.tallyFaults r
        let s := s.put64 Reg.CUT.LEN_LO Reg.CUT.LEN_HI record.length
        let s := (s.put Reg.CUT.CUT_STATE.OUTCOME (if r.mismatches = 0 then coDone else coTally)).raise Reg.CUT.EVENT.DONE
        ({ s with cut := { s.cut with job := none } }).put Reg.CUT.CUT_STATE.STATE csIdle)

end Sys2Proof.Machine
end

