-- ==== Sys2Proof/Machine/Millrace.lean ====
section
/-! DEFINITION. Millrace (chapter 8): enabling, requests, frames, standby apply, failover and restore. -/

namespace Sys2Proof.Machine

/-- ROLE values. -/
def mrSource : Nat := 0
def mrApply : Nat := 1

/-- STATUS.IMAGE values. -/
def miNone : Nat := 0
def miBuilding : Nat := 1
def miReady : Nat := 2

/-- STATUS.LAST_DISCARD reasons (Table 8-7). -/
def mdCrc : Nat := 1
def mdHeader : Nat := 2
def mdGap : Nat := 3
def mdAbandoned : Nat := 4
def mdIncomplete : Nat := 5
def mdReset : Nat := 6
def mdAbort : Nat := 7
def mdCompat : Nat := 8
def mdRecord : Nat := 9

/-- The ring's size in bytes (R308). -/
def State.ringSize (s : State) : Nat := 65536 * s.get Reg.MILLRACE.RING_SIZE.UNITS

/-- The ring's address. -/
def State.ringBase (s : State) : Nat := s.get64 Reg.MILLRACE.RING_BASE_LO Reg.MILLRACE.RING_BASE_HI

/-- Occupied bytes between two pointers (R308). -/
def State.ringUsed (s : State) (tail head : Nat) : Nat := if s.ringSize = 0 then 0 else (head + s.ringSize - tail) % s.ringSize

/-- Millrace runs: PERIOD_REV is non-zero, or apply is enabled (R348). -/
def State.applyOn (s : State) : Bool := s.get Reg.MILLRACE.ROLE.ROLE == mrApply && s.get Reg.MILLRACE.CTRL.ENABLE == 1
def State.millRuns (s : State) : Bool := s.get Reg.MILLRACE.PERIOD_REV.REVS != 0 || s.applyOn

/-! ### Reservations (R312, Table 8-2) -/

/-- A valid carried entry: first page and length. -/
def State.carriedEntries (s : State) : List (Nat × Nat) :=
  (List.range 16).filterMap (fun e =>
    if s.get (Reg.MILLRACE.ENTRY_FLAGS.VALID e) = 1 then
      some ((2 ^ 32 * s.get (Reg.MILLRACE.ENTRY_BASE_HI e) + s.get (Reg.MILLRACE.ENTRY_BASE_LO e)) / 4096,
        s.get (Reg.MILLRACE.ENTRY_LEN.PAGES e))
    else none)

/-- Two page ranges meet. -/
def meets (a b : Nat × Nat) : Bool := decide (a.1 < b.1 + b.2) && decide (b.1 < a.1 + a.2)

/-- Some two different entries of a list meet. -/
def anyMeet : List (Nat × Nat) → Bool
  | [] => false
  | x :: xs => xs.any (meets x) || anyMeet xs

/-- The first failing reason of Table 8-2 for enabling as `role`; 0 when every check passes. -/
def State.enableFault (s : State) (role : Nat) : Nat :=
  let base := s.ringBase
  let size := s.ringSize
  let es := s.carriedEntries
  let fs := s.frozenSet
  if s.get Reg.MILLRACE.RING_SIZE.UNITS < 256 then 1
  else if 2 ^ 44 < base + size then 2
  else if es.any (meets (base / 4096, size / 4096)) then 3
  else if es.any (fun e => e.2 == 0 || decide (2 ^ 32 < e.1 + e.2)) || anyMeet es then 4
  else if role = mrSource ∧ s.get Reg.MILLRACE.ROLE.ROLE = mrApply then 5
  else if role = mrApply ∧ ¬ (s.get Reg.WHISTLE.STATE.STATE = wsFrozen ∧ fs.kind = 1 ∧ fs.branches = allBranches) then 6
  else if ¬ s.parityOk Slot.MILLRACE then 7
  else 0

/-- A refused enabling write (R312). -/
def State.millRefuse (s : State) (reason : Nat) : State := (s.put Reg.MILLRACE.STATUS.REFUSE reason).raise Reg.MILLRACE.EVENT.REFUSED

/-- Every gateway marks every page of every valid carried region dirty, and the next cut is BASE (R314). -/
def State.reseed (s : State) : State :=
  let ps := s.carriedEntries.foldl (fun l e => (List.range e.2).foldl (fun l i => insertSorted (e.1 + i) l) l) []
  let s := (List.range 16).foldl (fun s g => s.modAgent (0x2400 + g) (fun u => { u with dirtyPages := ps.foldl (fun l p => insertSorted p l) u.dirtyPages })) s
  { s with mill := { s.mill with nextBase := true } }

/-- A PERIOD_REV write (R312, R314, Table 8-9). -/
def State.millPeriod (s : State) (data : Nat) : State :=
  let v := min (data % 512) 256
  let old := s.get Reg.MILLRACE.PERIOD_REV.REVS
  if old = 0 ∧ v ≠ 0 then
    let r := s.enableFault mrSource
    if r ≠ 0 then s.millRefuse r
    else
      let s := (s.put Reg.MILLRACE.PERIOD_REV.REVS v).reseed
      { s with mill := { s.mill with seq := 0, chain := 0 } }
  else
    let s := s.put Reg.MILLRACE.PERIOD_REV.REVS v
    if v = 0 ∧ s.mill.pending then ({ s with mill := { s.mill with pending := false } }).millSkip msDisabled else s

/-- Apply has been enabled: the hub waits for a FIRST frame of a BASE cut (R335), unless a cut in flight goes on (R93). -/
def State.applyStart (s : State) : State :=
  if s.mill.cut.isSome then s else { s with mill := { s.mill with lastSeq := none } }

/-- A CTRL write that would enable apply fails a check of Table 8-2 (R312): the whole write is discarded. -/
def State.applyRefused (s : State) (v : Nat) : Bool :=
  v == 1 && s.get Reg.MILLRACE.CTRL.ENABLE == 0 && s.get Reg.MILLRACE.ROLE.ROLE == mrApply && s.enableFault mrApply != 0

/-- A CTRL.ENABLE write on MILLRACE (R312, R346). -/
def State.millEnable (s : State) (v : Nat) : State :=
  if v = 1 ∧ s.get Reg.MILLRACE.CTRL.ENABLE = 0 ∧ s.get Reg.MILLRACE.ROLE.ROLE = mrApply then
    let r := s.enableFault mrApply
    if r ≠ 0 then s.millRefuse r else (s.put Reg.MILLRACE.CTRL.ENABLE 1).applyStart
  else s.put Reg.MILLRACE.CTRL.ENABLE v

/-- A ROLE write (R312, R348). -/
def State.millRole (s : State) (v : Nat) : State :=
  if s.millRuns then s.millRefuse 5
  else if v % 2 = mrApply ∧ s.get Reg.MILLRACE.CTRL.ENABLE = 1 then
    let r := s.enableFault mrApply
    if r ≠ 0 then s.millRefuse r else (s.put Reg.MILLRACE.ROLE.ROLE mrApply).applyStart
  else s.put Reg.MILLRACE.ROLE.ROLE v

/-- Frames that TAIL has passed leave the ring (Table 8-6): `moved` bytes were passed. -/
def passFrames : Nat → List (Nat × Nat) → Nat × List (Nat × Nat)
  | _, [] => (0, [])
  | moved, (o, n) :: fs =>
    if n ≤ moved then let (k, l) := passFrames (moved - n) fs; (k + 1, l)
    else (0, ((o + moved), n - moved) :: fs)

/-- The transport's write of the pointer the hub does not own, or a write of the hub's own (R309). -/
def State.ringPointer (s : State) (tail : Bool) (v : Nat) : State :=
  let role := s.get Reg.MILLRACE.ROLE.ROLE
  let mine := if role = mrSource then !tail else tail
  let bad := s.raise Reg.MILLRACE.EVENT.BAD_PTR
  let t := if tail then s.get Reg.MILLRACE.TAIL.OFFSET else s.cfg Reg.MILLRACE.TAIL.OFFSET
  let h := s.cfg Reg.MILLRACE.HEAD.OFFSET
  if mine then s
  else if v % 64 ≠ 0 ∨ s.ringSize ≤ v then bad
  else if tail then
    let moved := s.ringUsed t v
    if s.ringUsed t h < moved ∨ s.ringSize < s.ringUsed v h + 64 then bad
    else
      let (k, l) := passFrames moved s.mill.ring
      let s := { s.put Reg.MILLRACE.TAIL.OFFSET v with mill := { s.mill with ring := l } }
      (s.bumpWrap Reg.MILLRACE.FRAMES_DONE k).put Reg.MILLRACE.LAG.FRAMES (min l.length 65535)
  else if s.ringSize < s.ringUsed t v + 64 then bad
  else s.put Reg.MILLRACE.HEAD.OFFSET v

/-! ### Requests (R327 to R330) -/

/-- A request is presented to the idle Cut engine and accepted (R316, R327); it comes before the other requests of its fc
(R243). -/
def State.millPresent (s : State) : State :=
  let base := s.mill.nextBase
  let j : CutJob := { code := 9, set := 0xFE, sel := millSel base (s.cfg Reg.MILLRACE.CUT_NOTCH.CARRY_TILES == 1), reqSource := 8, reqDetail := 63, base := base, rank := 0 }
  let s := { s with mill := { s.mill with pending := false, nextBase := false, frames := 0, cutBytes := 0, streamed := false,
                                          fullSince := none } }
  s.cutStart j 2

/-- Cam 63 fires under Millrace (R327 to R329, R346, Table 8-9); while a parity error stands the request is not accepted and
nothing reports it (R85), and one that was pending already goes on as work in flight. A request of the fc in which PERIOD_REV is
written to 0 is not left pending. -/
def State.cam63 (s : State) : State :=
  if ¬ s.parityOk Slot.MILLRACE then s
  else if s.cfg Reg.MILLRACE.CTRL.ENABLE = 0 then s.millSkip msDisabled
  else if s.crash.hold then s.millSkip msFatal
  else if s.mill.pending then s.millSkip msPending
  else if ¬ s.cutYields 0 then
    (if s.get Reg.MILLRACE.PERIOD_REV.REVS = 0 then s.millSkip msDisabled else { s with mill := { s.mill with pending := true } })
  else s.millPresent

/-- R328: the pending request is presented once the Cut engine is IDLE. -/
def execMillracePendingPresent (s : State) : Host.Outcome State Fault Refusal :=
  .next (if s.mill.pending ∧ s.cutYields 0 then s.millPresent else s)

/-- R315: a gateway's dirty list overflows: the next Millrace cut is BASE, under R314. -/
def execDirtyListOverflow (a : AgentId) (s : State) : Host.Outcome State Fault Refusal :=
  onAgent a gwType (if s.get Reg.MILLRACE.PERIOD_REV.REVS ≠ 0 then s.reseed else s)

/-! ### Frames (R322 to R326, R331) -/

/-- Bytes of a piece of the record stream (R323). -/
def pieceSize : Nat := 0x100000

/-- A frame (Table 8-3) with its zero bytes up to a multiple of 64. -/
def frameBytes (flags member seq chain : Nat) (payload : List Byte) (rawLen : Nat) : List Byte :=
  let h := [0x58#8, 0x4D#8, 0x49#8, 0x4C#8] ++ leBytes 1 1 ++ leBytes 1 flags ++ leBytes 2 member ++ leBytes 8 seq
    ++ leBytes 4 chain ++ leBytes 4 payload.length ++ leBytes 4 rawLen
  let f := h ++ leBytes 4 (crc32c (h ++ payload)) ++ payload
  f ++ List.replicate ((64 - f.length % 64) % 64) 0

/-- The payload of a piece, and how many of its blocks are RAW (R324). -/
def State.framePayload (s : State) (piece : List Byte) : List Byte × Nat :=
  if s.cfg Reg.MILLRACE.CUT_NOTCH.NO_CODE = 1 then (piece, 0)
  else
    let bs := (chunks 16384 (piece.length + 1) piece).map (codeBlock 4 (s.cfg Reg.MILLRACE.CUT_NOTCH.PLANE) false)
    (bs.flatMap (·.1), (bs.filter (·.2)).length)

/-- The record stream of the Millrace cut in progress as far as it is complete. -/
def State.millStream (s : State) (j : CutJob) : List Byte := if s.cutState == csCommit then s.cut.record else s.readyBytes j

/-- Bytes of the stream that lie in complete pieces (R323). -/
def State.millWhole (s : State) (j : CutJob) : Nat :=
  let n := (s.millStream j).length
  if s.cutState == csCommit then n else n / pieceSize * pieceSize

/-- The blocks of the complete pieces that Hopper engines code (R324): their raw lengths. -/
def State.millBlocks (s : State) (j : CutJob) : List Nat :=
  if j.code = 9 ∧ s.cfg Reg.MILLRACE.CUT_NOTCH.NO_CODE = 0 then
    let n := s.millWhole j
    (List.range (ceilDiv n 16384)).map (fun k => min 16384 (n - 16384 * k))
  else []

/-- The blocks of frame `i`, whose raw piece has `n` bytes, and those before it are coded (R324). -/
def State.frameCoded (s : State) (j : CutJob) (i n : Nat) : Bool :=
  s.cfg Reg.MILLRACE.CUT_NOTCH.NO_CODE == 1 || s.blocksCoded j 0 (64 * i + ceilDiv n 16384)

/-- The ring has room for `n` more bytes between two pointers (R308). -/
def State.roomFor (s : State) (tail head n : Nat) : Bool := decide (s.ringUsed tail head + n + 64 ≤ s.ringSize)

/-- The ring has room for `n` more bytes, judged on the pointers at the start of the fc (Table 8-9). -/
def State.ringRoom (s : State) (n : Nat) : Bool :=
  s.roomFor (s.cfg Reg.MILLRACE.TAIL.OFFSET) (s.cfg Reg.MILLRACE.HEAD.OFFSET) n

/-- The frame that the frame writer writes next: its bytes, its RAW blocks, whether it carries STREAMED and whether it is LAST;
none before its piece of the record stream is complete and its blocks are coded (R322 to R326). -/
def State.nextFrame (s : State) (j : CutJob) : Option (List Byte × Nat × Bool × Bool) :=
  if j.code ≠ 9 ∨ s.mill.owed then none
  else
    let whole := s.cutState == csCommit
    let stream := s.millStream j
    let i := s.mill.frames
    let piece := (stream.drop (i * pieceSize)).take pieceSize
    let last := whole && decide (stream.length ≤ (i + 1) * pieceSize)
    if piece = [] ∨ (¬ whole ∧ piece.length < pieceSize) ∨ ¬ s.frameCoded j i piece.length then none
    else
      let (payload, raws) := s.framePayload piece
      let len := (32 + payload.length + 63) / 64 * 64
      let streamed := s.mill.streamed || decide (s.ringSize < 2 * (s.mill.cutBytes + len))
      let flags := bit (i == 0) + 2 * bit last + 4 * bit j.base + 8 * bit streamed
        + 16 * bit (s.cfg Reg.MILLRACE.CUT_NOTCH.NO_CODE == 0)
      some (frameBytes flags (s.get Reg.TEAM.MEMBER_ID.ID) (s.mill.seq + 1) (if j.base then 0 else s.mill.chain + 1) payload piece.length,
        raws, streamed, last)

/-- A frame commits: HEAD moves past its padding (R325). -/
def State.commitFrame (s : State) (f : List Byte) : State :=
  let h := s.get Reg.MILLRACE.HEAD.OFFSET
  let s := { s with mill := { s.mill with seq := s.mill.seq + 1, ring := s.mill.ring ++ [(h, f.length)], fullSince := none }
                    mm := { s.mm with lastWrite := some (s.ringBase + h, f) } }
  let s := s.put Reg.MILLRACE.HEAD.OFFSET ((h + f.length) % max s.ringSize 1)
  (s.bumpWrap Reg.MILLRACE.FRAMES_PRODUCED 1).put Reg.MILLRACE.LAG.FRAMES (min s.mill.ring.length 65535)

/-- At the end of every fc: the notch since which the ring has had no room for the next frame (R331). -/
def State.millTick (s : State) : State :=
  let full : Bool := match s.cut.job.bind s.nextFrame with
    | some (f, _) => !s.roomFor (s.get Reg.MILLRACE.TAIL.OFFSET) (s.get Reg.MILLRACE.HEAD.OFFSET) f.length
    | none => false
  if full = s.mill.fullSince.isSome then s
  else { s with mill := { s.mill with fullSince := if full then some s.wheel.notchCount else none } }

/-- The cut whose LAST frame has committed is committed (Table 8-4): a BASE cut sets SEEDED on every valid entry. -/
def State.millCommit (s : State) (j : CutJob) : State :=
  let s := { s with mill := { s.mill with chain := if j.base then 0 else s.mill.chain + 1, frames := 0, cutBytes := 0, streamed := false } }
  let s := if j.base then (List.range 16).foldl (fun s e =>
      if s.get (Reg.MILLRACE.ENTRY_FLAGS.VALID e) = 1 then s.put (Reg.MILLRACE.ENTRY_FLAGS.SEEDED e) 1 else s) s
    else s
  ((s.put Reg.MILLRACE.APPLIED_CUT.ID j.id).raise Reg.MILLRACE.EVENT.COMMITTED).cutDone j s.cut.record.length

/-- R325: the next frame of the cut in progress commits: as soon as its piece of the record stream is complete, its blocks are coded
and the ring has room. -/
def execFrameCommit (s : State) : Host.Outcome State Fault Refusal :=
  .next (match s.cut.job with
  | none => s
  | some j =>
    match s.nextFrame j with
    | none => s
    | some (f, raws, streamed, last) =>
      if ¬ s.ringRoom f.length then s
      else
        let s := s.commitFrame f
        let s := s.bumpWrap Reg.MILLRACE.RAW_RECORDS.BLOCKS raws
        let s := { s with mill := { s.mill with frames := s.mill.frames + 1, cutBytes := s.mill.cutBytes + f.length, streamed := streamed } }
        if last then s.millCommit j else s)

/-- R321: after a cut that was abandoned with frames committed, one frame with flag ABANDONED is written. -/
def execMillraceCutAbandon (s : State) : Host.Outcome State Fault Refusal :=
  .next (
    if s.mill.owed then
      let f := frameBytes 32 (s.get Reg.TEAM.MEMBER_ID.ID) (s.mill.seq + 1) s.mill.owedChain [] 0
      if s.ringRoom f.length then
        let s := s.commitFrame f
        { s with mill := { s.mill with owed := false } }
      else s
    else s)

/-- R331: the ring has been without room for 4,096 consecutive notches: the cut is abandoned. -/
def execRingStalled (s : State) : Host.Outcome State Fault Refusal :=
  .next (match s.cut.job, s.mill.fullSince with
  | some j, some n =>
    if j.code = 9 ∧ n + 4096 ≤ s.wheel.notchCount then (s.fault Slot.MILLRACE 8 0).cutEnd coAborted false none msRing else s
  | _, _ => s)

/-! ### Standby apply (R334 to R338) -/

/-- The frames before a ring offset are done with: TAIL moves there, unless it is held for the reload image (R338). -/
def State.moveTail (s : State) (o : Nat) : State :=
  let o := o % max s.ringSize 1
  if s.mill.nextPos.isSome ∧ s.get Reg.MILLRACE.STATUS.IMAGE = miReady then { s with mill := { s.mill with nextPos := some o } }
  else ({ s with mill := { s.mill with nextPos := none } }).put Reg.MILLRACE.TAIL.OFFSET o

/-- `n` frames are discarded with a reason of Table 8-7. -/
def State.millDiscard (s : State) (reason n : Nat) : State :=
  ((s.put Reg.MILLRACE.STATUS.LAST_DISCARD reason).raise Reg.MILLRACE.EVENT.DISCARDED).bumpWrap Reg.MILLRACE.FRAMES_DISCARDED n

/-- Frames of the cut being received that are not applied. -/
def ApplyCut.unapplied (c : ApplyCut) : Nat := if c.base ∨ c.streamed then 0 else c.pieces.length

/-- The cut being received is dropped; an image that was BUILDING is lost (R337). -/
def State.dropApply (s : State) (reason : Nat) : State :=
  let s := if s.get Reg.MILLRACE.STATUS.IMAGE = miBuilding then s.put Reg.MILLRACE.STATUS.IMAGE miNone else s
  match s.mill.cut with
  | none => s
  | some c =>
    let s := { s with mill := { s.mill with cut := none } }
    let s := (s.moveTail c.tailEnd).put Reg.MILLRACE.LAG.FRAMES 0
    if c.unapplied = 0 then s else s.millDiscard reason c.unapplied

/-- The ring offset of the next frame to check. -/
def State.checkPos (s : State) : Nat :=
  match s.mill.cut with
  | some c => c.tailEnd
  | none => s.mill.nextPos.getD (s.get Reg.MILLRACE.TAIL.OFFSET)

/-- Bytes of the ring that lie at or after the check position, up to the HEAD that a restore stops at (R340). -/
def State.checkLeft (s : State) : Nat :=
  s.ringUsed s.checkPos (match s.mill.restore with
    | some (_, h, _) => h
    | none => s.get Reg.MILLRACE.HEAD.OFFSET)

/-- The cut being received has its LAST frame. -/
def State.applyWhole (s : State) : Bool :=
  match s.mill.cut with
  | some c => c.lasted
  | none => false

/-- Every complete cut up to the restore's HEAD has been applied: what is left in the ring is no complete frame (R340). -/
def State.finished (s : State) : Bool := !s.applyWhole && (s.checkLeft == 0 || s.mill.shortAt == some s.checkPos)

/-- A restore goes from FINISHING to RELOADING (R340). -/
def State.restorePhase (s : State) : State :=
  match s.mill.restore with
  | some (l, h, _) =>
    if s.get Reg.MILLRACE.RESTORE_STATUS.STATE = 1 ∧ s.finished then
      ({ s with mill := { s.mill with restore := some (l, h, s.fc) } }).put Reg.MILLRACE.RESTORE_STATUS.STATE 2
    else s
  | none => s

/-- A frame at the check position is discarded; frames follow only from FIRST with BASE (R335). -/
def State.discardFrame (s : State) (reason len : Nat) : State :=
  let pos := s.checkPos
  let s := s.dropApply reason
  let s := (s.millDiscard reason 1).moveTail (pos + len)
  { s with mill := { s.mill with lastSeq := none } }

/-- Write what a stream prefix already carries into the frozen MUs and memory (R336, R337). -/
def State.applyRegions (s : State) (stream : List Byte) : State :=
  let secs := readSections (stream.length + 1) stream
  let body := fun t => match secs.find? (fun r => r.type == t) with
    | some r => r.body
    | none => []
  (s.loadGranules (readRegions (stream.length + 1) (body 3))).loadPages (readPages (stream.length + 1) (body 4))

/-- The header of a frame that passed its checks is taken: the highest sequence number, and each number missing from a gap
counted once (Table 8-6). -/
def State.seenSeq (s : State) (seq : Nat) : State :=
  let m := s.mill
  let missing := seq - m.highSeq - 1 - m.badFrames
  let s := { s with mill := { m with highSeq := max m.highSeq seq, badFrames := if m.highSeq < seq then 0 else m.badFrames } }
  let s := if missing = 0 then s else s.bumpWrap Reg.MILLRACE.FRAMES_DISCARDED missing
  s.put Reg.MILLRACE.FRAMES_PRODUCED s.mill.highSeq

/-- An accepted frame joins its cut: a frame of a BASE or STREAMED cut is applied at once (R337). -/
def State.takeFrame (s : State) (c : ApplyCut) (len : Nat) (piece : List Byte) (base streamed last : Bool) : State :=
  let waiting := c.unapplied
  let c := { c with base := base || c.base, streamed := streamed || c.streamed, pieces := c.pieces ++ [piece],
                    offs := c.offs ++ [c.tailEnd], lasted := last, tailEnd := (c.tailEnd + len) % max s.ringSize 1 }
  if c.base ∨ c.streamed then
    let s := ({ s with mill := { s.mill with cut := some c } }).put Reg.MILLRACE.STATUS.IMAGE miBuilding
    let s := (s.bumpWrap Reg.MILLRACE.FRAMES_DONE (waiting + 1)).put Reg.MILLRACE.LAG.FRAMES 0
    (s.moveTail c.tailEnd).applyRegions c.pieces.flatten
  else ({ s with mill := { s.mill with cut := some c } }).put Reg.MILLRACE.LAG.FRAMES c.pieces.length

/-- Apply is disabled and the cut being applied completes (R92, R346). -/
def State.applyDrains (s : State) : Bool := s.get Reg.MILLRACE.ROLE.ROLE == mrApply && s.mill.cut.isSome

/-- R334, R335: the frame at the check position has its bytes complete: it is checked, and accepted or discarded; while apply is
disabled no other cut starts (R346). -/
def execFrameCheck (frame : List Byte) (s : State) : Host.Outcome State Fault Refusal :=
  .next (State.restorePhase (
    let f := fun (o n : Nat) => leVal ((frame.drop o).take n)
    let pos := s.checkPos
    let avail := s.checkLeft
    let short := { s with mill := { s.mill with shortAt := some pos } }
    let stored := f 20 4
    let raw := f 24 4
    let len := (32 + stored + 63) / 64 * 64
    let flags := f 5 1
    let seq := f 8 8
    let member := f 6 2
    if ¬ (s.applyOn ∨ s.applyDrains) ∨ avail < 64 ∨ frame.length < 32 ∨ s.applyWhole then s
    else if frame.take 4 ≠ [0x58#8, 0x4D#8, 0x49#8, 0x4C#8] then
      let s := s.discardFrame mdHeader 64
      { s with mill := { s.mill with badFrames := s.mill.badFrames + 1 } }
    else if 1 < f 4 1 then s.discardFrame mdCompat (if len ≤ avail then len else 64)
    else
      let abandoned := testBit flags 5
      let coded := testBit flags 4
      let badLen := decide (pieceSize < raw) || (!coded && stored != raw) || (abandoned && stored != 0)
      let other : Bool := match s.mill.cut with
        | some c => c.member != member && !testBit flags 0
        | none => false
      if f 4 1 = 0 ∨ 64 ≤ flags ∨ badLen ∨ other then
        let s := s.discardFrame mdHeader 64
        { s with mill := { s.mill with badFrames := s.mill.badFrames + 1 } }
      else if avail < len ∨ frame.length < 32 + stored then short
      else if f 28 4 ≠ crc32c (frame.take 28 ++ (frame.drop 32).take stored) then
        let s := s.discardFrame mdCrc len
        { s with mill := { s.mill with badFrames := s.mill.badFrames + 1 } }
      else
        let next := s.mill.lastSeq == some (seq - 1) && seq != 0
        let fresh := testBit flags 0 && testBit flags 2
        let s := s.seenSeq seq
        if ¬ next ∧ ¬ fresh then s.discardFrame mdGap len
        else if abandoned then
          let building := s.get Reg.MILLRACE.STATUS.IMAGE == miBuilding
          let s := s.dropApply mdAbandoned
          let s := (s.millDiscard mdAbandoned 1).moveTail (pos + len)
          { s with mill := { s.mill with lastSeq := if building then none else some seq } }
        else
          let payload := (frame.drop 32).take stored
          let piece := if coded then decodeBlocks (payload.length + 1) payload else .ok payload
          match piece with
          | .error _ => s.discardFrame mdRecord len
          | .ok p =>
            if p.length ≠ raw then s.discardFrame mdRecord len
            else
              let s := if testBit flags 0 then s.dropApply mdGap else s
              if testBit flags 0 ∧ ¬ s.applyOn then s else
              let c := if testBit flags 0 then some { member := member, base := false, streamed := false, chain := f 16 4, tailEnd := pos } else s.mill.cut
              match c with
              | none => s.discardFrame mdGap len
              | some c =>
                let s := { s with mill := { s.mill with lastSeq := some seq } }
                s.takeFrame c len p (testBit flags 2) (testBit flags 3) (testBit flags 1)))

/-- Where TAIL goes once a cut is applied: past its LAST frame, or held at the first frame that carries what the 4 MiB of
staging SRAM cannot keep of the reload image (R338). -/
def ApplyCut.tailAfter (c : ApplyCut) (image : Nat) : Nat :=
  if image ≤ 0x400000 then c.tailEnd else c.offs.getD ((0x400000 + 64) / pieceSize) c.tailEnd

/-- R336, R337: a complete cut is checked and applied to the frozen fabric and memory, and TAIL moves. -/
def execCutApply (s : State) : Host.Outcome State Fault Refusal :=
  .next (match s.mill.cut with
  | none => s
  | some c =>
    if ¬ c.lasted then s
    else State.restorePhase (
      let stream := c.pieces.flatten
      let hdr := lastN 64 stream
      let secs := readSections (stream.length + 1) (stream.take (stream.length - 64))
      let hf := headerFault hdr stream.length
      let st := rawOf secs 1
      let ch := rawOf secs 2
      let fail := fun (s : State) (r : Nat) =>
        let s := s.dropApply r
        let s := if c.unapplied = 0 then s.millDiscard r 0 else s
        { s with mill := { s.mill with lastSeq := none } }
      if hf = coBadRecord ∨ secs.any (fun r => !r.good || r.raw.isNone) then fail s mdRecord
      else if hf ≠ 0 ∨ (readAgents (st.length + 1) st).any (fun i => !agentItemOk i) then fail s mdCompat
      else
        let s := s.applyRegions stream
        let pos := leVal ((hdr.drop 24).take 8)
        let s := { s with mill := { s.mill with cut := none, imageState := st, imageChan := ch, imageFc := s.fc, appliedRev := some (pos / 65536),
                                                nextPos := none, imageUe := false } }
        let s := (s.bumpWrap Reg.MILLRACE.FRAMES_DONE c.unapplied).put Reg.MILLRACE.LAG.FRAMES 0
        let held := c.tailAfter (st.length + ch.length)
        let s := (s.moveTail held).put Reg.MILLRACE.STATUS.IMAGE miReady
        let s := if held = c.tailEnd then s else { s with mill := { s.mill with nextPos := some c.tailEnd } }
        let s := (s.put Reg.MILLRACE.APPLIED_CUT.ID (leVal ((hdr.drop 16).take 4))).raise Reg.MILLRACE.EVENT.COMMITTED
        if s.millDiff = 0 then s else s.fault Slot.MILLRACE 9 0))

/-! ### Failover and restore (R340 to R347) -/

/-- RESTORE_CMD.RESULT codes. -/
def rcAccepted : Nat := 1
def rcBusy : Nat := 2
def rcRole : Nat := 3
def rcState : Nat := 4
def rcNone : Nat := 5
def rcParity : Nat := 6

/-- A RESTORE_CMD code (R347, Table 8-10): RESULT and state. -/
def State.restoreCmd (s : State) (code : Nat) : State :=
  let role := s.get Reg.MILLRACE.ROLE.ROLE
  let on := s.get Reg.MILLRACE.CTRL.ENABLE = 1
  let period := s.get Reg.MILLRACE.PERIOD_REV.REVS
  let res := fun (s : State) (r : Nat) => s.put Reg.MILLRACE.RESTORE_CMD.RESULT r
  if s.tossActive then res s rcBusy
  else if ¬ s.parityOk Slot.MILLRACE then res s rcParity
  else if code = 1 ∨ code = 2 then
    if role ≠ mrApply then res s rcRole
    else if ¬ on then res s rcState
    else if s.mill.restore.isSome then res s rcBusy
    else
      let s := { s with mill := { s.mill with restore := some (code == 2, s.get Reg.MILLRACE.HEAD.OFFSET, s.fc), waitTurn := none } }
      res ((s.put Reg.MILLRACE.RESTORE_STATUS.STATE 1).put Reg.MILLRACE.RESTORE_STATUS.OUTCOME 0).restorePhase rcAccepted
  else if code = 3 then
    if role = mrApply then
      let n := match s.mill.cut with
        | some c => c.unapplied
        | none => 0
      let any := n != 0 || s.checkLeft != 0
      let s := { s with mill := { s.mill with cut := none, lastSeq := none, nextPos := none } }
      let s := (s.put Reg.MILLRACE.TAIL.OFFSET (s.get Reg.MILLRACE.HEAD.OFFSET)).put Reg.MILLRACE.LAG.FRAMES 0
      res ((if any then s.millDiscard mdReset n else s).put Reg.MILLRACE.STATUS.IMAGE miNone) rcAccepted
    else if period ≠ 0 then res s rcState
    else
      let n := s.mill.ring.length
      let s := { s with mill := { s.mill with ring := [] } }
      let s := ((s.put Reg.MILLRACE.HEAD.OFFSET 0).put Reg.MILLRACE.TAIL.OFFSET 0).put Reg.MILLRACE.LAG.FRAMES 0
      res (if n = 0 then s else s.millDiscard mdReset n) rcAccepted
  else if code = 4 then
    if role ≠ mrSource then res s rcRole
    else if period = 0 then res s rcState
    else res s.reseed rcAccepted
  else res s rcNone

/-- A restore ends (R344): the hub clears CTRL.ENABLE. -/
def State.restoreEnd (s : State) (outcome : Nat) : State :=
  let s := { s with mill := { s.mill with restore := none, waitTurn := none } }
  let s := (s.put Reg.MILLRACE.RESTORE_STATUS.OUTCOME outcome).put Reg.MILLRACE.RESTORE_STATUS.STATE 0
  (s.put Reg.MILLRACE.CTRL.ENABLE 0).raise Reg.MILLRACE.EVENT.RESTORED

/-- R340, R342, R343, R604: every complete cut has been applied; an incomplete one is discarded, the reload image is
loaded, and the tally on the loaded state is judged. -/
def execReloadDone (s : State) : Host.Outcome State Fault Refusal :=
  .next (match s.mill.restore with
  | none => s
  | some (loadOnly, _, start) =>
    if s.mill.waitTurn.isSome ∨ ¬ s.finished then s
    else
      let s := s.dropApply mdIncomplete
      if s.mill.imageUe then (s.fault Slot.MILLRACE 1 0).restoreEnd 3
      else if s.get Reg.MILLRACE.STATUS.IMAGE ≠ miReady then s.restoreEnd 3
      else
        let st := s.mill.imageState
        let ch := s.mill.imageChan
        let agents := readAgents (st.length + 1) st
        let s := s.loadAgents agents (readChannels (ch.length + 1) ch)
        let r := s.loadedTally (agents.map (·.1))
        let s := s.tallyFaults r
        let s := s.put Reg.MILLRACE.RESTORE_STATUS.RELOAD (min ((s.fc - start) / 16) 65535)
        if r.mismatches ≠ 0 then s.restoreEnd 4
        else if loadOnly then s.restoreEnd 2
        else ({ s with mill := { s.mill with waitTurn := some s.wheel.turns } }).put Reg.MILLRACE.RESTORE_STATUS.STATE 3)

/-- R340: after a balanced reload RESUME is driven in the first fc of the next revolution, that in which the Wheel makes the
boundary. -/
def execFailoverResume (s : State) : Host.Outcome State Fault Refusal :=
  .next (match s.mill.waitTurn with
  | none => s
  | some t => if t < s.wheel.turns ∧ s.wheel.madeFc = some s.fc then (s.whistleReq ⟨4, 8, 63, 0, 0⟩).1.restoreEnd 1 else s)

/-- CTRL.ABORT on MILLRACE (R94, Table 8-9); a restore in flight ends ABORTED. -/
def State.millAbort (s : State) : State × Bool :=
  if s.get Reg.MILLRACE.ROLE.ROLE = mrApply then
    let restoring := s.mill.restore.isSome
    let r : State × Bool := match s.mill.cut with
    | none => (s, false)
    | some c =>
      let s := (s.dropApply mdAbort).put Reg.MILLRACE.STATUS.IMAGE miNone
      let s := if c.unapplied = 0 then s.millDiscard mdAbort 0 else s
      (({ s with mill := { s.mill with lastSeq := none } }).bump Reg.MILLRACE.STATUS.DISCARDS, true)
    (if restoring then r.1.restoreEnd 5 else r.1, r.2 || restoring)
  else
    let cutting := match s.cut.job with
      | some j => j.code == 9
      | none => false
    let pend := s.mill.pending
    let s := if cutting then (s.cutEnd coAborted false none msAbort).bump Reg.MILLRACE.STATUS.DISCARDS else s
    let s := if pend then ({ s with mill := { s.mill with pending := false } }).millSkip msAbort else s
    (s, cutting || pend)

/-- LAG.REVS (R332, Table 8-11), in both roles from a cut point: a request that is pending or in SETUP has none yet. -/
def State.lagRevs (s : State) : Nat :=
  let from0 := fun (r : Nat) => min (s.wheel.rev - r) 65535
  if s.get Reg.MILLRACE.ROLE.ROLE = mrApply then (s.mill.appliedRev.map from0).getD 0
  else match s.cut.job with
    | some j => if j.code = 9 ∧ csStopping ≤ s.cutState ∧ j.waitReq.isNone then from0 (j.trigPos / 65536) else 0
    | none => 0

end Sys2Proof.Machine
end

