-- ==== Sys2Proof/Machine/Engines.lean ====
section
/-! DEFINITION. The allotment of the Hopper engines (R275 to R277): which block an engine that is free takes next. -/

namespace Sys2Proof.Machine

/-- The first Hopper of a half with a free engine (R275). -/
def State.freeHopper (s : State) (half : Nat) : Option Nat := [2 * half, 2 * half + 1].find? (fun n => decide (s.busyIn n < s.enginesOf n))

/-- The fc that an engine takes for a block (R276): to compress `n` bytes, or to decompress to `n` bytes. -/
def codeTime (n : Nat) : Nat := ceilDiv n 2 + 24
def decodeTime (n : Nat) : Nat := ceilDiv n 3 + 24

/-- The next block of a list of raw lengths that belongs to a half, of which that half has taken `taken`: its number and length. -/
def halfBlock (l : List Nat) (half taken : Nat) : Option (Nat × Nat) :=
  let k := 2 * taken + half
  (l[k]?).map (fun n => (k, n))

/-- The blocks that the cut in progress has its half code: for Millrace (0) or for the Cut engine (1). -/
def State.codingOf (s : State) (j : CutJob) (who : Nat) : List Nat :=
  if who = 0 then s.millBlocks j else s.cutBlocks j (s.readySections j)

/-- The next waiting block of Millrace (0) or the Cut engine (1) in a half: its number and the fc it takes. -/
def State.cutWaiting (s : State) (who half : Nat) : Option (Nat × Nat) :=
  match s.cut.job with
  | none => none
  | some j => (halfBlock (s.codingOf j who) half (if half = 0 then j.takenN else j.takenS)).map (fun x => (x.1, codeTime x.2))

/-- The next waiting block of the page job, in source order. -/
def State.pageWaiting (s : State) : Option (Nat × Nat) :=
  match s.hopper.job with
  | none => none
  | some j =>
    if s.get Reg.HOPPER.STATUS.JOB_STATE ≠ hjCoding then none
    else if j.decompress then (j.hdrs[j.taken]?).map (fun h => (j.taken, decodeTime h.orig))
    else if 65536 * j.taken < j.len then some (j.taken, codeTime (j.blockLen j.taken)) else none

/-- The block that an engine of a half takes next (R277): the page job's where the half has started 15 others while it waited;
otherwise Millrace's, then the Cut engine's, then the page job's. For whom, which block, and the fc it takes. -/
def State.nextBlock (s : State) (half : Nat) : Option (Nat × Nat × Nat) :=
  let page := s.pageWaiting.map (fun x => (2, x.1, x.2))
  let first := if 15 ≤ Sparse.get s.hopper.sincePage half 0 then page else none
  let mill := (s.cutWaiting 0 half).map (fun x => (0, x.1, x.2))
  let cut := (s.cutWaiting 1 half).map (fun x => (1, x.1, x.2))
  first.orElse (fun _ => mill.orElse (fun _ => cut.orElse (fun _ => page)))

/-- An engine of Hopper `n` takes a block. -/
def State.takeBlock (s : State) (n half : Nat) (b : Nat × Nat × Nat) : State :=
  let since := if b.1 = 2 ∨ s.pageWaiting.isNone then 0 else Sparse.get s.hopper.sincePage half 0 + 1
  let s := { s with hopper := { s.hopper with busy := s.hopper.busy ++ [({ hopper := n, who := b.1, idx := b.2.1, due := s.fc + b.2.2 } : EngineUse)]
                                              sincePage := Sparse.ins s.hopper.sincePage half since } }
  if b.1 = 2 then { s with hopper := { s.hopper with job := s.hopper.job.map (fun (j : HopJob) => { j with taken := j.taken + 1 }) } }
  else s.modCut (fun j => if half = 0 then { j with takenN := j.takenN + 1 } else { j with takenS := j.takenS + 1 })

/-- The free engines of a half take blocks as long as any waits. -/
def State.fillHalf : Nat → State → Nat → State
  | 0, s, _ => s
  | fuel + 1, s, half =>
    match s.freeHopper half, s.nextBlock half with
    | some n, some b => State.fillHalf fuel (s.takeBlock n half b) half
    | _, _ => s

/-- At the end of every fc: blocks of Millrace and the Cut engine that are finished leave their engines and are counted, and the
engines that are free take the next waiting blocks. -/
def State.engineTick (s : State) : State :=
  if s.hopper.busy = [] ∧ s.hopper.job = none ∧ s.cut.job = none then s
  else
    let ended := s.hopper.busy.filter (fun e => e.who != 2 && decide (e.due ≤ s.fc))
    let rest := s.hopper.busy.filter (fun e => e.who == 2 || (decide (s.fc < e.due) && s.cut.job.isSome))
    let s := { s with hopper := { s.hopper with busy := rest } }
    let s := if ended = [] then s else s.hubEvent 14 ended.length
    State.fillHalf 32 (State.fillHalf 32 s 0) 1

end Sys2Proof.Machine
end

