-- ==== Sys2Proof/Machine/Cams.lean ====
section
/-! DEFINITION. The Cams (chapter 3, R137 to R151, R154): when a Cam fires, its action, held regions and deferral. -/

namespace Sys2Proof.Machine

/-- The Millrace schedule drives Cam 63 (R150). -/
def State.camMill (s : State) (n : Nat) : Bool := n == 63 && s.cfg Reg.MILLRACE.PERIOD_REV.REVS != 0

/-- A Cam's angle (R138). -/
def State.camAngle (s : State) (n : Nat) : Nat :=
  if s.camMill n then s.cfg Reg.MILLRACE.CUT_NOTCH.NOTCH * 16
  else s.cfg (Reg.CAMS.CAM_AT.NOTCH n) * 16 + s.cfg (Reg.CAMS.CAM_AT.SUB n)

/-- A Cam matches revolution `r` (R137). -/
def State.camMatches (s : State) (n r : Nat) : Bool :=
  let mill := s.camMill n
  let unit := if mill then 0 else s.cfg (Reg.CAMS.CAM_FLAGS.UNIT n)
  let every := max 1 (if mill then s.cfg Reg.MILLRACE.PERIOD_REV.REVS else s.cfg (Reg.CAMS.CAM_FLAGS.EVERY n))
  let phase := if mill then 0 else s.cfg (Reg.CAMS.CAM_AT.PHASE n)
  let rps := s.cfg Reg.WHEEL.TIMEBASE_SEL.REVS_PER_SEC
  let u := if unit = 0 then 1 else if unit = 1 then rps else 60 * rps
  unit != 3 && r % u == 0 && r / u % every == phase

/-- A Cam's `ENABLE`, `FIRED` or other mask bit at the start of the fc. -/
def State.camBit (s : State) (lo hi : Fld) (n : Nat) : Bool :=
  if n < 32 then testBit (s.cfg lo) n else testBit (s.cfg hi) (n - 32)

/-- What R141 asks of a Cam at the start of the fc; the Millrace schedule's Cam 63 is always enabled (R150). -/
def State.camReady (s : State) (n : Nat) : Bool :=
  s.camMill n
  || (s.camBit Reg.CAMS.ENABLE_LO Reg.CAMS.ENABLE_HI n && s.cfg Reg.CAMS.CTRL.ENABLE == 1
      && !(s.cfg (Reg.CAMS.CAM_FLAGS.ONESHOT n) == 1 && s.camBit Reg.CAMS.FIRED_LO Reg.CAMS.FIRED_HI n)
      && (s.cfg (Reg.CAMS.CAM_FLAGS.ARM_BY_BREAK n) == 0 || s.cfg (Reg.CAMS.CAM_FLAGS.ARMED n) == 1))

/-- A boundary was made in this fc. -/
def State.freshRev (s : State) : Bool := s.wheel.madeFc == some s.fc

/-- The Cam fires in this fc for the revolution that just ended, whose position never reached its angle (R140). -/
def State.camOverdue (s : State) (n : Nat) : Bool :=
  s.freshRev && s.camMatches n s.wheel.prevRev && decide (s.wheel.prevPos < s.camAngle n) && !s.cams.firedPrev.contains n

/-- The position crosses the Cam's angle in this fc of a matching revolution (R138, R139). -/
def State.camCrossed (s : State) (n : Nat) : Bool :=
  s.camMatches n s.wheel.rev && decide (s.camAngle n ≤ s.wheel.sub)
  && (s.freshRev || decide (s.wheel.lastSub < s.camAngle n)) && !s.cams.fired.contains n

/-! ### Held regions (R145 to R149) -/

/-- Region `r` is held: one of its command engines executes a command that cannot be pre-empted (R145). -/
def State.regionHeld (s : State) (r : Nat) : Bool :=
  [2 * r, 2 * r + 1].any (fun k =>
    let g := s.agent (ceAgent k)
    g.get AReg.CE_NP == 1 && 1 ≤ g.get AReg.CE_ST && g.get AReg.CE_ST ≤ 3)

/-- The held regions, as a mask. -/
def State.heldMask (s : State) : Nat :=
  (List.range 16).foldl (fun m r => if s.regionHeld r then m + 2 ^ r else m) 0

/-- A Cam's action (Table 3-5). -/
def State.camAction (s : State) (n : Nat) : Nat :=
  if s.camMill n then 7 else s.cfg (Reg.CAMS.CAM_ACTION.ACTION n)

/-- A Cam's argument. -/
def State.camArg (s : State) (n : Nat) : Nat := s.cfg (Reg.CAMS.CAM_ARG.ARG n)

/-- The regions a Cam action subject to hold would act on (R146); none for other actions. -/
def State.camTarget (s : State) (act arg : Nat) : Option Nat :=
  match act with
  | 1 =>
    match arg % 8 with
    | 1 | 3 => some 0xFFFF
    | 2 => some (arg / 65536)
    | 5 =>
      if s.cfg Reg.WHISTLE.STEP_COUNT.SCOPE = 1 then some (s.cfg Reg.WHISTLE.REGION_MASK.MASK)
      else if s.get Reg.WHISTLE.STATE.KIND = 3 then some 0xFFFF
      else some (s.whistle.branches % 65536)
    | _ => none
  | 2 => some (s.cutSel (arg % 8)).mask
  | _ => none

/-- Issue Cam `n`'s action `act` with argument `arg`, the regions of `withheld` left out (Table 3-5). -/
def State.camIssue (s : State) (n act arg withheld : Nat) : State :=
  match act with
  | 1 =>
    let c := arg % 8
    let a := if c = 2 ∨ c = 3 then arg / 65536 else 0
    (s.whistleReq ⟨c, 6, n, a, withheld⟩).1
  | 2 => s.cutCam n (arg % 8) withheld
  | 3 => s.autoTrigger 2 n none
  | 4 => s.snapAuto
  | 6 => { s with cams := { s.cams with pulses := s.cams.pulses.filter (fun p => s.fc ≤ p.fc + 64) ++ [(⟨arg % 65536, s.fc, []⟩ : ArmPulse)] } }
  | 7 => if s.camMill n then s.cam63 else s
  | _ => s

/-- Issue an action that is now due: in W3 and W4 it waits for W0 (R584). -/
def State.camDue (s : State) (n act arg withheld : Nat) : State :=
  if 3 ≤ s.power then { s with cams := { s.cams with w0 := s.cams.w0 ++ [(⟨n, withheld, act, arg⟩ : CamWait)] } }
  else s.camIssue n act arg withheld

/-- The Cam actions that waited for W0 are issued (R584). -/
def State.camsAtW0 (s : State) : State :=
  let l := s.cams.w0
  l.foldl (fun s w => s.camIssue w.cam w.act w.arg w.withheld) { s with cams := { s.cams with w0 := [] } }

/-- Cam `n` fires (R144, R146 to R148); `overdue` says that the firing counts in the revolution that ended. -/
def State.camFires (s : State) (n : Nat) (overdue : Bool) : State :=
  let s := if n < 32 then s.raiseBits Reg.CAMS.FIRED_LO (2 ^ n) else s.raiseBits Reg.CAMS.FIRED_HI (2 ^ (n - 32))
  let s := s.put (Reg.CAMS.CAM_FLAGS.ARMED n) 0
  let c := s.cams
  let s := { s with cams := if overdue then { c with firedPrev := c.firedPrev ++ [n] } else { c with fired := c.fired ++ [n] } }
  let s := s.hubEvent 4 1
  let act := s.camAction n
  let arg := s.camArg n
  let s := if act = 0 then s else s.wakeNote wkCam
  if s.cams.deferred.any (fun d => d.cam == n) then
    (s.bump Reg.CAMS.DEFER_COUNT.OVERRUN).raise Reg.CAMS.EVENT.OVERRUN
  else
    let s := if act = 5 then s.raise Reg.CAMS.EVENT.CAM_IRQ else s
    match s.camTarget act arg with
    | none => s.camDue n act arg 0
    | some t =>
      let held := t &&& s.heldMask
      if held = 0 then s.camDue n act arg 0
      else if s.cfg (Reg.CAMS.CAM_FLAGS.DEFER_END n) = 1 then
        { s with cams := { s.cams with deferred := s.cams.deferred ++ [(⟨n, held, act, arg⟩ : Deferred)] } }
      else (s.raise Reg.CAMS.EVENT.EXCLUDED).camDue n act arg held

/-- Some Cam below `n` has still to fire in this fc for the revolution that ended, or in its own. -/
def State.camBefore (s : State) (n : Nat) (overdue : Bool) : Bool :=
  (List.range n).any (fun m => s.camReady m && (if overdue then s.camOverdue m else s.camCrossed m))

/-- R138 to R141: the Cam fires if the position crosses its angle in this fc, or if the revolution that just ended never
reached it. The Cams of a fc fire in ascending number, those that are overdue first (R140, R143): a Cam waits for the ones
before it. -/
def execCamFire (cam : BitVec 6) (s : State) : Host.Outcome State Fault Refusal :=
  let n := cam.toNat
  .next (if s.camReady n then
    if s.camOverdue n then (if s.camBefore n true then s else s.camFires n true)
    else if s.camCrossed n then (if s.camBefore 64 true || s.camBefore n false then s else s.camFires n false)
    else s
  else s)

/-- A region that is no longer held has reached END: deferred actions no longer await it (R147). -/
def State.camsEnd (s : State) (r : Nat) : State :=
  if s.regionHeld r then s
  else { s with cams := { s.cams with deferred := s.cams.deferred.map (fun d => { d with awaited := setBit d.awaited r false }) } }

/-- R147: a deferred action is issued when the last region it awaited has reached END, less any region held now. -/
def execDeferredActionIssue (cam : BitVec 6) (s : State) : Host.Outcome State Fault Refusal :=
  let n := cam.toNat
  .next (match s.cams.deferred.find? (fun d => d.cam == n && d.awaited == 0) with
  | none => s
  | some d =>
    let s := { s with cams := { s.cams with deferred := s.cams.deferred.erase d } }
    let s := (s.bump Reg.CAMS.DEFER_COUNT.DEFERRED).raise Reg.CAMS.EVENT.DEFERRED
    let held := ((s.camTarget d.act d.arg).getD 0) &&& s.heldMask
    if held = 0 then s.camDue n d.act d.arg 0 else (s.raise Reg.CAMS.EVENT.EXCLUDED).camDue n d.act d.arg held)

/-- Deferred actions of the Cams that satisfy `p` are discarded (R149). Answers how many. -/
def State.camsDiscard (s : State) (p : Nat → Bool) : State × Nat :=
  let gone := s.cams.deferred.filter (fun d => p d.cam)
  let s := { s with cams := { s.cams with deferred := s.cams.deferred.filter (fun d => !p d.cam) } }
  (s.bumpBy Reg.CAMS.DEFER_COUNT.DISCARDED gone.length, gone.length)

/-- Clearing a Cam's `ENABLE` bit clears ARMED and discards its deferred action (R142, R149). -/
def State.camsDisabled (s : State) : State :=
  let s := (s.camsDiscard (fun n => !s.camEnabled n)).1
  (List.range 64).foldl (fun s n => if s.camEnabled n then s else s.put (Reg.CAMS.CAM_FLAGS.ARMED n) 0) s

end Sys2Proof.Machine
end

