-- ==== Sys2Proof/Machine/Hang.lean ====
section
/-! DEFINITION. The watchdogs and hang analysis (chapter 13). -/

namespace Sys2Proof.Machine

/-- The watchdogs run: the page is enabled and the hub is in W0 or W1 (R479, R480). -/
def State.wdRuns (s : State) : Bool := s.cfg Reg.HANG.CTRL.ENABLE == 1 && decide (s.power ≤ 1)

/-- Watchdog kinds (Table 13-1). -/
def wdUnit : Nat := 1
def wdCmd : Nat := 2
def wdRev : Nat := 3
def wdFw : Nat := 4

/-- A kind's `EVENT` bit and its `WD_STATUS` expired bit. -/
def wdEvent (k : Nat) : Fld :=
  if k = 1 then Reg.HANG.EVENT.UNIT else if k = 2 then Reg.HANG.EVENT.CMD else if k = 3 then Reg.HANG.EVENT.REV else Reg.HANG.EVENT.FW
def wdBit (k : Nat) : Fld :=
  if k = 1 then Reg.HANG.WD_STATUS.UNIT_EXP else if k = 2 then Reg.HANG.WD_STATUS.CMD_EXP
  else if k = 3 then Reg.HANG.WD_STATUS.REV_EXP else Reg.HANG.WD_STATUS.FW_EXP

/-- The frozen set is ALL on all 17 branches. -/
def State.allFrozen (s : State) : Bool := s.get Reg.WHISTLE.STATE.KIND == 1 && s.whistle.branches == allBranches

/-- A collection starts, unless one is in progress (R484, R485, R487). -/
def State.collect (s : State) : State :=
  if s.hang.coll.isSome then s
  else
    let s := { s with hang := { s.hang with coll := some s.fc, edges := [] } }
    let s := (s.put Reg.HANG.EDGE_COUNT.COLLECTING 1).put Reg.HANG.EDGE_COUNT.VALID 0
    let s := (s.put Reg.HANG.EDGE_COUNT.COUNT 0).put Reg.HANG.EDGE_COUNT.AGENT_OVF 0
    (s.put Reg.HANG.EDGE_COUNT.BUF_OVF 0).put Reg.HANG.EDGE_COUNT.NOT_FROZEN (bit (!s.allFrozen))

/-- An expiry of kind `k` (R482, R483, Table 13-2); `subject` is the agent or engine. -/
def State.wdExpire (s : State) (k subject : Nat) : State :=
  let was := s.cfg (wdBit k) == 1 || s.get (wdBit k) == 1
  let s := ((s.bump Reg.HANG.STATUS.EXPIRIES).raise (wdEvent k)).raise (wdBit k)
  if was then s
  else
    let s := if k = 1 then s.put Reg.HANG.WD_STATUS.UNIT_AGENT subject else s
    let s := if k = 2 then s.put Reg.HANG.WD_STATUS.CMD_ENGINE subject else s
    match s.cfg (wdAct k) with
    | 2 =>
      let r : WReq := ⟨1, 4, k, 0, 0⟩
      let off := s.reqSuppressed r
      let s := (s.whistleReq r).1
      if off then s.collect
      else if s.hang.coll.isSome then s
      else { s with hang := { s.hang with collectDue := true } }
    | 3 => s.fatal (.watchdog (BitVec.ofNat 3 k))
    | _ => s

/-- A wait count has reached the limit that stands at the agent: the one last pushed, from the fc after its push on, or, while the
push can still be on its way, the one before (R472, R473). -/
def State.wdReached (s : State) (count : Nat) : Bool :=
  let reach := fun (l : Nat) => l != 0 && decide (l ≤ count)
  match s.hang.limitWas with
  | some (f, old) => (decide (f < s.fc) && reach s.hang.limit) || (decide (s.fc ≤ f + 4096) && reach old)
  | none => reach s.hang.limit

/-- A limit leaves for every agent (R473). -/
def State.wdLimit (s : State) (l : Nat) : State :=
  { s with hang := { s.hang with limit := l, limitWas := some (s.fc, s.hang.limit) } }

/-- R472: the agent's wait count has reached the pushed limit: one alarm leaves until the count returns to 0. -/
def execUnitAlarm (a : AgentId) (s : State) : Host.Outcome State Fault Refusal :=
  let n := a.toNat
  let g := s.agentNow n
  onAgent a anyType (
    if s.wdReached g.wdCount ∧ ¬ g.alarmed ∧ ¬ g.isHeld ∧ s.power ≤ 1 then
      let s := s.setAgent n { g with alarmed := true }
      { s with hang := { s.hang with alarms := s.hang.alarms ++ [n] } }
    else s)

/-- R482: a unit alarm reaches the hub and counts as an expiry of the unit kind, unless all watchdogs are stopped (R480). -/
def execUnitAlarmArrival (a : AgentId) (s : State) : Host.Outcome State Fault Refusal :=
  let n := a.toNat
  onAgent a anyType (if s.hang.alarms.contains n then
    let s := { s with hang := { s.hang with alarms := s.hang.alarms.erase n } }
    if s.cfg Reg.HANG.CTRL.ENABLE = 1 then s.wdExpire wdUnit n else s
  else s)

/-- An expiry among those taken, in the order of kinds and engines; one taken already stays once. -/
def insertTaken (e : Nat × Nat) : List (Nat × Nat) → List (Nat × Nat)
  | [] => [e]
  | x :: l => if e = x then x :: l else if e.1 < x.1 ∨ (e.1 = x.1 ∧ e.2 < x.2) then e :: x :: l else x :: insertTaken e l

/-- The hub takes an expiry of kind `k`: it stands at the end of the fc, unless a command END of this fc cancels it (R474,
R475). -/
def State.wdTake (s : State) (k subject : Nat) : State := { s with hang := { s.hang with taken := insertTaken (k, subject) s.hang.taken } }

/-- R474, R477: engine `k`'s watchdog expires at its CMD_WD_NOTCH-th notch boundary. -/
def execCmdWatchdogExpire (k : BitVec 5) (s : State) : Host.Outcome State Fault Refusal :=
  let n := k.toNat
  let limit := s.cfg Reg.HANG.CMD_WD_NOTCH.NOTCHES
  .next (if s.wdRuns ∧ limit ≠ 0 ∧ Sparse.has s.hang.cmdWd n ∧ (s.agent (ceAgent n)).frozen = false
      ∧ Sparse.get s.hang.cmdWd n 0 + limit ≤ s.wheel.notchCount then
    ({ s with hang := { s.hang with cmdWd := Sparse.del s.hang.cmdWd n } }).wdTake wdCmd n
  else s)

/-- R475: the revolution watchdog's count has reached its limit. -/
def execRevWatchdogExpire (s : State) : Host.Outcome State Fault Refusal :=
  .next (if s.hang.revDue.isSome then s.wdTake wdRev 0 else s)

/-- R476: the firmware watchdog's count has reached its period. -/
def execFwWatchdogExpire (s : State) : Host.Outcome State Fault Refusal :=
  .next (if s.hang.fwDue then s.wdTake wdFw 0 else s)

/-- Some command engine holds a command in DISPATCH, RUNNING or DRAIN. -/
def State.anyCommand (s : State) : Bool :=
  (List.range 32).any (fun k => let st := (s.agent (ceAgent k)).get AReg.CE_ST; 1 ≤ st && st ≤ 3)

/-- The control processor named in FW_WD.CP. -/
def State.fwAgent (s : State) : Agent := s.agent (0x2430 + s.cfg Reg.HANG.FW_WD.CP)

/-- A revolution boundary for the revolution and firmware watchdogs (R475 to R477, R479). -/
def State.wdBoundary (s : State) : State :=
  if s.wdRuns then
    let h := s.hang
    let limit := s.cfg Reg.HANG.REV_WD.REVS
    let (rc, rd) :=
      if s.get Reg.WHISTLE.STATE.STATE ≠ wsRunning then (h.revCount, h.revDue)
      else if s.anyCommand then (h.revCount + 1, if limit ≠ 0 ∧ h.revCount + 1 = limit then some s.fc else h.revDue)
      else (0, h.revDue)
    let period := s.cfg Reg.HANG.FW_WD.PERIOD
    let (fcn, fd) :=
      if period = 0 ∨ s.fwAgent.isHeld then (h.fwCount, h.fwDue) else (h.fwCount + 1, h.fwDue || h.fwCount + 1 == period)
    { s with hang := { h with revCount := rc, revDue := rd, fwCount := fcn, fwDue := fd } }
  else s

/-- A command begins on engine `k`: its watchdog starts (R474). -/
def State.wdBegin (s : State) (k : Nat) : State :=
  { s with hang := { s.hang with cmdWd := Sparse.ins s.hang.cmdWd k s.wheel.notchCount } }

/-- A command ends: its watchdog is cancelled, also an expiry of this fc (R474), and the revolution watchdog's count is 0 in this
fc (R475). -/
def State.wdEnd (s : State) (k : Nat) : State :=
  { s with hang := { s.hang with cmdWd := Sparse.del s.hang.cmdWd k, taken := s.hang.taken.erase (wdCmd, k), revCount := 0, ended := true } }

/-- FW_WD.KICK (R476): the count returns to 0 at the end of the fc, after an expiry of its boundary. -/
def State.wdKick (s : State) : State := { s with hang := { s.hang with kicked := true } }

/-- The end of an fc for the watchdogs: a command END leaves the revolution watchdog without an expiry in its fc (R475); the
expiries taken act in the order of their kinds (R482), the counts of a kicked watchdog and after an END are 0 (R475, R476). -/
def State.wdTick (s : State) : State :=
  let h := s.hang
  if h.taken = [] ∧ ¬ h.ended ∧ ¬ h.kicked then s
  else
    let late := h.ended && h.revDue == some s.fc
    let taken := if late then h.taken.filter (fun e => e.1 != wdRev) else h.taken
    let has := fun (k : Nat) => taken.any (fun e => e.1 == k)
    let s := { s with hang :=
      { h with taken := [], ended := false, kicked := false
               revDue := if late || has wdRev then none else h.revDue
               fwDue := h.fwDue && !has wdFw
               revCount := if h.ended then 0 else h.revCount
               fwCount := if h.kicked then 0 else h.fwCount } }
    taken.foldl (fun s e => s.wdExpire e.1 e.2) s

/-- Every watchdog reloads to its full period (R479, R480). -/
def State.wdReload (s : State) : State :=
  let now := s.wheel.notchCount
  let s := s.mapAgents (fun a g => { g.advance a (s.clockOf a) s.fc with wdCount := 0, alarmed := false })
  { s with hang := { s.hang with cmdWd := s.hang.cmdWd.map (fun e => (e.1, now)), revCount := 0, revDue := none
                                 fwCount := 0, fwDue := false } }

/-- A write of CTRL.ENABLE on the HANG page (R480). -/
def State.wdEnable (s : State) (v : Nat) : State :=
  if v = 0 then s.wdLimit 0 else (s.wdLimit (s.get Reg.HANG.UNIT_WD_FC.LIMIT)).wdReload

/-- The limit is pushed to the agents (R473). -/
def State.wdPush (s : State) : State :=
  if s.cfg Reg.HANG.CTRL.ENABLE = 1 then s.wdLimit (s.get Reg.HANG.UNIT_WD_FC.LIMIT) else s

/-- R484: a COLLECT action's collection starts once WHISTLE.STATE reads FROZEN. -/
def execCollectionStart (s : State) : Host.Outcome State Fault Refusal :=
  .next (if s.hang.collectDue ∧ s.get Reg.WHISTLE.STATE.STATE = wsFrozen then
    ({ s with hang := { s.hang with collectDue := false } }).collect
  else s)

/-- The age class (Table 13-3). -/
def ageClass (age : Nat) : Nat := if age < 16 then 0 else if age < 128 then 1 else if age < 1024 then 2 else 3

/-- Every agent's edges as the buffer stores them (R485, R489): recorder ascending, then index. -/
def State.hangEdges (s : State) : List (BitVec 64) :=
  s.agents.flatMap (fun e => e.2.edges.map (fun x =>
    BitVec.ofNat 64 (2 ^ 32 * (2 ^ 16 * ageClass (s.edgeAge e.2 x) + e.1) + s.edgeWord e.1 e.2 x)))

/-- R486: the collection completes. -/
def execCollectionComplete (s : State) : Host.Outcome State Fault Refusal :=
  .next (match s.hang.coll with
  | none => s
  | some _ =>
    let all := s.hangEdges
    let s := { s with hang := { s.hang with coll := none, edges := all.take 4096 } }
    let s := (s.put Reg.HANG.EDGE_COUNT.COLLECTING 0).put Reg.HANG.EDGE_COUNT.VALID 1
    let s := s.put Reg.HANG.EDGE_COUNT.COUNT (min all.length 4096)
    let s := s.put Reg.HANG.EDGE_COUNT.BUF_OVF (bit (decide (4096 < all.length)))
    let s := s.put Reg.HANG.EDGE_COUNT.AGENT_OVF (bit (s.agents.any (fun e => e.2.edgeOvf)))
    (s.put Reg.HANG.EDGE_COUNT.SEQ (s.get Reg.HANG.EDGE_COUNT.SEQ + 1)).raise Reg.HANG.EVENT.COLLECTED)

/-- ABORT on HANG (R493). Answers whether a collection was discarded. -/
def State.hangAbort (s : State) : State × Bool :=
  match s.hang.coll with
  | none => (s, false)
  | some _ =>
    let s := { s with hang := { s.hang with coll := none } }
    ((s.put Reg.HANG.EDGE_COUNT.COLLECTING 0).bump Reg.HANG.STATUS.DISCARDS, true)

/-- The words of edge-buffer entry INDEX (R490): low word, high word; zero at or above COUNT. -/
def State.edgeEntry (s : State) : Nat × Nat :=
  match s.hang.edges[s.get Reg.HANG.EDGE_INDEX.INDEX]? with
  | some e => (e.toNat % 2 ^ 32, e.toNat / 2 ^ 32)
  | none => (0, 0)

end Sys2Proof.Machine
end

