-- ==== Sys2Proof/Machine/Commands.lean ====
section
/-! DEFINITION. The life of a command on a command engine (R377 to R384): its records, its deadline, and what its BEGIN and
END do elsewhere in the hub. -/

namespace Sys2Proof.Machine

/-- Command records are produced in W0 and W1 only (Table 16-2). -/
def State.cmdRecorded (s : State) (k : Nat) : Bool := s.cmdTraced k && decide (s.power ≤ 1)

/-- A unit is given a command by engine `k`: it is no longer without one, and leaves SLEEP unless its encoder is in SLEEP too or
it is held (R26, R42). -/
def Agent.dispatched (g : Agent) (k : Nat) : Agent :=
  let g := { g.endWaits (·.kind == 4) with dispatcher := some (ceAgent k) }
  g.active.getD g

/-- R377: a command enters DISPATCH on engine `ce`. -/
def execCmdBegin (ce : BitVec 5) (cmd : CommandInfo) (s : State) : Host.Outcome State Fault Refusal :=
  let k := ce.toNat
  let a := ceAgent k
  .next (s.whenActive a (fun s =>
    let g := s.agent a
    if g.get AReg.CE_ST ≠ ceIdle then s
    else
      let d := cmd.desc.toNat
      let g := ((g.put AReg.CE_ST ceDispatch).put AReg.CE_SEQ cmd.seq.toNat).put AReg.CE_DESC_LO d
      let g := ((g.put AReg.CE_DESC_HI (d / 2 ^ 32)).put AReg.CE_NP (bit cmd.np)).put AReg.CE_DEADLINE cmd.deadline.toNat
      let layer := cmd.layer.toNat
      let op := cmd.op.toNat
      let s := s.setAgent a ((g.put AReg.CE_LAYER layer).put AReg.CE_OP op |>.count s.fc 0x80 1)
      let s := s.wakeNote wkCommand
      let s := if s.cmdRecorded k then s.cmdRecord k tyCmdBegin cmd.seq.toNat (s.cmdTag d layer op false) else s
      let s := cmd.units.foldl (fun s u => if agentType u.toNat = 0 then s else s.modAgent u.toNat (fun g => g.dispatched k)) s
      (s.wdBegin k).cmdBoundary k cmd.seq.toNat false))

/-- R377, R381, R382: the command of engine `ce` reaches its END, or firmware abandons it. -/
def execCmdEnd (ce : BitVec 5) (abandoned : Bool) (s : State) : Host.Outcome State Fault Refusal :=
  let k := ce.toNat
  let a := ceAgent k
  .next (s.whenActive a (fun s =>
    let g := s.agent a
    if g.get AReg.CE_ST = ceIdle then s
    else
      let late := endLate s.wheel.stamp28 (g.get AReg.CE_DEADLINE)
      let seq := g.get AReg.CE_SEQ
      let desc := 2 ^ 32 * g.get AReg.CE_DESC_HI + g.get AReg.CE_DESC_LO
      let g' := (g.put AReg.CE_ST ceIdle).put AReg.CE_NP 0
      let s := s.setAgent a (if late then g'.count s.fc 0x81 1 else g')
      let tag := s.cmdTag desc (g.get AReg.CE_LAYER) (g.get AReg.CE_OP) abandoned
      let s := if s.cmdRecorded k then
          let s := s.cmdRecord k (if late then tyCmdEndLate else tyCmdEnd) seq tag
          if late then (s.bump Reg.CMDTR.LATE_COUNT.COUNT).raise Reg.CMDTR.EVENT.LATE else s
        else s
      let s := if late then s.hubEvent 13 1 else s
      ((s.wdEnd k).camsEnd (k / 2)).cmdBoundary k seq true))

end Sys2Proof.Machine
end

