-- ==== Sys2Proof/Machine/Funnel.lean ====
section
/-! DEFINITION. The events of the funnels (chapter 10), and the aborts of the FLOW, CMDTR and FUNNEL pages. -/

namespace Sys2Proof.Machine

/-- R395, R396: the oldest item on the rings reaches its half's funnel, 2 fc or more after it left; the arrivals of an fc are
handled at its end. -/
def execFunnelArrival (half : Half) (s : State) : Host.Outcome State Fault Refusal :=
  let h := halfNo half
  let f := s.fh h
  .next (match f.inbox with
  | [] => s
  | i :: rest => if i.1 + 2 ≤ s.fc then s.setFh h { f with inbox := rest, arrivals := f.arrivals ++ [i.2] } else s)

/-- R397: the funnel writes the oldest entry of its merge buffer. -/
def execFunnelWrite (half : Half) (s : State) : Host.Outcome State Fault Refusal := .next (s.funnelWrite (halfNo half))

/-- The marked source whose LOST is placed next: in ascending ID after the last one placed (R401). -/
def FunnelHalf.nextLost (f : FunnelHalf) : Option Nat :=
  match f.lost.find? (fun (e : Nat × LostRec) => decide (f.lastPlaced < e.1)) with
  | some e => some e.1
  | none => f.lost.head?.map Prod.fst

/-- A LOST for source `a` is placed if the merge buffer has room or a victim (R400, R401, Table 10-1). -/
def State.placeLost (s : State) (h a : Nat) : State :=
  let put := fun (s : State) =>
    let f := s.fh h
    let l := Sparse.get f.lost a ⟨0, 0, false⟩
    let q : Queued := ⟨⟨a, traceEntry a 3 tyLost 0, none⟩, 3, some l, false⟩
    s.setFh h { f with merge := f.merge ++ [q], lost := Sparse.del f.lost a, lastPlaced := a, placedFc := s.fc
                       placed := if f.placedFc = s.fc then f.placed + 1 else 1 }
  if mergeCount (s.fh h).merge < 512 then put s
  else match victim 3 (s.fh h).merge with
    | none => s
    | some v =>
      let s := s.setFh h { s.fh h with merge := eraseLast v (s.fh h).merge }
      let s := s.dropEntry h v.item.bits v.rank true
      put (if v.trig then s.trigDropped h else s)

/-- R401: the funnel places a LOST entry, at most 2 in each fc. -/
def execLostPlacement (half : Half) (src : AgentId) (s : State) : Host.Outcome State Fault Refusal :=
  let h := halfNo half
  let f := s.fh h
  .next (if ¬ s.funnelShut h ∧ f.nextLost = some src.toNat ∧ ¬ (f.placedFc = s.fc ∧ 2 ≤ f.placed) then s.placeLost h src.toNat
    else s)

/-- R411: one unit of the spill FIFO is written to the spill area. -/
def execSpillUnitWrite (half : Half) (s : State) : Host.Outcome State Fault Refusal := .next (s.spillUnit (halfNo half))

/-- R413: a TRIGGERED half enters STOPPED after its stop count. -/
def execPostTrigStop (half : Half) (s : State) : Host.Outcome State Fault Refusal :=
  let h := halfNo half
  .next (match (s.fh h).post with
  | some n => if s.get (trigStateFld h) = tsTriggered ∧ s.postLimit ≤ n then s.stopHalf h else s
  | none => s)

/-- R407: in FILL_STOP a full buffer stops its half with FULL set. -/
def execFillStopFull (half : Half) (s : State) : Host.Outcome State Fault Refusal :=
  let h := halfNo half
  .next (if s.cfg Reg.FUNNEL.MODE.MODE = 1 ∧ (s.fh h).wr = traceEntries ∧ s.get (trigStateFld h) ≠ tsStopped then
    (s.enterStopped h).put (if h = 0 then Reg.FUNNEL.TRIG_STATE.NORTH_FULL else Reg.FUNNEL.TRIG_STATE.SOUTH_FULL) 1
  else s)

/-- R422: a source's tally mark is checked, on the counts at the end of the fc. -/
def execTallyMarkCheck (half : Half) (src : AgentId) (s : State) : Host.Outcome State Fault Refusal :=
  let h := halfNo half
  .next (s.setFh h { s.fh h with checks := (s.fh h).checks ++ [src.toNat] })

/-! ### Aborts (R390, R391, R425) -/

/-- Drop the entries of a list as discards of ABORT, counting them in `STATUS.DISCARDS` of the page. -/
def State.discardEntries (s : State) (h : Nat) (disc : Fld) (l : List TItem) : State :=
  l.foldl (fun s i => (s.dropEntry h i.bits (s.rankOf i.bits) true).bump disc) s

/-- The waiting entries of an encoder are discarded; its marks stay. -/
def State.discardWaiting (s : State) (a : Nat) (disc : Fld) : State :=
  let w := (s.agent a).enc.waiting
  let s := s.modEnc a (fun e => { e with waiting := w.filter (fun i => i.mark.isSome) })
  s.discardEntries (agentHalf a) disc (w.filter (fun i => i.mark.isNone))

/-- ABORT on FLOW (R390): waiting entries and the outstanding sample. -/
def State.flowAbort (s : State) : State :=
  let s := s.agents.foldl (fun t e => if cuOrCp (agentType e.1) then t.discardWaiting e.1 Reg.FLOW.STATUS.DISCARDS else t) s
  match s.trace.pcsOut with
  | none => s
  | some (a, _, _) =>
    let s := { s with trace := { s.trace with pcsOut := none } }
    let s := s.modEnc a (fun e => { e with gen := (e.gen + 1) % 2 ^ 32 })
    s.discardEntries (agentHalf a) Reg.FLOW.STATUS.DISCARDS [⟨a, traceEntry a (s.cfg Reg.FLOW.PCS_CTRL.CLASS) tyPcs 0, none⟩]

/-- A command engine's entry. -/
def isCeItem (i : TItem) : Bool := agentType i.src == 5 && i.mark.isNone

/-- ABORT on CMDTR (R391): records not yet accepted by a funnel. -/
def State.cmdtrAbort (s : State) : State :=
  let half := fun (s : State) (h : Nat) =>
    let f := s.fh h
    let keep := fun (i : TItem) => !isCeItem i
    let s := s.setFh h { f with inbox := f.inbox.filter (fun i => keep i.2), arrivals := f.arrivals.filter keep }
    s.discardEntries h Reg.CMDTR.STATUS.DISCARDS ((f.arrivals ++ f.inbox.map Prod.snd).filter isCeItem)
  let s := half (half s 0) 1
  (List.range 32).foldl (fun s k => s.discardWaiting (ceAgent k) Reg.CMDTR.STATUS.DISCARDS) s

/-- ABORT on FUNNEL (R425): the entries of the merge buffers. -/
def State.funnelAbort (s : State) : State :=
  let n := mergeCount (s.fh 0).merge + mergeCount (s.fh 1).merge
  (((s.dropMerge 0).dropMerge 1)).bumpBy Reg.FUNNEL.STATUS.DISCARDS n

/-- Work in flight on FLOW, CMDTR and FUNNEL (R390, R391, R425). -/
def State.flowBusy (s : State) : Bool :=
  s.trace.pcsOut.isSome || s.agents.any (fun e => cuOrCp (agentType e.1) && e.2.enc.waiting.any (fun i => i.mark.isNone))
def State.cmdtrBusy (s : State) : Bool :=
  [0, 1].any (fun h => (s.fh h).arrivals.any isCeItem || (s.fh h).inbox.any (fun i => isCeItem i.2))
  || s.agents.any (fun e => agentType e.1 == 5 && e.2.enc.waiting.any (fun i => i.mark.isNone))
def State.funnelBusy (s : State) : Bool :=
  mergeCount (s.fh 0).merge + mergeCount (s.fh 1).merge != 0 || (s.fh 0).fifo != [] || (s.fh 1).fifo != []

end Sys2Proof.Machine
end

