-- ==== Sys2Proof/Machine/Power.lean ====
section
/-! DEFINITION. The power ladder (chapter 16, R572 to R585): floors and limit, steps down, wakes and rises. -/

namespace Sys2Proof.Machine

/-! ### Floors and limit (R577, Table 16-3) -/

/-- A Millrace cut is in progress. -/
def State.millCutting (s : State) : Bool :=
  match s.cut.job with
  | some j => j.code == 9
  | none => false

/-- Work in flight on the MILLRACE page: SOURCE, a Millrace cut or a pending request; APPLY, a cut being received or applied or
a restore. -/
def State.millBusy (s : State) : Bool := s.millCutting || s.mill.pending || s.mill.cut.isSome || s.mill.restore.isSome

/-- A self-test runs (R597). -/
def State.testBusy (s : State) : Bool := s.test.test != 0

/-- A DATAWIN instance has WIN_COUNT non-zero. -/
def State.winBusy (s : State) : Bool := s.get (Reg.DATAWIN.WIN_COUNT 0) != 0 || s.get (Reg.DATAWIN.WIN_COUNT 1) != 0

/-- The WORK condition of Table 16-3. -/
def State.workFloor (s : State) : Bool :=
  s.cut.job.isSome || s.hopper.job.isSome || s.millBusy || s.hang.coll.isSome || s.testBusy || s.crash.capturing != []
  || s.winBusy || s.score.gathers != [] || s.score.snapWait != 0

/-- FLOOR_WHY (Table 16-3): bit 0 MILLRACE, 1 WORK, 2 TEAM, 3 BSL, 4 FROZEN. -/
def State.floorWhy (s : State) : Nat :=
  bit s.millRuns + 2 * bit s.workFloor + 4 * bit (s.get Reg.TEAM.ROLE.ROLE != 0) + 8 * bit (s.get Reg.PORT.BSL_STATUS.STATE == 2)
    + 16 * bit (s.get Reg.WHISTLE.STATE.STATE != wsRunning)

/-- The floor: the deepest state the conditions allow, W4 without a condition. -/
def State.floor (s : State) : Nat :=
  let w := s.floorWhy
  if w % 4 ≠ 0 then 0 else if w ≠ 0 then 2 else 4

/-- The limit of a descent toward `deep` (R577). -/
def State.limitOf (s : State) (deep : Nat) : Nat :=
  if s.cfg Reg.POWER.CTRL.ENABLE = 0 then 0 else min deep s.floor

/-- CURRENT_STATE.LIMIT (R577). -/
def State.limit (s : State) : Nat :=
  let t := s.cfg Reg.POWER.TARGET_STATE.STATE
  s.limitOf (if s.cfg Reg.POWER.AUTO_CTRL.EN = 1 then max t (s.cfg Reg.POWER.AUTO_CTRL.DEEPEST) else t)

/-! ### Steps down (R578 to R580) -/

/-- Every encoder goes to OFF with its flush (R417). -/
def State.encodersOff (s : State) : State :=
  s.agents.foldl (fun t e =>
    if cuOrCp (agentType e.1) ∧ (t.agent e.1).enc.state ≠ encOff then
      (if t.encIsOn e.1 then t.encFlush e.1 else t).modEnc e.1 (fun c => { c with state := encOff })
    else t) s

/-- What a step from W0 starts with (Table 16-4): encoders OFF with their flush, PC sampling stopped, the funnels' flush, and a
MANUAL close of every enabled tap. -/
def State.leaveW0 (s : State) : State :=
  let s := s.encodersOff
  let s := { s with trace := { s.trace with pcsOut := none } }
  let s := (s.setFh 0 { s.fh 0 with flushing := true }).setFh 1 { s.fh 1 with flushing := true }
  s.tapLeaveW0

/-- A step down starts, unless one or a rise is in progress, a wake source waits, or the state is the deepest allowed. -/
def State.stepStart (s : State) (limit : Nat) : State :=
  if s.pow.step.isSome ∨ s.pow.rise.isSome ∨ s.pow.wakes ≠ [] ∨ limit ≤ s.power then s
  else
    let s' := if s.power = 0 then s.leaveW0 else if s.power = 2 then { s with wheel := { s.wheel with clockNext := some true } } else s
    ({ s' with pow := { s'.pow with step := some (s.power + 1, s.fc) } }).put Reg.POWER.CURRENT_STATE.MOVING 1

/-- The descent of a TARGET_STATE write takes its next step as soon as the floor allows it and the previous step has ended
(R579). -/
def State.descendStep (s : State) : State :=
  if s.pow.descend.isSome then
    let t := s.get Reg.POWER.TARGET_STATE.STATE
    if t ≤ s.power then { s with pow := { s.pow with descend := none } } else s.stepStart (s.limitOf t)
  else s

/-- The idle boundary is judged and counted (R578). -/
def State.idleJudge (s : State) : State :=
  let idle := !s.anyCommand && !s.pow.arose && !s.workFloor
  let s := { s with pow := { s.pow with arose := false } }
  if idle then s.bump Reg.POWER.IDLE_REVS.COUNT else s.put Reg.POWER.IDLE_REVS.COUNT 0

/-- R578: IDLE_REVS consecutive idle boundaries have passed: the hub descends one step toward the limit. -/
def execIdleDescent (s : State) : Host.Outcome State Fault Refusal :=
  .next (if s.cfg Reg.POWER.IDLE_REVS.REVS ≤ s.get Reg.POWER.IDLE_REVS.COUNT ∧ s.power < s.limit then s.stepStart s.limit else s)

/-- CURRENT_STATE changes. -/
def State.setPower (s : State) (v : Nat) : State :=
  let s := (s.put Reg.POWER.CURRENT_STATE.PREV s.power).put Reg.POWER.CURRENT_STATE.STATE v
  s.put Reg.POWER.IDLE_REVS.COUNT 0

/-! ### Wake and rise (R581 to R584) -/

/-- The least exit time of a state in fc (Table 16-1). -/
def exitFc (st : Nat) : Nat := if st = 1 then 12 else if st = 2 then 240 else if st = 3 then 2400 else if st = 4 then 24000 else 0

/-- The cause code of a wake source (Table 16-5). -/
def wakeCode : WakeCause → Nat
  | .access => wkAccess
  | .fatal => wkFatal
  | .cam => wkCam
  | .command => wkCommand
  | .bsl => wkBsl
  | .target => wkTarget

/-- The Wheel goes on with FAB_CLK, or goes back to it (R575). -/
def State.wheelToFab (s : State) : State :=
  { s with wheel := { s.wheel with clockNext := if s.get Reg.WHEEL.TIMEBASE_SEL.AON = 1 then some false else none } }

/-- A step down in progress is abandoned (R581): the funnels go on as before, and the Wheel stays with FAB_CLK. -/
def State.stepAbandon (s : State) : State :=
  let reached := s.pow.left.filter (fun e => e.1 == s.fc)
  let left := reached.orElse (fun _ => s.pow.step.map (fun e => (s.fc, e.1, false)))
  let s := if s.pow.step.any (fun e => e.1 == 3) then s.wheelToFab else s
  let s := { s with pow := { s.pow with step := none, left := left } }
  let s := (s.setFh 0 { s.fh 0 with flushing := false }).setFh 1 { s.fh 1 with flushing := false }
  (s.put Reg.POWER.CURRENT_STATE.MOVING 0).put Reg.POWER.IDLE_REVS.COUNT 0

/-- A rise toward state `reach` starts, with its cause code; a rise in progress goes at least as far. It starts from the state a step
abandoned in its last fc would have reached (Table 16-6). -/
def State.riseStart (s : State) (reach code : Nat) : State :=
  let s := if s.pow.step.isSome then s.stepAbandon else s
  match s.pow.rise with
  | some (a, f, r, w) => { s with pow := { s.pow with rise := some (a, f, min r reach, w) } }
  | none =>
    let a := match s.pow.left with
      | some (f, t, true) => if f = s.fc then t else s.power
      | _ => s.power
    if a ≤ reach then s
    else
      let s := { s with pow := { s.pow with rise := some (a, s.fc, reach, decide (a < 3)) } }
      (s.put Reg.POWER.WAKE_SOURCES.LAST code).raise Reg.POWER.EVENT.WAKE

/-- R581, R582: a wake source that arose raises the hub to W0; a descent set in motion before this fc ends. SYNC on the BSL
arises here, in W3 only. -/
def execWake (cause : WakeCause) (s : State) : Host.Outcome State Fault Refusal :=
  let code := wakeCode cause
  let arises := s.pow.wakes.contains code || (code == wkBsl && s.power == 3 && s.wakeEnabled wkBsl)
  .next (if arises then
    let s := { s with pow := { s.pow with wakes := s.pow.wakes.erase code, arose := true
                                          descend := if s.pow.descend = some s.fc then s.pow.descend else none } }
    s.riseStart 0 code
  else s)

/-- R580: the step down in progress has done its work: the state changes. A step from W0 waits for the funnels and, up to 8,192 fc,
for the results of the taps' closes (R468), one from W1 for
the rollup, one from W2 for the Wheel to pass to AON_CLK. A floor raised meanwhile raises the hub again, and a wake source of this
fc abandons the step and leaves from the deeper state (Table 16-6). -/
def execStepDownDone (s : State) : Host.Outcome State Fault Refusal :=
  .next (match s.pow.step with
  | none =>
    match s.pow.left, s.pow.rise with
    | some (f, t, false), some (_, g, r, w) =>
      if f = s.fc then { s with pow := { s.pow with left := none, rise := some (t, g, r, w && decide (t < 3)) } } else s
    | _, _ => s
  | some (t, f) =>
    let ready := if t = 1 then
        (!s.tapResultsDue || decide (f + 8192 ≤ s.fc)) && mergeCount (s.fh 0).merge + mergeCount (s.fh 1).merge == 0 && (s.fh 0).arrivals == [] && (s.fh 1).arrivals == [] && (s.fh 0).fifo == [] && (s.fh 1).fifo == []
      else if t = 2 then s.score.rollup.isNone
      else if t = 3 then s.get Reg.WHEEL.TIMEBASE_SEL.AON == 1
      else true
    if ready ∧ s.pow.wakes ≠ [] then { s with pow := { s.pow with left := some (s.fc, t, true) } }
    else if ready then
      let s := { s with pow := { s.pow with step := none, stagingLost := s.pow.stagingLost || decide (3 ≤ t) } }
      let s := (s.setFh 0 { s.fh 0 with flushing := false }).setFh 1 { s.fh 1 with flushing := false }
      let s := (s.put Reg.POWER.CURRENT_STATE.MOVING 0).setPower t
      let s := s.raise Reg.POWER.EVENT.STATE
      if s.floor < t then s.riseStart s.floor wkTarget else s.descendStep
    else s)

/-- The hub reaches W2 on a rise from W3 or W4: FAB_CLK runs again, and the Wheel passes to it at a notch boundary (R575, R576). -/
def State.riseW2 (s : State) : State :=
  match s.pow.rise with
  | some (a, f, r, false) =>
    let s := { s with pow := { s.pow with rise := some (a, f, r, true) } }
    (s.setPower 2).wheelToFab
  | _ => s

/-- The free bytes that replace what the staging SRAM held (R575). -/
def State.freeBytes : Nat → State → List Byte × State
  | 0, s => ([], s)
  | n + 1, s =>
    let (w, s) := s.free
    let (l, s) := State.freeBytes n s
    (BitVec.ofNat 8 (w.toNat % 256) :: l, s)

/-- The rise ends (R583): LAST_EXIT_FC, and the work of the state reached: watchdogs reload on the return to W1, the staging
SRAM and Hopper buffers hold free values after a stay in W3 or W4, and in W0 the waiting fatal errors and Cam actions are
issued (R479, R575, R584). -/
def State.riseEnd (s : State) : State :=
  let s := s.riseW2
  match s.pow.rise with
  | none => s
  | some (a, f, r, _) =>
    let s := { s with pow := { s.pow with rise := none, wakes := [] } }
    let s := s.setPower r
    let s := (s.put Reg.POWER.LAST_EXIT_FC.FROM a).put Reg.POWER.LAST_EXIT_FC.FC (s.fc - f)
    let s := if 2 ≤ a ∧ r ≤ 1 then s.wdReload else s
    if r = 0 then
      let s := if s.pow.stagingLost then
          let (l, s) := State.freeBytes s.cut.record.length s
          let (o, s) := State.freeBytes s.hopper.out.length s
          { s with cut := { s.cut with record := l }, hopper := { s.hopper with out := o }, pow := { s.pow with stagingLost := false } }
        else s
      s.fatalWaiting.camsAtW0
    else s

/-- The rise has lasted the least exit time of the state it left. -/
def State.riseDue (s : State) : Bool :=
  match s.pow.rise with
  | some (a, f, _, _) => decide (f + exitFc a ≤ s.fc)
  | none => false

/-- TARGET_STATE.RESULT codes. -/
def ptAccepted : Nat := 1
def ptBusy : Nat := 2
def ptClamped : Nat := 3
def ptParity : Nat := 4

/-- A write of TARGET_STATE (R579, Table 16-6). -/
def State.targetState (s : State) (data : Nat) : State :=
  if s.tossActive then s.put Reg.POWER.TARGET_STATE.RESULT ptBusy
  else if ¬ s.parityOk Slot.POWER then s.put Reg.POWER.TARGET_STATE.RESULT ptParity
  else
    let v := min 4 (data % 8)
    let s := s.put Reg.POWER.TARGET_STATE.STATE v
    let s := s.put Reg.POWER.TARGET_STATE.RESULT (if s.power < v ∧ s.floor < v then ptClamped else ptAccepted)
    if s.power < v then ({ s with pow := { s.pow with descend := some s.fc } }).descendStep
    else
      let s := { s with pow := { s.pow with descend := none } }
      if v < s.power then ({ s with pow := { s.pow with arose := true } }).riseStart v wkTarget else s

/-- A write of CTRL.ENABLE on the POWER page: 0 is a wake source (Table 16-5). -/
def State.powerEnable (s : State) (v : Nat) : State :=
  if v = 0 ∧ (s.power ≠ 0 ∨ s.pow.step.isSome) then
    ({ s with pow := { s.pow with descend := none, arose := true } }).riseStart 0 wkTarget
  else s

/-- ABORT on POWER (Table 16-6): the step down is abandoned and the hub waits for the next idle count. -/
def State.powerAbort (s : State) : State × Bool :=
  match s.pow.step with
  | none => (s, false)
  | some _ =>
    let s := { s with pow := { s.pow with descend := none } }
    (s.stepAbandon.bump Reg.POWER.STATUS.DISCARDS, true)

end Sys2Proof.Machine
end

