-- ==== Sys2Proof/Machine/Revolution.lean ====
section
/-! DEFINITION. The Wheel's own events: boundaries, marks and the sub-notch calibration (chapter 3), and what the rest of the
hub does at each revolution boundary. -/

namespace Sys2Proof.Machine

/-- A background calibration runs again after 4,096 revolutions (R130). -/
def State.calDue (s : State) : State :=
  if s.wheel.sel = 2 ∧ s.get Reg.WHEEL.SOURCE.STATE = wheelLocked ∧ s.cfg Reg.WHEEL.SUBNOTCH_CAL.AUTO = 1 ∧ ¬ s.wheel.calRunning
      ∧ s.wheel.calTurn + 4096 ≤ s.wheel.turns then s.calStart else s

/-- A manager sends a WHEEL message in the first fc of each revolution (R511). -/
def State.wheelSend (s : State) : State :=
  if s.get Reg.TEAM.ROLE.ROLE = 1 ∧ s.power ≤ 2 then s.ringSend true 1 0 s.wheel.rev else s

/-- What a revolution boundary brings elsewhere: RESIDENCY (R583), the idle judgement (R578), the revolution and firmware
watchdogs (R475, R476), the REVOLUTION closes of the taps (R462), the WHEEL message (R511) and the repeated calibration
(R130). -/
def State.boundary (s : State) : State :=
  let s := s.bumpWrap (Reg.POWER.RESIDENCY.REVS s.power) 1
  (((s.idleJudge).wdBoundary).tapBoundary).wheelSend.calDue

/-- R121: the Wheel ends its revolution by itself at length L. -/
def execWheelBoundary (s : State) : Host.Outcome State Fault Refusal :=
  let w := s.wheel
  .next (if w.len ≤ w.k then (s.startRev (w.k - w.len) w.nextCount true).boundary else s)

/-- R119: an edge on WHEEL_SYNC_IN becomes a mark 3 fc later, plus PIN_TRIM. -/
def execWheelSyncInEdge (s : State) : Host.Outcome State Fault Refusal :=
  .next { s with wheel := { s.wheel with pinMarks := s.wheel.pinMarks ++ [s.fc + 3 + s.cfg Reg.WHEEL.SUBNOTCH_CAL.PIN_TRIM] } }

/-- A mark of the source in effect, and the boundary it makes. -/
def State.takeMarkAt (s : State) (age : Nat) (ring : Option Nat) : State :=
  let (s, made) := s.mark age ring
  if made then s.boundary else s

/-- R122: the oldest mark on its way from the pin is due; it counts only while the pin is the source in effect, and is handled at
an edge of the Wheel's clock (R129). -/
def execWheelMark (s : State) : Host.Outcome State Fault Refusal :=
  .next (match s.wheel.pinMarks.find? (fun f => decide (f ≤ s.fc) && s.wheelEdge) with
  | none => s
  | some f =>
    let s := { s with wheel := { s.wheel with pinMarks := s.wheel.pinMarks.erase f } }
    if s.wheel.sel = 1 then s.takeMarkAt (s.fc - f) none else s)

/-- R124: no mark by fc W after a boundary that the Wheel made itself. -/
def execMarkMissed (s : State) : Host.Outcome State Fault Refusal := .next s.missMark

/-- R131: the calibration in progress has its round trip: half of it is the ring delay. -/
def execSubnotchCalibrationDone (s : State) : Host.Outcome State Fault Refusal :=
  .next (match s.wheel.calRunning, s.team.rtt with
  | true, some d =>
    let s := { s with wheel := { s.wheel with calRunning := false }, team := { s.team with rtt := none } }
    let s := s.put Reg.WHEEL.SUBNOTCH_CAL.RING_DELAY (min d 65535)
    (s.put Reg.WHEEL.SUBNOTCH_CAL.VALID 1).raise Reg.WHEEL.EVENT.CAL_DONE
  | _, _ => s)

/-- ABORT on WHEEL (R152): a running calibration is discarded. -/
def State.wheelAbort (s : State) : State × Bool :=
  if s.wheel.calRunning then
    let s := { s with wheel := { s.wheel with calRunning := false }, team := { s.team with rtt := none, probe := none } }
    (s.bump Reg.WHEEL.STATUS.CAL_DISCARDS, true)
  else (s, false)

/-- WHEEL_SYNC_OUT is high: for 64 fc from the first fc of every revolution (R128). DESIGN CHOICE (assumption log): a revolution
that a RING mark begins has its first fc in the mark's own fc, RING_DELAY before the mark is learned. -/
def State.syncOut (s : State) : Bool := decide (s.fc < s.wheel.startFc + 64)

end Sys2Proof.Machine
end

