-- ==== Sys2Proof/Machine/Faults.lean ====
section
/-! DEFINITION. Integrity (chapter 17): the fault classes, HUB_FAULT_N, and the errors of the hub's SRAMs. -/

namespace Sys2Proof.Machine

/-! ### HUB_FAULT_N (R605 to R611) -/

/-- The C2 fault bits of Table 17-4. -/
def c2Faults : List Fld :=
  [Hdr.FAULT_PARITY Slot.HUB, Hdr.FAULT_PARITY Slot.GUARD, Hdr.FAULT_PARITY Slot.WHISTLE, Hdr.FAULT_PARITY Slot.MILLRACE,
   Hdr.FAULT_PARITY Slot.TEAM, Hdr.FAULT_UE Slot.MILLRACE, Reg.CUT.FAULT.TALLY, Reg.MILLRACE.FAULT.TALLY,
   Reg.SCORE.FAULT.COUNTER, Reg.SCORE.FAULT.ROLLUP, Reg.WHISTLE.FAULT.BOUND, Reg.WHISTLE.FAULT.NO_ACK,
   Reg.WHISTLE.FAULT.PROTOCOL, Reg.WHISTLE.FAULT.SKID_OVF, Reg.MASTER.FAULT.MM_TIMEOUT]

/-- HUB_FAULT_N is asserted (low): a C2 fault stands now or stood at the start of this fc, a C3 fault is latched, or a C4
assertion awaits CRASH.RELEASE (Table 17-3, R608, R609). -/
def State.faultPin (s : State) : Bool :=
  c2Faults.any (fun f => s.get f == 1 || s.cfg f == 1) || s.crash.latched || s.crash.asserts != []

/-! ### SRAM errors (R599 to R602) -/

/-- The page slot that owns an SRAM (Table 17-1). -/
def sramPage : SramKind → Nat
  | .staging => Slot.CUT
  | .reload => Slot.MILLRACE
  | .trace | .merge => Slot.FUNNEL
  | .crash => Slot.CRASH
  | .history => Slot.CMDTR
  | .edge => Slot.HANG
  | .hopper => Slot.HOPPER

/-- Words of 8 bytes in one half's SRAM (Table 17-1); the reload image is part of the staging SRAM. -/
def sramWords : SramKind → Nat
  | .staging | .reload => 262144
  | .trace | .hopper => 524288
  | .merge => 1024
  | .crash => 32768
  | .history | .edge => 4096

/-- The number under which the patrol keeps an SRAM's place. -/
def sramKey (x : Sram) : Nat :=
  2 * (match x.kind with
    | .staging | .reload => 0
    | .trace => 1
    | .merge => 2
    | .crash => 3
    | .history => 4
    | .edge => 5
    | .hopper => 6) + halfNo x.half

/-- ECC_LAST takes an error; of the errors of one fc it keeps the one of the lowest page type code, UE before corrected. -/
def State.eccLast (s : State) (x : Sram) (word : Nat) (ue : Bool) : State :=
  let order := 2 * sramPage x.kind + bit (!ue)
  let keep : Bool := match s.integ.ecc with
    | some (f, o) => f == s.fc && decide (o ≤ order)
    | none => false
  if keep then s
  else
    let s := { s with integ := { s.integ with ecc := some (s.fc, order) } }
    let s := (s.put Reg.GUARD.ECC_LAST.VALID 1).put Reg.GUARD.ECC_LAST.UE (bit ue)
    let s := s.put Reg.GUARD.ECC_LAST.HALF (halfNo x.half)
    (s.put Reg.GUARD.ECC_LAST.PAGE (sramPage x.kind + 1)).put Reg.GUARD.ECC_LAST.WORD word

/-- The word's error has been reported in this fc: a patrol read and a requester's read report a single error (R602). -/
def State.eccSeen (s : State) (x : Sram) (word : Nat) : Bool := s.integ.seenFc == s.fc && s.integ.seen.contains (sramKey x, word)

/-- Note the word among those reported in this fc. -/
def State.eccNote (s : State) (x : Sram) (word : Nat) : State :=
  let l := if s.integ.seenFc = s.fc then s.integ.seen else []
  { s with integ := { s.integ with seen := (sramKey x, word) :: l, seenFc := s.fc } }

/-- A correctable error: counted, recorded, corrected (R600). -/
def State.sramCorrected (s : State) (x : Sram) (word : Nat) : State :=
  if s.eccSeen x word then s else ((s.eccNote x word).bump Reg.GUARD.ECC_CE.COUNT).eccLast x word false

/-- An uncorrectable error (R601): FAULT.UE on the owning page. -/
def State.sramUncorrected (s : State) (x : Sram) (word : Nat) : State :=
  if s.eccSeen x word then s else ((s.eccNote x word).fault (sramPage x.kind) 1 (word % 65536)).eccLast x word true

/-- The types that have a storage (Table 1-5). -/
def storeOk (st : UnitStore) (t : Nat) : Bool :=
  match st with
  | .queue | .skid => linkType t
  | .shadow => t != 0
  | .accumulator => t == 1
  | .scratchpad => t == 2

/-- A unit or its agent corrects an error in its storage (R39): A_AON2, and for a scratchpad MU_ECC_COUNT and event 0x44. -/
def Agent.unitCorrected (g : Agent) (fc : Nat) (st : UnitStore) : Agent :=
  let g := { g with aon2 := (g.aon2 + 1) % 2 ^ 32 }
  if st = .scratchpad then (g.put AReg.MU_ECC_COUNT (satAdd (g.get AReg.MU_ECC_COUNT) 1 65535)).count fc 0x44 1 else g

/-- A unit or its agent finds an uncorrectable error in its storage (R39): A_AON3; one in the shadow latch is a parity error of
it (Table 1-22). -/
def Agent.unitUncorrected (g : Agent) (fc : Nat) (st : UnitStore) : Agent :=
  let g := { g with aon3 := (g.aon3 + 1) % 2 ^ 32 }
  if st = .shadow then g.fault fc 1 0 else g

/-- R600, R39: a read finds a correctable error, in a hub SRAM or in a unit's storage. -/
def execSramCorrectedError (place : EccPlace) (word : Nat) (s : State) : Host.Outcome State Fault Refusal :=
  match place with
  | .hub m => .next (s.sramCorrected m word)
  | .unit a st => onAgent a (storeOk st) (s.modAgent a.toNat (fun g => g.unitCorrected s.fc st))

/-- A UE of the crash store during a capture adds a syndrome entry of kind 1 to its record (Table 17-1). -/
def State.ueCrash (s : State) (word : Nat) : State :=
  match s.crash.capturing with
  | [] => s
  | k :: _ => match s.crash.slot k with
    | none => s
    | some r =>
      let (l, s) := s.syndrome r.syndromes (Slot.CRASH + 1) 1 word
      { s with crash := s.crash.setSlot k { r with syndromes := l.take 64 } }

/-- What a UE does to the reader (Table 17-1): a record takes its UE flag, the reload image is spoilt, a page job ends UE; which
block it was at is a free value. -/
def State.ueConsumed (s : State) (k : SramKind) (word : Nat) : State :=
  let mark := fun (s : State) => match s.cut.job with
    | some j => { s with cut := { s.cut with job := some { j with ue := true } } }
    | none => s
  match k with
  | .staging => mark s
  | .reload => { s with mill := { s.mill with imageUe := true } }
  | .hopper =>
    if s.hopper.job.isSome then
      let (d, s) := s.free
      s.hopFail hcUe (d.toNat % 512)
    else mark s
  | .crash => s.ueCrash word
  | _ => s

/-- R601, R39: a read finds a UE, in a hub SRAM or in a unit's storage; a UE found in a token is FATAL_ERROR's, which counts it
itself. -/
def execSramUe (place : EccPlace) (word : Nat) (s : State) : Host.Outcome State Fault Refusal :=
  match place with
  | .hub m => .next ((s.sramUncorrected m word).ueConsumed m.kind word)
  | .unit a st => onAgent a (storeOk st) (s.modAgent a.toNat (fun g => g.unitUncorrected s.fc st))

/-- R602: the patrol reads its next word of an SRAM, at most one in 16 fc, in W0 and W1; `found` says that it meets a corrected
error (false) or a UE (true). -/
def execPatrolRead (sram : Sram) (found : Option Bool) (s : State) : Host.Outcome State Fault Refusal :=
  let k := sramKey sram
  let (w, last) := Sparse.get s.integ.patrol k (0, 0)
  .next (if s.power ≤ 1 ∧ s.isReady ∧ (last + 16 ≤ s.fc ∨ ¬ Sparse.has s.integ.patrol k) then
    let s := { s with integ := { s.integ with patrol := Sparse.ins s.integ.patrol k ((w + 1) % sramWords sram.kind, s.fc) } }
    match found with
    | none => s
    | some false => s.sramCorrected sram w
    | some true =>
      let s := s.sramUncorrected sram w
      if sram.kind = .reload ∨ sram.kind = .crash then s.ueConsumed sram.kind w else s
  else s)

end Sys2Proof.Machine
end

