-- ==== Sys2Proof/Machine/Team.lean ====
section
/-! DEFINITION. The team hierarchy, the Passing Ring and the Halves (chapter 14). -/

namespace Sys2Proof.Machine

/-- ROLE values (R505). -/
def trSolo : Nat := 0
def trManager : Nat := 1
def trWorker : Nat := 2

/-- Message types (Table 14-2). -/
def mtWheel : Nat := 1
def mtHeartbeat : Nat := 2
def mtXwhistle : Nat := 3
def mtFailover : Nat := 4
def mtCensus : Nat := 5
def mtProbe : Nat := 6
def mtEcho : Nat := 7

/-- The hub's role and member ID. -/
def State.teamRole (s : State) : Nat := s.get Reg.TEAM.ROLE.ROLE
def State.memberId (s : State) : Nat := s.get Reg.TEAM.MEMBER_ID.ID
def State.manager (s : State) : Nat := s.get Reg.TEAM.MEMBER_COUNT.MANAGER

/-- Payload byte 6 + `i` of a message (Table 14-3). -/
def payloadByte (m : RingMsg) (i : Nat) : Nat := m.payload.toNat / 256 ^ i % 256

/-- Member `m`'s MISSING bit. -/
def State.isMissing (s : State) (m : Nat) : Bool := testBit (s.get (Reg.TEAM.MISSING (m / 32))) (m % 32)

/-- Write member `m`'s MISSING bit. -/
def State.setMissing (s : State) (m : Nat) (b : Bool) : State :=
  s.put (Reg.TEAM.MISSING (m / 32)) (setBit (s.get (Reg.TEAM.MISSING (m / 32))) (m % 32) b)

/-! ### The ring (R505 to R510) -/

/-- A lane sends a message: 0 east, 1 west. -/
def State.laneSend (s : State) (lane : Nat) (m : RingMsg) : State :=
  let old := if s.team.txFc = s.fc then s.team.tx else []
  { s with team := { s.team with tx := old ++ [(lane, m)], txFc := s.fc } }

/-- A lane comes up or goes down (R509, R510): EVENT.RING_CHANGE, and a manager runs a census. -/
def State.laneChange (s : State) (east up : Bool) : State :=
  let s := s.put (if east then Reg.TEAM.RING_STATUS.EAST_UP else Reg.TEAM.RING_STATUS.WEST_UP) (bit up)
  let s := s.raise Reg.TEAM.EVENT.RING_CHANGE
  if s.teamRole = trManager then { s with team := { s.team with censusDue := true } } else s

/-- A valid message has arrived on a lane (R510). -/
def State.laneAlive (s : State) (east : Bool) : State :=
  if east then
    let s := { s with team := { s.team with eastFc := s.fc } }
    if s.get Reg.TEAM.RING_STATUS.EAST_UP = 0 then s.laneChange true true else s
  else
    let s := { s with team := { s.team with westFc := s.fc } }
    if s.get Reg.TEAM.RING_STATUS.WEST_UP = 0 then s.laneChange false true else s

/-- A heartbeat of member `o` is acted on (R518, R520, R521). -/
def State.heartbeat (s : State) (o : Nat) (m : RingMsg) : State :=
  let s := if payloadByte m 0 % 2 = 0 then
      let h := Sparse.get s.team.heard o (s.fc, s.fc)
      let s := { s with team := { s.team with heard := Sparse.ins s.team.heard o (h.1, s.fc) } }
      if s.isMissing o then { s with team := { s.team with rejoin := s.team.rejoin ++ [o] } } else s
    else s
  if payloadByte m 1 = trManager ∧ s.teamRole = trManager then { s with team := { s.team with rivals := s.team.rivals ++ [o] } } else s

/-- The manager changes (R512): a calibration starts where the Wheel follows the ring with AUTO at 1. -/
def State.newManager (s : State) (o : Nat) : State :=
  if s.manager = o then s
  else
    let s := s.put Reg.TEAM.MEMBER_COUNT.MANAGER o
    if s.wheel.sel = 2 ∧ s.cfg Reg.WHEEL.SUBNOTCH_CAL.AUTO = 1 then s.calStart else s

/-- A census of member `o` is acted on (R509): MGR_HOPS, and the worker judges that manager from now on. -/
def State.censusSeen (s : State) (o hops : Nat) : State :=
  if s.teamRole = trWorker then
    let s := s.put Reg.TEAM.RING_STATUS.MGR_HOPS (min hops 255)
    let j := s.team.judged
    let s := { s with team := { s.team with judged := if Sparse.has j o then j else Sparse.ins j o s.fc } }
    s.newManager o
  else s

/-- The hub acts on a message it has not seen (R507, R508): the other types wait for their own commands. -/
def State.ringAct (s : State) (m : RingMsg) : State :=
  let o := m.origin.toNat
  let t := m.type.toNat
  if t = mtHeartbeat then s.heartbeat o m
  else if t = mtCensus then s.censusSeen o (m.hops.toNat + 1)
  else if t = 0 ∨ mtEcho < t then s
  else
    let s := { s with team := { s.team with inbox := s.team.inbox ++ [(s.fc, m)] } }
    if t = mtWheel ∧ s.teamRole = trManager then { s with team := { s.team with rivals := s.team.rivals ++ [o] } } else s

/-- The message as forwarded: HOPS plus 1, and a census that travels east counts this member. -/
def forwarded (m : RingMsg) (eastward : Bool) : RingMsg :=
  let m := { m with hops := m.hops + 1 }
  if m.type.toNat = mtCensus ∧ eastward then
    { m with payload := BitVec.ofNat 48 (m.payload.toNat / 256 * 256 + (payloadByte m 0 + 1) % 256) }
  else m

/-- R505, R507, R508: a message arrives on a lane. -/
def execRingMessage (lane : Lane) (msg : RingMsg) (s : State) : Host.Outcome State Fault Refusal :=
  let east := lane == .east
  .next (if 2 < s.power then s
  else if msg.crcOk = false then s.bump Reg.TEAM.RING_STATUS.CRC_ERRS
  else
    let s := s.laneAlive east
    let out := if east then 1 else 0
    if s.teamRole = trSolo then s.laneSend out msg
    else
      let o := msg.origin.toNat
      if o = s.memberId then s
      else
        let s := if msg.hops.toNat = 255 then s else s.laneSend out (forwarded msg (!east))
        let seen := Sparse.get s.team.seen o []
        if seen.contains msg.seq.toNat then s
        else
          let n := seen ++ [msg.seq.toNat]
          let s := { s with team := { s.team with seen := Sparse.ins s.team.seen o (n.drop (n.length - 256)) } }
          if msg.all ∨ msg.target.toNat = s.memberId then s.ringAct msg else s)

/-- The first waiting message of a type. -/
def State.ringFirst (s : State) (t : Nat) : Option (Nat × RingMsg) := s.team.inbox.find? (fun e => e.2.type.toNat == t)

/-- Take a message out of those that wait. -/
def State.ringTake (s : State) (e : Nat × RingMsg) : State :=
  { s with team := { s.team with inbox := s.team.inbox.erase e } }

/-- R511: a worker in RING takes the message as a mark and its revolution count, at an edge of the Wheel's clock (R129); everyone
else drops it. -/
def execWheelMessage (s : State) : Host.Outcome State Fault Refusal :=
  .next (match s.ringFirst mtWheel with
  | none => s
  | some e =>
    if ¬ s.wheelEdge then s
    else
    let s := s.ringTake e
    if s.teamRole = trWorker ∧ s.wheel.sel = 2 then
      s.takeMarkAt (s.fc - e.1 + s.cfg Reg.WHEEL.SUBNOTCH_CAL.RING_DELAY) (some e.2.payload.toNat)
    else s)

/-! ### Heartbeats and missing members (R517 to R520) -/

/-- The heartbeat payload (Table 14-3). -/
def State.beatPayload (s : State) : Nat :=
  bit s.faultPin + 2 * bit (s.get Reg.WHISTLE.STATE.STATE != wsRunning) + 4 * bit (s.get Reg.MILLRACE.STATUS.IMAGE == miReady)
    + 256 * s.teamRole + 65536 * (s.wheel.rev % 2 ^ 32)

/-- R517: a notch boundary that is a multiple of HEARTBEAT_NOTCH, at which no heartbeat has been sent. -/
def execHeartbeatSend (s : State) : Host.Outcome State Fault Refusal :=
  let n := s.wheel.notchCount
  .next (if s.teamRole ≠ trSolo ∧ s.wheel.notch % s.cfg Reg.TEAM.HEARTBEAT_NOTCH.NOTCHES = 0 ∧ s.team.lastBeat ≠ some n then
    let b := s.team.beats ++ [s.fc]
    let s := { s with team := { s.team with lastBeat := some n, beats := b.drop (b.length - 64) } }
    s.ringSend true mtHeartbeat 0 s.beatPayload
  else s)

/-- One FAILOVER message for member `m` (R523). -/
def State.sendFailover (s : State) (m : Nat) : State :=
  if s.cfg Reg.TEAM.CTRL.FAILOVER_EN = 1 then
    let s := s.ringSend true mtFailover 0 m
    let s := (s.put Reg.TEAM.FAILOVER_LAST.VALID 1).put Reg.TEAM.FAILOVER_LAST.RECEIVED 0
    let s := (s.put Reg.TEAM.FAILOVER_LAST.MEMBER m).bumpWrap Reg.TEAM.FAILOVER_LAST.COUNT 1
    s.raise Reg.TEAM.EVENT.FAILOVER
  else s

/-- The hub becomes manager: it runs a census (R509). -/
def State.becomeManager (s : State) : State :=
  { s.put Reg.TEAM.ROLE.ROLE trManager with team := { s.team with censusDue := true, rivals := [] } }

/-- Member `m` is found missing (R518, R522, R523). -/
def State.foundMissing (s : State) (m : Nat) : State :=
  let s := (s.setMissing m true).raise Reg.TEAM.EVENT.MISSING
  if s.teamRole = trManager then s.sendFailover m
  else if s.cfg Reg.TEAM.ROLE.DEPUTY = 1 ∧ m = s.manager then s.becomeManager.sendFailover m
  else s

/-- The hop count by which member `m` is judged: a manager's census count, a worker's MGR_HOPS for its manager. -/
def State.judgeHops (s : State) (m : Nat) : Option Nat :=
  if s.teamRole = trManager then (if Sparse.has s.team.hops m then some (Sparse.get s.team.hops m 0) else none)
  else if s.teamRole = trWorker ∧ m = s.manager then some (s.get Reg.TEAM.RING_STATUS.MGR_HOPS)
  else none

/-- The oldest boundary whose heartbeat of member `m` is due for judgment (R518). -/
def State.judgeDue (s : State) (m h : Nat) : Option Nat :=
  if Sparse.has s.team.judged m then
    s.team.beats.find? (fun b => decide (Sparse.get s.team.judged m 0 < b) && decide (b + 28 * h + 64 ≤ s.fc))
  else none

/-- R518: member `m`'s heartbeat of the oldest due boundary is judged; one that arrives in this very fc counts for the next
judgment, and clears a MISSING bit set now (Table 14-6). -/
def execHeartbeatJudge (m : Byte) (s : State) : Host.Outcome State Fault Refusal :=
  let n := m.toNat
  .next (match s.judgeHops n with
  | none => s
  | some h =>
    match s.judgeDue n h with
    | none => s
    | some b =>
      let heard := s.team.heard
      let (f, l) := Sparse.get heard n (s.fc, 0)
      let got := decide (f < s.fc)
      let heard := if l = s.fc then Sparse.ins heard n (l, l) else Sparse.del heard n
      let limit := s.cfg Reg.TEAM.MISS_LIMIT.LIMIT
      let count := if got then 0 else min (Sparse.get s.team.misses n 0 + 1) limit
      let s := { s with team := { s.team with heard := heard, judged := Sparse.ins s.team.judged n b
                                              misses := Sparse.set s.team.misses n count 0 } }
      if ¬ got ∧ limit ≤ count ∧ ¬ s.isMissing n then
        let s := s.foundMissing n
        if l = s.fc then { s with team := { s.team with rejoin := s.team.rejoin ++ [n] } } else s
      else s)

/-- R520: a missing member is heard again. -/
def execMemberRejoined (m : Byte) (s : State) : Host.Outcome State Fault Refusal :=
  let n := m.toNat
  .next (if s.team.rejoin.contains n then
    let s := { s with team := { s.team with rejoin := s.team.rejoin.filter (fun x => x != n) } }
    if s.isMissing n then (s.setMissing n false).raise Reg.TEAM.EVENT.REJOINED else s
  else s)

/-- R524, R525: a FAILOVER arrives: the fence of the named member, or the restore of its standby. -/
def execFailoverMessage (s : State) : Host.Outcome State Fault Refusal :=
  .next (match s.ringFirst mtFailover with
  | none => s
  | some e =>
    let s := s.ringTake e
    let m := payloadByte e.2 0
    let s := if m = s.memberId then (s.whistleReq ⟨1, 7, e.2.origin.toNat, 0, 0⟩).1 else s
    if s.cfg Reg.TEAM.MEMBER_ID.STANDBY_VALID = 1 ∧ s.cfg Reg.TEAM.MEMBER_ID.STANDBY_FOR = m then
      let s := s.restoreCmd 1
      let s := (s.put Reg.TEAM.FAILOVER_LAST.VALID 1).put Reg.TEAM.FAILOVER_LAST.RECEIVED 1
      let s := (s.put Reg.TEAM.FAILOVER_LAST.MEMBER m).bumpWrap Reg.TEAM.FAILOVER_LAST.COUNT 1
      s.raise Reg.TEAM.EVENT.FAILOVER
    else s)

/-! ### The cross-chip Whistle (R513 to R516) -/

/-- A member presents a cross-chip command (R514, Table 14-5). -/
def State.xwPresent (s : State) (code set origin : Nat) : State :=
  if code = 1 then (s.whistleReq ⟨1, 7, origin, 0, 0⟩).1
  else if code = 2 then (s.whistleReq ⟨4, 7, origin, 0, 0⟩).1
  else if code = 3 then (s.whistleReq ⟨6, 7, origin, 0, 0⟩).1
  else if code = 4 then s.cutCmd 1 set 7 origin
  else s

/-- The pending angle command is dropped. -/
def State.xwClear (s : State) : State :=
  { s with team := { s.team with pending := none } }.put Reg.TEAM.XWHISTLE_STATE.PENDING 0

/-- A position, as revolution [15:0] and sub-step, has reached a target (compared within half the range). -/
def reached (rev sub tRev tNotch : Nat) : Bool :=
  decide ((65536 * (rev % 65536) + sub + 2 ^ 32 - (65536 * tRev + tNotch * 16)) % 2 ^ 32 < 2 ^ 31)

/-- The position of the fc before this one (R138). -/
def State.lastPos (s : State) : Nat × Nat :=
  (if s.wheel.madeFc = some s.fc then s.wheel.prevRev else s.wheel.rev, s.wheel.lastSub)

/-- The angle command reaches its target in this fc or has reached it. -/
def State.angleDue (s : State) : Bool :=
  match s.team.pending with
  | some c => reached s.wheel.rev s.wheel.sub c.rev c.notch
  | none => false

/-- Present the pending angle command. -/
def State.anglePresent (s : State) : State :=
  match s.team.pending with
  | some c => s.xwClear.xwPresent c.code c.set c.origin
  | none => s

/-- An angle command becomes pending; the one it replaces is discarded, or presented where it is due (R516, Table 14-6). -/
def State.angleTake (s : State) (c : AngleCmd) : State :=
  let s := if s.angleDue then s.anglePresent
    else if s.team.pending.isSome then s.bump Reg.TEAM.STATUS.DISCARDS else s
  let s := { s with team := { s.team with pending := some c } }
  (s.put Reg.TEAM.XWHISTLE_STATE.PENDING 1).put Reg.TEAM.XWHISTLE_STATE.TARGET_REV c.rev

/-- R514 to R516: the XWHISTLE message of the lowest origin is presented, held or cancels. -/
def State.xwReceive (s : State) (m : RingMsg) : State :=
  let code := payloadByte m 0 % 8
  let set := payloadByte m 1 % 8
  let rev := m.payload.toNat / 2 ^ 16 % 65536
  let w := m.payload.toNat / 2 ^ 32
  let origin := m.origin.toNat
  let s := (s.put Reg.TEAM.XWHISTLE_STATE.FROM origin).put Reg.TEAM.XWHISTLE_STATE.CODE code
  let s := s.put Reg.TEAM.XWHISTLE_STATE.LATE 0
  if code = 5 then s.xwClear
  else if w / 2 ^ 15 % 2 = 0 then s.xwPresent code set origin
  else
    let notch := w % 4096
    let p := s.lastPos
    if reached p.1 p.2 rev notch then
      let s := (s.put Reg.TEAM.XWHISTLE_STATE.LATE 1).raise Reg.TEAM.EVENT.XW_LATE
      s.xwPresent code set origin
    else s.angleTake ⟨code, set, rev, notch, origin⟩

/-- The XWHISTLE message of the lowest origin (Table 14-6) among those that have had the 4 fc of delivery to the arbiter (Table
14-4). -/
def State.xwNext (s : State) : Option (Nat × RingMsg) :=
  (s.team.inbox.filter (fun e => e.2.type.toNat == mtXwhistle && decide (e.1 + 4 ≤ s.fc))).foldl (fun o e => match o with
    | none => some e
    | some b => if e.2.origin.toNat < b.2.origin.toNat then some e else some b) none

/-- R514: an XWHISTLE message arrives. -/
def execXwhistleMessage (s : State) : Host.Outcome State Fault Refusal :=
  .next (match s.xwNext with
  | none => s
  | some e => (s.ringTake e).xwReceive e.2)

/-- A FAILOVER that names this member has arrived and its fence is still to be presented (R525). -/
def State.fenceDue (s : State) : Bool :=
  s.team.inbox.any (fun e => e.2.type.toNat == mtFailover && payloadByte e.2 0 == s.memberId)

/-- R515: the position passes the target of the pending angle command; a fence that has arrived goes first (Table 14-6). -/
def execAngleCommandDue (s : State) : Host.Outcome State Fault Refusal :=
  .next (if s.angleDue ∧ ¬ s.fenceDue then s.anglePresent else s)

/-- XWHISTLE_CMD.RESULT codes (Table 14-7). -/
def xrSent : Nat := 1
def xrScheduled : Nat := 2
def xrBusy : Nat := 3
def xrRole : Nat := 4
def xrDisabled : Nat := 5
def xrNoEffect : Nat := 6
def xrParity : Nat := 7

/-- A write of XWHISTLE_CMD.CODE (R513 to R516, Table 14-5): the message goes out, and the originator presents, holds or
cancels its own. -/
def State.xwCmd (s : State) (code : Nat) : State :=
  let res := fun (s : State) (r : Nat) => s.put Reg.TEAM.XWHISTLE_CMD.RESULT r
  if s.tossActive then res s xrBusy
  else if ¬ s.parityOk Slot.TEAM then res s xrParity
  else if code = 0 ∨ 5 < code then res s xrNoEffect
  else if s.teamRole = trSolo then res s xrRole
  else if s.cfg Reg.TEAM.CTRL.ENABLE = 0 then res s xrDisabled
  else
    let set := s.get Reg.TEAM.XWHISTLE_CMD.SET
    let notch := s.get Reg.TEAM.XWHISTLE_CMD.NOTCH
    let at1 := s.get Reg.TEAM.XWHISTLE_CMD.AT_ANGLE
    let rev := (s.wheel.rev + 2) % 65536
    let s := s.ringSend true mtXwhistle 0 (code + 256 * set + 65536 * rev + 2 ^ 32 * (2 ^ 15 * at1 + notch))
    if code = 5 then res s.xwClear xrSent
    else if at1 = 0 then res (s.xwPresent code set s.memberId) xrSent
    else res (s.angleTake ⟨code, set, rev, notch, s.memberId⟩) xrScheduled

/-! ### The census (R509, R510) -/

/-- R509: a manager with a census due sends it round the ring. -/
def execCensus (s : State) : Host.Outcome State Fault Refusal :=
  .next (if s.teamRole = trManager ∧ s.team.censusDue then
    ({ s with team := { s.team with censusDue := false, census := some s.fc } }).ringSend true mtCensus 0 1
  else s)

/-- R509: the census has come round: each other member with its hops on the shorter working path, and whether an ID was
seen twice. -/
def execCensusDone (members : List (Byte × Byte)) (dup : Bool) (s : State) : Host.Outcome State Fault Refusal :=
  .next (if s.teamRole = trManager ∧ s.team.census.isSome then
    let hops : Sparse Nat := members.foldl (fun m e => Sparse.ins m e.1.toNat e.2.toNat) []
    let judged := hops.foldl (fun j e => if Sparse.has j e.1 then j else Sparse.ins j e.1 s.fc) s.team.judged
    let s := { s with team := { s.team with census := none, hops := hops, judged := judged } }
    let s := (s.put Reg.TEAM.MEMBER_COUNT.VALID 1).put Reg.TEAM.MEMBER_COUNT.COUNT (hops.length + 1)
    let s := s.put Reg.TEAM.MEMBER_COUNT.MANAGER s.memberId
    let s := s.put Reg.TEAM.RING_STATUS.FAR_HOPS (hops.foldl (fun n e => max n e.2) 0)
    let s := s.put Reg.TEAM.RING_STATUS.MGR_HOPS 0
    let s := s.put Reg.TEAM.RING_STATUS.CHAIN
      (bit (s.get Reg.TEAM.RING_STATUS.EAST_UP == 0 || s.get Reg.TEAM.RING_STATUS.WEST_UP == 0))
    let s := s.raise Reg.TEAM.EVENT.CENSUS_DONE
    if dup then s.fault Slot.TEAM 10 0 else s
  else s)

/-- R512: a manager answers the oldest PROBE with an ECHO; everyone else drops it. -/
def execProbe (s : State) : Host.Outcome State Fault Refusal :=
  .next (match s.ringFirst mtProbe with
  | none => s
  | some e =>
    let s := s.ringTake e
    if s.teamRole = trManager then s.ringSend false mtEcho e.2.origin.toNat (e.2.payload.toNat % 65536) else s)

/-- R130: the ECHO of the outstanding PROBE has come: half the round trip is kept. -/
def execEcho (s : State) : Host.Outcome State Fault Refusal :=
  .next (match s.ringFirst mtEcho with
  | none => s
  | some e =>
    let s := s.ringTake e
    match s.team.probe with
    | some (n, f) =>
      if n = e.2.payload.toNat % 65536 then
        { s with team := { s.team with probe := none, rtt := some ((e.1 - f) / 2) } }
      else s
    | none => s)

/-- R510: a lane has delivered no valid message for 4,096 fc. -/
def execLaneDown (lane : Lane) (s : State) : Host.Outcome State Fault Refusal :=
  .next (match lane with
  | .east => if s.get Reg.TEAM.RING_STATUS.EAST_UP = 1 ∧ s.team.eastFc + 4096 ≤ s.fc then s.laneChange true false else s
  | .west => if s.get Reg.TEAM.RING_STATUS.WEST_UP = 1 ∧ s.team.westFc + 4096 ≤ s.fc then s.laneChange false false else s)

/-- R521: another manager has been heard: the higher member ID becomes WORKER. -/
def execManagerToss (rival : Byte) (s : State) : Host.Outcome State Fault Refusal :=
  let r := rival.toNat
  .next (if s.team.rivals.contains r then
    let s := { s with team := { s.team with rivals := s.team.rivals.filter (fun x => x != r) } }
    if s.teamRole = trManager ∧ r < s.memberId then
      let s := { s with team := { s.team with census := none, censusDue := false, rivals := [] } }
      let s := (s.put Reg.TEAM.ROLE.ROLE trWorker).put Reg.TEAM.ROLE.DEMOTED 1
      let s := s.bump Reg.TEAM.TOSS_LOG.MGR_TOSSES
      let s := (s.put Reg.TEAM.TOSS_LOG.CAUSE 4).put Reg.TEAM.TOSS_LOG.RIVAL r
      (s.raise Reg.TEAM.EVENT.TOSS).newManager r
    else s
  else s)

/-- A write of ROLE (R505): it takes effect in the next fc; DEMOTED clears. -/
def State.roleWrite (s : State) (role : Nat) : State :=
  { s with team := { s.team with roleNext := some (if role = 3 then 0 else role, s.fc) } }.put Reg.TEAM.ROLE.DEMOTED 0

/-- A ROLE write of an earlier fc takes effect; a hub that becomes manager runs a census (R509). -/
def State.roleTick (s : State) : State :=
  match s.team.roleNext with
  | some (r, f) =>
    if f < s.fc then
      let was := s.teamRole
      let s := { s with team := { s.team with roleNext := none } }.put Reg.TEAM.ROLE.ROLE r
      if r = trManager ∧ was ≠ trManager then { s with team := { s.team with censusDue := true } } else s
    else s
  | none => s

/-- A write of CTRL.CENSUS_NOW (R509): manager only. -/
def State.censusNow (s : State) : State :=
  if s.teamRole = trManager then { s with team := { s.team with censusDue := true } } else s

/-- ABORT on TEAM (R528): the pending angle command is discarded. -/
def State.teamAbort (s : State) : State × Bool :=
  if s.team.pending.isSome then (s.xwClear.bump Reg.TEAM.STATUS.DISCARDS, true) else (s, false)

/-! ### The Halves (R497 to R504) -/

/-- R497: a Half finds its partner silent. -/
def execPartnerSilent (half : Half) (s : State) : Host.Outcome State Fault Refusal :=
  .next { s with halves := { s.halves with silent := some (halfNo half) } }

/-- Write the two CLAIM bits. -/
def State.claims (s : State) (north south : Nat) : State :=
  (s.put Reg.TEAM.HALF_STATUS.NORTH_CLAIM north).put Reg.TEAM.HALF_STATUS.SOUTH_CLAIM south

/-- R498, R504: a Toss starts; the fifth of one revolution is a storm, which latches HUB_FAULT_N. -/
def execTossStart (cause : TossCause) (s : State) : Host.Outcome State Fault Refusal :=
  let c := match cause with
    | .bothClaim => 1
    | .noneClaim => 2
    | .partnerSilent => 3
  .next (if s.halves.toss.isSome ∨ (c = 3 ∧ s.halves.silent = none) then s
  else
    let n := if s.halves.tossTurn = s.wheel.turns then s.halves.tossCount + 1 else 1
    let s := { s with halves := { s.halves with toss := some (c, s.fc, false), tossTurn := s.wheel.turns, tossCount := n } }
    let s := if c = 1 then s.claims 1 1 else if c = 2 then s.claims 0 0 else s
    let s := s.put Reg.HUB.ROLE.TOSS_ACTIVE 1
    if n = 5 then
      let s := { s with halves := { s.halves with storm := true }, crash := { s.crash with latched := true } }
      s.fault Slot.TEAM 9 0
    else s)

/-- R499: the decision in fc 6: the surviving Half, else the lower fused half-ID. -/
def execTossDecision (s : State) : Host.Outcome State Fault Refusal :=
  .next (match s.halves.toss with
  | some (c, f, false) =>
    if f + 6 ≤ s.fc then
      let win := if c = 3 then s.halves.silent.getD 0 else s.get Reg.TEAM.HALF_STATUS.TOSS_PREF
      let s := { s with halves := { s.halves with toss := some (c, f, true) } }
      (s.put Reg.HUB.ROLE.LEAD_HALF win).claims (1 - win) win
    else s
  | _ => s)

/-- R503: a lost Half, or a storm, stays until reset. -/
def State.halfLost (s : State) : State :=
  let s := { s with halves := { s.halves with lost := true }, crash := { s.crash with latched := true } }
  s.fault Slot.TEAM 8 0

/-- R501 to R504: the Toss ends. -/
def execTossEnd (s : State) : Host.Outcome State Fault Refusal :=
  .next (match s.halves.toss with
  | some (c, f, true) =>
    if f + 7 ≤ s.fc then
      let win := s.get Reg.HUB.ROLE.LEAD_HALF
      let wait := s.team.waiting
      let s := { s with halves := { s.halves with toss := none }, team := { s.team with waiting := [] } }
      let s := (s.put Reg.HUB.ROLE.TOSS_ACTIVE 0).put Reg.TEAM.HALF_STATUS.LANE_OWNER win
      let s := wait.foldl (fun (s : State) (m : Bool × Nat × Nat × Nat) => s.ringSend m.1 m.2.1 m.2.2.1 m.2.2.2) s
      let s := (s.bump Reg.TEAM.TOSS_LOG.HALF_TOSSES).put Reg.TEAM.TOSS_LOG.CAUSE c
      let s := (s.put Reg.TEAM.TOSS_LOG.WINNER win).raise Reg.TEAM.EVENT.TOSS
      if c = 3 then
        (s.put (if win = 0 then Reg.HUB.HALVES.SOUTH_OK else Reg.HUB.HALVES.NORTH_OK) 0).halfLost
      else if s.halves.storm ∧ ¬ s.halves.lost then s.halfLost
      else s
    else s
  | _ => s)

end Sys2Proof.Machine
end

