-- ==== Sys2Proof/Machine/Auth.lean ====
section
/-! DEFINITION. Debug authentication (R560 to R568): SHA-256 and HMAC-SHA-256 over bytes, and the commands of the GUARD
page's AUTH registers. -/

namespace Sys2Proof.Machine

/-! ### SHA-256 and HMAC (the algorithm R562 names) -/

/-- The largest x below x0 + 2^n with x^k ≤ m, from x0 up, bit by bit. -/
def rootFrom (k m : Nat) : Nat → Nat → Nat
  | 0, x => x
  | n + 1, x => rootFrom k m n (if (x + 2 ^ n) ^ k ≤ m then x + 2 ^ n else x)

/-- The first 32 fraction bits of the k-th root of a prime below 512. -/
def rootFraction (k p : Nat) : Word := BitVec.ofNat 32 (rootFrom k (p * 2 ^ (32 * k)) 37 0)

/-- The 64 primes below 312. -/
def shaPrimes : List Nat :=
  (List.range 312).filter (fun n => decide (2 ≤ n) && [2, 3, 5, 7, 11, 13, 17].all (fun d => n == d || n % d != 0))

/-- The round constants come from cube roots. -/
def shaK : List Word := shaPrimes.map (rootFraction 3)

/-- Word `i` of a block or digest; the last word is number 0. -/
def wordOf {n : Nat} (x : BitVec n) (i : Nat) : Word := (x >>> (32 * i)).setWidth 32

/-- A word placed as word `i` of a digest. -/
def asWord (w : Word) (i : Nat) : BitVec 256 := w.setWidth 256 <<< (32 * i)

/-- The initial digest comes from square roots. -/
def shaInit : BitVec 256 := (shaPrimes.take 8).foldl (fun x p => x <<< 32 ||| asWord (rootFraction 2 p) 0) 0

/-- Three rotations of a word, combined. -/
def spin (x : Word) (p q r : Nat) : Word := x.rotateRight p ^^^ x.rotateRight q ^^^ x.rotateRight r

/-- Two rotations and a shift of a word, combined. -/
def smear (x : Word) (p q r : Nat) : Word := x.rotateRight p ^^^ x.rotateRight q ^^^ (x >>> r)

/-- The sixteen words of the message schedule in use move on by one: the oldest leaves at the top. -/
def shaSlide (m : BitVec 512) : BitVec 512 :=
  m <<< 32 ||| (smear (wordOf m 1) 17 19 10 + wordOf m 6 + smear (wordOf m 14) 7 18 3 + wordOf m 15).setWidth 512

/-- One round on the working digest, a as word 7 to h as word 0, with the round's constant plus its schedule word. -/
def shaRound (v : BitVec 256) (kw : Word) : BitVec 256 :=
  let e := wordOf v 3
  let a := wordOf v 7
  let pick := wordOf v 1 ^^^ (e &&& (wordOf v 2 ^^^ wordOf v 1))
  let most := (a &&& wordOf v 6) ||| (wordOf v 5 &&& (a ||| wordOf v 6))
  let t := wordOf v 0 + spin e 6 11 25 + pick + kw
  asWord (t + spin a 2 13 22 + most) 7 ||| asWord a 6 ||| asWord (wordOf v 6) 5 ||| asWord (wordOf v 5) 4
    ||| asWord (wordOf v 4 + t) 3 ||| asWord e 2 ||| asWord (wordOf v 2) 1 ||| asWord (wordOf v 1) 0

/-- Digests added word by word. -/
def addWords (x y : BitVec 256) : BitVec 256 := (List.range 8).foldl (fun r i => r ||| asWord (wordOf x i + wordOf y i) i) 0

/-- The digest after one more block. -/
def shaBlock (h : BitVec 256) (m : BitVec 512) : BitVec 256 :=
  addWords h (shaK.foldl (fun (p : BitVec 256 × BitVec 512) k => (shaRound p.1 (k + wordOf p.2 15), shaSlide p.2)) (h, m)).1

/-- SHA-256 of a message of bytes: the message, a one bit, zeros and its length fill whole blocks. -/
def sha256 (m : List Byte) : BitVec 256 :=
  let n := m.length
  let blocks := (n + 72) / 64
  let num := m.foldl (fun x b => 256 * x + b.toNat) 0
  let all := (256 * num + 128) * 256 ^ (64 * blocks - n - 1) + 8 * n
  (List.range blocks).foldl (fun h i => shaBlock h (BitVec.ofNat 512 (all / 2 ^ (512 * (blocks - 1 - i))))) shaInit

/-- The bytes of a digest, first byte first. -/
def digestBytes (d : BitVec 256) : List Byte := (List.range 32).map (fun i => BitVec.ofNat 8 (d.toNat / 256 ^ (31 - i)))

/-- HMAC-SHA-256 under a 32-byte key. -/
def hmac (key m : List Byte) : List Byte :=
  let pad := fun (x : Byte) => (key ++ List.replicate 32 0).map (fun b => b ^^^ x)
  digestBytes (sha256 (pad 0x5C ++ digestBytes (sha256 (pad 0x36 ++ m))))

/-- The bytes of eight words, byte k at bits 8k+7 to 8k of the 256-bit value (R562). -/
def bytesOfWords (l : List Word) : List Byte :=
  l.flatMap (fun w => [0, 1, 2, 3].map (fun (i : Nat) => BitVec.ofNat 8 (w.toNat / 256 ^ i)))

/-- The bytes of the key as the fuses hold it. -/
def keyBytes (k : BitVec 256) : List Byte := (List.range 32).map (fun i => BitVec.ofNat 8 (k.toNat / 256 ^ i))

/-! ### The port level -/

/-- Eight words of a run of registers. -/
def State.words8 (s : State) (f : Nat → Fld) : List Word := (List.range 8).map (fun n => BitVec.ofNat 32 (s.get (f n)))

/-- GUARD.PORT_LEVEL changes (R567). -/
def State.setPortLevel (s : State) (v : Nat) : State :=
  if s.get Reg.GUARD.PORT_LEVEL.LEVEL = v then s
  else (s.put Reg.GUARD.PORT_LEVEL.LEVEL v).raise Reg.PORT.EVENT.LEVEL

/-- AUTH_STATUS.RESULT codes (Table 2-8). -/
def auReady : Nat := 1
def auGranted : Nat := 2
def auRefused : Nat := 3
def auBadCmd : Nat := 4
def auLocked : Nat := 5

/-- One second in fc (R564, R565). -/
def authSecond : Nat := 600000000

/-- Any challenge is closed. -/
def State.authClose (s : State) : State :=
  { s with auth := { s.auth with challenge := none } }.put Reg.GUARD.AUTH_STATUS.LEVEL 0

/-- Set RESULT. -/
def State.authResult (s : State) (r : Nat) : State := s.put Reg.GUARD.AUTH_STATUS.RESULT r

/-- The port is locked out (R565). -/
def State.authLockout (s : State) : Bool :=
  match s.auth.lockout with
  | some e => decide (s.fc < e)
  | none => false

/-- A write of AUTH_CMD that passes its checks (R101, R561 to R566). -/
def State.authCmd (s : State) (data : Nat) : State :=
  let drop := testBit data 10
  let submit := testBit data 9
  let chal := testBit data 8
  let level := data % 4
  if s.get Reg.GUARD.AUTH_STATUS.BUSY = 1 then s
  else if 1 < bit drop + bit submit + bit chal then s.authResult auBadCmd
  else if drop then s.setPortLevel 0
  else if chal then
    if s.authLockout then s.authResult auLocked
    else if level = 0 then s.authResult auBadCmd
    else { s with auth := { s.auth with drawing := some level } }.put Reg.GUARD.AUTH_STATUS.BUSY 1
  else if submit then
    match s.auth.challenge with
    | none => s.authResult auBadCmd
    | some (_, f) =>
      if f + authSecond < s.fc then s.authClose.authResult auBadCmd
      else { s with auth := { s.auth with checking := some (s.words8 Reg.GUARD.AUTH_RESP) } }.put Reg.GUARD.AUTH_STATUS.BUSY 1
  else s

/-- Write the eight words of AUTH_CHAL. -/
def State.putChal (s : State) (chal : BitVec 256) : State :=
  (List.range 8).foldl (fun s n => s.put (Reg.GUARD.AUTH_CHAL n) (chal.toNat / 2 ^ (32 * n))) s

/-- R561: the random source has drawn a challenge: it is open. -/
def execChallengeReady (chal : BitVec 256) (s : State) : Host.Outcome State Fault Refusal :=
  .next (match s.auth.drawing with
  | none => s
  | some level =>
    let s := { s with auth := { s.auth with drawing := none, challenge := some (level, s.fc) } }
    let s := (s.putChal chal).put Reg.GUARD.AUTH_STATUS.LEVEL level
    (s.authResult auReady).put Reg.GUARD.AUTH_STATUS.BUSY 0)

/-- The expected response (R562, R568): the MAC of the challenge and the level. -/
def State.expected (s : State) (level : Nat) : List Byte :=
  hmac (keyBytes (if s.get Reg.PORT.PAGE_CAPS.KEY_BLANK = 1 then 0 else s.auth.key))
    (bytesOfWords (s.words8 Reg.GUARD.AUTH_CHAL) ++ [BitVec.ofNat 8 level])

/-- Whether a response is granted its level (R563, R568, R611). -/
def State.authGrants (s : State) (level : Nat) (resp : List Word) : Bool :=
  !s.auth.fuseFail && !(s.get Reg.PORT.PAGE_CAPS.KEY_BLANK == 1 && level == 3) && bytesOfWords resp == s.expected level

/-- R563, R565: the check ends and closes the challenge. -/
def execAuthCheckDone (s : State) : Host.Outcome State Fault Refusal :=
  .next (match s.auth.checking, s.auth.challenge with
  | some resp, some (level, _) =>
    let ok := s.authGrants level resp
    let s := { s with auth := { s.auth with checking := none } }.authClose.put Reg.GUARD.AUTH_STATUS.BUSY 0
    if ok then ({ s with auth := { s.auth with refusals := 0 } }.setPortLevel level).authResult auGranted
    else
      let n := s.auth.refusals + 1
      let s := { s with auth := { s.auth with refusals := n
                                              lockout := if 8 ≤ n then some (s.fc + authSecond) else s.auth.lockout } }
      (s.bump Reg.GUARD.AUTH_STATUS.FAILS).authResult auRefused
  | _, _ => s)

/-- R565: the lockout has lasted its second. -/
def execLockoutExpire (s : State) : Host.Outcome State Fault Refusal :=
  .next (match s.auth.lockout with
  | some e => if e ≤ s.fc then { s with auth := { s.auth with lockout := none } } else s
  | none => s)

end Sys2Proof.Machine
end

