-- ==== Sys2Proof/Machine/Port.lean ====
section
/-! DEFINITION. The Basene Serial Link (R533 to R547) and the TAP (R548 to R552): everything but the register accesses that
they make. -/

namespace Sys2Proof.Machine

/-! ### Interrupts and EVENT frames (R91, R546) -/

/-- Page `p` requests its interrupt (R91). -/
def State.pageIrq (s : State) (p : Nat) : Bool :=
  s.get (Hdr.CTRL_IRQ_EN p) == 1
    && ((s.word (0x4000 * p + 0x10) &&& s.get (Hdr.EVENT_EN p)) != 0 || s.word (0x4000 * p + 0x18) != 0)

/-- HUB.IRQ_SUMMARY: bit t for the page of type t. -/
def State.irqSummary (s : State) : Nat := (List.range 24).foldl (fun n p => n + 2 ^ (p + 1) * bit (s.pageIrq p)) 0

/-- The HUB_IRQ line of a page (R98). -/
def State.irqRoute (s : State) (p : Nat) : Nat :=
  let d := if p = Slot.WHISTLE ∨ p = Slot.HANG ∨ p = Slot.CRASH then 1
    else if p = Slot.MILLRACE ∨ p = Slot.TEAM then 2 else if p = Slot.PORT then 3 else 0
  Sparse.get s.bank.irqRoutes p d

/-- HUB_IRQ[`n`] is asserted (R98). -/
def State.irqLine (s : State) (n : Nat) : Bool := (List.range 24).any (fun p => s.irqRoute p == n && s.pageIrq p)

/-- `n` events are queued, or merged into the queued one; `mbox` tells which kind. -/
def State.queueEvent (s : State) (n : Nat) (mbox : Bool) : State :=
  if n = 0 then s
  else
    let e := match s.bsl.event with
      | none => (n - 1, mbox, !mbox)
      | some (c, m, i) => (c + n, m || mbox, i || !mbox)
    { s with bsl := { s.bsl with event := some e } }

/-- The rises of IRQ_SUMMARY since the EVENT logic last looked (R546). -/
def State.eventNote (s : State) : State :=
  let now := s.irqSummary
  let en := 2 * s.cfg Reg.PORT.EVFRAME_EN.PAGE
  let n := ((List.range 25).filter (fun t => testBit now t && !testBit s.bsl.irqSeen t && testBit en t)).length
  { s with bsl := { s.bsl with irqSeen := now } }.queueEvent n false

/-! ### Sending -/

/-- STATE values. -/
def lsTraining : Nat := 1
def lsUp : Nat := 2
def lsDisabled : Nat := 3

/-- The link's state. -/
def State.link (s : State) : Nat := s.get Reg.PORT.BSL_STATUS.STATE

/-- The link is up and its receiver hears the host. -/
def State.bslHears (s : State) : Bool :=
  s.link == lsUp && decide (s.power ≤ 2) && s.cfg Reg.PORT.BSL_CTRL.LOOPBACK == 0

/-- What was sent in an earlier fc is forgotten. -/
def State.bslFresh (s : State) : State :=
  if s.bsl.setsFc = s.fc then s else { s with bsl := { s.bsl with sets := [], sent := [], setsFc := s.fc } }

/-- Send an ordered set: kind 0 ACK, 1 NAK, 2 CRD, with its number. -/
def State.bslSet (s : State) (kind n : Nat) : State :=
  let s := s.bslFresh
  { s with bsl := { s.bsl with sets := s.bsl.sets ++ [(kind, n)] } }

/-- Acknowledge every frame accepted so far (R540). -/
def State.bslAck (s : State) : State := s.bslSet 0 ((s.bsl.rxSeq + 255) % 256)

/-- Send the oldest ready frame (R540, R544). -/
def State.bslSendOne (s : State) (f : BslFrame) (rest : List BslFrame) : State :=
  let s := s.bslFresh
  let b := s.bsl
  let acked := if b.unacked = [] then s.fc else b.ackFc
  let b := { b with out := rest, txSeq := (b.txSeq + 1) % 256, unacked := b.unacked ++ [(b.txSeq, f)]
                    sent := b.sent ++ [(b.txSeq, f)], ackFc := acked }
  { s with bsl := b }.put Reg.PORT.BSL_STATUS.CREDITS (s.get Reg.PORT.BSL_STATUS.CREDITS - 1)

/-- Send ready frames while credits and places last, at most `n`. -/
def State.bslFlushN : Nat → State → State
  | 0, s => s
  | n + 1, s =>
    match s.bsl.out with
    | f :: rest =>
      if s.link = lsUp ∧ s.get Reg.PORT.BSL_STATUS.CREDITS ≠ 0 ∧ s.bsl.unacked.length < 8 then
        State.bslFlushN n (s.bslSendOne f rest)
      else s
    | [] => s

/-- Send what can be sent. -/
def State.bslFlush (s : State) : State := State.bslFlushN s.bsl.out.length s

/-- A frame is ready. -/
def State.bslReady (s : State) (f : BslFrame) : State := { s with bsl := { s.bsl with out := s.bsl.out ++ [f] } }.bslFlush

/-- Replay from the oldest unacknowledged frame (R541). -/
def State.bslReplay (s : State) : State :=
  if s.bsl.unacked = [] then s
  else
    let s := s.bslFresh
    let b := s.bsl
    { s with bsl := { b with replays := b.replays + 1, ackFc := s.fc, sent := b.sent ++ b.unacked } }.bump
      Reg.PORT.BSL_RETRIES.COUNT

/-! ### Link state (R542, R545) -/

/-- BSL_STATUS.STATE changes: EVENT.LINK. -/
def State.setLink (s : State) (v : Nat) : State :=
  if s.link = v then s else (s.put Reg.PORT.BSL_STATUS.STATE v).raise Reg.PORT.EVENT.LINK

/-- The link leaves UP or training (R542, R567): frames and requests are discarded, and the level drops. -/
def State.linkDown (s : State) (st : Nat) : State :=
  let was := s.link
  let b := s.bsl
  let s := { s with bsl := { b with rxSeq := 0, txSeq := 0, unacked := [], replays := 0, reqs := [], out := [] }
                    bank := { s.bank with held := s.bank.held.filter (fun a => a.via != 1)
                                          busy := s.bank.busy.map (fun (a : Access) => if a.via = 1 then { a with via := 3 } else a) } }
  let s := (s.put Reg.PORT.BSL_STATUS.CREDITS 0).setLink st
  if was = lsUp ∧ s.cfg Reg.PORT.BSL_CTRL.DROP_ON_DOWN = 1 then s.setPortLevel 0 else s

/-- R542: a frame has been replayed REPLAY_MAX times without progress, or symbol lock is lost. -/
def execBslLinkDown (cause : DownCause) (s : State) : Host.Outcome State Fault Refusal :=
  let due : Bool := match cause with
    | .replays => decide (s.cfg Reg.PORT.BSL_CTRL.REPLAY_MAX ≤ s.bsl.replays) && s.bsl.unacked != []
    | .symbolLock => true
  .next (if s.link = lsUp ∧ due then s.linkDown lsTraining else s)

/-- R545: training has ended: the link is up, and the host has 8 request credits (R543). -/
def execBslLinkUp (s : State) : Host.Outcome State Fault Refusal :=
  .next (if s.link = lsTraining ∧ s.power ≤ 2 then
    ((s.setLink lsUp).put Reg.PORT.BSL_STATUS.PROTO_ERR 0).bslSet 2 8
  else s)

/-- A write of BSL_CTRL (Table 15-13): EN 0 disables the link, EN 1 or RETRAIN trains it. -/
def State.bslCtrl (s : State) (en retrain : Bool) : State :=
  if !en then s.linkDown lsDisabled
  else if s.link = lsDisabled then s.setLink lsTraining
  else if retrain then s.linkDown lsTraining
  else s

/-! ### Receiving -/

/-- R536: a frame that is not intact is discarded and refused. -/
def execBslFrameDiscard (s : State) : Host.Outcome State Fault Refusal :=
  .next (if s.bslHears then (s.bslSet 1 s.bsl.rxSeq).bump Reg.PORT.BSL_CRC_ERRS.COUNT else s)

/-- R540: the host acknowledges the frames up to `seq`. -/
def execAck (seq : Byte) (s : State) : Host.Outcome State Fault Refusal :=
  let n := seq.toNat
  .next (if s.bslHears ∧ s.bsl.unacked.any (fun e => e.1 == n) then
    let left := (s.bsl.unacked.dropWhile (fun e => e.1 != n)).drop 1
    { s with bsl := { s.bsl with unacked := left, replays := 0, ackFc := s.fc } }.bslFlush
  else s)

/-- R541: the host asks for a replay. -/
def execNak (seq : Byte) (s : State) : Host.Outcome State Fault Refusal :=
  let _ := seq
  .next (if s.bslHears then s.bslReplay else s)

/-- R544: the host grants credits. -/
def execCrd (n : Byte) (s : State) : Host.Outcome State Fault Refusal :=
  .next (if s.bslHears then
    (s.put Reg.PORT.BSL_STATUS.CREDITS (min 255 (s.get Reg.PORT.BSL_STATUS.CREDITS + n.toNat))).bslFlush
  else s)

/-- R541: no ACK within ACK_TIMEOUT × 256 fc. -/
def execAckTimeout (s : State) : Host.Outcome State Fault Refusal :=
  .next (if s.link = lsUp ∧ s.bsl.unacked ≠ [] ∧ s.bsl.ackFc + 256 * s.cfg Reg.PORT.BSL_CTRL.ACK_TIMEOUT ≤ s.fc then s.bslReplay
  else s)

/-- R546: the queued EVENT is built and sent with a credit, at most one in 1,024 fc. -/
def execEventFrame (s : State) : Host.Outcome State Fault Refusal :=
  let s := if s.bsl.event.isNone then s.eventNote else s
  let late : Bool := match s.bsl.eventFc with
    | some f => decide (f + 1024 ≤ s.fc)
    | none => true
  .next (match s.bsl.event with
  | some (c, m, i) =>
    if s.link = lsUp ∧ late ∧ s.bsl.out = [] ∧ s.get Reg.PORT.BSL_STATUS.CREDITS ≠ 0 ∧ s.bsl.unacked.length < 8 then
      let w : List Word := [BitVec.ofNat 32 (65536 * min c 65535 + 2 * bit m + bit i), BitVec.ofNat 32 s.irqSummary,
        BitVec.ofNat 32 s.wheel.posLo, BitVec.ofNat 32 s.wheel.posHi]
      { s with bsl := { s.bsl with event := none, eventFc := some s.fc } }.bslReady ⟨10, 0, 0, w⟩
    else s
  | none => s)

/-! ### Performing requests (R537 to R539) -/

/-- The word offset a request reads or writes next. -/
def BslReq.off (r : BslReq) : Nat := if r.type = 4 then 0x5804C + 0x40 * (r.word % 2) else 4 * r.word

/-- What its next access does. -/
def BslReq.kind (r : BslReq) : AccKind :=
  if r.type = 2 then .write (r.data.headD 0) else if r.type = 3 then .peek else .read

/-- The next access of the oldest request; none while one is presented or the output buffer is full (R544). -/
def State.bslNext (s : State) : Option Access :=
  match s.bsl.reqs with
  | r :: _ => if r.asked ∨ r.left = 0 ∨ 2 ≤ s.bsl.out.length then none else some ⟨.bsl, r.off, r.kind, 1⟩
  | [] => none

/-- The oldest request's access is presented. -/
def State.bslAsked (s : State) : State :=
  match s.bsl.reqs with
  | r :: rest => { s with bsl := { s.bsl with reqs := { r with asked := true } :: rest } }
  | [] => s

/-- The oldest request ends with its RESP, and the host gets a credit back (R538, R543). -/
def State.bslEnd (s : State) (r : BslReq) (err : Bool) : State :=
  let s := { s with bsl := { s.bsl with reqs := s.bsl.reqs.drop 1 } }
  let count : List Word := [BitVec.ofNat 32 r.done]
  let s := if r.type = 4 ∧ r.got ≠ [] then s.bslReady ⟨9, 0, 0, r.got⟩ else s
  let s := s.bslReady ⟨8, bit err, r.tag, if r.type = 2 ∨ r.type = 4 then count else r.got⟩
  s.bslSet 2 1

/-- Requests at the front that ask for no word end at once. -/
def State.bslEmptyN : Nat → State → State
  | 0, s => s
  | n + 1, s =>
    match s.bsl.reqs with
    | r :: _ => if r.left = 0 ∧ ¬ r.asked then State.bslEmptyN n (s.bslEnd r false) else s
    | [] => s
def State.bslEmpty (s : State) : State := State.bslEmptyN s.bsl.reqs.length s

/-- An access of the oldest request has its answer (R537 to R539). -/
def State.bslAnswer (s : State) (a : Resp) : State :=
  match s.bsl.reqs with
  | [] => s
  | r :: rest =>
    if a.err ∨ (a.range ∧ r.type = 4) then (s.bslEnd r a.err).bslEmpty
    else
      let got := if r.type = 2 then r.got else r.got ++ [a.data]
      let r := { r with asked := false, left := r.left - 1, done := r.done + 1, data := r.data.drop 1, got := got
                        word := if r.inc ∧ r.type ≠ 4 then (r.word + 1) % 2 ^ 17 else r.word }
      if r.left = 0 then (s.bslEnd r false).bslEmpty
      else if r.type = 4 ∧ got.length = 128 then
        { s with bsl := { s.bsl with reqs := { r with got := [] } :: rest } }.bslReady ⟨9, 0, 0, got⟩
      else { s with bsl := { s.bsl with reqs := r :: rest } }

/-- A request frame arrives intact (R541, R543): taken in sequence with a credit, else acknowledged, refused or discarded. -/
def State.bslArrive (s : State) (seq : Nat) (r : BslReq) : State :=
  if ¬ s.bslHears then s
  else if seq = s.bsl.rxSeq then
    if 8 ≤ s.bsl.reqs.length then s.put Reg.PORT.BSL_STATUS.PROTO_ERR 1
    else
      let b := s.bsl
      { s with bsl := { b with rxSeq := (b.rxSeq + 1) % 256, reqs := b.reqs ++ [r] } }.bslAck.bslEmpty
  else if (s.bsl.rxSeq + 255 - seq) % 256 < 128 then s.bslAck
  else s.bslSet 1 s.bsl.rxSeq

/-! ### The TAP (R548 to R552) -/

/-- The instruction codes of Table 15-9 that the hub acts on. -/
def irIdcode : Nat := 0x01
def irRegacc : Nat := 0x10

/-- IDCODE (R549). -/
def idcode : Nat := 0x10009B47

/-- An access of the TAP has its answer: it is there at the next capture, unless a TAP reset discarded it (R552). -/
def State.tapAnswer (s : State) (a : Resp) : State :=
  let j := s.jtag
  let s := (s.put Reg.PORT.TAP_STATUS.PENDING 0).put Reg.PORT.TAP_STATUS.ERROR (bit a.err)
  let s := s.bumpWrap Reg.PORT.TAP_STATUS.ACCESSES 1
  if j.drop then { s with jtag := { j with drop := false, status := 3, word := 0, data := 0, write := false } }
  else { s with jtag := { j with status := bit a.err, data := if j.write then 0 else a.data.toNat } }

/-- REGACC as captured (Table 15-10). -/
def State.regaccCapture (s : State) : Nat :=
  let j := s.jtag
  2 ^ 51 * (j.status / 2) + 2 ^ 50 * (j.status % 2) + 2 ^ 49 * bit j.overrun + 2 ^ 32 * j.word + j.data

/-- The access that an Update-DR presents, if any, and the TAP with it outstanding (R550). -/
def State.regaccUpdate (s : State) (dr : BitVec 52) : State × Option Access :=
  if s.get Reg.PORT.TAP_STATUS.IR ≠ irRegacc then (s, none)
  else
    let d := dr.toNat
    let op := d / 2 ^ 49 % 4
    let word := d / 2 ^ 32 % 2 ^ 17
    let s := { s with jtag := { s.jtag with overrun := false } }
    if op = 0 ∨ op = 3 then (s, none)
    else if s.jtag.status = 2 then
      ({ s with jtag := { s.jtag with overrun := true } }.raise Reg.PORT.TAP_STATUS.OVERRUN, none)
    else
      let kind : AccKind := if op = 2 then .write (BitVec.ofNat 32 d) else if testBit d 51 then .peek else .read
      let s := { s with jtag := { s.jtag with status := 2, word := word, data := 0, write := op == 2, drop := false } }
      (s.put Reg.PORT.TAP_STATUS.PENDING 1, some ⟨.tap, 4 * word, kind, 2⟩)

/-- R548: Update-IR loads an instruction. -/
def execInstructionRegisterUpdate (ir : BitVec 5) (s : State) : Host.Outcome State Fault Refusal :=
  .next (s.put Reg.PORT.TAP_STATUS.IR ir.toNat)

/-- R548, R552: the TAP is reset: IDCODE, and the result of an outstanding access is discarded. -/
def execTapReset (s : State) : Host.Outcome State Fault Refusal :=
  let j := s.jtag
  let j := if j.status = 2 then { j with drop := true } else { j with overrun := false, status := 3, word := 0, data := 0 }
  .next ({ s with jtag := j }.put Reg.PORT.TAP_STATUS.IR irIdcode)

end Sys2Proof.Machine
end

