-- ==== Sys2Proof/Machine/SelfTest.lean ====
section
/-! DEFINITION. Self-test and calibration (chapter 16, R591 to R597). -/

namespace Sys2Proof.Machine

/-! ### Units (Table 16-9) -/

/-- Units per half of a test. -/
def testUnits (t : Nat) : Nat := if t = 4 then 32 else 16

/-- Time per unit in fc. -/
def testTime (t : Nat) : Nat := if t = 1 then 327680 else if t = 2 then 163840 else if t = 3 then 20480 else 8192

/-- RESULT.OUTCOME values. -/
def toPass : Nat := 1
def toFail : Nat := 2
def toPreempted : Nat := 3
def toStopped : Nat := 4

/-- The unit under test in half `h`. -/
def SelfTest.unit (t : SelfTest) (h : Nat) : Option Nat := if h = 0 then t.north else t.south

/-- Write it, with the fc in which it was taken out of service. -/
def SelfTest.setUnit (t : SelfTest) (h : Nat) (u : Option Nat) (fc : Nat) : SelfTest :=
  if h = 0 then { t with north := u, northFc := fc } else { t with south := u, southFc := fc }

/-- Bytes of a list set to 0 where `p` holds of their index. -/
def zeroWhere (p : Nat → Bool) : Nat → List Byte → List Byte
  | _, [] => []
  | i, b :: l => (if p i then 0 else b) :: zeroWhere p (i + 1) l

/-- What a unit held is lost (R593): the bank's entries, its part of the staging SRAM, or of the crash store. -/
def State.zeroUnit (s : State) (h u : Nat) : State :=
  let t := s.test.test
  if t = 1 then
    let f := s.fh h
    s.setFh h { f with buf := f.buf.filter (fun e => e.1 / 16384 != u) }
  else if t = 2 then
    let bank := 16 * h + u
    { s with cut := { s.cut with record := zeroWhere (fun i => i / 131072 % 32 == bank) 0 s.cut.record } }
  else if t = 3 then { s with crash := if h = 0 then { s.crash with rec0 := none } else { s.crash with rec1 := none } }
  else s

/-- Half `h` takes unit `u` out of service, or is done (R591, R593). -/
def State.takeUnit (s : State) (h : Nat) (u : Option Nat) : State :=
  let s := { s with test := s.test.setUnit h u s.fc }
  let v := bit u.isSome
  let n := u.getD 0
  let s := if h = 0 then
      ((s.put Reg.SELFTEST.BANK_OFFLINE.NORTH_VALID v).put Reg.SELFTEST.BANK_OFFLINE.NORTH n).put Reg.SELFTEST.STATE.NORTH_UNIT n
    else
      ((s.put Reg.SELFTEST.BANK_OFFLINE.SOUTH_VALID v).put Reg.SELFTEST.BANK_OFFLINE.SOUTH n).put Reg.SELFTEST.STATE.SOUTH_UNIT n
  match u with
  | some k => s.zeroUnit h k
  | none => s

/-- The test ends once no unit is out of service. -/
def State.testEndIf (s : State) : State :=
  if s.test.north.isSome ∨ s.test.south.isSome then s
  else
    let o := s.test.ending.getD (if s.test.failed then toFail else toPass)
    let s := { s with test := {} }
    ((s.put Reg.SELFTEST.RESULT.OUTCOME o).put Reg.SELFTEST.STATE.STATE 0).raise Reg.SELFTEST.EVENT.TEST_DONE

/-- CMD.RESULT codes. -/
def teAccepted : Nat := 1
def teBusy : Nat := 2
def teState : Nat := 3
def teDisabled : Nat := 4
def teParity : Nat := 5
def teNoEffect : Nat := 6

/-- The test ends with an outcome as soon as the units out of service are zeroed (R594, R597). -/
def State.testStop (s : State) (o : Nat) : State :=
  { s with test := { s.test with ending := some (s.test.ending.getD o) } }.put Reg.SELFTEST.STATE.STATE 2

/-- A write of SELFTEST.CMD (R591, R592, R597). -/
def State.testCmd (s : State) (code : Nat) : State :=
  let res := fun (s : State) (r : Nat) => s.put Reg.SELFTEST.CMD.RESULT r
  let t := s.cfg Reg.SELFTEST.TEST_SEL.TEST
  if ¬ s.parityOk Slot.SELFTEST then res s teParity
  else if code = 1 then
    if s.cfg Reg.SELFTEST.CTRL.ENABLE = 0 then res s teDisabled
    else if s.testBusy then res s teBusy
    else if t = 0 ∨ 4 < t then res s teNoEffect
    else if t = 3 ∧ (s.get Reg.CRASH.STATE.SLOT0 ≠ 0 ∨ s.get Reg.CRASH.STATE.SLOT1 ≠ 0) then res s teState
    else if t = 2 ∧ (s.cut.job.isSome ∨ s.applyOn) then res s teState
    else
      let s := (res s teAccepted).put Reg.SELFTEST.STATE.STATE 1
      let s := { s with test := { test := t } }
      let s := if s.cfg Reg.SELFTEST.TEST_SEL.NORTH = 1 then s.takeUnit 0 (some 0) else s
      let s := if s.cfg Reg.SELFTEST.TEST_SEL.SOUTH = 1 then s.takeUnit 1 (some 0) else s
      s.testEndIf
  else if code = 2 ∧ s.testBusy then res (s.testStop toStopped) teAccepted
  else res s teNoEffect

/-- ABORT on SELFTEST (R597). -/
def State.testAbort (s : State) : State × Bool :=
  if s.testBusy then ((s.testStop toStopped).bump Reg.SELFTEST.STATUS.DISCARDS, true) else (s, false)

/-- R591, R593, R595: the unit under test in a half is done and zeroed: the next one, or the end. -/
def execTestUnitDone (half : Half) (fail : Bool) (s : State) : Host.Outcome State Fault Refusal :=
  let h := halfNo half
  .next (match s.test.unit h with
  | none => s
  | some u =>
    let start := if h = 0 then s.test.northFc else s.test.southFc
    if s.test.ending.isSome then (s.takeUnit h none).testEndIf
    else if s.fc < start + testTime s.test.test then s
    else
      let s := if fail then
          let s := s.bump Reg.SELFTEST.RESULT.FAILS
          if s.test.failed then s
          else
            let s := { s with test := { s.test with failed := true } }
            (s.put Reg.SELFTEST.RESULT.FIRST_FAIL u).put Reg.SELFTEST.RESULT.FAIL_HALF h
        else s
      if u + 1 < testUnits s.test.test then s.takeUnit h (some (u + 1)) else (s.takeUnit h none).testEndIf)

/-- R594: a crash capture, a cut or a hub-level trace trigger of the half pre-empts its test. -/
def execTestPreempt (half : Half) (s : State) : Host.Outcome State Fault Refusal :=
  let h := halfNo half
  let t := s.test.test
  let cause := (t == 3 && s.crash.capturing != []) || (t == 2 && s.cut.job.isSome) || (t == 1 && s.test.trigs.contains h)
  .next (if cause ∧ (s.test.unit h).isSome then s.testStop toPreempted else s)

/-! ### Calibration (R596) -/

/-- Bit of CAL_STATUS. -/
def calBit : CalKind → Nat
  | .wheel => 0
  | .bsl => 1
  | .ring => 2

/-- CAL_CMD.RESULT codes. -/
def caAccepted : Nat := 1
def caBusy : Nat := 2
def caState : Nat := 3
def caNoEffect : Nat := 4
def caParity : Nat := 5

/-- Write bit `k` of a CAL_STATUS field. -/
def State.calPut (s : State) (f : Fld) (k : Nat) (b : Bool) : State := s.put f (setBit (s.get f) k b)

/-- A write of SELFTEST.CAL_CMD (R596). -/
def State.calCmd (s : State) (code : Nat) : State :=
  let res := fun (s : State) (r : Nat) => s.put Reg.SELFTEST.CAL_CMD.RESULT r
  let k := code - 1
  let ready : Bool := if code = 1 then s.wheel.sel == 2 && s.get Reg.WHEEL.SOURCE.STATE == wheelLocked
    else if code = 2 then s.link == lsUp
    else s.get Reg.TEAM.RING_STATUS.EAST_UP == 1 || s.get Reg.TEAM.RING_STATUS.WEST_UP == 1
  if ¬ s.parityOk Slot.SELFTEST then res s caParity
  else if code = 0 then res s caNoEffect
  else if testBit (s.get Reg.SELFTEST.CAL_STATUS.BUSY) k then res s caBusy
  else if ¬ ready then res s caState
  else
    let s := (s.calPut Reg.SELFTEST.CAL_STATUS.DONE k false).calPut Reg.SELFTEST.CAL_STATUS.FAILED k false
    let s := s.calPut Reg.SELFTEST.CAL_STATUS.BUSY k true
    res (if code = 1 ∧ ¬ s.wheel.calRunning then s.calStart else s) caAccepted

/-- R596: a calibration ends; one that does not converge keeps the previous settings. -/
def execCalibrationEnd (kind : CalKind) (ok : Bool) (s : State) : Host.Outcome State Fault Refusal :=
  let k := calBit kind
  .next (if testBit (s.get Reg.SELFTEST.CAL_STATUS.BUSY) k ∧ ¬ (ok ∧ kind = .wheel ∧ s.wheel.calRunning) then
    let s := s.calPut Reg.SELFTEST.CAL_STATUS.BUSY k false
    let s := s.calPut (if ok then Reg.SELFTEST.CAL_STATUS.DONE else Reg.SELFTEST.CAL_STATUS.FAILED) k true
    let s := if kind = .wheel ∧ ¬ ok then
        { s with wheel := { s.wheel with calRunning := false }, team := { s.team with probe := none, rtt := none } }
      else s
    s.raise Reg.SELFTEST.EVENT.CAL_DONE
  else s)

end Sys2Proof.Machine
end

