-- ==== Sys2Proof/Machine/AgentPage.lean ====
section
/-! DEFINITION. The agent register page as UNITWIN reaches it (chapter 1, Tables 1-9 to 1-23, and Table 5-3). -/

namespace Sys2Proof.Machine

/-! ### The map (R54, R57, Table 18-3) -/

/-- The offset lies in a run of words. -/
def inRun (o first last : Nat) : Bool := decide (first ≤ o) && decide (o ≤ last)

/-- The page defines offset `o` for an agent of type `t` (R54). -/
def agentOffOk (t o : Nat) : Bool :=
  t != 0 && o % 4 == 0 &&
    (inRun o 0x400 0x458 || inRun o 0x460 0x468 || inRun o 0x470 0x488 || inRun o 0x490 0x494
      || (t == 1 && inRun o 0x4A0 0x4D4) || (t == 2 && inRun o 0x4A0 0x4B4) || (gwType t && inRun o 0x4A0 0x4AC)
      || (t == 5 && inRun o 0x4A0 0x4B0) || (t == 6 && inRun o 0x4A0 0x5C4))

/-- The writable fields of the register at `o` on an agent of type `t`; 0x470 to 0x478 take writes on MUs only. -/
def agentFields (t o : Nat) : List Fld :=
  if o = 0x408 then [AReg.A_CTRL.FAULT_FATAL, AReg.A_CTRL.ACCSPILL_EVT, AReg.A_CTRL.CMP_EVT]
  else if o = 0x420 ∨ o = 0x424 then
    let n := (o - 0x420) / 4
    [AReg.A_PSEL.CTX_FILTER n, AReg.A_PSEL.EN n, AReg.A_PSEL.EVENT n]
  else if o = 0x428 ∨ o = 0x42C then [AReg.A_PCNT ((o - 0x428) / 4)]
  else if inRun o 0x430 0x44C then
    let n := (o - 0x430) / 16
    let r := (o - 0x430) % 16
    if r = 0 then [AReg.A_CMP_LO n] else if r = 4 then [AReg.A_CMP_HI n]
    else if r = 8 then
      [AReg.A_CMP_CTRL.HALT n, AReg.A_CMP_CTRL.EVT n, AReg.A_CMP_CTRL.CTX_EN n, AReg.A_CMP_CTRL.INVERT n,
       AReg.A_CMP_CTRL.KIND n, AReg.A_CMP_CTRL.EN n]
    else [AReg.A_CMP_CTX.CTX_MASK n, AReg.A_CMP_CTX.CTX n]
  else if o = 0x450 then
    (List.range 4).flatMap (fun n => [AReg.A_TRIG_PROG.COUNT n, AReg.A_TRIG_PROG.STOP n, AReg.A_TRIG_PROG.START n,
      AReg.A_TRIG_PROG.EMIT n, AReg.A_TRIG_PROG.NEXT n, AReg.A_TRIG_PROG.COND n])
  else if o = 0x458 then [AReg.A_TRACE_CLASS.EN, AReg.A_TRACE_CLASS.USE_DEFAULT, AReg.A_TRACE_CLASS.CLASS]
  else if o = 0x464 then [AReg.A_EDGE_SEL.INDEX]
  else if o = 0x470 ∧ t = 2 then
    [AReg.A_TAP_CTRL.MASK_EN, AReg.A_TAP_CTRL.SLOT, AReg.A_TAP_CTRL.PORT, AReg.A_TAP_CTRL.ENABLE]
  else if o = 0x474 ∧ t = 2 then [AReg.A_TAP_FMT.FORMAT]
  else if o = 0x478 ∧ t = 2 then [AReg.A_DIRTY_CTRL.COW_EN, AReg.A_DIRTY_CTRL.DIRTY_EN]
  else if o = 0x480 then [AReg.A_SHADOW_SEL.WORD]
  else if o = 0x4A4 ∧ gwType t then [AReg.GW_DIRTY_SEL]
  else if t = 6 ∧ inRun o 0x4B0 0x5B4 then [⟨o, 31, 0, 0⟩]
  else []

/-- The register is listed RW (Table 18-3): an alias write may act on it (R62). -/
def agentRw (t o : Nat) : Bool :=
  inRun o 0x420 0x450 || o == 0x408 || o == 0x458 || o == 0x464 || inRun o 0x470 0x478 || o == 0x480
    || (gwType t && o == 0x4A4) || (t == 6 && inRun o 0x4B0 0x5B4)

/-- An agent pair's partner (Table 2-12): the _LO offset of the pair, and whether `o` is the high word. -/
def agentPair (t o : Nat) : Option (Nat × Bool) :=
  if t = 5 ∧ (o = 0x4A4 ∨ o = 0x4A8) then some (0x4A4, o == 0x4A8)
  else if t = 6 ∧ (o = 0x4A0 ∨ o = 0x4A4) then some (0x4A0, o == 0x4A4)
  else if t = 6 ∧ inRun o 0x4B0 0x5C4 then some (o - o % 8, o % 8 == 4)
  else none

/-! ### Reading -/

/-- A word composed of an agent's fields. -/
def Agent.compose (g : Agent) (fs : List Fld) : Nat := fs.foldl (fun n f => n + g.get f * 2 ^ f.lo) 0

/-- A unit register of an agent of type `t`: the kept value while the unit holds it still or has never executed (R57), what its
body holds while it is frozen, else the live one. -/
def Agent.unitReg (g : Agent) (t o live : Nat) : Nat :=
  if !g.executed || g.known.contains o then Sparse.get g.regs (o * 8) 0 else (g.bodyWord t o).getD live % 2 ^ 32

/-- A core's reservation and locked sequence, as bits 1 and 0: a halted core's are those it halted with, a frozen CU's stand in
its body, and a running core shows its own beside those a command has told of (R202, R212). -/
def Agent.lockBits (g : Agent) (t live : Nat) : Nat :=
  let told := 2 * bit g.reserved + bit g.locked
  if g.halted || !g.executed then told
  else if t = 1 ∧ g.frozen ∧ g.unitBody ≠ [] then 2 * bit (testBit g.cuFlags 1) + bit (testBit g.cuFlags 0)
  else told ||| bits live 9 8

/-- A register of Table 1-23 on a CU. -/
def Agent.cuWord (g : Agent) (o live : Nat) : Nat :=
  if o = 0x4A4 then g.lockBits 1 live * 256 + g.unitReg 1 o live % 8
  else if o = 0x4CC then 65536 * g.get AReg.CU_ACC_SPILLS + g.unitReg 1 o live % 256
  else if o = 0x4A0 ∨ o = 0x4C8 then g.unitReg 1 o live % 65536
  else g.unitReg 1 o live

/-- A register of Table 5-3 on a CP. CP_DSTATUS.CAUSE reads 0 while the CP is not halted: the table does not say whether the
cause of its last halt stays (DESIGN CHOICE, assumption log). -/
def Agent.cpWord (g : Agent) (o live : Nat) : Nat :=
  if o = 0x4A8 then
    let cause := if g.halted then g.haltCauses.headD 0 else 0
    g.lockBits 6 live * 256 + bit g.halted * 16 + cause
  else if o = 0x4AC then g.unitReg 6 o live % 65536
  else if inRun o 0x4B0 0x5B4 then (if g.halted then g.unitReg 6 o live else 0)
  else if o = 0x5C0 ∨ o = 0x5C4 then (if g.halted && !g.reserved then 0 else g.unitReg 6 o live)
  else g.unitReg 6 o live

/-- The word of agent `a`'s register at offset `o`; `live` is what the unit shows there. A gateway's dirty list stands in rising
page number, and GW_DIRTY_DATA reads 0 past its end (DESIGN CHOICE, assumption log). -/
def State.agentWord (s : State) (a o live : Nat) : Nat :=
  let g := s.agentNow a
  let t := agentType a
  if o = 0x400 then agentIdWord a
  else if o = 0x404 then
    65536 * g.ctx + g.skidHigh * 256 + bit (g.skids.any (fun e => e.2 != [])) * 128 + bit g.shadow.isSome * 64
      + bit g.halted * 32 + bit g.frozen * 16 + g.code
  else if o = 0x40C then g.dur * 256 + g.prev * 16 + g.code
  else if o = 0x410 then g.aon0
  else if o = 0x414 then g.aon1
  else if o = 0x418 then g.aon2
  else if o = 0x41C then g.aon3
  else if o = 0x454 then 65536 * g.trans + g.evtLost * 256 + g.trig
  else if o = 0x458 then g.compose (agentFields t o) + 16 * bit (s.trace.promoted == some a)
  else if o = 0x460 then bit g.edgeOvf * 256 + g.edges.length
  else if o = 0x468 then
    (match g.edges[g.get AReg.A_EDGE_SEL.INDEX]? with
    | some e => s.edgeWord a g e
    | none => 0)
  else if o = 0x47C then
    (if t = 2 then
      65536 * min g.cowStalls 65535 + bit g.cowArmed * 256 + bit (decide (64 ≤ g.preserved.length)) * 128 + g.preserved.length
    else 0)
  else if o = 0x484 then
    (match g.shadow with
    | some h => if g.get AReg.A_SHADOW_SEL.WORD < shadowBytes a / 4 then wordAt (h.bytes a) (g.get AReg.A_SHADOW_SEL.WORD) else 0
    | none => 0)
  else if o = 0x488 then 65536 + shadowBytes a
  else if o = 0x490 then g.get AReg.A_FAULT
  else if o = 0x494 then g.compose [AReg.A_FAULT_INFO.CONTEXT, AReg.A_FAULT_INFO.DETAIL, AReg.A_FAULT_INFO.FIRST]
  else if o < 0x4A0 then g.compose (agentFields t o)
  else if t = 1 then g.cuWord o live
  else if t = 2 then
    (if o = 0x4B4 then g.dirty.length else if o = 0x4B0 then g.get AReg.MU_ECC_COUNT else g.unitReg 2 o live % 2 ^ 19)
  else if t = 5 then
    (if o = 0x4AC then
      let st := g.get AReg.CE_ST
      g.get AReg.CE_NP * 256 + (if st ≠ 0 ∧ g.executed ∧ ¬ g.known.contains o ∧ 1 ≤ live % 8 ∧ live % 8 ≤ 3 then live % 8 else st)
    else g.compose [⟨o, 31, 0, 0⟩])
  else if t = 6 then g.cpWord o live
  else if o = 0x4A0 then g.dirtyPages.length
  else if o = 0x4A4 then g.get AReg.GW_DIRTY_SEL
  else if o = 0x4A8 then g.dirtyPages.getD (g.get AReg.GW_DIRTY_SEL) 0
  else g.unitReg t o live % 1024

/-- The side effect of an ordinary read (R55, Table 1-23), and what the read shows of a halted CP's registers stays so until
the CP executes. -/
def State.agentRead (s : State) (a o : Nat) (value : Nat) (peek : Bool) : State :=
  let t := agentType a
  if o = 0x484 ∧ ¬ peek then
    s.modAgent a (fun g =>
      let w := g.get AReg.A_SHADOW_SEL.WORD
      g.put AReg.A_SHADOW_SEL.WORD (if shadowBytes a / 4 ≤ w + 1 then 0 else w + 1))
  else if o = 0x4A8 ∧ gwType t ∧ ¬ peek then s.modAgent a (fun g => g.put AReg.GW_DIRTY_SEL (g.get AReg.GW_DIRTY_SEL + 1))
  else if t = 6 ∧ inRun o 0x4B0 0x5B4 ∧ (s.agent a).halted then
    s.modAgent a (fun g => { g with regs := Sparse.set g.regs (o * 8) value 0, known := insertSorted o g.known })
  else s

/-! ### Writing -/

/-- Write a register's fields from a word. -/
def Agent.putWord (g : Agent) (fs : List Fld) (v : Nat) : Agent := fs.foldl (fun g f => g.put f (bits v f.hi f.lo)) g

/-- A counter written in a fc keeps that fc's increments (R96). -/
def Agent.pcntInc (g : Agent) (fc k : Nat) : Nat := if g.pcntFc = fc then (if k = 0 then g.pcntInc0 else g.pcntInc1) else 0

/-- The self-clearing bits of A_CTRL (Table 1-12). -/
def Agent.ctrlBits (g : Agent) (fc v : Nat) : Agent :=
  let g := if testBit v 4 then (g.put (AReg.A_PCNT 0) (g.pcntInc fc 0)).put (AReg.A_PCNT 1) (g.pcntInc fc 1) else g
  let g := if testBit v 3 then g.clearEdges else g
  let g := if testBit v 2 then { g with skidHigh := 0 } else g
  if testBit v 1 then { g with trig := 0, trigResetFc := some fc } else g

/-- A clear of A_FAULT: bits set in this fc stay, and A_FAULT_INFO captures the first of them as if the clear had come first
(R56, R96): when the bits that stood before this fc are all cleared; with every bit cleared it holds no capture and reads 0. -/
def Agent.faultClear (g : Agent) (fc v : Nat) : Agent :=
  let was := g.get AReg.A_FAULT
  let new := if g.faultFc = fc then g.faultNow else []
  let mask := new.foldl (fun m e => m ||| 2 ^ e.1) 0
  let before := if new = [] then was else g.faultWas
  let older := before - (before &&& v % 512)
  let g := { g.put AReg.A_FAULT (older ||| mask) with faultWas := older }
  match new with
  | (b, d, c) :: _ =>
    if older = 0 then ((g.put AReg.A_FAULT_INFO.FIRST b).put AReg.A_FAULT_INFO.DETAIL d).put AReg.A_FAULT_INFO.CONTEXT c else g
  | [] =>
    if older = 0 then ((g.put AReg.A_FAULT_INFO.FIRST 0).put AReg.A_FAULT_INFO.DETAIL 0).put AReg.A_FAULT_INFO.CONTEXT 0 else g

/-- A word `v` is written to the register at `o` of agent `a`; `cmd` holds the self-clearing bits written as 1. A_TAP_CTRL and
A_TAP_FMT close the tap's interval first (R454); a CP's registers are written only while it is halted and not executing a feed
(R214). -/
def State.agentWrite (s : State) (a o v cmd : Nat) : State :=
  let t := agentType a
  let fs := agentFields t o
  if o = 0x408 then s.modAgent a (fun g => (g.putWord fs v).ctrlBits s.fc cmd)
  else if o = 0x428 ∨ o = 0x42C then
    let k := (o - 0x428) / 4
    s.modAgent a (fun g => g.put (AReg.A_PCNT k) (v + g.pcntInc s.fc k))
  else if o = 0x450 then
    s.modAgent a (fun g =>
      let old := match g.progOld with
        | some (f, w) => if f = s.fc then w else g.compose fs
        | none => g.compose fs
      { g.putWord fs v with progOld := some (s.fc, old) })
  else if (o = 0x470 ∨ o = 0x474) ∧ t = 2 then
    s.tapReconfigure a (fun g => g.putWord fs v)
  else if o = 0x478 ∧ t = 2 then
    s.modAgent a (fun g =>
      let g := g.putWord fs v
      if testBit cmd 2 then { g with dirty := [] } else g)
  else if o = 0x490 then s.modAgent a (fun g => g.faultClear s.fc v)
  else if t = 6 ∧ inRun o 0x4B0 0x5B4 then
    let g := s.agent a
    if g.halted ∧ ¬ g.executing then
      s.modAgent a (fun g => { g.putWord fs v with known := insertSorted o g.known })
    else s
  else if fs = [] then s
  else s.modAgent a (fun g => g.putWord fs v)

/-- An alias write (R61, R63, R64): one read-modify-write of the RW fields as they read now, `live` being what the unit shows; a
SET issues the self-clearing bits. -/
def State.agentAlias (s : State) (a o : Nat) (view : View) (data live : Nat) : State :=
  let word := s.agentWord a o live
  let old := (agentFields (agentType a) o).foldl (fun n f => n + bits word f.hi f.lo * 2 ^ f.lo) 0
  match view with
  | .set => s.agentWrite a o (old ||| data) data
  | .clr => s.agentWrite a o (old - (old &&& data)) 0
  | .tgl => s.agentWrite a o (old ^^^ data) 0

/-! ### The answer to a PC sample -/

/-- R386, R388: the answer arrives, with the PC that the unit shows, and a PCS entry goes to the sampled agent's half. -/
def execPcsAnswer (pc : Word) (s : State) : Host.Outcome State Fault Refusal :=
  .next (match s.trace.pcsOut with
  | none => s
  | some (a, pos, seq) =>
    let g := s.agentNow a
    let p := s.agentWord a 0x4A0 pc.toNat
    let rec1 := format1 a g.code seq p
    let payload := if s.cfg Reg.FLOW.FORMAT.FMT = 1 then rec1 else 2 ^ 84 * pos + 2 ^ 68 * g.ctx + 2 ^ 64 * g.code + rec1
    let s := { s with trace := { s.trace with pcsOut := none } }
    let s := s.modEnc a (fun e => { e with gen := (e.gen + 1) % 2 ^ 32 })
    s.arrive (agentHalf a) (traceEntry a (s.cfg Reg.FLOW.PCS_CTRL.CLASS) tyPcs payload) false)

end Sys2Proof.Machine
end

