-- ==== Sys2Proof/Machine/Show.lean ====
section
/-! DEFINITION. What the registers of the hub read as: the fields that are computed from the rest of the state, the page
header's STATUS, and the sources of DATAWIN. -/

namespace Sys2Proof.Machine

/-! ### Work in flight (R89, and the page rules of each chapter) -/

/-- The page in slot `p` has work in flight. -/
def State.pageBusy (s : State) (p : Nat) : Bool :=
  match p with
  | 3 => s.wheel.calRunning
  | 4 => s.cams.deferred != []
  | 5 => s.get Reg.WHISTLE.STATE.STATE == wsFreezing || s.get Reg.WHISTLE.STATE.STATE == wsResuming || s.whistle.held != []
  | 6 => s.runctl.cmds != [] || s.runctl.waits != [] || s.runctl.feeds != []
  | 7 => slots.any s.slotBusy
  | 8 => s.cut.job.isSome
  | 9 => s.hopper.job.isSome
  | 10 => s.mm.out != []
  | 11 => s.flowBusy
  | 12 => s.cmdtrBusy
  | 13 => s.funnelBusy
  | 14 => s.score.gathers != []
  | 15 => s.tapBusy
  | 16 => s.hang.coll.isSome
  | 17 => s.millBusy
  | 18 => s.team.pending.isSome || s.team.census.isSome
  | 19 => s.pow.step.isSome
  | 20 => s.crash.capturing != []
  | 23 => s.testBusy
  | _ => false

/-- CTRL.ENABLE of the page in slot `p`. -/
def State.pageEnable (s : State) (p : Nat) : Nat := s.get (Hdr.CTRL_ENABLE p)

/-- STATUS bits [4:0] (Table 2-5): LOCKED, FAULT, and one of DRAINING, ACTIVE and IDLE. -/
def State.pageStatus (s : State) (p : Nat) : Nat :=
  let work := if ¬ s.pageBusy p then 1 else if s.pageEnable p = 1 then 2 else 4
  s.get (Hdr.LOCK_CFG_LOCK p) * 16 + bit (s.word (0x4000 * p + 0x18) != 0) * 8 + work

/-! ### Fields computed from the rest of the state -/

/-- HUB page. -/
def State.liveHub (s : State) (o : Nat) : List (Fld × Nat) :=
  if o = 0x0C then
    [(Reg.HUB.STATUS.FAULT_PIN, bit s.faultPin), (Reg.HUB.STATUS.PIN_LATCHED, bit s.crash.latched),
     (Reg.HUB.STATUS.FATAL_HELD, bit (s.crash.asserts != []))]
  else if o = 0x48 then [(Reg.HUB.ROLE.TEAM, s.teamRole)]
  else if o = 0x60 then [(Reg.HUB.CYCLE_LO.COUNT, s.fc % 2 ^ 32)]
  else if o = 0x64 then [(Reg.HUB.CYCLE_HI.COUNT, s.fc / 2 ^ 32 % 2 ^ 32)]
  else if o = 0x68 then [(Reg.HUB.IRQ_SUMMARY.PAGE, s.irqSummary / 2)]
  else if o = 0x6C then
    let t := s.get Reg.HUB.IRQ_ROUTE.SEL
    [(Reg.HUB.IRQ_ROUTE.LINE, if 1 ≤ t ∧ t ≤ 24 then s.irqRoute (t - 1) else 0)]
  else []

/-- PORT page: BSL_STATUS. -/
def State.livePort (s : State) (o : Nat) : List (Fld × Nat) :=
  if o = 0x8040 then
    [(Reg.PORT.BSL_STATUS.REQ_FREE, 8 - s.bsl.reqs.length), (Reg.PORT.BSL_STATUS.REPLAY, s.bsl.unacked.length),
     (Reg.PORT.BSL_STATUS.BACKPRESSURE, bit (s.link == lsUp && s.get Reg.PORT.BSL_STATUS.CREDITS == 0))]
  else []

/-- WHEEL page: the position (R114) and the current revolution's notch length. -/
def State.liveWheel (s : State) (o : Nat) : List (Fld × Nat) :=
  let w := s.wheel
  if o = 0xC048 then [(Reg.WHEEL.NOTCH_FC.INT, w.len / 4096), (Reg.WHEEL.NOTCH_FC.FRAC, w.len % 4096 * 16)]
  else if o = 0xC050 then
    [(Reg.WHEEL.POS_LO.REV, w.rev % 65536), (Reg.WHEEL.POS_LO.NOTCH, w.sub / 16), (Reg.WHEEL.POS_LO.SUB, w.sub % 16)]
  else if o = 0xC054 then [(Reg.WHEEL.POS_HI.REV, w.rev / 65536)]
  else []

/-- CAMS page: Cam 63 under the Millrace schedule (R150). -/
def State.liveCams (s : State) (o : Nat) : List (Fld × Nat) :=
  let p := s.get Reg.MILLRACE.PERIOD_REV.REVS
  if p = 0 then []
  else if o = 0x10044 then [(Reg.CAMS.ENABLE_HI, setBit (s.get Reg.CAMS.ENABLE_HI) 31 true)]
  else if o = 0x104F0 then
    [(Reg.CAMS.CAM_AT.PHASE 63, 0), (Reg.CAMS.CAM_AT.NOTCH 63, s.get Reg.MILLRACE.CUT_NOTCH.NOTCH), (Reg.CAMS.CAM_AT.SUB 63, 0)]
  else if o = 0x104F4 then [(Reg.CAMS.CAM_ACTION.ACTION 63, 7)]
  else if o = 0x104FC then
    [(Reg.CAMS.CAM_FLAGS.ARMED 63, 0), (Reg.CAMS.CAM_FLAGS.UNIT 63, 0), (Reg.CAMS.CAM_FLAGS.ARM_BY_BREAK 63, 0),
     (Reg.CAMS.CAM_FLAGS.ONESHOT 63, 0), (Reg.CAMS.CAM_FLAGS.DEFER_END 63, 0), (Reg.CAMS.CAM_FLAGS.EVERY 63, p)]
  else []

/-- RUNCTL page: the present target (R217, Table 5-5). -/
def State.liveRunctl (s : State) (o : Nat) : List (Fld × Nat) :=
  let a := s.get Reg.RUNCTL.TARGET.ID
  if o = 0x18040 then [(Reg.RUNCTL.TARGET.TYPE, agentType a)]
  else if o = 0x18048 then
    let g := s.agentNow a
    [(Reg.RUNCTL.HALT_STATUS.CAUSES, g.haltCauses.foldl (fun n c => n ||| 2 ^ c) 0),
     (Reg.RUNCTL.HALT_STATUS.RES_CLEARED, bit g.resCleared), (Reg.RUNCTL.HALT_STATUS.LOCKED_SEQ, bit (g.inLock a s.fc)),
     (Reg.RUNCTL.HALT_STATUS.CAUSE, g.haltCauses.headD 0),
     (Reg.RUNCTL.HALT_STATUS.STATE, if agentHaltable a ∧ s.unreachable then 5 else g.haltState a)]
  else if o = 0x18060 then
    let g := s.agentNow a
    [(Reg.RUNCTL.STALL_CODE.AT_HALT, g.atHalt), (Reg.RUNCTL.STALL_CODE.NOW, g.code)]
  else []

/-- FLOW page: encoders in ON. -/
def State.liveFlow (s : State) (o : Nat) : List (Fld × Nat) :=
  if o = 0x2C04C then
    [(Reg.FLOW.ACTIVE_SOURCES.COUNT, (s.agents.filter (fun e => cuOrCp (agentType e.1) && s.encIsOn e.1)).length)]
  else []

/-- FUNNEL page: the pointers of the half that MODE.PTR_HALF selects (R408, R413). -/
def State.liveFunnel (s : State) (o : Nat) : List (Fld × Nat) :=
  let f := s.fh (s.get Reg.FUNNEL.MODE.PTR_HALF)
  if o = 0x34050 then [(Reg.FUNNEL.WR_PTR.WRAPPED, bit f.wrapped), (Reg.FUNNEL.WR_PTR.INDEX, if s.get Reg.FUNNEL.MODE.MODE = 2 then f.spillWr else f.wr)]
  else if o = 0x34054 then [(Reg.FUNNEL.TRIG_PTR.VALID, bit f.trigPtr.isSome), (Reg.FUNNEL.TRIG_PTR.INDEX, f.trigPtr.getD 0)]
  else []

/-- SCORE page: the context entry shown (R433, R435); a counter reads as at the start of the fc (Table 11-3). -/
def State.liveScore (s : State) (o : Nat) : List (Fld × Nat) :=
  let e := s.get Reg.SCORE.CONTEXT_SEL.ENTRY
  let ctx := s.score.ctxs.find? (fun (x : Nat × Nat) => x.1 == e)
  if o = 0x38048 then
    [(Reg.SCORE.CONTEXT_SEL.VALID, bit (decide (30 ≤ e) || ctx.isSome)),
     (Reg.SCORE.CONTEXT_SEL.CTX, ((Prod.snd <$> ctx).getD 0xFFFF))]
  else if 0x38060 ≤ o ∧ o < 0x38080 then
    let k := (o - 0x38060) / 8
    let v := (Sparse.get s.score.totals e [0, 0, 0, 0]).getD k 0
    [(⟨o, 31, 0, 0⟩, if o % 8 = 0 then v % 2 ^ 32 else v / 2 ^ 32)]
  else if 0x38100 ≤ o ∧ o < 0x38500 ∧ 8 ≤ o % 16 then
    let f : Fld := ⟨o, 31, 0, 0⟩
    [(f, s.cfg f)]
  else []

/-- TWATCH page: the slot that TAP_SEL selects, and the result window (R466). -/
def State.liveTwatch (s : State) (o : Nat) : List (Fld × Nat) :=
  let n := s.get Reg.TWATCH.TAP_SEL.SLOT
  if o = 0x3C044 then
    [(Reg.TWATCH.TAP_CTRL.AGENT, s.get (TapSlot.AGENT n)), (Reg.TWATCH.TAP_CTRL.RANGE, s.get (TapSlot.RANGE n)),
     (Reg.TWATCH.TAP_CTRL.CLOSE, s.get (TapSlot.CLOSE n)), (Reg.TWATCH.TAP_CTRL.ENABLE, s.get (TapSlot.ENABLE n))]
  else if o = 0x3C048 then [(Reg.TWATCH.FORMAT.CODE, s.get (TapSlot.FORMAT n))]
  else if o = 0x3C04C then
    [(Reg.TWATCH.BAND_BITS.HIST_LOW, s.get (TapSlot.HIST_LOW n)), (Reg.TWATCH.BAND_BITS.BITS, s.get (TapSlot.BITS n))]
  else if 0x3C054 ≤ o ∧ o < 0x3C080 then
    let w := (o - 0x3C054) / 4
    let b := s.get Reg.TWATCH.RESULT_SEL.BANK
    [(Reg.TWATCH.W w, if b < 5 then Sparse.get s.tw.window (16 * b + w) 0 else 0)]
  else []

/-- HANG page: the selected edge (R490). -/
def State.liveHang (s : State) (o : Nat) : List (Fld × Nat) :=
  if o = 0x40060 then [(Reg.HANG.EDGE_DATA_LO.EDGE, s.edgeEntry.1)]
  else if o = 0x40064 then
    [(Reg.HANG.EDGE_DATA_HI.AGE_CLASS, s.edgeEntry.2 / 65536 % 4), (Reg.HANG.EDGE_DATA_HI.RECORDER, s.edgeEntry.2 % 16384)]
  else []

/-- POWER page: floor and limit (R577). -/
def State.livePower (s : State) (o : Nat) : List (Fld × Nat) :=
  if o = 0x4C044 then
    [(Reg.POWER.CURRENT_STATE.FLOOR_WHY, s.floorWhy), (Reg.POWER.CURRENT_STATE.FLOOR, if s.floorWhy = 0 then 0 else s.floor),
     (Reg.POWER.CURRENT_STATE.LIMIT, s.limit)]
  else []

/-- UNITWIN and DATAWIN pages (Tables 2-9 and 2-10). -/
def State.liveWin (s : State) (o : Nat) : List (Fld × Nat) :=
  if o = 0x54044 then [(Reg.UNITWIN.AGENT_TYPE.TYPE, agentType (s.get Reg.UNITWIN.AGENT_SEL.ID))]
  else if o = 0x54048 then [(Reg.UNITWIN.AGENT_STATE.UNREACHABLE, bit s.unreachable)]
  else if o = 0x58054 ∨ o = 0x58094 then
    let i := (o - 0x58054) / 0x40
    [(Reg.DATAWIN.WIN_STATUS.PREFETCH i, 4 * (s.dw i).ready.length),
     (Reg.DATAWIN.WIN_STATUS.READY i, bit ((s.dw i).ready != []))]
  else []

/-- The fields of the register at `o` that are computed, with their values. -/
def State.liveAt (s : State) (o : Nat) : List (Fld × Nat) :=
  match o / 0x4000 with
  | 0 => s.liveHub o
  | 2 => s.livePort o
  | 3 => s.liveWheel o
  | 4 => s.liveCams o
  | 6 => s.liveRunctl o
  | 11 => s.liveFlow o
  | 13 => s.liveFunnel o
  | 14 => s.liveScore o
  | 15 => s.liveTwatch o
  | 16 => s.liveHang o
  | 17 => if o = 0x4405C then [(Reg.MILLRACE.LAG.REVS, s.lagRevs)] else []
  | 19 => s.livePower o
  | 21 | 22 => s.liveWin o
  | _ => []

/-- The value a field of the register at `o` reads as: computed, or as kept; an RC field as it stood before this fc's update
(R96). -/
def State.value (s : State) (live : List (Fld × Nat)) (a : Acc) (f : Fld) : Nat :=
  match live.find? (fun (e : Fld × Nat) => e.1.key == f.key) with
  | some e => e.2
  | none => if a = .rc then (Sparse.get s.hw f.key (s.get f, 0)).1 else if a = .wo then 0 else s.get f

/-- Compose a register word; each field's value is cut to its width. -/
def composeRead : List (Acc × Fld) → (Acc → Fld → Nat) → Nat
  | [], _ => 0
  | (a, f) :: fs, g => g a f % 2 ^ f.width * 2 ^ f.lo + composeRead fs g

/-- What the register at `o` reads as. -/
def State.readWord (s : State) (o : Nat) : Nat :=
  let live := s.liveAt o
  composeRead (fieldsAt o) (s.value live) + (if o % 0x4000 = 0x0C then s.pageStatus (o / 0x4000) else 0)

/-! ### DATAWIN sources (Table 2-11) -/

/-- The size of a source in bytes. -/
def State.winSize (s : State) (src : Nat) : Nat :=
  match src with
  | 0 => 2 ^ 44
  | 1 => 0x800000
  | 2 => 0x80000
  | 3 => 0x400000
  | 4 => s.get Reg.HOPPER.OUT_LEN.BYTES
  | _ => 0

/-- A trace entry is in a bank that a running self-test has out of service (R593). -/
def State.traceOffline (s : State) (h i : Nat) : Bool := s.skipOffline h i != i

/-- A word of a source that the hub itself holds: the trace buffers, the crash store, the staging SRAM with the bytes that LEN
says have been streamed into it (R263), the Hopper's output. -/
def State.sramWord (s : State) (src off : Nat) : Nat :=
  match src with
  | 1 =>
    let h := off / 0x400000
    let i := off % 0x400000 / 16
    if s.traceOffline h i then 0 else (Sparse.get (s.fh h).buf i 0).toNat / 2 ^ (off % 16 * 8) % 2 ^ 32
  | 2 =>
    (match s.crash.slot (off / 0x40000) with
    | some r => r.word (off % 0x40000)
    | none => 0)
  | 4 => wordAt s.hopper.out (off / 4)
  | _ =>
    let len := min s.cut.record.length (s.get64 Reg.CUT.LEN_LO Reg.CUT.LEN_HI)
    let w := off / 4
    let last := if off < len then off + 0x400000 * ((len - 1 - off) / 0x400000) else off
    Sparse.get s.cut.staged w (wordAt s.cut.record (last / 4))

end Sys2Proof.Machine
end

