-- ==== Sys2Proof/Machine/Check.lean ====
section
/-! DEFINITION. The checks of Table 2-2: defined offsets, alias writes, privilege, locks, the log of violations, the
register pairs and the parity scrubber (chapter 2). -/

namespace Sys2Proof.Machine

/-! ### Step 1 and 2: offsets and alias writes -/

/-- The offset, taken in the base view, is a window register: UNITWIN 0x400 to 0x7FC (R64). -/
def isWindow (o : Nat) : Bool := decide (0x54400 ≤ o) && decide (o < 0x54800)

/-- The selected agent and its type. -/
def State.winAgent (s : State) : Nat := s.get Reg.UNITWIN.AGENT_SEL.ID
def State.winType (s : State) : Nat := agentType s.winAgent

/-- The register at base offset `o` is defined (R59, R60, R102). -/
def State.offsetDefined (s : State) (o : Nat) : Bool :=
  decide (o / 0x4000 < 24) && (if isWindow o then agentOffOk s.winType (o - 0x54000) else fieldsAt o != [])

/-- A field that alias writes act on: RW, self-clearing bits included (R61, R63). -/
def aliasable (a : Acc) : Bool := a == .rw || a == .sc

/-- An alias write to the register at `o` is allowed: it is coded RW (R62); WIN_DATA is not. -/
def State.aliasOk (s : State) (o : Nat) : Bool :=
  if isWindow o then agentRw s.winType (o - 0x54000)
  else o != 0x5804C && o != 0x5808C && (fieldsAt o).any (fun e => aliasable e.1)

/-! ### Step 3: privilege (R66, R69 to R73) -/

/-- The level of a source. -/
def State.srcLevel (s : State) (x : Src) : Nat :=
  match x with
  | .bus m => min 2 (s.get (Reg.GUARD.MASTER_LEVEL.LEVEL m.toNat))
  | _ => s.get Reg.GUARD.PORT_LEVEL.LEVEL

/-- A register's own row in Table 2-3: a level, or refused at every level (none), for a kind of access. -/
def ownLevel (o : Nat) (port wr : Bool) : Option (Option Nat) :=
  let row := fun (a b c d : Option Nat) => some (if port then (if wr then d else c) else (if wr then b else a))
  if o % 0x4000 = 0x28 ∨ (0x4040 ≤ o ∧ o < 0x4060) ∨ o = 0x40B0 then row (some 1) (some 2) (some 1) (some 3)
  else if o = 0x4060 ∨ o = 0x4068 ∨ (0x4070 ≤ o ∧ o < 0x4090) then row (some 1) none (some 0) none
  else if o = 0x4064 ∨ (0x4090 ≤ o ∧ o < 0x40B0) then row none none none (some 0)
  else if 0x38800 ≤ o ∧ o < 0x38A00 then row (some 1) (some 1) (some 2) (some 2)
  else none

/-- The page's ACCESS_LVL field for a kind of access. -/
def lvlField (p : Nat) (port wr : Bool) : Fld :=
  if port then (if wr then Hdr.ACCESS_LVL_PORT_WR p else Hdr.ACCESS_LVL_PORT_RD p)
  else (if wr then Hdr.ACCESS_LVL_BUS_WR p else Hdr.ACCESS_LVL_BUS_RD p)

/-- The level that an access to `o` needs; none where it is refused at every level (R70, R71, R73). A bus level of 3 is
SECURE. -/
def State.needLevel (s : State) (o : Nat) (port wr : Bool) : Option Nat :=
  let f := lvlField (o / 0x4000) port wr
  let page := s.get f
  let cap := fun (n : Nat) => if port then n else min 2 n
  match ownLevel o port wr with
  | some none => none
  | some (some l) => some (cap (if page = f.rst then l else max l page))
  | none =>
    let mem := (o = 0x5804C ∧ s.get (Reg.DATAWIN.WIN_SRC.SRC 0) = 0) ∨ (o = 0x5808C ∧ s.get (Reg.DATAWIN.WIN_SRC.SRC 1) = 0)
    some (cap (if mem then max page (if port then 2 else 1) else page))

/-- The source may make the access. -/
def State.levelOk (s : State) (x : Src) (o : Nat) (wr : Bool) : Bool :=
  match s.needLevel o (srcIsPort x) wr with
  | none => false
  | some l => decide (l ≤ s.srcLevel x)

/-- Log a violation (R68). -/
def State.violation (s : State) (x : Src) (o code : Nat) : State :=
  let p := o / 0x4000
  let s := ((s.put (Hdr.GUARD_VIOL_SOURCE p) (srcNo x)).put (Hdr.GUARD_VIOL_CODE p) code).put (Hdr.GUARD_VIOL_OFFSET p) (o % 0x1000)
  (s.bump Reg.GUARD.VIOL_COUNT.COUNT).raise (Hdr.EVENT_GUARD_VIOL p)

/-! ### Step 4: locks (R79 to R82, R87) -/

/-- CFG_LOCK of the page holds the register's RWL fields, but for the rewrite of R87. -/
def State.rwlLocked (s : State) (x : Src) (o : Nat) : Bool :=
  let p := o / 0x4000
  let secure := if srcIsPort x then s.srcLevel x == 3 else s.srcLevel x == 2
  s.get (Hdr.LOCK_CFG_LOCK p) == 1 && (fieldsAt o).any (fun e => e.1 == .rwl)
    && !(secure && s.get (Hdr.FAULT_PARITY p) == 1 && s.get (Hdr.FAULT_INFO_DETAIL p) == o % 0x1000)

/-- What step 4 finds for a write of `v`: the code to log (0 none), and whether any field is still written. -/
def State.lockCheck (s : State) (x : Src) (o v : Nat) : Nat × Bool :=
  let fs := fieldsAt o
  if fs.any (fun e => e.1 == .wo1) ∧ s.word o ≠ 0 then (2, false)
  else if s.rwlLocked x o then
    let differs := fs.any (fun e => e.1 == .rwl && bits v e.2.hi e.2.lo != s.get e.2)
    let mixed := fs.any (fun e => e.1 != .rwl && e.1 != .ro)
    if mixed then (bit differs, true) else (1, false)
  else (0, true)

/-! ### 64-bit pairs (R76 to R78, R622, Table 2-12) -/

/-- The offset is one of `n` offsets from `b`, `st` apart. -/
def inStride (o b st n : Nat) : Bool := decide (b ≤ o) && (o - b) % st == 0 && decide ((o - b) / st < n)

/-- `o` is the _LO word of a hub pair; its _HI word follows it. -/
def isPairLo (o : Nat) : Bool :=
  [0x60, 0xC050, 0x14058, 0x18050, 0x20050, 0x20058, 0x20060, 0x24040, 0x24050, 0x28064, 0x2806C, 0x30050, 0x34058, 0x34074,
   0x40060, 0x44048, 0x50048, 0x58044, 0x58084].contains o
    || inStride o 0x20210 0x20 8 || inStride o 0x20218 0x20 8 || inStride o 0x38060 8 4 || inStride o 0x38108 0x10 64
    || inStride o 0x38A00 0x10 64 || inStride o 0x38800 8 64 || inStride o 0x44200 0x10 16

/-- `o` is the _HI word of a hub pair. -/
def isPairHi (o : Nat) : Bool := decide (4 ≤ o) && isPairLo (o - 4)

/-- The tag under which a source's latch and stage keep an agent's pair. -/
def agentTag (a lo : Nat) : Nat := 0x100000 * (a + 1) + lo

/-- The source's read latch, if it holds the pair `tag`. -/
def State.latchOf (s : State) (x : Src) (tag : Nat) : Option Nat :=
  match s.bank.latch.find? (fun e => e.1 == srcNo x) with
  | some e => if e.2.1 = tag then some e.2.2.toNat else none
  | none => none

/-- The high word `w` of pair `tag` goes into the source's read latch. -/
def State.latchSet (s : State) (x : Src) (tag w : Nat) : State :=
  { s with bank := { s.bank with latch := Sparse.ins s.bank.latch (srcNo x) (tag, BitVec.ofNat 32 w) } }

/-- The high word staged by the source for pair `tag`. -/
def State.stageOf (s : State) (x : Src) (tag : Nat) : Option Nat :=
  match s.bank.stage.find? (fun e => e.1 == srcNo x) with
  | some e => if e.2.1 = tag then some e.2.2.toNat else none
  | none => none

/-- Stage a high word (R77). -/
def State.stageSet (s : State) (x : Src) (tag w : Nat) : State :=
  { s with bank := { s.bank with stage := Sparse.ins s.bank.stage (srcNo x) (tag, BitVec.ofNat 32 w) } }

/-- The stage has been committed. -/
def State.stageDrop (s : State) (x : Src) : State := { s with bank := { s.bank with stage := Sparse.del s.bank.stage (srcNo x) } }

/-! ### Parity (R83 to R88) -/

/-- A parity error of the configuration register at `o` (R84). -/
def State.parityError (s : State) (o : Nat) : State :=
  let p := o / 0x4000
  let s := (s.fault p 0 (o % 0x1000)).put (Hdr.STATUS_PARITY_ERR p) 1
  (s.put Reg.GUARD.SCRUB_FAULT_ADDR.VALID 1).put Reg.GUARD.SCRUB_FAULT_ADDR.WORD (o / 4)

/-- A read checks the register it returns (R83). -/
def State.parityCheck (s : State) (o : Nat) : State := if s.bank.parityBad.contains o then s.parityError o else s

/-- PARITY_ERR clears when the failing registers have been written and FAULT.PARITY is clear (R86). -/
def State.parityClear (s : State) (p : Nat) : State :=
  if s.get (Hdr.STATUS_PARITY_ERR p) = 1 ∧ s.get (Hdr.FAULT_PARITY p) = 0 ∧ ¬ s.bank.parityBad.any (fun o => o / 0x4000 == p) then
    s.put (Hdr.STATUS_PARITY_ERR p) 0
  else s

/-- The scrubber's fault for the register at `o` in this fc is withdrawn, for the register is written in that fc (R88): what the
fault set goes back to what the other faults of the fc leave. -/
def State.scrubWithdraw (s : State) (o : Nat) : State :=
  let p := o / 0x4000
  if ¬ s.hwFault.contains (p, 0, o % 0x1000) then s
  else
    let first := composeWord (fieldsAt (0x4000 * p + 0x18)) s.before == 0
    let stood := s.before (Hdr.FAULT_PARITY p)
    let s := { s with hwFault := s.hwFault.filter (fun e => e != (p, 0, o % 0x1000)) }
    let left := s.hwFault.filter (fun (e : Nat × Nat × Nat) => e.1 == p)
    let s := if left.any (fun e => e.2.1 == 0) ∨ stood = 1 then s
      else ({ s with hw := Sparse.del s.hw (Hdr.FAULT_PARITY p).key }.put (Hdr.FAULT_PARITY p) 0).put (Hdr.STATUS_PARITY_ERR p)
        (s.cfg (Hdr.STATUS_PARITY_ERR p))
    let s := if first then
        (match left with
        | (_, b, d) :: _ => (s.put (Hdr.FAULT_INFO_FIRST p) b).put (Hdr.FAULT_INFO_DETAIL p) d
        | [] => (s.put (Hdr.FAULT_INFO_FIRST p) 0).put (Hdr.FAULT_INFO_DETAIL p) 0)
      else s
    match (s.hwFault.filter (fun e => e.2.1 == 0)).getLast? with
    | some (q, _, d) => s.put Reg.GUARD.SCRUB_FAULT_ADDR.WORD ((0x4000 * q + d) / 4)
    | none => (s.put Reg.GUARD.SCRUB_FAULT_ADDR.VALID (s.cfg Reg.GUARD.SCRUB_FAULT_ADDR.VALID)).put Reg.GUARD.SCRUB_FAULT_ADDR.WORD
        (s.cfg Reg.GUARD.SCRUB_FAULT_ADDR.WORD)

/-- A write recomputes the register's parity (R86), and stands against a check of the scrubber in its fc (R88). -/
def State.parityWritten (s : State) (o : Nat) : State :=
  let s := s.scrubWithdraw o
  { s with bank := { s.bank with parityBad := s.bank.parityBad.filter (fun x => x != o) } }.parityClear (o / 0x4000)

/-- A pass of the scrubber over every configuration register (R83); it ends PASS_NOW. -/
def State.scrubPass (s : State) : State :=
  let s := s.bank.parityBad.foldl State.parityError s
  (s.bumpWrap Reg.GUARD.SCRUB_CTRL.PASSES 1).endBit Reg.GUARD.SCRUB_CTRL.PASS_NOW

end Sys2Proof.Machine
end

