-- ==== Sys2Proof/Machine/Store.lean ====
section
/-! DEFINITION. What a write does to the register bank: fields under their access codes, the values that a field stores, and
the commands that a register's write gives. -/

namespace Sys2Proof.Machine

/-- A write as the bank performs it: source, base offset, word (for an alias write the word of the read-modify-write, with the
self-clearing bits that a SET issues), whether it is an alias write, and the bits it acts on. -/
structure Wr where
  src : Src
  o : Nat
  v : Nat
  al : Bool
  m : Nat

/-- The bits of a written word that belong to a field. -/
def Wr.bits (w : Wr) (f : Fld) : Nat := Sys2Proof.bits w.v f.hi f.lo

/-! ### Values that a field stores -/

/-- `v` held between `lo` and `hi`. -/
def within (lo hi v : Nat) : Nat := max lo (min hi v)

/-- The value that a write of `v` stores in a configuration field (the field tables). -/
def fieldStores (f : Fld) (v : Nat) : Nat :=
  let o := f.off
  if o % 0x4000 = 0x28 then max f.rst v
  else if o = 0xC044 then max 4096 v
  else if f = Reg.WHEEL.TIMEBASE_SEL.REVS_PER_SEC ∨ f = Reg.WHISTLE.STEP_COUNT.COUNT ∨ f = Reg.TEAM.MISS_LIMIT.LIMIT
      ∨ f = Reg.POWER.IDLE_REVS.REVS ∨ f = Reg.PORT.BSL_CTRL.REPLAY_MAX ∨ f = Reg.PORT.BSL_CTRL.ACK_TIMEOUT then max 1 v
  else if o = 0x28040 then within 1 1000 v
  else if o = 0x28044 then within 1 307 v
  else if o = 0x2C054 then max 64 v
  else if o = 0x2C05C then (if v = 1 then 1 else 2)
  else if o = 0x38044 then within 1 64 v
  else if o = 0x40040 then (if v = 0 then 0 else max 64 v)
  else if o = 0x48050 then within 16 4096 v
  else if f = Reg.POWER.AUTO_CTRL.DEEPEST then min 4 v
  else if o = 0x20050 then v / 64 * 64
  else if o = 0x34058 ∨ o = 0x44048 then 65536 * (v / 65536)
  else if inStride o 0x44200 0x10 16 then 4096 * (v / 4096)
  else if o = 0x58044 ∨ o = 0x58084 then v / 4 * 4
  else if inStride o 0x2020C 0x20 8 ∧ f.lo = 1 then v ||| 16
  else v

/-- Write a configuration field. -/
def State.store (s : State) (f : Fld) (v : Nat) : State := s.put f (fieldStores f v)

/-- The bits of an event field that no write clears: FAULT.HALF_LOST of a lost Half stays until HUB_RST_N (R503). -/
def State.stays (s : State) (f : Fld) : Nat := if s.halves.lost ∧ f = Reg.TEAM.FAULT.HALF_LOST then 1 else 0

/-- Software clears the bits `v` of an event field: bits that hardware sets in this fc stay (R96). -/
def State.clearBits (s : State) (f : Fld) (v : Nat) : State :=
  let keep := match s.hw.find? (fun (e : Nat × Nat × Nat) => e.1 == f.key) with
    | some e => e.2.2
    | none => 0
  let old := s.get f
  s.put f (old - (old &&& v) ||| (keep ||| s.stays f))

/-- After a write of FAULT that cleared every bit standing before this fc: the capture ends, and the first fault of page `p` in
this fc is captured as if the clear had come first (R90, R96); with none FAULT_INFO holds no capture and reads its reset value. -/
def State.recapture (s : State) (p : Nat) : State :=
  match s.hwFault.filter (fun (e : Nat × Nat × Nat) => e.1 == p) with
  | (_, b, d) :: _ => (s.put (Hdr.FAULT_INFO_FIRST p) b).put (Hdr.FAULT_INFO_DETAIL p) d
  | [] => (s.put (Hdr.FAULT_INFO_FIRST p) 0).put (Hdr.FAULT_INFO_DETAIL p) 0

/-- A field of the written register under its access code (R13); `locked`: its RWL fields are held. An alias write stores RW
fields only (R61). -/
def State.storeField (s : State) (w : Wr) (locked : Bool) (a : Acc) (f : Fld) : State :=
  match a with
  | .rw => s.store f (w.bits f)
  | .rwl => if locked || w.al then s else s.store f (w.bits f)
  | .wo1 => if w.al then s else s.put f (s.get f ||| w.bits f)
  | .w1c => if w.al then s else s.clearBits f (w.bits f)
  | _ => s

/-- Every field of the written register under its access code. -/
def State.storeReg (s : State) (w : Wr) (locked : Bool) : State :=
  let was := composeWord (fieldsAt w.o) s.before
  let s := (fieldsAt w.o).foldl (fun s e => s.storeField w locked e.1 e.2) s
  if w.o % 0x4000 = 0x18 then
    (if w.al ∨ was = 0 ∨ was &&& w.v ≠ was ∨ (s.halves.lost ∧ w.o = 0x48018) then s else s.recapture (w.o / 0x4000)).parityClear (w.o / 0x4000)
  else s

/-! ### CTRL (R92 to R95) -/

/-- ENABLE and ABORT writes have no effect on these pages. -/
def noControl (p : Nat) : Bool := p == 0 || p == 1 || p == 2 || p == 10 || p == 20 || p == 21 || p == 22

/-- Held Whistle requests are discarded (R194). -/
def State.whistleAbort (s : State) : State × Nat :=
  let n := s.whistle.held.length
  let s := { s with whistle := { s.whistle with held := [] } }
  ((s.bumpBy Reg.WHISTLE.STATUS.DISCARDS n).put Reg.WHISTLE.STATE.HELD 0, n)

/-- ABORT on the page in slot `p`: the state, and whether anything was discarded. -/
def State.pageAbort (s : State) (p : Nat) : State × Bool :=
  let count := fun (r : State × Nat) => (r.1, r.2 != 0)
  match p with
  | 3 => s.wheelAbort
  | 4 => count (s.camsDiscard (fun _ => true))
  | 5 => count s.whistleAbort
  | 6 => count s.runctlAbort
  | 7 => count s.breakAbort
  | 8 => let r := s.cutAbort; (if r.2 then r.1.bump Reg.CUT.STATUS.DISCARDS else r.1, r.2)
  | 9 => s.hopAbort
  | 11 => (s.flowAbort, s.flowBusy)
  | 12 => (s.cmdtrAbort, s.cmdtrBusy)
  | 13 => (s.funnelAbort, mergeCount (s.fh 0).merge + mergeCount (s.fh 1).merge != 0)
  | 14 => count s.scoreAbort
  | 15 => (s.tapAbort, s.tapWork)
  | 16 => s.hangAbort
  | 17 => s.millAbort
  | 18 => s.teamAbort
  | 19 => s.powerAbort
  | 23 => s.testAbort
  | _ => (s, false)

/-- The page owes EVENT.IDLE_ENTRY, or owes it no longer. -/
def State.setDraining (s : State) (p : Nat) (b : Bool) : State :=
  { s with bank := { s.bank with draining := if b then insertSorted p s.bank.draining else s.bank.draining.filter (fun x => x != p) } }

/-- The page has become idle after a drain or an abort. -/
def State.idleEntry (s : State) (p : Nat) : State :=
  if s.bank.draining.contains p ∧ ¬ s.pageBusy p then (s.setDraining p false).raise (Hdr.EVENT_IDLE_ENTRY p) else s

/-- ENABLE is written on the page in slot `p` (R92, R93, and the page rules). -/
def State.enableWrite (s : State) (p v : Nat) : State :=
  let was := s.pageEnable p
  let s := if p = Slot.MILLRACE then s.millEnable v else s.put (Hdr.CTRL_ENABLE p) v
  let s := if p = Slot.HANG ∧ v ≠ was then s.wdEnable v else s
  let s := if p = Slot.POWER then s.powerEnable v else s
  if s.pageEnable p = 1 then (if was = 0 ∧ s.get (Hdr.CTRL_ABORT p) = 0 then s.setDraining p false else s)
  else if was = 1 ∧ s.pageBusy p then s.setDraining p true
  else s

/-- ABORT is written as 1 on the page in slot `p` (R94, R95): what can be discarded is discarded at once, and ABORT reads 1
until ABORT_COMPLETE. -/
def State.abortWrite (s : State) (p : Nat) : State :=
  if s.pageBusy p then
    let r := s.pageAbort p
    let s := ((if r.2 then r.1.raise (Hdr.EVENT_DISCARD p) else r.1)).issueBit (Hdr.CTRL_ABORT p)
    s.setDraining p true
  else s

/-- The self-clearing command bits of CTRL beside ABORT: CLR_STATS, COLLECT_NOW, CENSUS_NOW. -/
def State.ctrlCommands (s : State) (p v : Nat) : State :=
  if ¬ s.parityOk p then s
  else if p = Slot.WHISTLE ∧ testBit v 8 then (s.put Reg.WHISTLE.SKEW_MAX.WORST 0).put Reg.WHISTLE.SKID_HIGH.WORST 0
  else if p = Slot.HANG ∧ testBit v 8 then s.collect
  else if p = Slot.TEAM ∧ testBit v 9 then s.censusNow
  else s

/-- A write of a page's CTRL. -/
def State.ctrlWrite (s : State) (w : Wr) : State :=
  let p := w.o / 0x4000
  if p = Slot.MILLRACE ∧ s.applyRefused (bits w.v 0 0) then s.millRefuse (s.enableFault mrApply) else
  let s := s.put (Hdr.CTRL_IRQ_EN p) (bits w.v 2 2)
  let s := if p = Slot.TEAM then s.put Reg.TEAM.CTRL.FAILOVER_EN (bits w.v 8 8) else s
  if noControl p then s
  else
    let s := s.enableWrite p (bits w.v 0 0)
    (if testBit w.v 1 then s.abortWrite p else s).ctrlCommands p w.v

/-! ### DATAWIN (R105 to R110) -/

/-- The prefetched words and the sticky bits [8:4] of an instance are dropped (R106); writes already accepted go on. -/
def State.winFlush (s : State) (i : Nat) : State :=
  let s := s.setDw i { writes := (s.dw i).writes }
  let s := ((s.put (Reg.DATAWIN.WIN_STATUS.UE i) 0).put (Reg.DATAWIN.WIN_STATUS.BAD_WRITE i) 0).put (Reg.DATAWIN.WIN_STATUS.BAD_SRC i) 0
  (s.put (Reg.DATAWIN.WIN_STATUS.TIMEOUT i) 0).put (Reg.DATAWIN.WIN_STATUS.RANGE i) 0

/-- The offset moves past one word. -/
def State.winAdvance (s : State) (i : Nat) : State :=
  let s := s.put64 (Reg.DATAWIN.WIN_OFFSET_LO i) (Reg.DATAWIN.WIN_OFFSET_HI i) (s.winOffset i + 4)
  let s := s.put (Reg.DATAWIN.WIN_COUNT i) (s.get (Reg.DATAWIN.WIN_COUNT i) - 1)
  s.setDw i { s.dw i with ready := (s.dw i).ready.drop 1 }

/-- The instance's count is 0 or its offset lies outside the source (R108). -/
def State.winOut (s : State) (i : Nat) : Bool :=
  s.get (Reg.DATAWIN.WIN_COUNT i) == 0 || decide (s.winSize (s.get (Reg.DATAWIN.WIN_SRC.SRC i)) ≤ s.winOffset i)

/-- A write of WIN_DATA (R109): to memory it waits for its block write. -/
def State.winWrite (s : State) (i v : Nat) : State :=
  let src := s.get (Reg.DATAWIN.WIN_SRC.SRC i)
  if s.get (Reg.DATAWIN.WIN_SRC.WRITE_EN i) = 0 ∨ ¬ (src = 0 ∨ src = 3) then s.put (Reg.DATAWIN.WIN_STATUS.BAD_WRITE i) 1
  else if s.winOut i then s.put (Reg.DATAWIN.WIN_STATUS.RANGE i) 1
  else
    let off := s.winOffset i
    let s := if src = 0 then s.setDw i { s.dw i with writes := (s.dw i).writes ++ [(off, BitVec.ofNat 32 v)] }
      else { s with cut := { s.cut with staged := Sparse.ins s.cut.staged (off / 4) v } }
    s.winAdvance i

/-- A write of WIN_SRC (R105, R106). -/
def State.winSrc (s : State) (i : Nat) (w : Wr) : State :=
  if 5 ≤ w.v % 8 then s.put (Reg.DATAWIN.WIN_STATUS.BAD_SRC i) 1
  else ((s.put (Reg.DATAWIN.WIN_SRC.SRC i) (w.v % 8)).put (Reg.DATAWIN.WIN_SRC.WRITE_EN i) (bits w.v 8 8)).winFlush i

/-- A write of WIN_COUNT (R106): prefetched words past the last one to transfer are dropped. -/
def State.winCount (s : State) (i v : Nat) : State :=
  (s.put (Reg.DATAWIN.WIN_COUNT i) v).setDw i { s.dw i with ready := (s.dw i).ready.take v }

/-! ### Registers whose write does more than store their fields -/

/-- HUB: IRQ_ROUTE (R99). -/
def State.writeHub (s : State) (w : Wr) : Option State :=
  if w.o = 0x6C then
    let s := s.put Reg.HUB.IRQ_ROUTE.SEL (w.bits Reg.HUB.IRQ_ROUTE.SEL)
    let t := s.get Reg.HUB.IRQ_ROUTE.SEL
    some (if ¬ w.al ∧ testBit w.v 8 ∧ 1 ≤ t ∧ t ≤ 24 then
      { s with bank := { s.bank with irqRoutes := Sparse.ins s.bank.irqRoutes (t - 1) (w.v % 4) } } else s)
  else none

/-- GUARD: AUTH_CMD, AUTH_RESP and SCRUB_CTRL. -/
def State.writeGuard (s : State) (w : Wr) : Option State :=
  if w.o = 0x4064 then some (if s.parityOk Slot.GUARD then s.authCmd w.v else s)
  else if 0x4090 ≤ w.o ∧ w.o < 0x40B0 then some (s.put (Reg.GUARD.AUTH_RESP ((w.o - 0x4090) / 4)) w.v)
  else if w.o = 0x40B0 then
    let s := s.put Reg.GUARD.SCRUB_CTRL.EN (bits w.v 0 0)
    if ¬ s.parityOk Slot.GUARD then some s
    else
      let s := if testBit w.v 2 then
          let o := 0x58
          { s with bank := { s.bank with parityBad :=
              if s.bank.parityBad.contains o then s.bank.parityBad.filter (fun x => x != o) else insertSorted o s.bank.parityBad } }
        else s
      some (if testBit w.v 1 then s.issueBit Reg.GUARD.SCRUB_CTRL.PASS_NOW else s)
  else none

/-- PORT: BSL_CTRL and the mailboxes (R569, R570). -/
def State.writePort (s : State) (w : Wr) (locked : Bool) : Option State :=
  if w.o = 0x8044 then
    let s := s.storeReg w locked
    some (s.bslCtrl (testBit w.v 0) (testBit w.v 1 && s.parityOk Slot.PORT))
  else if w.o = 0x8054 then
    some (if srcIsPort w.src then s
    else
      let s := if s.get Reg.PORT.MBOX_STATUS.OUT_FULL = 1 then s.raise Reg.PORT.MBOX_STATUS.OUT_OVR
        else (s.put Reg.PORT.MBOX_OUT.WORD w.v).put Reg.PORT.MBOX_STATUS.OUT_FULL 1
      if s.cfg Reg.PORT.EVFRAME_EN.MBOX = 1 then s.queueEvent 1 true else s)
  else if w.o = 0x8058 then
    some (if ¬ srcIsPort w.src then s
    else if s.get Reg.PORT.MBOX_STATUS.IN_FULL = 1 then s.raise Reg.PORT.MBOX_STATUS.IN_OVR
    else ((s.put Reg.PORT.MBOX_IN.WORD w.v).put Reg.PORT.MBOX_STATUS.IN_FULL 1).raise Reg.PORT.EVENT.MBOX_IN)
  else none

/-- POS (R153): the count of the revolution that begins at the next boundary, unless the source in effect is RING; `hi` is a
staged or written POS_HI, without which an earlier one keeps its place. -/
def State.posWrite (s : State) (lo hi : Option Nat) : State :=
  if s.wheel.sel = 2 then s
  else
    let hi := hi.or (s.wheel.nextRev.bind (·.2))
    let lo := match lo with
      | some v => v / 65536 % 65536
      | none => s.wheel.nextCount % 65536
    { s with wheel := { s.wheel with nextRev := some (lo, hi) } }

/-- CAMS: Cam 63 under the Millrace schedule (R151), and a cleared ENABLE bit (R142, R149). -/
def State.writeCams (s : State) (w : Wr) (locked : Bool) : Option State :=
  let mill := s.get Reg.MILLRACE.PERIOD_REV.REVS ≠ 0
  if mill ∧ 0x104F0 ≤ w.o ∧ w.o < 0x10500 then some (s.violation w.src w.o 1)
  else if w.o = 0x10040 then some (s.storeReg w locked).camsDisabled
  else if w.o = 0x10044 then
    let keep := s.get Reg.CAMS.ENABLE_HI / 2 ^ 31
    let t := s.storeReg w locked
    let t := if mill then t.put Reg.CAMS.ENABLE_HI (t.get Reg.CAMS.ENABLE_HI % 2 ^ 31 + 2 ^ 31 * keep) else t
    let t := if mill ∧ testBit w.m 31 then t.violation w.src w.o 1 else t
    some t.camsDisabled
  else none

/-- RUNCTL: HALT_CMD (in W2 it is answered at once and wakes the hub, R574, R576) and FEED_INSTR. -/
def State.writeRunctl (s : State) (w : Wr) (locked : Bool) : Option State :=
  if w.o = 0x18044 then
    let s := if s.unreachable ∧ ¬ s.tossActive then s.wakeNote wkAccess else s
    some (s.haltCmd (w.v % 8))
  else if w.o = 0x18040 then
    let s := s.storeReg w locked
    some (s.showFeeds (s.get Reg.RUNCTL.TARGET.ID))
  else if w.o = 0x1804C then some (s.feedInstr w.v)
  else none

/-- BREAK: a slot's configuration (R226). -/
def State.writeBreak (s : State) (w : Wr) (locked : Bool) : Option State :=
  if w.o = 0x1C040 then
    let was := s.get Reg.BREAK.SLOT_ENABLE
    let s := s.storeReg w locked
    some (slots.foldl (fun s n => if testBit w.v n ∧ ¬ testBit was n then s.slotClear n else s) s)
  else if 0x1C100 ≤ w.o ∧ w.o < 0x1C500 ∧ (w.o - 0x1C100) % 0x20 < 0x14 then
    some ((s.storeReg w locked).slotClear ((w.o - 0x1C100) / 0x20))
  else none

/-- CUT and HOPPER: the commands. -/
def State.writeJobs (s : State) (w : Wr) : Option State :=
  if w.o = 0x20044 then some (s.cutCmd (w.v % 8) (s.cfg Reg.CUT.SET_SEL.SET) (srcWhistle w.src) (srcNo w.src))
  else if w.o = 0x2405C then some (if testBit w.v 0 then s.hopperGo else s)
  else none

/-- FLOW: a sampler that is switched on starts its count (R385). -/
def State.writeFlow (s : State) (w : Wr) (locked : Bool) : Option State :=
  if w.o = 0x2C050 then
    let was := s.get Reg.FLOW.PCS_CTRL.EN
    let s := s.storeReg w locked
    some (if was = 0 ∧ testBit w.v 0 then { s with trace := { s.trace with pcsLast := s.fc, pcsSeq := 0 } } else s)
  else none

/-- FUNNEL: MODE, TRIG_CMD, and the spill area in SPILL mode (R410, pairs of SPILL_BASE in `commitPair`). -/
def State.writeFunnel (s : State) (w : Wr) (locked : Bool) : Option State :=
  if w.o = 0x34040 then some (s.funnelMode (w.v % 4) (bits w.v 8 8))
  else if w.o = 0x34048 then
    some (if w.al ∨ w.v % 8 = 0 then s.storeReg w locked
    else if s.parityOk Slot.FUNNEL then (s.storeReg w locked).trigCmd (srcNo w.src) (w.v % 8)
    else s.trigCmd (srcNo w.src) (w.v % 8))
  else if w.o = 0x34060 ∧ s.get Reg.FUNNEL.MODE.MODE = 2 then some (s.violation w.src w.o 1)
  else none

/-- SCORE: CONTEXT_SEL, SNAP_CMD and the counters' configuration (R438, R440). -/
def State.writeScore (s : State) (w : Wr) (locked : Bool) : Option State :=
  if w.o = 0x38048 then some (s.contextSel (if w.al then w.v % 2 ^ 31 else w.v))
  else if w.o = 0x38050 then some (s.snapCmd (w.v % 8))
  else if inStride w.o 0x38100 0x10 64 then some ((s.storeReg w locked).counterConfigured ((w.o - 0x38100) / 16) w.m)
  else if inStride w.o 0x38104 0x10 64 then some (s.storeReg w locked).judgeConflicts
  else none

/-- TWATCH: the selected slot's registers and the result window (R453, R462, R466). -/
def State.writeTwatch (s : State) (w : Wr) (locked : Bool) : Option State :=
  let n := s.get Reg.TWATCH.TAP_SEL.SLOT
  if w.o = 0x3C044 then
    let was := s.get (TapSlot.ENABLE n)
    let s := (s.put (TapSlot.AGENT n) (bits w.v 31 18)).put (TapSlot.RANGE n) (bits w.v 11 10)
    let s := (s.put (TapSlot.CLOSE n) (bits w.v 9 8)).put (TapSlot.ENABLE n) (bits w.v 0 0)
    let s := if was = 1 ∨ testBit w.v 0 then s.tapPush n else s
    some (if testBit w.v 1 ∧ s.parityOk Slot.TWATCH then s.tapManual n else s)
  else if w.o = 0x3C048 then
    some (if 11 ≤ w.v % 16 then s
    else
      let s := s.put (TapSlot.FORMAT n) (w.v % 16)
      if s.get (TapSlot.ENABLE n) = 1 then s.tapPush n else s)
  else if w.o = 0x3C04C then
    let low := bits w.v 15 8
    let s := (s.put (TapSlot.HIST_LOW n) (if 98 < low ∧ low < 128 then 98 else low)).put (TapSlot.BITS n) (min 22 (w.v % 32))
    some (if s.get (TapSlot.ENABLE n) = 1 then s.tapPush n else s)
  else if w.o = 0x3C050 then
    let s := s.storeReg w locked
    some (s.tapCopy (s.get Reg.TWATCH.RESULT_SEL.SLOT))
  else none

/-- HANG: the pushed limit and the kick (R473, R476, R80). -/
def State.writeHang (s : State) (w : Wr) (locked : Bool) : Option State :=
  if w.o = 0x40040 then some (s.storeReg w locked).wdPush
  else if w.o = 0x40068 then
    let s := s.storeReg w locked
    some (if testBit w.v 31 ∧ s.parityOk Slot.HANG then s.wdKick else s)
  else none

/-- MILLRACE (R309, R312, R347, R348). -/
def State.writeMill (s : State) (w : Wr) : Option State :=
  if w.o = 0x44040 then some (s.millPeriod w.v)
  else if w.o = 0x44054 ∨ w.o = 0x44058 then some (s.ringPointer (w.o = 0x44058) w.v)
  else if w.o = 0x44068 then some (s.millRole (w.v % 2))
  else if w.o = 0x44070 then some (s.restoreCmd (w.v % 8))
  else if s.millRuns ∧ (w.o = 0x44048 ∨ w.o = 0x4404C ∨ w.o = 0x44050 ∨ (0x44200 ≤ w.o ∧ w.o < 0x44300)) then
    some (s.violation w.src w.o 1)
  else none

/-- TEAM: BUSY during a Toss (R72), ROLE, MEMBER_ID (R506) and XWHISTLE_CMD. -/
def State.writeTeam (s : State) (w : Wr) (locked : Bool) : Option State :=
  if s.tossActive then some (if w.o = 0x48084 then s.put Reg.TEAM.XWHISTLE_CMD.RESULT xrBusy else s.put Reg.TEAM.STATUS.TOSS_BUSY 1)
  else
    let s := s.put Reg.TEAM.STATUS.TOSS_BUSY 0
    if w.o % 0x1000 = 0x08 then some (s.ctrlWrite w)
    else if w.o = 0x48040 then some ((s.put Reg.TEAM.ROLE.DEPUTY (bits w.v 9 9)).roleWrite (w.v % 4))
    else if w.o = 0x48044 ∧ s.teamRole ≠ trSolo then
      let s := (s.put Reg.TEAM.MEMBER_ID.STANDBY_VALID (bits w.v 24 24)).put Reg.TEAM.MEMBER_ID.STANDBY_FOR (bits w.v 23 16)
      some (if w.m % 256 ≠ 0 then s.violation w.src w.o 1 else s)
    else if w.o = 0x48084 then
      some (if w.al then s.storeReg w locked
      else if s.parityOk Slot.TEAM ∨ w.v % 8 = 0 then (s.storeReg w locked).xwCmd (w.v % 8)
      else s.xwCmd (w.v % 8))
    else some (s.storeReg w locked)

/-- POWER, CRASH, UNITWIN, DATAWIN and SELFTEST. -/
def State.writeRest (s : State) (w : Wr) : Option State :=
  if w.o = 0x4C040 then some (s.targetState w.v)
  else if w.o = 0x5005C then some (if testBit w.v 0 ∧ s.parityOk Slot.CRASH then s.crashRelease else s)
  else if w.o = 0x50060 then
    let s := s.put Reg.CRASH.ARM.ARMED (bits w.v 0 0)
    some (if testBit w.v 1 ∧ s.parityOk Slot.CRASH then s.captureNow else s)
  else if w.o = 0x54040 then some ((s.put Reg.UNITWIN.AGENT_SEL.ID (w.v % 2 ^ 14)).put Reg.UNITWIN.AGENT_STATE.TIMEOUT 0)
  else if w.o = 0x58040 ∨ w.o = 0x58080 then some (s.winSrc ((w.o - 0x58040) / 0x40) w)
  else if w.o = 0x5804C ∨ w.o = 0x5808C then some (s.winWrite ((w.o - 0x5804C) / 0x40) w.v)
  else if w.o = 0x58050 ∨ w.o = 0x58090 then some (s.winCount ((w.o - 0x58050) / 0x40) w.v)
  else if w.o = 0x5C044 then some (s.testCmd (w.v % 4))
  else if w.o = 0x5C054 then some (s.calCmd (w.v % 4))
  else none

/-- The write does more than store the register's fields. -/
def State.writeSpecial (s : State) (w : Wr) (locked : Bool) : Option State :=
  if w.o / 0x4000 = Slot.TEAM then s.writeTeam w locked
  else if w.o % 0x1000 = 0x08 then some (s.ctrlWrite w)
  else match w.o / 0x4000 with
    | 0 => s.writeHub w
    | 1 => s.writeGuard w
    | 2 => s.writePort w locked
    | 4 => s.writeCams w locked
    | 5 => if w.o = 0x14040 then some (s.whistleCmd (srcWhistle w.src) (srcNo w.src) w.v) else none
    | 6 => s.writeRunctl w locked
    | 7 => s.writeBreak w locked
    | 8 | 9 => s.writeJobs w
    | 11 => s.writeFlow w locked
    | 13 => s.writeFunnel w locked
    | 14 => s.writeScore w locked
    | 15 => s.writeTwatch w locked
    | 16 => s.writeHang w locked
    | 17 => s.writeMill w
    | _ => s.writeRest w

/-- A write that is performed: the register's parity is recomputed (R86). -/
def State.regWrite (s : State) (w : Wr) (locked : Bool) : State :=
  ((s.writeSpecial w locked).getD (s.storeReg w locked)).parityWritten w.o

/-! ### Pairs (R77, R78, R622) -/

/-- The low word `lo` of the pair at `o` is committed, with a high word where one is given. -/
def State.commitPair (s : State) (src : Src) (o lo : Nat) (hi : Option Nat) : State :=
  let fl : Fld := ⟨o, 31, 0, 0⟩
  let both := fun (s : State) =>
    let s := s.storeReg ⟨src, o, lo, false, 2 ^ 32 - 1⟩ false
    match hi with
    | some h => s.storeReg ⟨src, o + 4, h, false, 2 ^ 32 - 1⟩ false
    | none => s
  if o = 0xC050 then s.posWrite (some lo) hi
  else if o = 0x18050 then
    (if s.feedDataBusy then s.put Reg.RUNCTL.FEED_STATUS.OVERRUN 1 else both s)
  else if o = 0x20058 ∧ s.cfg Reg.CUT.POLICY.DEST = 1 then
    s.portLimit (2 ^ 32 * (match hi with
      | some h => h
      | none => s.get Reg.CUT.LIMIT_HI) + lo)
  else if o = 0x34058 ∧ s.get Reg.FUNNEL.MODE.MODE = 2 then s.violation src o 1
  else if (o = 0x44048 ∨ (0x44200 ≤ o ∧ o < 0x44300)) ∧ s.millRuns then s.violation src o 1
  else if inStride o 0x38108 0x10 64 then
    let n := (o - 0x38108) / 16
    let inc := (Sparse.get s.hw (Reg.SCORE.CNT_LO n).key (0, 0)).2
    let h := match hi with
      | some h => h
      | none => s.cfg (Reg.SCORE.CNT_HI n)
    let v := 2 ^ 32 * h + lo
    let s := (s.put64 (Reg.SCORE.CNT_LO n) (Reg.SCORE.CNT_HI n) v).counterWritten n
    let b := Sparse.get s.score.base n ⟨0, 0, 0⟩
    { s.put64 (Reg.SCORE.CNT_LO n) (Reg.SCORE.CNT_HI n) ((v + inc) % 2 ^ 64) with
      score := { s.score with base := Sparse.ins s.score.base n { b with e := inc % 2 ^ 64 } } }
  else if o = 0x58044 ∨ o = 0x58084 then (both s).winFlush ((o - 0x58044) / 0x40)
  else if fieldsAt fl.off = [] then s
  else both s

/-- A write of a pair's word (R77, R78), or an alias write of it, which is performed at once (R622); a write of FEED_DATA_HI while
a feed is in progress is discarded, not staged (R210). -/
def State.pairWrite (s : State) (w : Wr) : State :=
  if w.al then
    let o := if isPairLo w.o then w.o else w.o - 4
    let other := if isPairLo w.o then none else some w.v
    let s := if isPairLo w.o then s.commitPair w.src o w.v other
      else if o = 0xC050 then s.posWrite none other
      else s.commitPair w.src o (s.readWord o) other
    s.parityWritten w.o
  else if isPairLo w.o then
    let hi := s.stageOf w.src w.o
    let s := (s.commitPair w.src w.o w.v hi).parityWritten w.o
    if hi.isSome then (s.stageDrop w.src).parityWritten (w.o + 4) else s
  else if w.o = 0x18054 ∧ s.feedDataBusy then s.put Reg.RUNCTL.FEED_STATUS.OVERRUN 1
  else s.stageSet w.src (w.o - 4) w.v

/-! ### Alias words (R61, R63) -/

/-- The field's part of the word that an alias write writes back. -/
def aliasField (view : View) (data : Nat) (a : Acc) (f : Fld) (old : Nat) : Nat :=
  let d := bits data f.hi f.lo
  match a with
  | .rw => (match view with
    | .set => old ||| d
    | .clr => old - (old &&& d)
    | .tgl => old ^^^ d)
  | .sc => (match view with
    | .set => d
    | _ => 0)
  | .rwl => old
  | _ => 0

/-- The write that an alias write of `data` makes of the register at `o`. -/
def State.aliasWr (s : State) (src : Src) (o : Nat) (view : View) (data : Nat) : Wr :=
  let live := s.liveAt o
  ⟨src, o, composeRead (fieldsAt o) (fun a f => aliasField view data a f (s.value live a f)), true, data⟩

end Sys2Proof.Machine
end

