-- ==== Sys2Proof/Machine/Bank.lean ====
section
/-! DEFINITION. The register bank: one access at a time, from its checks to its answer (chapter 2). -/

namespace Sys2Proof.Machine

/-! ### The access as the bank sees it -/

/-- The base offset and the kind: through an alias view a read is a peek read and a write an alias write (Table 2-1). -/
def Access.norm (a : Access) : Nat × AccKind :=
  let o := offBase a.off
  match a.kind, offView a.off with
  | .read, some _ => (o, .peek)
  | .write d, some v => (o, .rmw v d)
  | k, _ => (o, k)

/-- The access writes. -/
def AccKind.isWrite : AccKind → Bool
  | .write _ => true
  | .rmw _ _ => true
  | _ => false

/-- The written bit `i` of a write or of a SET. -/
def AccKind.sets (k : AccKind) (i : Nat) : Bool :=
  match k with
  | .write d => testBit d.toNat i
  | .rmw .set d => testBit d.toNat i
  | _ => false

/-- The deepest power state that runs every function the access needs (Table 16-2, R576): 0 for the commands of the blocks
that run in W0 only and for the bulk window, 1 for feeds, snapshots and collections, else 2. -/
def State.accessNeeds (s : State) (a : Access) : Nat :=
  let (o, k) := a.norm
  if ¬ s.levelOk a.src o k.isWrite then 2
  else if o = 0x5804C ∨ o = 0x5808C then 0
  else if ¬ k.isWrite then 2
  else if o = 0x20044 ∨ o = 0x2405C ∨ o = 0x44070 ∨ o = 0x5C044 ∨ o = 0x34048 then 0
  else if (o = 0x50060 ∨ o = 0x3C044) ∧ k.sets 1 then 0
  else if o = 0x1804C ∨ o = 0x38050 ∨ (o = 0x40008 ∧ k.sets 8) then 1
  else 2

/-- The access may be performed in the present power state; window accesses never wait (R104, R576). -/
def State.powered (s : State) (a : Access) : Bool :=
  isWindow a.norm.1 || decide (s.power ≤ s.accessNeeds a)

/-! ### Answers -/

/-- The answer goes back to its source: a BSL request, the TAP, or the bus (kept as the last answer). -/
def State.answer (s : State) (via : Nat) (r : Resp) : State :=
  if via = 1 then s.bslAnswer r
  else if via = 2 then s.tapAnswer r
  else if via = 3 then s
  else { s with bank := { s.bank with resps := s.bank.resps.filter (fun x => x.src != r.src) ++ [r] } }

/-- A bus error. -/
def State.answerErr (s : State) (a : Access) : State := s.answer a.via { src := a.src, err := true, data := 0 }

/-- Response OK with data. -/
def State.answerOk (s : State) (a : Access) (v : Nat) : State :=
  s.answer a.via { src := a.src, err := false, data := BitVec.ofNat 32 v }

/-! ### Reads -/

/-- An RC field is read: what was returned is removed, this fc's update stays (R96). -/
def State.rcClear (s : State) (f : Fld) : State :=
  let upd := match s.hw.find? (fun (e : Nat × Nat × Nat) => e.1 == f.key) with
    | some e => e.2.2
    | none => 0
  s.put f upd

/-- The side effects of an ordinary read (R55, R490, R569, R570). -/
def State.readEffect (s : State) (x : Src) (o : Nat) : State :=
  if o = 0x8054 then
    (if srcIsPort x then (s.put Reg.PORT.MBOX_STATUS.OUT_FULL 0).raise Reg.PORT.EVENT.MBOX_TAKEN else s)
  else if o = 0x8058 then (s.put Reg.PORT.MBOX_IN.WORD 0).put Reg.PORT.MBOX_STATUS.IN_FULL 0
  else if o = 0x40064 then s.put Reg.HANG.EDGE_INDEX.INDEX (s.get Reg.HANG.EDGE_INDEX.INDEX + 1)
  else (fieldsAt o).foldl (fun s e => if e.1 = .rc then s.rcClear e.2 else s) s

/-- A read of a hub register that is performed (R74 to R76). -/
def State.regRead (s : State) (x : Src) (o : Nat) (peek : Bool) : State × Nat :=
  let t := s.parityCheck o
  if o = 0x24070 then (t, s.enginesBusy)
  else if isPairLo o then
    let t := t.latchSet x o (s.readWord (o + 4))
    (t, s.readWord o)
  else
    let v := if isPairHi o then (s.latchOf x (o - 4)).getD (s.readWord o) else s.readWord o
    (if peek then t else t.readEffect x o, v)

/-- A read of WIN_DATA (R107, R108, R110); none while the word is awaited. -/
def State.winRead (s : State) (i : Nat) (peek : Bool) : Option (State × Nat × Bool) :=
  if s.winOut i then some (if peek then s else s.put (Reg.DATAWIN.WIN_STATUS.RANGE i) 1, 0, !peek)
  else match (s.dw i).ready with
    | [] => none
    | (w, ue) :: _ =>
      if peek then some (s, w.toNat, false)
      else
        let s := if ue then s.put (Reg.DATAWIN.WIN_STATUS.UE i) 1 else s
        some (s.winAdvance i, w.toNat, false)

/-! ### Performing an access -/

/-- The bank is busy with an access (R65). -/
def State.setBusy (s : State) (a : Access) : State := { s with bank := { s.bank with busy := some a, busyFc := s.fc } }

/-- The bank is free again. -/
def State.clearBusy (s : State) : State := { s with bank := { s.bank with busy := none } }

/-- A WIN_DATA read or peek: answered, or waiting for its word. -/
def State.winAccess (s : State) (a : Access) (i : Nat) (peek : Bool) : State :=
  match s.winRead i peek with
  | some (s, v, range) => s.clearBusy.answer a.via { src := a.src, err := false, data := BitVec.ofNat 32 v, range := range }
  | none => s.setBusy a

/-- A window access past its checks (R103, R104): refused while the agents are unreachable; a _HI word of an agent pair is
served from the source's latch and stage (R76, R77); else it is sent to the agent. -/
def State.windowAccess (s : State) (a : Access) (o : Nat) (k : AccKind) : State :=
  if s.unreachable then (s.wakeNote wkAccess).answerErr a
  else
    let send := fun (s : State) => (s.setBusy a).put Reg.UNITWIN.AGENT_STATE.PENDING 1
    match agentPair s.winType (o - 0x54000), k with
    | some (lo, true), .write d => (s.stageSet a.src (agentTag s.winAgent lo) d.toNat).answerOk a 0
    | some (lo, true), .read | some (lo, true), .peek =>
      (match s.latchOf a.src (agentTag s.winAgent lo) with
      | some v => s.answerOk a v
      | none => send s)
    | _, _ => send s

/-- A write of a hub register past its levels: locks, pairs, and the write itself. -/
def State.writeAccess (s : State) (a : Access) (w : Wr) : State :=
  let c := s.lockCheck a.src w.o w.v
  let s := if c.1 = 0 then s else s.violation a.src w.o c.1
  let s := if ¬ c.2 then s
    else if isPairLo w.o ∨ isPairHi w.o then s.pairWrite w
    else s.regWrite w (s.rwlLocked a.src w.o)
  s.answerOk a 0

/-- The checks of Table 2-2, and the access. -/
def State.perform (s : State) (a : Access) : State :=
  let (o, k) := a.norm
  let isAlias : Bool := match k with
    | .rmw _ _ => true
    | _ => false
  if ¬ s.offsetDefined o then s.answerErr a
  else if isAlias && !s.aliasOk o then s.answerErr a
  else if ¬ s.levelOk a.src o k.isWrite then (s.violation a.src o 3).answerOk a 0
  else if isWindow o then s.windowAccess a o k
  else match k with
    | .read =>
      if o = 0x5804C ∨ o = 0x5808C then s.winAccess a ((o - 0x5804C) / 0x40) false
      else let r := s.regRead a.src o false; r.1.answerOk a r.2
    | .peek =>
      if o = 0x5804C ∨ o = 0x5808C then s.winAccess a ((o - 0x5804C) / 0x40) true
      else let r := s.regRead a.src o true; r.1.answerOk a r.2
    | .write d => s.writeAccess a ⟨a.src, o, d.toNat, false, 2 ^ 32 - 1⟩
    | .rmw v d => s.writeAccess a (s.aliasWr a.src o v d.toNat)

/-! ### Serving (R65) -/

/-- An access waits behind the accesses of its path. -/
def State.hold (s : State) (a : Access) : State := { s with bank := { s.bank with held := s.bank.held ++ [a] } }

/-- Accesses that the model performs in one fc stand for accesses of successive fc (R65, R97): what the earlier one left is
the start-of-fc state of the next. -/
def State.accessFc (s : State) : State :=
  let s := if s.bank.doneFc = some s.fc then { s with regs0 := s.regs, hw := [], hwFault := [] } else s
  { s with bank := { s.bank with doneFc := some s.fc } }

/-- The oldest access that waits on a path. -/
def State.pathHead (s : State) (p : Nat) : Option Access := s.bank.held.find? (fun a => srcPath a.src == p)

/-- The oldest access of path `p`, if it can be performed now. -/
def State.pathReady (s : State) (p : Nat) : Option Access :=
  match s.pathHead p with
  | some a => if s.powered a then some a else none
  | none => none

/-- The access served next, round-robin among the paths. -/
def State.nextAccess (s : State) : Option Access :=
  let p := s.bank.lastPath
  ((s.pathReady ((p + 1) % 3)).or (s.pathReady ((p + 2) % 3))).or (s.pathReady (p % 3))

/-- The BSL's oldest request presents its next access, or ends when it has no words. -/
def State.bslPresent (s : State) : Option State :=
  match s.bslNext with
  | some a =>
    some (s.bslAsked.hold a)
  | none =>
    match s.bsl.reqs with
    | r :: _ => if r.left = 0 ∧ ¬ r.asked then some (s.bslEnd r false) else none
    | [] => none

/-- The next access is taken and performed. -/
def State.serveOne (s : State) : Option State :=
  match s.bslPresent with
  | some s => some s
  | none =>
    if s.bank.busy.isSome ∨ ¬ s.isReady then none
    else match s.nextAccess with
      | some a =>
        let s := { s with bank := { s.bank with held := s.bank.held.erase a, lastPath := srcPath a.src } }
        some (s.accessFc.perform a)
      | none => none

/-- An access that waits for power is an ACCESS wake source (R576). -/
def State.holdWake (s : State) : State :=
  if s.isReady ∧ s.bank.held.any (fun a => !s.powered a) then s.wakeNote wkAccess else s

/-- Serve at most that many times. -/
def State.serveN : Nat → State → State
  | 0, s => s
  | n + 1, s =>
    match s.serveOne with
    | some s => State.serveN n s
    | none => s.holdWake

/-- How often the bank can serve at the most: once for each access that waits, and twice for each word of a BSL request (the
request presents it, the bank performs it) and once for its end; what a fc leaves is served in later fc. -/
def State.waiting (s : State) : Nat :=
  min 1024 (s.bank.held.length + (s.bsl.reqs.map (fun r => 2 * r.left + 1)).sum)

/-- Serve what waits. -/
def State.serve (s : State) : State := State.serveN s.waiting s

/-- An access reaches the bank. -/
def State.present (s : State) (a : Access) : State := (s.hold a).serve

/-! ### Windows (R103 to R110) -/

/-- The agent answers the outstanding window access; `live` is what the unit's registers show: the accessed word, and for the
_LO word of a pair its high word above it. -/
def State.windowAnswer (s : State) (a : Access) (live : Nat) : State :=
  let (o, k) := a.norm
  let g := s.winAgent
  let r := o - 0x54000
  let s := s.clearBusy.put Reg.UNITWIN.AGENT_STATE.PENDING 0
  let read := fun (peek : Bool) =>
    let v := s.agentWord g r (live % 2 ^ 32)
    let t := match agentPair (agentType g) r with
      | some (lo, false) => s.latchSet a.src (agentTag g lo) (s.agentWord g (lo + 4) (live / 2 ^ 32))
      | _ => s
    (t.agentRead g r v peek).answerOk a v
  match k with
  | .read => read false
  | .peek => read true
  | .write d =>
    (match agentPair (agentType g) r with
    | some (lo, false) =>
      (match s.stageOf a.src (agentTag g lo) with
      | some h => ((s.agentWrite g lo d.toNat 0).agentWrite g (lo + 4) h 0).stageDrop a.src
      | none => s.agentWrite g lo d.toNat 0)
    | _ => s.agentWrite g r d.toNat d.toNat).answerOk a 0
  | .rmw v d => (s.agentAlias g r v d.toNat live).answerOk a 0

/-- The outstanding window access ends with a bus error and no effect in the hub (R103, R104). -/
def State.windowError (s : State) (a : Access) (timeout : Bool) : State :=
  let s := s.clearBusy.put Reg.UNITWIN.AGENT_STATE.PENDING 0
  (if timeout then s.put Reg.UNITWIN.AGENT_STATE.TIMEOUT 1 else s).answerErr a

/-- The window access that waits for its agent. -/
def State.windowWaits (s : State) : Option Access :=
  match s.bank.busy with
  | some a => if isWindow a.norm.1 then some a else none
  | none => none

/-- R104: an access that is outstanding when the rings power down ends with a bus error. -/
def State.windowCut (s : State) : State :=
  match s.windowWaits with
  | some a => if s.unreachable then s.windowError a false else s
  | none => s

/-- A WIN_DATA read whose word has not come in time (R107). -/
def State.winTimeout (s : State) (a : Access) (i : Nat) : State :=
  (s.clearBusy.put (Reg.DATAWIN.WIN_STATUS.TIMEOUT i) 1).answerErr a

/-- The word at byte `off` of a DATAWIN source with its UE flag, if the instance can take it: one of memory once its block has
come (R106, R231), any other from what the hub holds. -/
def State.winWord (s : State) (i src off : Nat) (ue : Bool) : Option (Word × Bool) :=
  if src = 0 then
    (match (s.dw i).blocks.find? (fun e => e.1 == off / 64) with
    | some (_, b, u) => some (BitVec.ofNat 32 (wordAt b (off % 64 / 4)), u || ue)
    | none => none)
  else some (BitVec.ofNat 32 (s.sramWord src off), ue)

/-- The words from byte `off` on, at most `n`, as far as they can be taken. -/
def State.winWords (s : State) (i src : Nat) (ue : Bool) : Nat → Nat → List (Word × Bool)
  | 0, _ => []
  | n + 1, off => match s.winWord i src off ue with
    | some w => w :: State.winWords s i src ue n (off + 4)
    | none => []

/-- Words arrive for a DATAWIN instance (R106), at most `n`: up to 256 bytes ahead and never beyond the last word to transfer or
the source's last byte; a waiting read is answered. Blocks whose words have all been taken are let go. -/
def State.prefetch (s : State) (i n : Nat) (ue : Bool) : State :=
  let d := s.dw i
  let src := s.get (Reg.DATAWIN.WIN_SRC.SRC i)
  let off := s.winOffset i
  let have_ := d.ready.length
  let left := min (s.get (Reg.DATAWIN.WIN_COUNT i)) ((s.winSize src - off + 3) / 4)
  let n := min n (min (64 - have_) (left - have_))
  let new := s.winWords i src ue n (off + 4 * have_)
  let next := (off + 4 * (have_ + new.length)) / 64
  let s := if s.power = 0 then s.setDw i { d with ready := d.ready ++ new, blocks := d.blocks.filter (fun e => decide (next ≤ e.1)) } else s
  match s.bank.busy with
  | some a =>
    let (o, k) := a.norm
    if o = 0x5804C + 0x40 * i then
      (if s.bank.busyFc + 65536 < s.fc then s.winTimeout a i else s.clearBusy.winAccess a i (k == .peek))
    else s
  | none => s

end Sys2Proof.Machine
end

