-- ==== Sys2Proof/Machine/Access.lean ====
section
/-! DEFINITION. The commands that reach the block through the register bank: reads, writes, window accesses, the frames and
pins of the ports, and what the bank does on its own. -/

namespace Sys2Proof.Machine

/-! ### The shared forms -/

/-- Source `x` writes `d` to the register at offset `o`. -/
def State.busWrite (s : State) (x : Src) (o : Nat) (d : Word) : State := s.present { src := x, off := o, kind := .write d }

/-- Source `x` makes an ordinary read of the register at offset `o`. -/
def State.busRead (s : State) (x : Src) (o : Nat) : State := s.present { src := x, off := o, kind := .read }

/-- Source `x` writes `d` to the SET alias of the register at offset `o`: only the bits of `d` change. -/
def State.busSet (s : State) (x : Src) (o : Nat) (d : Word) : State := s.busWrite x (o + 0x1000) d

/-- The offset of a register in a view (Table 2-1). -/
def viewOff (o : Nat) (v : View) : Nat :=
  offBase o + (match v with
    | .set => 0x1000
    | .clr => 0x2000
    | .tgl => 0x3000)

/-- The selected agent answers window accesses: its Half is not lost (R503). -/
def State.agentAnswers (s : State) : Bool :=
  (if agentHalf s.winAgent = 0 then s.get Reg.HUB.HALVES.NORTH_OK else s.get Reg.HUB.HALVES.SOUTH_OK) == 1

/-- Source `x` accesses the register at page offset `o` of agent `a` through UNITWIN: AGENT_SEL is written first where it does
not name the agent, and the agent answers (R102, R103). -/
def State.winDo (s : State) (x : Src) (a o : Nat) (k : AccKind) : State :=
  let s := if s.winAgent = a then s else s.busWrite x 0x54040 (BitVec.ofNat 32 a)
  let acc : Access := { src := x, off := 0x54000 + o, kind := k }
  let s := s.present acc
  if s.bank.busy = some acc ∧ s.agentAnswers then (s.windowAnswer acc 0).serve else s

/-- Source `x` writes `d` to the register at `o`, whose other RW fields keep their values. -/
def State.busCmd (s : State) (x : Src) (o d : Nat) : State :=
  let keep := composeWord ((fieldsAt o).filter (fun e => e.1 == .rw || e.1 == .rwl)) s.get
  s.busWrite x o (BitVec.ofNat 32 (keep + d))

/-- A Whistle request from its source (R157, Table 4-1): an access writes WHISTLE.CMD, an automatic source asks at once. -/
def State.whistleFrom (s : State) (w : WSource) (code arg : Nat) : State :=
  match w with
  | .access x => s.busWrite x 0x14040 (BitVec.ofNat 32 code)
  | _ => (match WSource.req w code arg with
    | some r => (s.whistleReq r).1
    | none => s)

/-! ### Plain accesses (R58 to R65, R74 to R78) -/

/-- R67: a write of a hub register. -/
def execRegisterWrite (src : Src) (off : Off) (data : Word) (s : State) : Host.Outcome State Fault Refusal :=
  .next (s.busWrite src off.toNat data)

/-- R61 to R63: a write through an alias view. -/
def execAliasWrite (src : Src) (view : View) (off : Off) (data : Word) (s : State) : Host.Outcome State Fault Refusal :=
  .next (s.busWrite src (viewOff off.toNat view) data)

/-- R74: a peek read, which has no side effects. -/
def execPeekRead (src : Src) (off : Off) (s : State) : Host.Outcome State Fault Refusal :=
  .next (s.present { src := src, off := off.toNat, kind := .peek })

/-- R67: an ordinary read. -/
def execOrdinaryRead (src : Src) (off : Off) (s : State) : Host.Outcome State Fault Refusal := .next (s.busRead src off.toNat)

/-- R76: a read of a _LO word latches its _HI word. -/
def execPairLoRead (src : Src) (off : Off) (s : State) : Host.Outcome State Fault Refusal := .next (s.busRead src off.toNat)

/-- R77: a write of a _HI word is staged. -/
def execPairHiWrite (src : Src) (off : Off) (data : Word) (s : State) : Host.Outcome State Fault Refusal :=
  .next (s.busWrite src off.toNat data)

/-- R77, R78: a write of a _LO word commits the pair. -/
def execPairLoWrite (src : Src) (off : Off) (data : Word) (s : State) : Host.Outcome State Fault Refusal :=
  .next (s.busWrite src off.toNat data)

/-! ### Page headers (R79, R83 to R99) -/

/-- R79: a write of LOCK. -/
def execCfgLock (src : Src) (page : PageSlot) (data : Word) (s : State) : Host.Outcome State Fault Refusal :=
  .next (s.busWrite src (0x4000 * page.toNat + 0x20) data)

/-- R83: the scrubber passes over every configuration register. -/
def execScrubPass (s : State) : Host.Outcome State Fault Refusal :=
  .next (if (s.cfg Reg.GUARD.SCRUB_CTRL.EN = 1 ∨ s.get Reg.GUARD.SCRUB_CTRL.PASS_NOW = 1) ∧ s.isReady ∧ s.power ≤ 2 then s.scrubPass
  else s)

/-- R83: SCRUB_CTRL.PASS_NOW is written as 1. -/
def execPassNow (src : Src) (s : State) : Host.Outcome State Fault Refusal := .next (s.busSet src 0x40B0 2)

/-- R84: SCRUB_CTRL.INJECT is written as 1. -/
def execInject (src : Src) (s : State) : Host.Outcome State Fault Refusal := .next (s.busSet src 0x40B0 4)

/-- R92, R93: a write of CTRL with its ENABLE. -/
def execCtrlEnableWrite (src : Src) (page : PageSlot) (data : Word) (s : State) : Host.Outcome State Fault Refusal :=
  .next (s.busWrite src (0x4000 * page.toNat + 8) data)

/-- R92: the last item of a draining page has finished. -/
def execDrainComplete (page : PageSlot) (s : State) : Host.Outcome State Fault Refusal := .next (s.idleEntry page.toNat)

/-- R94, R95: a write of CTRL with ABORT at 1. -/
def execCtrlAbort (src : Src) (page : PageSlot) (data : Word) (s : State) : Host.Outcome State Fault Refusal :=
  .next (s.busWrite src (0x4000 * page.toNat + 8) (data ||| 2))

/-- The discard of page `p` is complete: TWATCH has its flush acknowledgements (R469) and SELFTEST its zeroed units (R597). -/
def State.abortDone (s : State) (p : Nat) : Bool :=
  s.get (Hdr.CTRL_ABORT p) == 1
    && (if p = Slot.TWATCH then s.tw.flushing == [] else if p = Slot.SELFTEST then s.test.test == 0 else true)

/-- EVENT.IDLE_ENTRY follows a completed discard, unless software has asked for another in this fc (R94, R96). -/
def State.abortIdle (s : State) (p : Nat) : State := if s.get (Hdr.CTRL_ABORT p) = 1 then s else s.idleEntry p

/-- R94: the discard is complete: ABORT reads 0 and EVENT.IDLE_ENTRY follows EVENT.DISCARD. -/
def execAbortComplete (page : PageSlot) (s : State) : Host.Outcome State Fault Refusal :=
  .next (if s.abortDone page.toNat then (s.endBit (Hdr.CTRL_ABORT page.toNat)).abortIdle page.toNat else s)

/-- R99: a write of HUB.IRQ_ROUTE. -/
def execIrqRouteWrite (src : Src) (data : Word) (s : State) : Host.Outcome State Fault Refusal :=
  .next (s.busWrite src 0x6C data)

/-! ### Windows (R101 to R110) -/

/-- R102: a write of AGENT_SEL. -/
def execAgentSelWrite (src : Src) (data : Word) (s : State) : Host.Outcome State Fault Refusal :=
  .next (s.busWrite src 0x54040 data)

/-- The offset and the access of a window operation at page offset `o`. -/
def winOpAccess (x : Src) (o : Nat) (op : WinOp) : Access :=
  match op with
  | .read => { src := x, off := 0x54000 + o, kind := .read }
  | .peek => { src := x, off := 0x54000 + o, kind := .peek }
  | .write d => { src := x, off := 0x54000 + o, kind := .write d }
  | .rmw v d => { src := x, off := viewOff (0x54000 + o) v, kind := .write d }

/-- R103: an access to a register of the selected agent. -/
def execWindowAccess (src : Src) (off : BitVec 12) (op : WinOp) (s : State) : Host.Outcome State Fault Refusal :=
  .next (s.present (winOpAccess src off.toNat op))

/-- R103: the agent answers the outstanding window access; `live` is what the unit registers show. An answer after 4,096 fc, or
with the rings powered down, is too late (R103, R104). -/
def execWindowAnswer (live : BitVec 64) (s : State) : Host.Outcome State Fault Refusal :=
  .next (match s.windowWaits with
  | some a =>
    if s.unreachable then (s.windowError a false).serve
    else if ¬ s.agentAnswers then s
    else if s.bank.busyFc + 4096 < s.fc then (s.windowError a true).serve
    else (s.windowAnswer a live.toNat).serve
  | none => s)

/-- R103: no answer within 4,096 fc. -/
def execWindowTimeout (s : State) : Host.Outcome State Fault Refusal :=
  .next (match s.windowWaits with
  | some a =>
    if s.bank.busyFc + 4096 ≤ s.fc then (s.windowError a true).serve else s
  | none => s)

/-- R105, R106: a write of WIN_SRC. -/
def execWinSrcWrite (src : Src) (inst : Inst) (data : Word) (s : State) : Host.Outcome State Fault Refusal :=
  .next (s.busWrite src (0x58040 + 0x40 * inst.toNat) data)

/-- R106: a write of WIN_COUNT. -/
def execWinCountWrite (src : Src) (inst : Inst) (data : Word) (s : State) : Host.Outcome State Fault Refusal :=
  .next (s.busWrite src (0x58050 + 0x40 * inst.toNat) data)

/-- R106, R107: up to `n` prefetched words arrive; a waiting read gets its word, unless it has waited for more than 65,536 fc.
`ue` says that the hub's SRAM gave them with an uncorrectable error (R110). -/
def execPrefetchArrival (inst : Inst) (n : BitVec 7) (ue : Bool) (s : State) : Host.Outcome State Fault Refusal :=
  .next ((s.prefetch inst.toNat n.toNat ue).serve)

/-- R107, R108: an ordinary read of WIN_DATA. -/
def execWinDataRead (src : Src) (inst : Inst) (s : State) : Host.Outcome State Fault Refusal :=
  .next (s.busRead src (0x5804C + 0x40 * inst.toNat))

/-- R107: the word has not come within 65,536 fc: a bus error and TIMEOUT, without advancing. -/
def execWinDataTimeout (inst : Inst) (s : State) : Host.Outcome State Fault Refusal :=
  .next (match s.bank.busy with
  | some a =>
    if a.norm.1 = 0x5804C + 0x40 * inst.toNat ∧ s.bank.busyFc + 65536 ≤ s.fc then
      (s.winTimeout a inst.toNat).serve
    else s
  | none => s)

/-- R109: a write of WIN_DATA. -/
def execWinDataWrite (src : Src) (inst : Inst) (data : Word) (s : State) : Host.Outcome State Fault Refusal :=
  .next (s.busWrite src (0x5804C + 0x40 * inst.toNat) data)

/-! ### Wheel and Whistle -/

/-- R153: a write of WHEEL.POS_LO. -/
def execPosLoWrite (src : Src) (data : Word) (s : State) : Host.Outcome State Fault Refusal :=
  .next (s.busWrite src 0xC050 data)

/-- The register that a Wheel source write names (R117). -/
def wheelRegOff : WheelReg → Nat
  | .source => 0xC040
  | .periodFc => 0xC044

/-- R117: a write of SOURCE or PERIOD_FC. -/
def execWheelSourceWrite (src : Src) (reg : WheelReg) (data : Word) (s : State) : Host.Outcome State Fault Refusal :=
  .next (s.busWrite src (wheelRegOff reg) data)

/-- R165: STOP_ALL. -/
def execWhistleStopAll (src : WSource) (s : State) : Host.Outcome State Fault Refusal := .next (s.whistleFrom src 1 0)

/-- R165: STOP_REGIONS; an access takes the mask from REGION_MASK, an automatic source brings its own. -/
def execWhistleStopRegions (src : WSource) (mask : BitVec 16) (s : State) : Host.Outcome State Fault Refusal :=
  .next (s.whistleFrom src 2 mask.toNat)

/-- R165: STOP_CONTEXT; an access takes the context from CONTEXT, an automatic source brings its own. -/
def execWhistleStopContext (src : WSource) (ctx : BitVec 16) (s : State) : Host.Outcome State Fault Refusal :=
  .next (s.whistleFrom src 3 ctx.toNat)

/-- R177: RESUME. -/
def execWhistleResume (src : WSource) (s : State) : Host.Outcome State Fault Refusal := .next (s.whistleFrom src 4 0)

/-- R181: STEP. -/
def execWhistleStep (src : WSource) (s : State) : Host.Outcome State Fault Refusal := .next (s.whistleFrom src 5 0)

/-- R185: SNAP. -/
def execWhistleSnap (src : WSource) (s : State) : Host.Outcome State Fault Refusal := .next (s.whistleFrom src 6 0)

/-- R191: CANCEL. -/
def execWhistleCancel (src : WSource) (s : State) : Host.Outcome State Fault Refusal := .next (s.whistleFrom src 7 0)

/-! ### Agent registers by their window (chapter 1) -/

/-- R41: A_CTRL.CLR_EDGES is written as 1. -/
def execClrEdges (src : Src) (a : AgentId) (s : State) : Host.Outcome State Fault Refusal :=
  .next (s.winDo src a.toNat 0x1408 (.write 8))

/-- R589: A_CTRL.CLR_HIGH is written as 1. -/
def execClrHigh (src : Src) (a : AgentId) (s : State) : Host.Outcome State Fault Refusal :=
  .next (s.winDo src a.toNat 0x1408 (.write 4))

/-- R436: A_CTRL.PCNT_RESET is written as 1. -/
def execPcntReset (src : Src) (a : AgentId) (s : State) : Host.Outcome State Fault Refusal :=
  .next (s.winDo src a.toNat 0x1408 (.write 16))

/-- R369: A_CTRL.TRIG_RESET is written as 1. -/
def execTrigReset (src : Src) (a : AgentId) (s : State) : Host.Outcome State Fault Refusal :=
  .next (s.winDo src a.toNat 0x1408 (.write 2))

/-- R43: A_DIRTY_CTRL.DIRTY_CLEAR is written as 1. -/
def execDirtyClear (src : Src) (a : AgentId) (s : State) : Host.Outcome State Fault Refusal :=
  .next (s.winDo src a.toNat 0x1478 (.write 4))

/-- R55: an ordinary read of A_SHADOW_DATA. -/
def execShadowDataRead (src : Src) (a : AgentId) (s : State) : Host.Outcome State Fault Refusal :=
  .next (s.winDo src a.toNat 0x484 .read)

/-- R74: an ordinary read of GW_DIRTY_DATA. -/
def execGwDirtyDataRead (src : Src) (a : AgentId) (s : State) : Host.Outcome State Fault Refusal :=
  .next (s.winDo src a.toNat 0x4A8 .read)

/-- R214: a write of a register of a CP. -/
def execCpDebugRegisterWrite (src : Src) (a : AgentId) (off : BitVec 11) (data : Word) (s : State) : Host.Outcome State Fault Refusal :=
  .next (s.winDo src a.toNat off.toNat (.write data))

/-! ### Run control and breaks (chapter 5) -/

/-- R626: HALT. -/
def execHalt (src : Src) (s : State) : Host.Outcome State Fault Refusal := .next (s.busWrite src 0x18044 1)

/-- R201: RELEASE. -/
def execRelease (src : Src) (s : State) : Host.Outcome State Fault Refusal := .next (s.busWrite src 0x18044 2)

/-- R624: STEP_INSTR. -/
def execStepInstr (src : Src) (s : State) : Host.Outcome State Fault Refusal := .next (s.busWrite src 0x18044 3)

/-- R626: CANCEL. -/
def execCancelHalt (src : Src) (s : State) : Host.Outcome State Fault Refusal := .next (s.busWrite src 0x18044 4)

/-- R206: a write of FEED_INSTR. -/
def execFeedInstr (src : Src) (data : Word) (s : State) : Host.Outcome State Fault Refusal :=
  .next (s.busWrite src 0x1804C data)

/-- R226: a write of a slot's configuration, or of SLOT_ENABLE. -/
def execSlotConfigWrite (src : Src) (off : Off) (data : Word) (s : State) : Host.Outcome State Fault Refusal :=
  .next (s.busWrite src off.toNat data)

/-! ### Cut, crash and Hopper (chapters 6 and 7) -/

/-- R239: CUT, from an access, a Cam (without the regions held, R243) or the team. -/
def execCut (src : CutSource) (s : State) : Host.Outcome State Fault Refusal :=
  .next (match src with
  | .access x => s.busWrite x 0x20044 1
  | .cam n set => s.cutCam n.toNat set.toNat s.heldMask
  | .team set => s.cutCmd 1 set.toNat 7 s.memberId)

/-- R240: STOP_AND_CUT. -/
def execStopAndCut (src : Src) (s : State) : Host.Outcome State Fault Refusal := .next (s.busWrite src 0x20044 2)

/-- R265: CONTEXT_SAVE. -/
def execContextSave (src : Src) (s : State) : Host.Outcome State Fault Refusal := .next (s.busWrite src 0x20044 3)

/-- R266: CONTEXT_RESTORE. -/
def execContextRestore (src : Src) (s : State) : Host.Outcome State Fault Refusal := .next (s.busWrite src 0x20044 4)

/-- R263: a write of CUT.LIMIT_LO, which moves the host pointer of a cut to the port. -/
def execPortLimitWrite (src : Src) (data : Word) (s : State) : Host.Outcome State Fault Refusal :=
  .next (s.busWrite src 0x20058 data)

/-- R271: CRASH.ARM.CAPTURE_NOW is written as 1. -/
def execCaptureNow (src : Src) (s : State) : Host.Outcome State Fault Refusal := .next (s.busSet src 0x50060 2)

/-- R273: CRASH.RELEASE is written as 1. -/
def execCrashRelease (src : Src) (s : State) : Host.Outcome State Fault Refusal := .next (s.busWrite src 0x5005C 1)

/-- R294: a write of HOPPER.GO. -/
def execHopperGo (src : Src) (data : Word) (s : State) : Host.Outcome State Fault Refusal := .next (s.busWrite src 0x2405C data)

/-! ### Millrace (chapter 8) -/

/-- R312: a write of PERIOD_REV. -/
def execPeriodRevWrite (src : Src) (data : Word) (s : State) : Host.Outcome State Fault Refusal :=
  .next (s.busWrite src 0x44040 data)

/-- R312: a write of MILLRACE.CTRL with ENABLE at 1. -/
def execApplyEnable (src : Src) (data : Word) (s : State) : Host.Outcome State Fault Refusal :=
  .next (s.busWrite src 0x44008 (data ||| 1))

/-- R348: a write of MILLRACE.ROLE. -/
def execMillraceRoleWrite (src : Src) (data : Word) (s : State) : Host.Outcome State Fault Refusal :=
  .next (s.busWrite src 0x44068 data)

/-- R309: a write of RING_HEAD or RING_TAIL. -/
def execRingPointerWrite (src : Src) (tail : Bool) (data : Word) (s : State) : Host.Outcome State Fault Refusal :=
  .next (s.busWrite src (if tail then 0x44058 else 0x44054) data)

/-- R340: FAILOVER. -/
def execFailover (src : Src) (s : State) : Host.Outcome State Fault Refusal := .next (s.busWrite src 0x44070 1)

/-- R343: LOAD_ONLY. -/
def execLoadOnly (src : Src) (s : State) : Host.Outcome State Fault Refusal := .next (s.busWrite src 0x44070 2)

/-- R347: RESET_IMAGE. -/
def execResetImage (src : Src) (s : State) : Host.Outcome State Fault Refusal := .next (s.busWrite src 0x44070 3)

/-- R314: RESEED. -/
def execReseed (src : Src) (s : State) : Host.Outcome State Fault Refusal := .next (s.busWrite src 0x44070 4)

/-! ### Trace, counters and taps (chapters 10 to 12) -/

/-- R412, R415: a hub-level trigger. -/
def execTraceTrigger (src : TrigSource) (s : State) : Host.Outcome State Fault Refusal :=
  .next (match src with
  | .access x => s.busCmd x 0x34048 1
  | .cam n => s.autoTrigger 2 n.toNat none
  | .slot n agent => s.autoTrigger 3 n.toNat (some agent.toNat))

/-- R415: STOP_NOW. -/
def execStopNow (src : Src) (s : State) : Host.Outcome State Fault Refusal := .next (s.busCmd src 0x34048 2)

/-- R415: REARM. -/
def execRearm (src : Src) (s : State) : Host.Outcome State Fault Refusal := .next (s.busCmd src 0x34048 3)

/-- R415: DISARM. -/
def execDisarm (src : Src) (s : State) : Host.Outcome State Fault Refusal := .next (s.busCmd src 0x34048 4)

/-- R407, R409: a write of FUNNEL.MODE. -/
def execFunnelModeWrite (src : Src) (data : Word) (s : State) : Host.Outcome State Fault Refusal :=
  .next (s.busWrite src 0x34040 data)

/-- R435, R436: a write of CONTEXT_SEL. -/
def execContextSelWrite (src : Src) (data : Word) (s : State) : Host.Outcome State Fault Refusal :=
  .next (s.busWrite src 0x38048 data)

/-- R444: SNAP. -/
def execSnap (src : Src) (s : State) : Host.Outcome State Fault Refusal := .next (s.busWrite src 0x38050 1)

/-- R444: SNAP_RESET. -/
def execSnapReset (src : Src) (s : State) : Host.Outcome State Fault Refusal := .next (s.busWrite src 0x38050 2)

/-- R440: a write of CNT_SRC. -/
def execCounterConfigWrite (src : Src) (n : BitVec 6) (data : Word) (s : State) : Host.Outcome State Fault Refusal :=
  .next (s.busWrite src (0x38100 + 16 * n.toNat) data)

/-- R438: a write of CNT_LO commits a counter. -/
def execCounterValueWrite (src : Src) (n : BitVec 6) (data : Word) (s : State) : Host.Outcome State Fault Refusal :=
  .next (s.busWrite src (0x38108 + 16 * n.toNat) data)

/-- R454: a write of A_TAP_CTRL or A_TAP_FMT. -/
def execTapConfigWrite (src : Src) (a : AgentId) (fmt : Bool) (data : Word) (s : State) : Host.Outcome State Fault Refusal :=
  .next (s.winDo src a.toNat (if fmt then 0x474 else 0x470) (.write data))

/-- R462: a write of TAP_CTRL with CLOSE_NOW at 1. -/
def execCloseNow (src : Src) (data : Word) (s : State) : Host.Outcome State Fault Refusal :=
  .next (s.busWrite src 0x3C044 (data ||| 2))

/-- R466: a write of RESULT_SEL. -/
def execResultSelWrite (src : Src) (data : Word) (s : State) : Host.Outcome State Fault Refusal :=
  .next (s.busWrite src 0x3C050 data)

/-! ### Hang analysis and team (chapters 13 and 14) -/

/-- R473: a write of UNIT_WD_FC. -/
def execUnitLimitPush (src : Src) (data : Word) (s : State) : Host.Outcome State Fault Refusal :=
  .next (s.busWrite src 0x40040 data)

/-- R476: FW_WD.KICK is written as 1 with PERIOD and CP as held. -/
def execKick (src : Src) (s : State) : Host.Outcome State Fault Refusal := .next (s.busCmd src 0x40068 0x80000000)

/-- R484: HANG.CTRL.COLLECT_NOW is written as 1. -/
def execCollectNow (src : Src) (s : State) : Host.Outcome State Fault Refusal := .next (s.busSet src 0x40008 0x100)

/-- R490: an ordinary read of EDGE_DATA_HI. -/
def execEdgeDataHiRead (src : Src) (s : State) : Host.Outcome State Fault Refusal := .next (s.busRead src 0x40064)

/-- R509: TEAM.CTRL.CENSUS_NOW is written as 1. -/
def execCensusNow (src : Src) (s : State) : Host.Outcome State Fault Refusal := .next (s.busSet src 0x48008 0x200)

/-- R505: a write of TEAM.ROLE. -/
def execTeamRoleWrite (src : Src) (data : Word) (s : State) : Host.Outcome State Fault Refusal :=
  .next (s.busWrite src 0x48040 data)

/-- R513: XWHISTLE_CMD with code 1 (Table 14-5); `data` brings the other fields. -/
def execXwStopAll (src : Src) (data : Word) (s : State) : Host.Outcome State Fault Refusal :=
  .next (s.busWrite src 0x48084 (data &&& 0xFFFFFFF8 ||| 1))

/-- R513: XWHISTLE_CMD with code 2 (Table 14-5); `data` brings the other fields. -/
def execXwResume (src : Src) (data : Word) (s : State) : Host.Outcome State Fault Refusal :=
  .next (s.busWrite src 0x48084 (data &&& 0xFFFFFFF8 ||| 2))

/-- R513: XWHISTLE_CMD with code 3 (Table 14-5); `data` brings the other fields. -/
def execXwSnap (src : Src) (data : Word) (s : State) : Host.Outcome State Fault Refusal :=
  .next (s.busWrite src 0x48084 (data &&& 0xFFFFFFF8 ||| 3))

/-- R513: XWHISTLE_CMD with code 4 (Table 14-5); `data` brings the other fields. -/
def execXwCut (src : Src) (data : Word) (s : State) : Host.Outcome State Fault Refusal :=
  .next (s.busWrite src 0x48084 (data &&& 0xFFFFFFF8 ||| 4))

/-- R516: XWHISTLE_CMD with code 5 (Table 14-5); `data` brings the other fields. -/
def execXwCancel (src : Src) (data : Word) (s : State) : Host.Outcome State Fault Refusal :=
  .next (s.busWrite src 0x48084 (data &&& 0xFFFFFFF8 ||| 5))

/-! ### Ports (chapter 15) -/

/-- R537, R538: a READ of COUNT + 1 words. -/
def execBslRead (seq tag : Byte) (inc : Bool) (word : BitVec 17) (count : BitVec 7) (s : State) : Host.Outcome State Fault Refusal :=
  .next ((s.bslArrive seq.toNat { type := 1, tag := tag.toNat, inc := inc, word := word.toNat, left := count.toNat + 1 }).serve)

/-- R537, R538: a WRITE of its data words. -/
def execBslWrite (seq tag : Byte) (inc : Bool) (word : BitVec 17) (data : List Word) (s : State) : Host.Outcome State Fault Refusal :=
  .next ((s.bslArrive seq.toNat 
    { type := 2, tag := tag.toNat, inc := inc, word := word.toNat, left := data.length, data := data }).serve)

/-- R537, R538: a PEEK of COUNT + 1 words. -/
def execBslPeek (seq tag : Byte) (inc : Bool) (word : BitVec 17) (count : BitVec 7) (s : State) : Host.Outcome State Fault Refusal :=
  .next ((s.bslArrive seq.toNat { type := 3, tag := tag.toNat, inc := inc, word := word.toNat, left := count.toNat + 1 }).serve)

/-- R539: a STREAM of WIN_DATA reads of an instance. -/
def execBslStream (seq tag : Byte) (inst : Inst) (words : Word) (s : State) : Host.Outcome State Fault Refusal :=
  .next ((s.bslArrive seq.toNat { type := 4, tag := tag.toNat, inc := false, word := inst.toNat, left := words.toNat }).serve)

/-- R542: BSL_CTRL.RETRAIN is written as 1. -/
def execRetrain (src : Src) (s : State) : Host.Outcome State Fault Refusal := .next (s.busSet src 0x8044 2)

/-- R550, R551: an Update-DR of REGACC. -/
def execRegaccUpdate (dr : BitVec 52) (s : State) : Host.Outcome State Fault Refusal :=
  .next (match s.regaccUpdate dr with
  | (t, some a) => t.present a
  | (t, none) => t)

/-- R553: an access on the register-bus slave by master MID. -/
def execRegisterBusAccess (mid : BitVec 3) (write : Bool) (off : Off) (data : Word) (s : State) : Host.Outcome State Fault Refusal :=
  .next (if write then s.busWrite (.bus mid) off.toNat data else s.busRead (.bus mid) off.toNat)

/-- R561: AUTH_CMD with CHALLENGE and the level. -/
def execChallenge (src : Src) (level : BitVec 2) (s : State) : Host.Outcome State Fault Refusal :=
  .next (s.busWrite src 0x4064 (0x100 ||| level.zeroExtend 32))

/-- R563: AUTH_CMD with SUBMIT. -/
def execSubmit (src : Src) (s : State) : Host.Outcome State Fault Refusal := .next (s.busWrite src 0x4064 0x200)

/-- R567: AUTH_CMD with DROP. -/
def execDrop (src : Src) (s : State) : Host.Outcome State Fault Refusal := .next (s.busWrite src 0x4064 0x400)

/-- R569: a write of MBOX_OUT. -/
def execMboxOutWrite (src : Src) (data : Word) (s : State) : Host.Outcome State Fault Refusal :=
  .next (s.busWrite src 0x8054 data)

/-- R569: a read of MBOX_OUT. -/
def execMboxOutRead (src : Src) (s : State) : Host.Outcome State Fault Refusal := .next (s.busRead src 0x8054)

/-- R570: a write of MBOX_IN. -/
def execMboxInWrite (src : Src) (data : Word) (s : State) : Host.Outcome State Fault Refusal :=
  .next (s.busWrite src 0x8058 data)

/-- R570: a read of MBOX_IN. -/
def execMboxInRead (src : Src) (s : State) : Host.Outcome State Fault Refusal := .next (s.busRead src 0x8058)

/-! ### Power and self-test (chapter 16) -/

/-- R579: a write of TARGET_STATE. -/
def execTargetStateWrite (src : Src) (data : Word) (s : State) : Host.Outcome State Fault Refusal :=
  .next (s.busWrite src 0x4C040 data)

/-- R576: a rise from W3 or W4 reaches W2; accesses that waited are served. -/
def execRiseReachesW2 (s : State) : Host.Outcome State Fault Refusal := .next (s.riseW2.serve)

/-- R583: the rise ends; accesses that waited are served. -/
def execRiseDone (s : State) : Host.Outcome State Fault Refusal := .next (if s.riseDue then s.riseEnd.serve else s)

/-- R591: SELFTEST.CMD START. -/
def execStart (src : Src) (s : State) : Host.Outcome State Fault Refusal := .next (s.busWrite src 0x5C044 1)

/-- R597: SELFTEST.CMD STOP. -/
def execStop (src : Src) (s : State) : Host.Outcome State Fault Refusal := .next (s.busWrite src 0x5C044 2)

/-- R596: CAL_CMD code 1. -/
def execCalWheel (src : Src) (s : State) : Host.Outcome State Fault Refusal := .next (s.busWrite src 0x5C054 1)

/-- R596: CAL_CMD code 2. -/
def execCalBsl (src : Src) (s : State) : Host.Outcome State Fault Refusal := .next (s.busWrite src 0x5C054 2)

/-- R596: CAL_CMD code 3. -/
def execCalRing (src : Src) (s : State) : Host.Outcome State Fault Refusal := .next (s.busWrite src 0x5C054 3)

end Sys2Proof.Machine
end

