-- ==== Sys2Proof/Machine/Resets.lean ====
section
/-! DEFINITION. The resets (R586 to R589, R494, R611): PORST_N, HUB_RST_N, the agent reset, and the end of the reset sequence. -/

namespace Sys2Proof.Machine

/-! ### Agents across a hub reset -/

/-- The agent as HUB_RST_N finds it, with its times told from the new fc 0 on: `now` is the notch count and `fc` the fc before the reset. -/
def Agent.rebase (g : Agent) (now fc : Nat) : Agent :=
  let since := g.heldNotch.getD now
  { g with
    settled := 0
    ctxOld := g.ctx
    ctxFc := 0
    ctxCycle := none
    heard := 0
    sched := (g.sched.filter (fun e => decide (fc ≤ e.fc))).map (fun e => { e with fc := e.fc - fc })
    waitingWrites := g.waitingWrites.map (fun w => { w with due := w.due.map (fun f => f - fc) })
    faultWas := 0
    faultNow := []
    faultFc := 0
    trigResetFc := none
    progOld := none
    cmp0Fc := none
    cmp1Fc := none
    pcntFc := 0
    pcntInc0 := 0
    pcntInc1 := 0
    heldNotch := g.heldNotch.map (fun _ => 0)
    edges := g.edges.map (fun e => { e with notch := e.notch - (since : Int) })
    shadow := g.shadow.map (fun h => { h with fc := 0 })
    switchBase := [0, 0, 0, 0]
    tap := { g.tap with stats := tapClosing g.tap fc, fresh := none, was := none, loaded := none, closeFc := none } }

/-- The agents in the new fc 0. -/
def State.rebasedAgents (s : State) : Sparse Agent :=
  (List.range Config.agentCount).filterMap (fun a =>
    let g := (s.agentNow a).rebase s.wheel.notchCount s.fc
    if g = ({} : Agent) then none else some (a, g))

/-- The clocks of the regions, whose gated fc are told from the new fc 0 on (R21). -/
def State.rebasedClocks (s : State) : Sparse (Nat × Nat) :=
  s.throttle.map (fun e => (e.1, e.2.1, (e.2.2 + 3 * s.fc) % 4))

/-! ### The hub -/

/-- What the straps set at the release of a reset (R494, R501): which Half leads, claims and owns the lanes. -/
def State.strapped (s : State) (p : Straps) : State :=
  let v := bit p.leadSel
  let s := (s.put Reg.HUB.ROLE.LEAD_SEL v).put Reg.HUB.ROLE.LEAD_HALF v
  (s.put Reg.TEAM.HALF_STATUS.LANE_OWNER v).claims (1 - v) v

/-- The fuses' registers: KEY_BLANK reads 0 when their check failed (R611). -/
def State.fused (s : State) (keyBlank tossPref : Nat) : State :=
  (s.put Reg.PORT.PAGE_CAPS.KEY_BLANK (if s.auth.fuseFail then 0 else keyBlank)).put Reg.TEAM.HALF_STATUS.TOSS_PREF tossPref

/-- R586, R611: PORST_N is released: everything is at reset, the units too; the fuses are loaded. -/
def State.porst (s : State) (p : Straps) (f : Fuses) : State :=
  let t : State := { State.reset with
    pending := s.pending
    freeCount := s.freeCount
    auth := { key := f.key, fuseFail := !f.checkOk }
    crash := { latched := !f.checkOk } }
  let t := (t.strapped p).fused (bit f.keyBlank) (bit f.tossPref)
  if f.checkOk then t else t.fault Slot.GUARD 8 0

/-- The slot's record survives a hub reset unless its capture was in progress (R272). -/
def State.keptRecord (s : State) (k : Nat) (r : Option CrashRec) : Option CrashRec := if s.crash.capturing.contains k then none else r

/-- The CRASH registers that survive a hub reset (R272): STATE, CAUSE, POS and LEN. -/
def crashKept (key : Nat) : Bool := decide (0x50040 * 8 ≤ key) && decide (key < 0x50054 * 8)

/-- R586: HUB_RST_N is released: everything of the hub is at reset but the fuse values, the crash store with CRASH.STATE and
the command history; the units and agents stay as they are until the agent reset reaches them. -/
def State.hubReset (s : State) (p : Straps) : State :=
  let s := s.releaseWaits none
  let t : State := { State.reset with
    pending := s.pending
    freeCount := s.freeCount
    regs := s.regs.filter (fun e => crashKept e.1)
    agents := s.rebasedAgents
    waitingMus := s.waitingMus
    throttle := s.rebasedClocks
    auth := { key := s.auth.key, fuseFail := s.auth.fuseFail }
    crash := { rec0 := s.keptRecord 0 s.crash.rec0, rec1 := s.keptRecord 1 s.crash.rec1, order := s.crash.order }
    trace := { history := s.trace.history }
    cut := { count := s.cut.count } }
  let t := s.crash.capturing.foldl (fun t k => t.put (slotStateFld k) 0) t
  (t.strapped p).fused (s.get Reg.PORT.PAGE_CAPS.KEY_BLANK) (s.get Reg.TEAM.HALF_STATUS.TOSS_PREF)

/-- R586, R587: PORST_N. -/
def execPorst (straps : Straps) (fuses : Fuses) (s : State) : Host.Outcome State Fault Refusal := .next (s.porst straps fuses)

/-- R586, R587: HUB_RST_N. -/
def execHubReset (straps : Straps) (s : State) : Host.Outcome State Fault Refusal := .next (s.hubReset straps)

/-! ### The agent reset (R589) -/

/-- A field that the agent reset keeps: A_FAULT, A_FAULT_INFO, and what the type-specific registers show of the unit itself
(all but GW_DIRTY_SEL, CU_ACC_LIVE.SPILLS and MU_ECC_COUNT). -/
def resetKeeps (a key : Nat) : Bool :=
  let o := key / 8
  let t := agentType a
  o == 0x490 || o / 4 == 0x494 / 4
    || (decide (0x4A0 ≤ o) && !((t == 3 || t == 4) && o == 0x4A4) && !(t == 1 && key == AReg.CU_ACC_SPILLS.key)
        && !(t == 2 && key == AReg.MU_ECC_COUNT.key))

/-- The agent after the agent reset: frozen, it resumes, and its skids replay; the unit's own state and the kept items stay,
everything else is at reset. -/
def Agent.afterReset (g : Agent) (a : Nat) : Agent :=
  let g := if g.frozen then g.resume false else g
  { ({} : Agent) with
    regs := g.regs.filter (fun e => resetKeeps a e.1)
    ctx := g.ctx
    ctxOld := g.ctxOld
    ctxFc := g.ctxFc
    ctxCycle := g.ctxCycle
    heard := g.heard
    offset := g.offset
    sched := g.sched
    asleep := g.asleep
    faulted := g.faulted
    executed := g.executed
    known := g.known
    tiles := g.tiles
    code := g.code
    prev := g.prev
    dur := g.dur
    settled := g.settled
    aon0 := g.aon0
    aon1 := g.aon1
    aon2 := g.aon2
    aon3 := g.aon3
    waits := g.waits
    edges := g.edges
    edgeOvf := g.edgeOvf
    queues := g.queues
    skids := g.skids
    credits := g.credits
    faultNow := g.faultNow
    faultFc := g.faultFc
    faultWas := g.faultWas
    reserved := g.reserved
    locked := g.locked
    cells := g.cells
    valid := g.valid
    waitingWrites := g.waitingWrites
    heldNotch := g.heldNotch
    enc := { cmd := g.enc.cmd } }

/-- The agent with ID `n` receives the agent reset; writes that waited for a preserve slot go on. -/
def State.agentReset (s : State) (n : Nat) : State :=
  (s.modAgent n (fun g => g.afterReset n)).writesGoOn n

/-- R589: the agent reset that a hub reset sends from its fc 256 on reaches an agent before READY. -/
def execAgentReset (a : AgentId) (s : State) : Host.Outcome State Fault Refusal :=
  onAgent a anyType (if 256 ≤ s.fc ∧ ¬ s.isReady then s.agentReset a.toNat else s)

/-! ### READY (R587, R588) -/

/-- R587, R588: the reset sequence is complete: the unit watchdog limit has been pushed, BSL training begins, fatal errors that
waited are acted on and held accesses are served. -/
def State.becomeReady (s : State) : State :=
  let s := ((s.put Reg.POWER.CURRENT_STATE.READY 1).raise Reg.POWER.EVENT.READY).wdPush
  let s := if s.get Reg.PORT.BSL_CTRL.EN = 1 then s.setLink lsTraining else s
  s.fatalWaiting.serve

/-- R587: READY. -/
def execReady (s : State) : Host.Outcome State Fault Refusal := .next (if s.isReady then s else s.becomeReady)

end Sys2Proof.Machine
end

