-- ==== Sys2Proof/Machine/Dispatch.lean ====
section
/-! DEFINITION. One arm per command of the table, each a direct call of its meaning. -/

namespace Sys2Proof.Machine

def exec (i : Instr) (s : State) : Host.Outcome State Fault Refusal :=
  match i with
  | .registerWrite src off data => Sys2Proof.Machine.execRegisterWrite src off data s
  | .aliasWrite src view off data => Sys2Proof.Machine.execAliasWrite src view off data s
  | .peekRead src off => Sys2Proof.Machine.execPeekRead src off s
  | .pairLoRead src off => Sys2Proof.Machine.execPairLoRead src off s
  | .pairHiWrite src off data => Sys2Proof.Machine.execPairHiWrite src off data s
  | .pairLoWrite src off data => Sys2Proof.Machine.execPairLoWrite src off data s
  | .cfgLock src page data => Sys2Proof.Machine.execCfgLock src page data s
  | .scrubPass => Sys2Proof.Machine.execScrubPass s
  | .passNow src => Sys2Proof.Machine.execPassNow src s
  | .inject src => Sys2Proof.Machine.execInject src s
  | .ctrlEnableWrite src page data => Sys2Proof.Machine.execCtrlEnableWrite src page data s
  | .drainComplete page => Sys2Proof.Machine.execDrainComplete page s
  | .ctrlAbort src page data => Sys2Proof.Machine.execCtrlAbort src page data s
  | .abortComplete page => Sys2Proof.Machine.execAbortComplete page s
  | .irqRouteWrite src data => Sys2Proof.Machine.execIrqRouteWrite src data s
  | .agentSelWrite src data => Sys2Proof.Machine.execAgentSelWrite src data s
  | .windowAccess src off op => Sys2Proof.Machine.execWindowAccess src off op s
  | .windowAnswer live => Sys2Proof.Machine.execWindowAnswer live s
  | .windowTimeout => Sys2Proof.Machine.execWindowTimeout s
  | .winSrcWrite src inst data => Sys2Proof.Machine.execWinSrcWrite src inst data s
  | .winCountWrite src inst data => Sys2Proof.Machine.execWinCountWrite src inst data s
  | .prefetchArrival inst n ue => Sys2Proof.Machine.execPrefetchArrival inst n ue s
  | .winDataRead src inst => Sys2Proof.Machine.execWinDataRead src inst s
  | .winDataTimeout inst => Sys2Proof.Machine.execWinDataTimeout inst s
  | .winDataWrite src inst data => Sys2Proof.Machine.execWinDataWrite src inst data s
  | .posLoWrite src data => Sys2Proof.Machine.execPosLoWrite src data s
  | .wheelSourceWrite src reg data => Sys2Proof.Machine.execWheelSourceWrite src reg data s
  | .wheelBoundary => Sys2Proof.Machine.execWheelBoundary s
  | .wheelSyncInEdge => Sys2Proof.Machine.execWheelSyncInEdge s
  | .wheelMark => Sys2Proof.Machine.execWheelMark s
  | .markMissed => Sys2Proof.Machine.execMarkMissed s
  | .subnotchCalibrationDone => Sys2Proof.Machine.execSubnotchCalibrationDone s
  | .camFire cam => Sys2Proof.Machine.execCamFire cam s
  | .deferredActionIssue cam => Sys2Proof.Machine.execDeferredActionIssue cam s
  | .armPulse a => Sys2Proof.Machine.execArmPulse a s
  | .whistleStopAll src => Sys2Proof.Machine.execWhistleStopAll src s
  | .whistleStopRegions src mask => Sys2Proof.Machine.execWhistleStopRegions src mask s
  | .whistleStopContext src ctx => Sys2Proof.Machine.execWhistleStopContext src ctx s
  | .whistleResume src => Sys2Proof.Machine.execWhistleResume src s
  | .whistleStep src => Sys2Proof.Machine.execWhistleStep src s
  | .whistleSnap src => Sys2Proof.Machine.execWhistleSnap src s
  | .whistleCancel src => Sys2Proof.Machine.execWhistleCancel src s
  | .whistleHeldDrive => Sys2Proof.Machine.execWhistleHeldDrive s
  | .stepStop => Sys2Proof.Machine.execStepStop s
  | .snapResume => Sys2Proof.Machine.execSnapResume s
  | .waveFrozen => Sys2Proof.Machine.execWaveFrozen s
  | .ackCheck => Sys2Proof.Machine.execAckCheck s
  | .resumeWaveDone => Sys2Proof.Machine.execResumeWaveDone s
  | .agentStop a unit => Sys2Proof.Machine.execAgentStop a unit s
  | .agentResume a => Sys2Proof.Machine.execAgentResume a s
  | .agentStep a => Sys2Proof.Machine.execAgentStep a s
  | .agentSnap a unit => Sys2Proof.Machine.execAgentSnap a unit s
  | .skidTokenArrival a q tok => Sys2Proof.Machine.execSkidTokenArrival a q tok s
  | .frozenCreditArrival a link => Sys2Proof.Machine.execFrozenCreditArrival a link s
  | .edgeRecord a w => Sys2Proof.Machine.execEdgeRecord a w s
  | .waitEnd a w => Sys2Proof.Machine.execWaitEnd a w s
  | .clrEdges src a => Sys2Proof.Machine.execClrEdges src a s
  | .clrHigh src a => Sys2Proof.Machine.execClrHigh src a s
  | .pcntReset src a => Sys2Proof.Machine.execPcntReset src a s
  | .trigReset src a => Sys2Proof.Machine.execTrigReset src a s
  | .dirtyClear src a => Sys2Proof.Machine.execDirtyClear src a s
  | .granuleWrite a addr data masked => Sys2Proof.Machine.execGranuleWrite a addr data masked s
  | .accumulatorSpill a => Sys2Proof.Machine.execAccumulatorSpill a s
  | .contextSwitch a ctx => Sys2Proof.Machine.execContextSwitch a ctx s
  | .comparatorMatch a n kind addr locked first => Sys2Proof.Machine.execComparatorMatch a n kind addr locked first s
  | .pcntOverflow a n => Sys2Proof.Machine.execPcntOverflow a n s
  | .trigTransition a => Sys2Proof.Machine.execTrigTransition a s
  | .unitFault a code => Sys2Proof.Machine.execUnitFault a code s
  | .shadowDataRead src a => Sys2Proof.Machine.execShadowDataRead src a s
  | .gwDirtyDataRead src a => Sys2Proof.Machine.execGwDirtyDataRead src a s
  | .cpDebugRegisterWrite src a off data => Sys2Proof.Machine.execCpDebugRegisterWrite src a off data s
  | .halt src => Sys2Proof.Machine.execHalt src s
  | .release src => Sys2Proof.Machine.execRelease src s
  | .stepInstr src => Sys2Proof.Machine.execStepInstr src s
  | .cancelHalt src => Sys2Proof.Machine.execCancelHalt src s
  | .haltRequestArrival locked => Sys2Proof.Machine.execHaltRequestArrival locked s
  | .coreHalt a pc => Sys2Proof.Machine.execCoreHalt a pc s
  | .lockedSequenceEnd a pc => Sys2Proof.Machine.execLockedSequenceEnd a pc s
  | .lockDeferExpire a pc => Sys2Proof.Machine.execLockDeferExpire a pc s
  | .stepInstrDone a pc reserves => Sys2Proof.Machine.execStepInstrDone a pc reserves s
  | .feedInstr src data => Sys2Proof.Machine.execFeedInstr src data s
  | .feedDone a data exc => Sys2Proof.Machine.execFeedDone a data exc s
  | .feedTimeout => Sys2Proof.Machine.execFeedTimeout s
  | .breakEventArrival half => Sys2Proof.Machine.execBreakEventArrival half s
  | .latchExpire slot b => Sys2Proof.Machine.execLatchExpire slot b s
  | .slotAction slot locked => Sys2Proof.Machine.execSlotAction slot locked s
  | .slotConfigWrite src off data => Sys2Proof.Machine.execSlotConfigWrite src off data s
  | .cut src => Sys2Proof.Machine.execCut src s
  | .stopAndCut src => Sys2Proof.Machine.execStopAndCut src s
  | .contextSave src => Sys2Proof.Machine.execContextSave src s
  | .contextRestore src => Sys2Proof.Machine.execContextRestore src s
  | .cutArmResponse tooSlow => Sys2Proof.Machine.execCutArmResponse tooSlow s
  | .cutFrozen => Sys2Proof.Machine.execCutFrozen s
  | .captureRequest a => Sys2Proof.Machine.execCaptureRequest a s
  | .shadowDrained a tiles => Sys2Proof.Machine.execShadowDrained a tiles s
  | .agentDrainTimeout a => Sys2Proof.Machine.execAgentDrainTimeout a s
  | .heldTokenDrained a q => Sys2Proof.Machine.execHeldTokenDrained a q s
  | .granuleDrained a g => Sys2Proof.Machine.execGranuleDrained a g s
  | .drainMemoryStart left => Sys2Proof.Machine.execDrainMemoryStart left s
  | .guardedPageWrite page writer gw => Sys2Proof.Machine.execGuardedPageWrite page writer gw s
  | .pageReadDone page data ue late => Sys2Proof.Machine.execPageReadDone page data ue late s
  | .cutCommit => Sys2Proof.Machine.execCutCommit s
  | .cutNoSpace => Sys2Proof.Machine.execCutNoSpace s
  | .cutResumedFail => Sys2Proof.Machine.execCutResumedFail s
  | .cutResumeAfter => Sys2Proof.Machine.execCutResumeAfter s
  | .portLimitWrite src data => Sys2Proof.Machine.execPortLimitWrite src data s
  | .restoreLoadDone record => Sys2Proof.Machine.execRestoreLoadDone record s
  | .governorWindow => Sys2Proof.Machine.execGovernorWindow s
  | .mmRequestIssue ready => Sys2Proof.Machine.execMmRequestIssue ready s
  | .mmResponse port tag err data => Sys2Proof.Machine.execMmResponse port tag err data s
  | .mmTimeout port tag => Sys2Proof.Machine.execMmTimeout port tag s
  | .fatalError src => Sys2Proof.Machine.execFatalError src s
  | .crashCaptureDone => Sys2Proof.Machine.execCrashCaptureDone s
  | .captureNow src => Sys2Proof.Machine.execCaptureNow src s
  | .crashRelease src => Sys2Proof.Machine.execCrashRelease src s
  | .hopperGo src data => Sys2Proof.Machine.execHopperGo src data s
  | .hopperSetup => Sys2Proof.Machine.execHopperSetup s
  | .hopperHeaderRead hdr => Sys2Proof.Machine.execHopperHeaderRead hdr s
  | .hopperBlockDone idx raw => Sys2Proof.Machine.execHopperBlockDone idx raw s
  | .hopperBlockFail idx code => Sys2Proof.Machine.execHopperBlockFail idx code s
  | .hopperCommit => Sys2Proof.Machine.execHopperCommit s
  | .periodRevWrite src data => Sys2Proof.Machine.execPeriodRevWrite src data s
  | .applyEnable src data => Sys2Proof.Machine.execApplyEnable src data s
  | .millraceRoleWrite src data => Sys2Proof.Machine.execMillraceRoleWrite src data s
  | .ringPointerWrite src tail data => Sys2Proof.Machine.execRingPointerWrite src tail data s
  | .millracePendingPresent => Sys2Proof.Machine.execMillracePendingPresent s
  | .frameCommit => Sys2Proof.Machine.execFrameCommit s
  | .ringStalled => Sys2Proof.Machine.execRingStalled s
  | .millraceCutAbandon => Sys2Proof.Machine.execMillraceCutAbandon s
  | .dirtyListOverflow a => Sys2Proof.Machine.execDirtyListOverflow a s
  | .frameCheck frame => Sys2Proof.Machine.execFrameCheck frame s
  | .cutApply => Sys2Proof.Machine.execCutApply s
  | .failover src => Sys2Proof.Machine.execFailover src s
  | .loadOnly src => Sys2Proof.Machine.execLoadOnly src s
  | .resetImage src => Sys2Proof.Machine.execResetImage src s
  | .reseed src => Sys2Proof.Machine.execReseed src s
  | .reloadDone => Sys2Proof.Machine.execReloadDone s
  | .failoverResume => Sys2Proof.Machine.execFailoverResume s
  | .branchOutcome a taken => Sys2Proof.Machine.execBranchOutcome a taken s
  | .runSaturate a => Sys2Proof.Machine.execRunSaturate a s
  | .indirectTransfer a kind fromPc target => Sys2Proof.Machine.execIndirectTransfer a kind fromPc target s
  | .encoderOn a => Sys2Proof.Machine.execEncoderOn a s
  | .encoderOff a => Sys2Proof.Machine.execEncoderOff a s
  | .encoderSleep a => Sys2Proof.Machine.execEncoderSleep a s
  | .encoderWake a => Sys2Proof.Machine.execEncoderWake a s
  | .sync a pc cmd => Sys2Proof.Machine.execSync a pc cmd s
  | .periodicSync a => Sys2Proof.Machine.execPeriodicSync a s
  | .encoderDrop a => Sys2Proof.Machine.execEncoderDrop a s
  | .encoderEntrySend a => Sys2Proof.Machine.execEncoderEntrySend a s
  | .cmdBegin ce cmd => Sys2Proof.Machine.execCmdBegin ce cmd s
  | .cmdEnd ce abandoned => Sys2Proof.Machine.execCmdEnd ce abandoned s
  | .pcsSampleDue => Sys2Proof.Machine.execPcsSampleDue s
  | .pcsAnswer pc => Sys2Proof.Machine.execPcsAnswer pc s
  | .funnelArrival half => Sys2Proof.Machine.execFunnelArrival half s
  | .funnelWrite half => Sys2Proof.Machine.execFunnelWrite half s
  | .lostPlacement half src => Sys2Proof.Machine.execLostPlacement half src s
  | .dropNotice a => Sys2Proof.Machine.execDropNotice a s
  | .spillUnitWrite half => Sys2Proof.Machine.execSpillUnitWrite half s
  | .traceTrigger src => Sys2Proof.Machine.execTraceTrigger src s
  | .postTrigStop half => Sys2Proof.Machine.execPostTrigStop half s
  | .fillStopFull half => Sys2Proof.Machine.execFillStopFull half s
  | .stopNow src => Sys2Proof.Machine.execStopNow src s
  | .rearm src => Sys2Proof.Machine.execRearm src s
  | .disarm src => Sys2Proof.Machine.execDisarm src s
  | .funnelModeWrite src data => Sys2Proof.Machine.execFunnelModeWrite src data s
  | .tallyMarkCheck half src => Sys2Proof.Machine.execTallyMarkCheck half src s
  | .rollupRequest => Sys2Proof.Machine.execRollupRequest s
  | .rollupComplete => Sys2Proof.Machine.execRollupComplete s
  | .contextSelWrite src data => Sys2Proof.Machine.execContextSelWrite src data s
  | .gatherRequest n a => Sys2Proof.Machine.execGatherRequest n a s
  | .gatherComplete n => Sys2Proof.Machine.execGatherComplete n s
  | .commandBoundarySnapshot n => Sys2Proof.Machine.execCommandBoundarySnapshot n s
  | .snap src => Sys2Proof.Machine.execSnap src s
  | .snapReset src => Sys2Proof.Machine.execSnapReset src s
  | .counterConfigWrite src n data => Sys2Proof.Machine.execCounterConfigWrite src n data s
  | .counterValueWrite src n data => Sys2Proof.Machine.execCounterValueWrite src n data s
  | .tapBeat a beat => Sys2Proof.Machine.execTapBeat a beat s
  | .tapConfigPush slot => Sys2Proof.Machine.execTapConfigPush slot s
  | .tapConfigWrite src a fmt data => Sys2Proof.Machine.execTapConfigWrite src a fmt data s
  | .tapClose a cause => Sys2Proof.Machine.execTapClose a cause s
  | .closeNow src data => Sys2Proof.Machine.execCloseNow src data s
  | .tapResultArrival a age => Sys2Proof.Machine.execTapResultArrival a age s
  | .resultSelWrite src data => Sys2Proof.Machine.execResultSelWrite src data s
  | .tapFlushDone half column => Sys2Proof.Machine.execTapFlushDone half column s
  | .unitAlarm a => Sys2Proof.Machine.execUnitAlarm a s
  | .unitAlarmArrival a => Sys2Proof.Machine.execUnitAlarmArrival a s
  | .unitLimitPush src data => Sys2Proof.Machine.execUnitLimitPush src data s
  | .cmdWatchdogExpire k => Sys2Proof.Machine.execCmdWatchdogExpire k s
  | .revWatchdogExpire => Sys2Proof.Machine.execRevWatchdogExpire s
  | .fwWatchdogExpire => Sys2Proof.Machine.execFwWatchdogExpire s
  | .kick src => Sys2Proof.Machine.execKick src s
  | .collectNow src => Sys2Proof.Machine.execCollectNow src s
  | .collectionStart => Sys2Proof.Machine.execCollectionStart s
  | .collectionComplete => Sys2Proof.Machine.execCollectionComplete s
  | .edgeDataHiRead src => Sys2Proof.Machine.execEdgeDataHiRead src s
  | .partnerSilent half => Sys2Proof.Machine.execPartnerSilent half s
  | .tossStart cause => Sys2Proof.Machine.execTossStart cause s
  | .tossDecision => Sys2Proof.Machine.execTossDecision s
  | .tossEnd => Sys2Proof.Machine.execTossEnd s
  | .ringMessage lane msg => Sys2Proof.Machine.execRingMessage lane msg s
  | .wheelMessage => Sys2Proof.Machine.execWheelMessage s
  | .heartbeatSend => Sys2Proof.Machine.execHeartbeatSend s
  | .heartbeatJudge m => Sys2Proof.Machine.execHeartbeatJudge m s
  | .memberRejoined m => Sys2Proof.Machine.execMemberRejoined m s
  | .failoverMessage => Sys2Proof.Machine.execFailoverMessage s
  | .xwhistleMessage => Sys2Proof.Machine.execXwhistleMessage s
  | .angleCommandDue => Sys2Proof.Machine.execAngleCommandDue s
  | .census => Sys2Proof.Machine.execCensus s
  | .censusDone members dup => Sys2Proof.Machine.execCensusDone members dup s
  | .censusNow src => Sys2Proof.Machine.execCensusNow src s
  | .probe => Sys2Proof.Machine.execProbe s
  | .echo => Sys2Proof.Machine.execEcho s
  | .laneDown lane => Sys2Proof.Machine.execLaneDown lane s
  | .managerToss rival => Sys2Proof.Machine.execManagerToss rival s
  | .teamRoleWrite src data => Sys2Proof.Machine.execTeamRoleWrite src data s
  | .xwStopAll src data => Sys2Proof.Machine.execXwStopAll src data s
  | .xwResume src data => Sys2Proof.Machine.execXwResume src data s
  | .xwSnap src data => Sys2Proof.Machine.execXwSnap src data s
  | .xwCut src data => Sys2Proof.Machine.execXwCut src data s
  | .xwCancel src data => Sys2Proof.Machine.execXwCancel src data s
  | .bslRead seq tag inc word count => Sys2Proof.Machine.execBslRead seq tag inc word count s
  | .bslWrite seq tag inc word data => Sys2Proof.Machine.execBslWrite seq tag inc word data s
  | .bslPeek seq tag inc word count => Sys2Proof.Machine.execBslPeek seq tag inc word count s
  | .bslStream seq tag inst words => Sys2Proof.Machine.execBslStream seq tag inst words s
  | .bslFrameDiscard => Sys2Proof.Machine.execBslFrameDiscard s
  | .ack seq => Sys2Proof.Machine.execAck seq s
  | .nak seq => Sys2Proof.Machine.execNak seq s
  | .crd n => Sys2Proof.Machine.execCrd n s
  | .ackTimeout => Sys2Proof.Machine.execAckTimeout s
  | .bslLinkDown cause => Sys2Proof.Machine.execBslLinkDown cause s
  | .bslLinkUp => Sys2Proof.Machine.execBslLinkUp s
  | .retrain src => Sys2Proof.Machine.execRetrain src s
  | .eventFrame => Sys2Proof.Machine.execEventFrame s
  | .regaccUpdate dr => Sys2Proof.Machine.execRegaccUpdate dr s
  | .tapReset => Sys2Proof.Machine.execTapReset s
  | .registerBusAccess mid write off data => Sys2Proof.Machine.execRegisterBusAccess mid write off data s
  | .challenge src level => Sys2Proof.Machine.execChallenge src level s
  | .challengeReady chal => Sys2Proof.Machine.execChallengeReady chal s
  | .submit src => Sys2Proof.Machine.execSubmit src s
  | .authCheckDone => Sys2Proof.Machine.execAuthCheckDone s
  | .lockoutExpire => Sys2Proof.Machine.execLockoutExpire s
  | .drop src => Sys2Proof.Machine.execDrop src s
  | .mboxOutWrite src data => Sys2Proof.Machine.execMboxOutWrite src data s
  | .mboxOutRead src => Sys2Proof.Machine.execMboxOutRead src s
  | .mboxInWrite src data => Sys2Proof.Machine.execMboxInWrite src data s
  | .mboxInRead src => Sys2Proof.Machine.execMboxInRead src s
  | .porst straps fuses => Sys2Proof.Machine.execPorst straps fuses s
  | .hubReset straps => Sys2Proof.Machine.execHubReset straps s
  | .agentReset a => Sys2Proof.Machine.execAgentReset a s
  | .ready => Sys2Proof.Machine.execReady s
  | .targetStateWrite src data => Sys2Proof.Machine.execTargetStateWrite src data s
  | .idleDescent => Sys2Proof.Machine.execIdleDescent s
  | .stepDownDone => Sys2Proof.Machine.execStepDownDone s
  | .wake cause => Sys2Proof.Machine.execWake cause s
  | .riseDone => Sys2Proof.Machine.execRiseDone s
  | .start src => Sys2Proof.Machine.execStart src s
  | .stop src => Sys2Proof.Machine.execStop src s
  | .testUnitDone half fail => Sys2Proof.Machine.execTestUnitDone half fail s
  | .testPreempt half => Sys2Proof.Machine.execTestPreempt half s
  | .calWheel src => Sys2Proof.Machine.execCalWheel src s
  | .calBsl src => Sys2Proof.Machine.execCalBsl src s
  | .calRing src => Sys2Proof.Machine.execCalRing src s
  | .calibrationEnd kind ok => Sys2Proof.Machine.execCalibrationEnd kind ok s
  | .sramCorrectedError place word => Sys2Proof.Machine.execSramCorrectedError place word s
  | .sramUe place word => Sys2Proof.Machine.execSramUe place word s
  | .patrolRead sram found => Sys2Proof.Machine.execPatrolRead sram found s
  | .ordinaryRead src off => Sys2Proof.Machine.execOrdinaryRead src off s
  | .instructionRegisterUpdate ir => Sys2Proof.Machine.execInstructionRegisterUpdate ir s
  | .riseReachesW2 => Sys2Proof.Machine.execRiseReachesW2 s

end Sys2Proof.Machine
end

