-- ==== Sys2Proof/Machine/Tick.lean ====
section
/-! DEFINITION. One fc in which no command arrives: what the hub does by its clock alone. -/

namespace Sys2Proof.Machine

/-- The hub events that occur in every fc (Table 11-2): 1 FC, and 2 while the Whistle is not RUNNING. -/
def State.clockEvents (s : State) : State :=
  let s := s.hubEvent 1 1
  if s.cfg Reg.WHISTLE.STATE.STATE ≠ wsRunning then s.hubEvent 2 1 else s

/-- The next fc begins: CYCLE counts, and what the registers hold now is what hardware uses in it (R8, R97). -/
def State.nextFc (s : State) : State := { s with fc := s.fc + 1, regs0 := s.regs, hw := [], hwFault := [] }

/-- One fc passes: the watchdogs' expiries act, command boundaries still owed are taken, the funnels settle what arrived, the Cut engine notes what the arbiter took, free Hopper engines
take blocks, Millrace notes a ring without room, the counters count, the Wheel moves on, PROTOCOL faults reach the hub, writes whose copies are made go on, a
ROLE write takes effect, a descent goes on, risen interrupts are noted for EVENT frames, a window access that its agent cannot
answer any more ends, and waiting accesses are served. -/
def State.tick (s : State) : State :=
  s.wdTick.scoreDue.funnelTick.cutTick.engineTick.millTick.clockEvents.scoreCount.nextFc.wheelTick.protocolTick.writeTick.roleTick.descendStep.eventNote.windowCut.serve

end Sys2Proof.Machine
end

