-- ==== Sys2Proof/WellFormed.lean ====
section
/-! DEFINITION. Well-formed commands: what the operands of a command satisfy on this configuration. `exec` refuses no
well-formed command. -/

namespace Sys2Proof

open Sys2Proof.Machine

/-- The agent is assigned (Table 1-2) and its type has the resource (Table 1-5). -/
def agentOk (a : AgentId) (ok : Nat → Bool) : Bool := agentType a.toNat != 0 && ok (agentType a.toNat)

/-- The agent has the input queue or output link (R16). -/
def queueOk (a : AgentId) (q : QueueNo) : Bool := agentType a.toNat != 0 && decide (q.toNat < agentQueues a.toNat)

/-- What a unit brings as it freezes: at most one list of tokens and one credit count for each queue and link, each queue
within its depth of 16 (R16, R17), and a body of its shadow size (Table 1-7). -/
def unitOk (a : AgentId) (u : UnitState) : Bool :=
  decide (u.queues.length ≤ agentQueues a.toNat) && decide (u.credits.length ≤ agentQueues a.toNat)
    && decide (u.body.length ≤ shadowBytes a.toNat) && u.queues.all (fun q => decide (q.length ≤ 16))

/-- A live accumulator tile: at most 32 valid rows, and 32 rows of 64 lanes of 4 bytes (R256). -/
def tileOk (t : TileData) : Bool := decide (t.rows.toNat ≤ 32) && decide (t.data.length = 8192)

/-- The place of a stored word: a word of the hub SRAM (Table 17-1), or a unit that has the storage (Table 1-5). -/
def placeOk (p : EccPlace) (word : Nat) : Bool :=
  match p with
  | .hub m => decide (word < sramWords m.kind)
  | .unit a st => agentOk a (storeOk st)

/-- A page slot that is in use (Table 18-1). -/
def pageOk (p : PageSlot) : Bool := decide (p.toNat < 24)

/-- An access is of a whole word (R58). -/
def wordAligned (o : Off) : Bool := decide (o.toNat % 4 = 0)

/-- A word of the base view of a page (Table 2-1). -/
def baseWord (o : Off) : Bool := wordAligned o && decide (o.toNat % 0x4000 < 0x1000)

/-- A word of the agent page through UNITWIN (R64): page offsets 0x400 to 0x7FC. -/
def windowWord (o : BitVec 12) : Bool := decide (o.toNat % 4 = 0) && decide (0x400 ≤ o.toNat) && decide (o.toNat < 0x800)

/-- The command is well formed. -/
def Instr.wf (i : Instr) : Bool :=
  match i with
  | .registerWrite _ off _ => baseWord off
  | .aliasWrite _ _ off _ => baseWord off
  | .peekRead _ off => wordAligned off
  | .pairLoRead _ off => baseWord off && isPairLo off.toNat
  | .pairHiWrite _ off _ => baseWord off && isPairHi off.toNat
  | .pairLoWrite _ off _ => baseWord off && isPairLo off.toNat
  | .cfgLock _ page _ => pageOk page
  | .scrubPass => true
  | .passNow _ => true
  | .inject _ => true
  | .ctrlEnableWrite _ page _ => pageOk page
  | .drainComplete page => pageOk page
  | .ctrlAbort _ page _ => pageOk page
  | .abortComplete page => pageOk page
  | .irqRouteWrite _ _ => true
  | .agentSelWrite _ _ => true
  | .windowAccess _ off _ => windowWord off
  | .windowAnswer _ => true
  | .windowTimeout => true
  | .winSrcWrite _ _ _ => true
  | .winCountWrite _ _ _ => true
  | .prefetchArrival _ n _ => decide (1 ≤ n.toNat) && decide (n.toNat ≤ 64)
  | .winDataRead _ _ => true
  | .winDataTimeout _ => true
  | .winDataWrite _ _ _ => true
  | .posLoWrite _ _ => true
  | .wheelSourceWrite _ _ _ => true
  | .wheelBoundary => true
  | .wheelSyncInEdge => true
  | .wheelMark => true
  | .markMissed => true
  | .subnotchCalibrationDone => true
  | .camFire _ => true
  | .deferredActionIssue _ => true
  | .armPulse a => agentOk a anyType
  | .whistleStopAll _ => true
  | .whistleStopRegions _ _ => true
  | .whistleStopContext _ _ => true
  | .whistleResume _ => true
  | .whistleStep _ => true
  | .whistleSnap _ => true
  | .whistleCancel _ => true
  | .whistleHeldDrive => true
  | .stepStop => true
  | .snapResume => true
  | .waveFrozen => true
  | .ackCheck => true
  | .resumeWaveDone => true
  | .agentStop a unit => agentOk a anyType && unitOk a unit
  | .agentResume a => agentOk a anyType
  | .agentStep a => agentOk a anyType
  | .agentSnap a unit => agentOk a anyType && unitOk a unit
  | .skidTokenArrival a q _ => queueOk a q
  | .frozenCreditArrival a link => queueOk a link
  | .edgeRecord a w => agentOk a (waitOk w)
  | .waitEnd a w => agentOk a (waitOk w)
  | .clrEdges _ a => agentOk a anyType
  | .clrHigh _ a => agentOk a anyType
  | .pcntReset _ a => agentOk a anyType
  | .trigReset _ a => agentOk a anyType
  | .dirtyClear _ a => agentOk a muType
  | .granuleWrite a addr data _ => agentOk a muType && decide (1 ≤ data.length) && decide (addr.toNat + data.length ≤ 2 ^ 19)
  | .accumulatorSpill a => agentOk a cuType
  | .contextSwitch a _ => agentOk a anyType
  | .comparatorMatch a _ _ _ _ _ => agentOk a anyType
  | .pcntOverflow a _ => agentOk a anyType
  | .trigTransition a => agentOk a anyType
  | .unitFault a _ => agentOk a anyType
  | .shadowDataRead _ a => agentOk a anyType
  | .gwDirtyDataRead _ a => agentOk a gwType
  | .cpDebugRegisterWrite _ a off _ => agentOk a cpType && windowWord (off.zeroExtend 12)
  | .halt _ => true
  | .release _ => true
  | .stepInstr _ => true
  | .cancelHalt _ => true
  | .haltRequestArrival _ => true
  | .coreHalt a _ => agentOk a cuOrCp
  | .lockedSequenceEnd a _ => agentOk a cuOrCp
  | .lockDeferExpire a _ => agentOk a cuOrCp
  | .stepInstrDone a _ _ => agentOk a cuOrCp
  | .feedInstr _ _ => true
  | .feedDone a _ _ => agentOk a cuOrCp
  | .feedTimeout => true
  | .breakEventArrival _ => true
  | .latchExpire _ _ => true
  | .slotAction _ _ => true
  | .slotConfigWrite _ off _ => baseWord off && decide (off.toNat / 0x4000 = Slot.BREAK)
  | .cut _ => true
  | .stopAndCut _ => true
  | .contextSave _ => true
  | .contextRestore _ => true
  | .cutArmResponse _ => true
  | .cutFrozen => true
  | .captureRequest a => agentOk a anyType
  | .shadowDrained a tiles => agentOk a anyType && decide (tiles.length ≤ 8) && tiles.all tileOk
  | .agentDrainTimeout a => agentOk a anyType
  | .heldTokenDrained a q => queueOk a q
  | .granuleDrained a _ => agentOk a muType
  | .drainMemoryStart _ => true
  | .guardedPageWrite _ writer _ => (match writer with
    | some a => agentOk a anyType
    | none => true)
  | .pageReadDone _ data _ _ => decide (data.length = 4096)
  | .cutCommit => true
  | .cutNoSpace => true
  | .cutResumedFail => true
  | .cutResumeAfter => true
  | .portLimitWrite _ _ => true
  | .restoreLoadDone _ => true
  | .governorWindow => true
  | .mmRequestIssue rs => rs.all (fun r => decide (r.data.length = if r.write then 64 else 0))
  | .mmResponse _ _ _ data => decide (data.length = 64)
  | .mmTimeout _ _ => true
  | .fatalError src => (match src with
    | .agent a => agentOk a anyType
    | .tokenUe a q => queueOk a q
    | .credit a l => queueOk a l
    | .hub => true
    | .watchdog _ => true)
  | .crashCaptureDone => true
  | .captureNow _ => true
  | .crashRelease _ => true
  | .hopperGo _ _ => true
  | .hopperSetup => true
  | .hopperHeaderRead hdr => decide (hdr.length = 16)
  | .hopperBlockDone _ raw => decide (raw.length ≤ 65536)
  | .hopperBlockFail _ _ => true
  | .hopperCommit => true
  | .periodRevWrite _ _ => true
  | .applyEnable _ _ => true
  | .millraceRoleWrite _ _ => true
  | .ringPointerWrite _ _ _ => true
  | .millracePendingPresent => true
  | .frameCommit => true
  | .ringStalled => true
  | .millraceCutAbandon => true
  | .dirtyListOverflow a => agentOk a gwType
  | .frameCheck frame => decide (64 ≤ frame.length) && decide (frame.length % 64 = 0)
  | .cutApply => true
  | .failover _ => true
  | .loadOnly _ => true
  | .resetImage _ => true
  | .reseed _ => true
  | .reloadDone => true
  | .failoverResume => true
  | .branchOutcome a _ => agentOk a cuOrCp
  | .runSaturate a => agentOk a cuOrCp
  | .indirectTransfer a kind _ _ => agentOk a (transferType kind)
  | .encoderOn a => agentOk a cuOrCp
  | .encoderOff a => agentOk a cuOrCp
  | .encoderSleep a => agentOk a cuOrCp
  | .encoderWake a => agentOk a cuOrCp
  | .sync a _ _ => agentOk a cuOrCp
  | .periodicSync a => agentOk a cuOrCp
  | .encoderDrop a => agentOk a cuOrCp
  | .encoderEntrySend a => agentOk a traceType
  | .cmdBegin _ cmd => cmd.units.all (fun u => agentOk u anyType)
  | .cmdEnd _ _ => true
  | .pcsSampleDue => true
  | .pcsAnswer _ => true
  | .funnelArrival _ => true
  | .funnelWrite _ => true
  | .lostPlacement _ _ => true
  | .dropNotice a => agentOk a cuOrCp
  | .spillUnitWrite _ => true
  | .traceTrigger _ => true
  | .postTrigStop _ => true
  | .fillStopFull _ => true
  | .stopNow _ => true
  | .rearm _ => true
  | .disarm _ => true
  | .funnelModeWrite _ _ => true
  | .tallyMarkCheck _ _ => true
  | .rollupRequest => true
  | .rollupComplete => true
  | .contextSelWrite _ _ => true
  | .gatherRequest _ a => agentOk a anyType
  | .gatherComplete _ => true
  | .commandBoundarySnapshot _ => true
  | .snap _ => true
  | .snapReset _ => true
  | .counterConfigWrite _ _ _ => true
  | .counterValueWrite _ _ _ => true
  | .tapBeat a _ => agentOk a muType
  | .tapConfigPush _ => true
  | .tapConfigWrite _ a _ _ => agentOk a muType
  | .tapClose a _ => agentOk a muType
  | .closeNow _ _ => true
  | .tapResultArrival a _ => agentOk a muType
  | .resultSelWrite _ _ => true
  | .tapFlushDone _ _ => true
  | .unitAlarm a => agentOk a anyType
  | .unitAlarmArrival a => agentOk a anyType
  | .unitLimitPush _ _ => true
  | .cmdWatchdogExpire _ => true
  | .revWatchdogExpire => true
  | .fwWatchdogExpire => true
  | .kick _ => true
  | .collectNow _ => true
  | .collectionStart => true
  | .collectionComplete => true
  | .edgeDataHiRead _ => true
  | .partnerSilent _ => true
  | .tossStart _ => true
  | .tossDecision => true
  | .tossEnd => true
  | .ringMessage _ _ => true
  | .wheelMessage => true
  | .heartbeatSend => true
  | .heartbeatJudge _ => true
  | .memberRejoined _ => true
  | .failoverMessage => true
  | .xwhistleMessage => true
  | .angleCommandDue => true
  | .census => true
  | .censusDone _ _ => true
  | .censusNow _ => true
  | .probe => true
  | .echo => true
  | .laneDown _ => true
  | .managerToss _ => true
  | .teamRoleWrite _ _ => true
  | .xwStopAll _ _ => true
  | .xwResume _ _ => true
  | .xwSnap _ _ => true
  | .xwCut _ _ => true
  | .xwCancel _ _ => true
  | .bslRead _ _ _ _ _ => true
  | .bslWrite _ _ _ _ data => decide (1 ≤ data.length) && decide (data.length ≤ 128)
  | .bslPeek _ _ _ _ _ => true
  | .bslStream _ _ _ words => decide (words ≠ 0)
  | .bslFrameDiscard => true
  | .ack _ => true
  | .nak _ => true
  | .crd _ => true
  | .ackTimeout => true
  | .bslLinkDown _ => true
  | .bslLinkUp => true
  | .retrain _ => true
  | .eventFrame => true
  | .regaccUpdate _ => true
  | .tapReset => true
  | .registerBusAccess _ _ off _ => wordAligned off
  | .challenge _ _ => true
  | .challengeReady _ => true
  | .submit _ => true
  | .authCheckDone => true
  | .lockoutExpire => true
  | .drop _ => true
  | .mboxOutWrite _ _ => true
  | .mboxOutRead _ => true
  | .mboxInWrite _ _ => true
  | .mboxInRead _ => true
  | .porst _ _ => true
  | .hubReset _ => true
  | .agentReset a => agentOk a anyType
  | .ready => true
  | .targetStateWrite _ _ => true
  | .idleDescent => true
  | .stepDownDone => true
  | .wake _ => true
  | .riseDone => true
  | .start _ => true
  | .stop _ => true
  | .testUnitDone _ _ => true
  | .testPreempt _ => true
  | .calWheel _ => true
  | .calBsl _ => true
  | .calRing _ => true
  | .calibrationEnd _ _ => true
  | .sramCorrectedError place word => placeOk place word
  | .sramUe place word => placeOk place word
  | .patrolRead _ _ => true
  | .ordinaryRead _ off => wordAligned off
  | .instructionRegisterUpdate _ => true
  | .riseReachesW2 => true

end Sys2Proof
end

