-- ==== Sys2Proof/Safety.lean ====
section
/-! DEFINITION. The terms in which claims about the block are stated: the canonical form of its maps, the states in which an
access is performed at once, and the units that are active. -/

namespace Sys2Proof.Machine

/-- The maps of the state keep their canonical form: the keys of the register fields, of the fields at the start of the fc, of
the hardware updates of the fc, and of the agents rise strictly, so that equal contents are equal data. -/
abbrev State.canon (s : State) : Prop :=
  Sparse.wf s.regs ∧ Sparse.wf s.regs0 ∧ Sparse.wf s.hw ∧ Sparse.wf s.agents

/-- The register bank is free: the hub is READY, no window access or bulk read is outstanding, no access waits, and the BSL has
no request in hand (R65, R103, R107, R587). -/
def State.bankFree (s : State) : Bool :=
  s.isReady && s.bank.busy == none && s.bank.held == [] && s.bsl.reqs == []

/-- The access passes steps 1 to 4 of Table 2-2: a defined offset, an alias write only where one is allowed, a sufficient level,
and for a write no lock. -/
def State.passes (s : State) (a : Access) : Bool :=
  let (o, k) := a.norm
  s.offsetDefined o && s.levelOk a.src o k.isWrite && (match k with
    | .write d => isWindow o || s.lockCheck a.src o d.toNat == (0, true)
    | .rmw v d => s.aliasOk o && (isWindow o || s.lockCheck a.src o (s.aliasWr a.src o v d.toNat).v == (0, true))
    | _ => true)

/-- The state in which the bank performs access `a` when it is free: the source's path is the one served last, and the access has
its fc (R65, R97). -/
def State.turn (s : State) (a : Access) : State :=
  { s with bank := { s.bank with held := [], lastPath := srcPath a.src } }.accessFc

/-- Access `a` is performed at once, and passes its checks. -/
def State.admits (s : State) (a : Access) : Bool := s.bankFree && s.powered a && (s.turn a).passes a

/-- A write of `d` by source `x` at offset `o`, as the bank sees it. -/
def wrAccess (x : Src) (o : Nat) (d : Word) : Access := { src := x, off := o, kind := .write d }

/-- An ordinary read. -/
def rdAccess (x : Src) (o : Nat) : Access := { src := x, off := o, kind := .read }

/-- The scrubber has not found the register at `o` in this fc, so that a write of it withdraws no fault (R88). -/
def State.unscrubbed (s : State) (o : Nat) : Bool := !s.hwFault.contains (o / 0x4000, 0, o % 0x1000)

/-- Software has written the self-clearing bit `f` as 1 in this fc (R96). -/
def State.issuedNow (s : State) (f : Fld) : Bool := Sparse.get s.bank.issued f.key (s.fc + 1) == s.fc

/-- Source `x` may write `d` at `o` now, and the write has its own effect only. -/
def State.mayWrite (s : State) (x : Src) (o : Nat) (d : Word) : Bool := s.admits (wrAccess x o d) && s.unscrubbed o

/-- The state in which the write of `d` at `o` by source `x` is performed. -/
def State.writeTurn (s : State) (x : Src) (o : Nat) (d : Word) : State := s.turn (wrAccess x o d)

/-- Source `x` may read the register at `o` now. -/
def State.mayRead (s : State) (x : Src) (o : Nat) : Bool := s.admits (rdAccess x o)

/-- The state in which the read at `o` by source `x` is performed. -/
def State.readTurn (s : State) (x : Src) (o : Nat) : State := s.turn (rdAccess x o)

/-- The last answer to source `x` (R65, R67). -/
def State.respOf (s : State) (x : Src) : Option Resp := s.bank.resps.find? (fun r => r.src == x)

/-- The answer OK with data, and the bus error. -/
def okResp (x : Src) (v : Nat) : Resp := { src := x, err := false, data := BitVec.ofNat 32 v }
def errResp (x : Src) : Resp := { src := x, err := true, data := 0 }

/-- A peek read at `o`. -/
def pkAccess (x : Src) (o : Nat) : Access := { src := x, off := o, kind := .peek }

/-- The write at `o` has been performed: the register's parity is recomputed and the source has its answer (R65, R86). -/
def State.wrote (s : State) (x : Src) (o : Nat) (d : Word) : State := (s.parityWritten o).answerOk (wrAccess x o d) 0

/-- A word of a hub counter's value (Table 11-8): what a hub event may change beside the registers that an effect names. -/
def Fld.isCount (f : Fld) : Bool := decide (0x38100 * 8 ≤ f.key) && decide (f.key < 0x38500 * 8) && decide (64 ≤ f.key % 128)

/-- From `s` to `t` every register field but those of `fs` keeps its value; the hub counters, which hub events step, are not
spoken of (R437). -/
def State.keeps (s t : State) (fs : List Fld) : Prop :=
  ∀ g : Fld, Fld.isCount g = false → g.key ∉ fs.map Fld.key → t.get g = s.get g

/-- From `s` to `t` the saturating counter `f` has counted `n` (R96). -/
def State.counted (s t : State) (f : Fld) (n : Nat) : Prop := t.get f = satAdd (s.get f) n (2 ^ f.width - 1) % 2 ^ f.width

/-- The register at base offset `o` gives a command, or its write does more than store its fields. -/
def commandOff (o : Nat) : Bool :=
  o % 0x4000 == 0x08 || o % 0x4000 == 0x18 || o / 0x4000 == Slot.TEAM
    || [0x6C, 0x4064, 0x40B0, 0x8044, 0x8054, 0x8058, 0x10040, 0x10044, 0x14040, 0x18040, 0x18044, 0x1804C, 0x1C040, 0x20044, 0x2405C,
        0x2C050, 0x34040, 0x34048, 0x34060, 0x38048, 0x38050, 0x3C044, 0x3C048, 0x3C04C, 0x3C050, 0x40040, 0x40068, 0x44040,
        0x4404C, 0x44050, 0x44054, 0x44058, 0x44068, 0x44070, 0x4C040, 0x5005C, 0x50060, 0x54040, 0x58040, 0x58080, 0x5804C,
        0x5808C, 0x58050, 0x58090, 0x5C044, 0x5C054].contains o
    || (decide (0x4090 ≤ o) && decide (o < 0x40B0)) || (decide (0x104F0 ≤ o) && decide (o < 0x10500))
    || (decide (0x1C100 ≤ o) && decide (o < 0x1C500)) || inStride o 0x38100 0x10 64 || inStride o 0x38104 0x10 64
    || (decide (0x44200 ≤ o) && decide (o < 0x44300))

/-- `o` is the base offset of a hub register that holds one word of configuration or status: no window register, no word of a
pair, and no register that gives a command. -/
def plainOff (o : Nat) : Bool :=
  offBase o == o && offView o == none && !isWindow o && !isPairLo o && !isPairHi o && !commandOff o

/-- The pair whose _LO word stands at `o` has no rule of its own for its commit. -/
def plainPair (o : Nat) : Bool :=
  isPairLo o && !([0xC050, 0x18050, 0x20058, 0x34058, 0x44048, 0x58044, 0x58084].contains o) && !inStride o 0x44200 0x10 16
    && !inStride o 0x38108 0x10 64

/-- The word that gives command bits `d` of the register at `o` and keeps its other RW fields. -/
def State.cmdWord (s : State) (o d : Nat) : Word :=
  BitVec.ofNat 32 (composeWord ((fieldsAt o).filter (fun e => e.1 == .rw || e.1 == .rwl)) s.get + d)

/-- The source and the detail that a Whistle request of source `w` carries (Table 4-1). -/
def reqNos (w : WSource) : Nat × Nat :=
  match w with
  | .access x => (srcWhistle x, srcNo x)
  | .fatal a => (5, a.toNat)
  | .team m => (7, m.toNat)
  | .watchdog k => (4, k.toNat)
  | .brk n => (3, n.toNat)
  | .millrace => (8, 63)
  | .cam n => (6, n.toNat)

/-- The state in which a Whistle request with this code is evaluated: for an access the state of its write. -/
def State.whistleTurn (s : State) (w : WSource) (code : Nat) : State :=
  match w with
  | .access x => s.writeTurn x 0x14040 (BitVec.ofNat 32 code)
  | _ => s

/-- A Whistle request with this code from source `w` is evaluated: the write of an access passes its checks, no Toss and no
parity error turns it away (R72, R85), and the source is not switched off (R158). -/
def State.whistleOpen (s : State) (w : WSource) (code : Nat) : Bool :=
  !(s.whistleTurn w code).reqSuppressed ⟨code, (reqNos w).1, (reqNos w).2, 0, 0⟩ && s.parityOk Slot.WHISTLE && (match w with
    | .access x => s.mayWrite x 0x14040 (BitVec.ofNat 32 code) && !s.tossActive
    | _ => true)

/-- What WHISTLE.CMD.RESULT reads after a request of source `w` with result `r`: an automatic source leaves it alone. -/
def State.whistleResult (s : State) (w : WSource) (r : Nat) : Nat :=
  match w with
  | .access _ => r
  | _ => s.get Reg.WHISTLE.CMD.RESULT

/-- The registers of WHISTLE that a request and its wave may change. -/
def whistleFields : List Fld :=
  [Reg.WHISTLE.CMD.RESULT, Reg.WHISTLE.CMD.LAST_CODE, Reg.WHISTLE.STATE.SET, Reg.WHISTLE.STATE.KIND, Reg.WHISTLE.STATE.CP_BRANCH,
   Reg.WHISTLE.STATE.HELD, Reg.WHISTLE.STATE.STEP_ACTIVE, Reg.WHISTLE.STATE.STATE, Reg.WHISTLE.CAUSE.MERGED,
   Reg.WHISTLE.CAUSE.SOURCE, Reg.WHISTLE.CAUSE.CMD, Reg.WHISTLE.CAUSE.DETAIL, Reg.WHISTLE.STOP_POS_LO, Reg.WHISTLE.STOP_POS_HI,
   Hdr.STATUS_PARITY_ERR Slot.WHISTLE]

/-- The messages that the lanes have sent so far in this fc. -/
def State.txNow (s : State) : List (Nat × RingMsg) := if s.team.txFc = s.fc then s.team.tx else []

/-- From `s` to `t` this member has originated a message on both lanes (R507, Table 14-2), or, while the lane owner is silent in
a Toss, left it to the new one: a HEARTBEAT goes out all the same (R501). -/
def State.originated (s t : State) (all : Bool) (type target payload : Nat) : Prop :=
  let m : RingMsg := ⟨all, BitVec.ofNat 7 type, BitVec.ofNat 8 s.memberId, BitVec.ofNat 8 target, 0, BitVec.ofNat 16 s.team.seq,
    BitVec.ofNat 48 payload, true⟩
  if s.ownerSilent = true ∧ type ≠ mtHeartbeat then t.team.waiting = s.team.waiting ++ [(all, type, target, payload)] ∧ t.team.tx = s.team.tx
  else t.team.tx = s.txNow ++ [(0, m), (1, m)] ∧ t.team.seq = (s.team.seq + 1) % 65536 ∧ t.team.txFc = s.fc

/-- A TEAM request to stop is driven at once: the Whistle is RUNNING with no step active, no command has been driven in this fc,
and TEAM requests are not switched off nor turned away (R85, R155, R158, Table 4-8). -/
def State.teamOpen (s : State) : Bool :=
  s.get Reg.WHISTLE.STATE.STATE == wsRunning && s.get Reg.WHISTLE.STATE.STEP_ACTIVE == 0 && s.treeFree
    && s.cfg Reg.WHISTLE.AUTO_SOURCES.TEAM == 1 && s.cfg Reg.WHISTLE.CTRL.ENABLE == 1 && s.parityOk Slot.WHISTLE

/-- From `s` to `t` the TEAM request STOP_ALL of member `o` has been driven. -/
def State.teamStopped (s t : State) (o : Nat) : Prop :=
  t.get Reg.WHISTLE.STATE.STATE = wsFreezing ∧ t.get Reg.WHISTLE.STATE.KIND = 1 ∧ t.whistle.branches = allBranches
    ∧ t.whistle.last = some ⟨wireStop, 0, 0, allBranches, s.fc⟩ ∧ t.get Reg.WHISTLE.CAUSE.SOURCE = 7
    ∧ t.get Reg.WHISTLE.CAUSE.DETAIL = o % 2 ^ Reg.WHISTLE.CAUSE.DETAIL.width

/-- Agent `a` is assigned and its unit is active in this fc: its clock is not gated, it is not frozen, halted or faulted, and its
encoder is not in SLEEP with it (R21, R38). -/
def State.agentActive (s : State) (a : Nat) : Bool :=
  agentType a != 0 && !s.gatedNow a && !(s.agent a).frozen && !(s.agent a).halted && !(s.agent a).faulted
    && !((s.agent a).asleep && (s.agent a).enc.state == 3)

/-- The agent is in no hold: it is neither frozen nor halted, and no hold is noted. -/
def Agent.unheld (g : Agent) : Bool := !g.frozen && !g.halted && g.heldNotch == none

/-- The one command `c` on the tree reaches agent `a`, which performs it in this fc (R48, R156, R161): it is driven on the agent's
branch, the agent has not heard it yet, its qualifier says so, and the time of its second sample has come. -/
def State.performs (s : State) (a : Nat) (c : TreeCmd) : Bool :=
  let g := s.agentNow a
  s.whistle.tree == [c] && decide (g.heard ≤ c.fc) && testBit c.branches (agentBranch a) && g.acts a s.fc c
    && decide (performFrom (s.clockOf a) (c.fc + 7 + g.offset.getD 0) ≤ s.fc)

/-- From `s` to `t` every agent but `n` stays, though it may be about to see a hold of one of its receivers (R169). -/
def State.others (s t : State) (n : Nat) : Prop := ∀ b, b ≠ n → t.agent b = { s.agent b with sched := (t.agent b).sched }

/-- Every sender of agent `n` sees its hold begin or end after the latency of their link (R168, R169). -/
def State.holdSent (s t : State) (n : Nat) (on : Bool) : Prop :=
  ∀ q < agentQueues n, ∀ x, queueSender n q = some x → ⟨s.fc + linkLatency n q, x.2, on⟩ ∈ (t.agent x.1).sched

/-- From `s` to `t` no hub register changes. -/
def State.sameRegs (s t : State) : Prop := ∀ g : Fld, t.get g = s.get g

/-- From `s` to `t` no agent but `n` and no hub register changes. -/
def State.onlyAgent (s t : State) (n : Nat) : Prop := (∀ b, b ≠ n → t.agent b = s.agent b) ∧ s.sameRegs t

/-- From `s` to `t` a watchdog of kind `w` has expired with subject `u` (R482 to R484): the expiry is counted and its event and its
bit are set; where the bit was clear, the subject is recorded; an action below COLLECT does nothing more, and COLLECT drives
STOP_ALL from source WATCHDOG of a Whistle that is free for it, and owes a collection. -/
def State.expired (s t : State) (w u : Nat) : Prop :=
  let was : Bool := s.cfg (wdBit w) == 1 || s.get (wdBit w) == 1
  s.counted t Reg.HANG.STATUS.EXPIRIES 1 ∧ t.get (wdEvent w) = 1 ∧ t.get (wdBit w) = 1 ∧ t.agents = s.agents
    ∧ (was = false → w = wdUnit → t.get Reg.HANG.WD_STATUS.UNIT_AGENT = u % 2 ^ Reg.HANG.WD_STATUS.UNIT_AGENT.width)
    ∧ (was = false → w = wdCmd → t.get Reg.HANG.WD_STATUS.CMD_ENGINE = u % 2 ^ Reg.HANG.WD_STATUS.CMD_ENGINE.width)
    ∧ (was = true ∨ s.cfg (wdAct w) < 2 →
        s.keeps t [Reg.HANG.STATUS.EXPIRIES, wdEvent w, wdBit w, Reg.HANG.WD_STATUS.UNIT_AGENT, Reg.HANG.WD_STATUS.CMD_ENGINE])
    ∧ (was = false → s.cfg (wdAct w) = 2 → s.cfg Reg.WHISTLE.AUTO_SOURCES.WATCHDOG = 1 → s.cfg Reg.WHISTLE.CTRL.ENABLE = 1 →
        s.get Reg.WHISTLE.STATE.STATE = wsRunning → s.get Reg.WHISTLE.STATE.STEP_ACTIVE = 0 → s.treeFree = true →
        s.parityOk Slot.WHISTLE = true → s.hang.coll = none →
        t.get Reg.WHISTLE.STATE.STATE = wsFreezing ∧ t.get Reg.WHISTLE.CAUSE.SOURCE = 4 ∧ t.whistle.branches = allBranches
          ∧ t.hang.collectDue = true)

end Sys2Proof.Machine
end

