-- ==== Sys2Proof/Certificates/Slice0/Obligations.lean ====
section
/-! DEFINITION. The statements about the block for the provers. -/

open Sys2Proof Sys2Proof.Machine


/-- For every command c and state s: when c is at the front of the queue of waiting commands, step is exec of c on the state with
the rest of the queue. With an empty queue, step answers the state after one fc (the model's choice, log entry 1). -/
def Obligations.StepRunsFrontCommand : Prop :=
  (∀ (c : Instr) (rest : List Instr) (s : State), s.pending = c :: rest → step s = exec c { s with pending := rest })
  ∧ ∀ s : State, s.pending = [] → step s = .next s.tick

/-- For every source, every plain register offset and every word, in every state in which the access passes its checks (R67):
REGISTER_WRITE completes; the source is answered OK; every RW field holds the field's bits of the word, within the limits its
table gives; so does every RWL field while CFG_LOCK is 0; an RWL field keeps its value while the page is locked; a W1C field
loses the bits written as 1, unless hardware set it in this fc (R96); RO fields keep theirs; and no register other than the
one written changes, but for the page's STATUS.PARITY_ERR (R86). The agents, the memory master and every block's machine state
stay as they were. -/
def Obligations.RegisterWriteStoresItsFields : Prop :=
  ∀ (x : Src) (off : Off) (d : Word) (s : State), plainOff off.toNat = true → s.mayWrite x off.toNat d = true →
    ∃ t, exec (.registerWrite x off d) s = .next t ∧ t.respOf x = some (okResp x 0)
      ∧ (∀ a f, (a, f) ∈ fieldsAt off.toNat →
          (a = .rw → t.get f = fieldStores f (bits d.toNat f.hi f.lo) % 2 ^ f.width)
          ∧ (a = .rwl → s.rwlLocked x off.toNat = false → t.get f = fieldStores f (bits d.toNat f.hi f.lo) % 2 ^ f.width)
          ∧ (a = .rwl → s.rwlLocked x off.toNat = true → t.get f = s.get f)
          ∧ (a = .w1c → (s.writeTurn x off.toNat d).hw.find? (fun e => e.1 == f.key) = none →
              t.get f = (s.get f - (s.get f &&& bits d.toNat f.hi f.lo)) % 2 ^ f.width)
          ∧ (a = .ro → f.key ≠ (Hdr.STATUS_PARITY_ERR (off.toNat / 0x4000)).key → t.get f = s.get f))
      ∧ (∀ g : Fld, g.key / 32 ≠ off.toNat / 4 → g.key ≠ (Hdr.STATUS_PARITY_ERR (off.toNat / 0x4000)).key → t.get g = s.get g)
      ∧ t.agents = s.agents ∧ t.mm = s.mm ∧ t.cut = s.cut ∧ t.whistle = s.whistle ∧ t.pending = s.pending

/-- For a plain register with no field that shows live state, in every state in which the access passes its checks: ALIAS_WRITE
completes with an OK answer; through SET an RW field holds its old bits or the written ones, through CLR the old bits without
the written ones, through TGL the old bits exclusive-or the written ones (within the limits of its table); every field that is
not RW keeps its value (R61), and so does every other register but for the page's STATUS.PARITY_ERR. -/
def Obligations.AliasWriteActsOnRwBits : Prop :=
  ∀ (x : Src) (v : View) (off : Off) (d : Word) (s : State), plainOff off.toNat = true →
    s.mayWrite x (viewOff off.toNat v) d = true → (s.writeTurn x (viewOff off.toNat v) d).liveAt off.toNat = [] →
    ∃ t, exec (.aliasWrite x v off d) s = .next t ∧ t.respOf x = some (okResp x 0)
      ∧ (∀ a f, (a, f) ∈ fieldsAt off.toNat →
          (a = .rw → t.get f = fieldStores f (match v with
            | .set => (s.get f ||| bits d.toNat f.hi f.lo) % 2 ^ f.width
            | .clr => (s.get f - (s.get f &&& bits d.toNat f.hi f.lo)) % 2 ^ f.width
            | .tgl => (s.get f ^^^ bits d.toNat f.hi f.lo) % 2 ^ f.width) % 2 ^ f.width)
          ∧ (a ≠ .rw → f.key ≠ (Hdr.STATUS_PARITY_ERR (off.toNat / 0x4000)).key → t.get f = s.get f))
      ∧ (∀ g : Fld, g.key / 32 ≠ off.toNat / 4 → g.key ≠ (Hdr.STATUS_PARITY_ERR (off.toNat / 0x4000)).key → t.get g = s.get g)
      ∧ t.agents = s.agents

/-- At every base offset that is no window register, no word of a 64-bit pair, no WIN_DATA, mailbox, EDGE_DATA_HI or ENGINES_BUSY,
whose stored parity is right, in every state in which the access passes its checks: ORDINARY_READ completes, the source gets
the register's word, an RC field keeps only what hardware counted in this fc (R96), and every other field keeps its value;
PEEK_READ at that offset, or at it in an alias view (R74, R75), completes with the same word and changes no register field and
no agent. -/
def Obligations.ReadsAnswerAndTouchOnlyRcFields : Prop :=
  ∀ (x : Src) (off : Off) (s : State), offBase off.toNat = off.toNat → isWindow off.toNat = false → isPairLo off.toNat = false →
    isPairHi off.toNat = false → off.toNat ∉ [0x24070, 0x5804C, 0x5808C, 0x8054, 0x8058, 0x40064] →
    s.bank.parityBad.contains off.toNat = false →
    (s.mayRead x off.toNat = true → ∃ t, exec (.ordinaryRead x off) s = .next t
      ∧ t.respOf x = some (okResp x ((s.readTurn x off.toNat).readWord off.toNat))
      ∧ (∀ a f, (a, f) ∈ fieldsAt off.toNat →
          (a = .rc → (s.readTurn x off.toNat).hw.find? (fun e => e.1 == f.key) = none → t.get f = 0) ∧ (a ≠ .rc → t.get f = s.get f))
      ∧ (∀ g : Fld, g.key / 32 ≠ off.toNat / 4 → t.get g = s.get g) ∧ t.agents = s.agents)
    ∧ ∀ (v : Option View) (o : Off), o.toNat = (match v with
        | none => off.toNat
        | some w => viewOff off.toNat w) →
      s.admits (pkAccess x o.toNat) = true →
      ∃ t, exec (.peekRead x o) s = .next t
        ∧ t.respOf x = some (okResp x ((s.turn (pkAccess x o.toNat)).readWord off.toNat))
        ∧ (∀ g : Fld, t.get g = s.get g) ∧ t.agents = s.agents

/-- For the _LO offset o of every 64-bit pair, in every state in which the access passes its checks: PAIR_LO_READ answers the low
word and puts the high word into the source's latch, changing no register, and an ordinary read of the _HI word then answers
the latched word (R76); PAIR_HI_WRITE puts the word in the source's stage under its pair and changes no register field (R77),
except that one of FEED_DATA_HI while a feed is in progress is discarded with FEED_STATUS.OVERRUN at 1 (R210). For a pair
whose two registers only hold RW fields outside the pairs with commands of their own, PAIR_LO_WRITE stores the low word,
stores the high word that the source has staged for this pair and drops the stage, and without one leaves the high word alone
(R77, R78). -/
def Obligations.PairWordsAreLatchedAndStaged : Prop :=
  ∀ (x : Src) (off : Off) (d : Word) (s : State), isPairLo off.toNat = true →
    (s.mayRead x off.toNat = true → s.bank.parityBad.contains off.toNat = false → ∃ t, exec (.pairLoRead x off) s = .next t
      ∧ t.respOf x = some (okResp x ((s.readTurn x off.toNat).readWord off.toNat))
      ∧ t.latchOf x off.toNat = some ((s.readTurn x off.toNat).readWord (off.toNat + 4) % 2 ^ 32)
      ∧ (∀ g : Fld, t.get g = s.get g))
    ∧ (∀ h, s.latchOf x off.toNat = some h → s.mayRead x (off.toNat + 4) = true → s.bank.parityBad.contains (off.toNat + 4) = false →
      ∃ t, exec (.ordinaryRead x (off + 4)) s = .next t ∧ t.respOf x = some (okResp x h))
    ∧ (s.mayWrite x (off.toNat + 4) d = true → (off.toNat = 0x18050 → s.feedDataBusy = false) →
      ∃ t, exec (.pairHiWrite x (off + 4) d) s = .next t
        ∧ t.stageOf x off.toNat = some d.toNat ∧ (∀ g : Fld, t.get g = s.get g) ∧ t.agents = s.agents)
    ∧ (s.mayWrite x 0x18054 d = true → s.feedDataBusy = true → ∃ t, exec (.pairHiWrite x 0x18054 d) s = .next t
      ∧ t.stageOf x 0x18050 = s.stageOf x 0x18050 ∧ t.get Reg.RUNCTL.FEED_STATUS.OVERRUN = 1
      ∧ s.keeps t [Reg.RUNCTL.FEED_STATUS.OVERRUN] ∧ t.agents = s.agents)
    ∧ (s.mayWrite x off.toNat d = true → plainPair off.toNat = true → ∃ t, exec (.pairLoWrite x off d) s = .next t
      ∧ t.stageOf x off.toNat = none
      ∧ (∀ f, (Acc.rw, f) ∈ fieldsAt off.toNat → t.get f = fieldStores f (bits d.toNat f.hi f.lo) % 2 ^ f.width)
      ∧ (∀ f, (Acc.rw, f) ∈ fieldsAt (off.toNat + 4) → t.get f = (match s.stageOf x off.toNat with
          | some h => fieldStores f (bits h f.hi f.lo) % 2 ^ f.width
          | none => s.get f))
      ∧ t.agents = s.agents)

/-- With the bank free: REGISTER_WRITE, ORDINARY_READ and PEEK_READ at an offset that the page does not define, and ALIAS_WRITE to
a register that is not coded RW, answer a bus error and change no register (R59, R60, R62); a write or an ordinary read that
the level refuses answers zero with OK, and the violation is logged: GUARD_VIOL of the page holds source, code 3 and offset,
VIOL_COUNT counts it (saturating), EVENT.GUARD_VIOL of the page is set, and no other register and no agent changes (R67, R68).
-/
def Obligations.ChecksAnswerInOrder : Prop :=
  ∀ (x : Src) (off : Off) (d : Word) (s : State), s.bankFree = true →
    (s.powered (wrAccess x off.toNat d) = true → s.offsetDefined (offBase off.toNat) = false →
      ∃ t, exec (.registerWrite x off d) s = .next t ∧ t.respOf x = some (errResp x)
        ∧ (∀ g : Fld, t.get g = s.get g) ∧ t.agents = s.agents)
    ∧ (s.powered (rdAccess x off.toNat) = true → s.offsetDefined (offBase off.toNat) = false →
      ∃ t, exec (.ordinaryRead x off) s = .next t ∧ t.respOf x = some (errResp x)
        ∧ (∀ g : Fld, t.get g = s.get g) ∧ t.agents = s.agents)
    ∧ (∀ v : View, s.powered (wrAccess x (viewOff off.toNat v) d) = true → s.offsetDefined (offBase off.toNat) = true →
      s.aliasOk (offBase off.toNat) = false →
      ∃ t, exec (.aliasWrite x v off d) s = .next t ∧ t.respOf x = some (errResp x)
        ∧ (∀ g : Fld, t.get g = s.get g) ∧ t.agents = s.agents)
    ∧ (offBase off.toNat = off.toNat → s.offsetDefined off.toNat = true →
      let p := off.toNat / 0x4000
      let logged := fun (t : State) => t.respOf x = some (okResp x 0)
        ∧ t.get (Hdr.GUARD_VIOL_SOURCE p) = srcNo x ∧ t.get (Hdr.GUARD_VIOL_CODE p) = 3
        ∧ t.get (Hdr.GUARD_VIOL_OFFSET p) = off.toNat % 0x1000 ∧ t.get (Hdr.EVENT_GUARD_VIOL p) = 1
        ∧ s.counted t Reg.GUARD.VIOL_COUNT.COUNT 1
        ∧ s.keeps t [Hdr.GUARD_VIOL_SOURCE p, Hdr.GUARD_VIOL_CODE p, Hdr.GUARD_VIOL_OFFSET p, Hdr.EVENT_GUARD_VIOL p,
            Reg.GUARD.VIOL_COUNT.COUNT]
        ∧ t.agents = s.agents
      (s.powered (wrAccess x off.toNat d) = true → s.levelOk x off.toNat true = false →
        ∃ t, exec (.registerWrite x off d) s = .next t ∧ logged t)
      ∧ (s.powered (rdAccess x off.toNat) = true → s.levelOk x off.toNat false = false →
        ∃ t, exec (.ordinaryRead x off) s = .next t ∧ logged t))

/-- Each row that names one register's write or read is, for every source and every state, the write of its word at its register's
offset (or the ordinary read of it) as REGISTER_WRITE (ORDINARY_READ) makes it; a register-bus access is the write or read by
its master (R66). So whatever is said of the row holds of the access, and of the access the row. -/
def Obligations.RowsAreAccessesOfTheirRegister : Prop :=
  ∀ (x : Src) (d : Word) (s : State),
    exec (.irqRouteWrite x d) s = exec (.registerWrite x 0x6C d) s
    ∧ exec (.agentSelWrite x d) s = exec (.registerWrite x 0x54040 d) s
    ∧ exec (.halt x) s = exec (.registerWrite x 0x18044 1) s
    ∧ exec (.release x) s = exec (.registerWrite x 0x18044 2) s
    ∧ exec (.stepInstr x) s = exec (.registerWrite x 0x18044 3) s
    ∧ exec (.cancelHalt x) s = exec (.registerWrite x 0x18044 4) s
    ∧ exec (.feedInstr x d) s = exec (.registerWrite x 0x1804C d) s
    ∧ exec (.whistleStopAll (.access x)) s = exec (.registerWrite x 0x14040 1) s
    ∧ exec (.whistleResume (.access x)) s = exec (.registerWrite x 0x14040 4) s
    ∧ exec (.cut (.access x)) s = exec (.registerWrite x 0x20044 1) s
    ∧ exec (.stopAndCut x) s = exec (.registerWrite x 0x20044 2) s
    ∧ exec (.contextSave x) s = exec (.registerWrite x 0x20044 3) s
    ∧ exec (.contextRestore x) s = exec (.registerWrite x 0x20044 4) s
    ∧ exec (.hopperGo x d) s = exec (.registerWrite x 0x2405C d) s
    ∧ exec (.periodRevWrite x d) s = exec (.registerWrite x 0x44040 d) s
    ∧ exec (.targetStateWrite x d) s = exec (.registerWrite x 0x4C040 d) s
    ∧ exec (.contextSelWrite x d) s = exec (.registerWrite x 0x38048 d) s
    ∧ exec (.snap x) s = exec (.registerWrite x 0x38050 1) s
    ∧ exec (.teamRoleWrite x d) s = exec (.registerWrite x 0x48040 d) s
    ∧ exec (.mboxInRead x) s = exec (.ordinaryRead x 0x8058) s
    ∧ (∀ (m : BitVec 3) (off : Off), exec (.registerBusAccess m true off d) s = exec (.registerWrite (.bus m) off d) s
        ∧ exec (.registerBusAccess m false off d) s = exec (.ordinaryRead (.bus m) off) s)

/-- In every state in which the access passes its checks: CFG_LOCK with bit 0 at 1 completes with LOCK.CFG_LOCK of the page at 1
and STATUS.LOCKED reading 1, with bit 0 at 0 (before the lock) the lock stays 0; nothing else changes but the page's
PARITY_ERR and TEAM's TOSS_BUSY, which a TEAM write clears (a TEAM write during a Toss is not meant here, R72).
IRQ_ROUTE_WRITE completes: with WR at 0 it changes SEL alone and no route; with WR at 1 it sets SEL first and then the route
of the page that SEL names, and no other page's route (R99). -/
def Obligations.LockAndRoutesAreWritten : Prop :=
  ∀ (x : Src) (page : PageSlot) (d : Word) (s : State),
    (s.mayWrite x (0x4000 * page.toNat + 0x20) d = true → (page.toNat = Slot.TEAM → s.tossActive = false) →
      ∃ t, exec (.cfgLock x page d) s = .next t
      ∧ (d.toNat % 2 = 1 → t.get (Hdr.LOCK_CFG_LOCK page.toNat) = 1 ∧ t.readWord (0x4000 * page.toNat + 0x0C) / 16 % 2 = 1)
      ∧ (d.toNat % 2 = 0 → t.get (Hdr.LOCK_CFG_LOCK page.toNat) = 0)
      ∧ s.keeps t [Hdr.LOCK_CFG_LOCK page.toNat, Hdr.STATUS_PARITY_ERR page.toNat, Reg.TEAM.STATUS.TOSS_BUSY] ∧ t.agents = s.agents)
    ∧ (s.mayWrite x 0x6C d = true → ∃ t, exec (.irqRouteWrite x d) s = .next t
      ∧ t.get Reg.HUB.IRQ_ROUTE.SEL = bits d.toNat Reg.HUB.IRQ_ROUTE.SEL.hi Reg.HUB.IRQ_ROUTE.SEL.lo
      ∧ (testBit d.toNat 8 = false → ∀ p, t.irqRoute p = s.irqRoute p)
      ∧ (testBit d.toNat 8 = true → ∀ p < 24, t.irqRoute p
          = if p + 1 = bits d.toNat Reg.HUB.IRQ_ROUTE.SEL.hi Reg.HUB.IRQ_ROUTE.SEL.lo then d.toNat % 4 else s.irqRoute p)
      ∧ s.keeps t [Reg.HUB.IRQ_ROUTE.SEL, Hdr.STATUS_PARITY_ERR 0] ∧ t.agents = s.agents)

/-- In every state in which the write passes its checks, for every page with an ENABLE of its own but MILLRACE, HANG, POWER and
TEAM: CTRL_ENABLE_WRITE without ABORT and without the page's other command bits completes with CTRL.ENABLE and IRQ_EN as
written, and a page that still has work when ENABLE goes from 1 to 0 owes EVENT.IDLE_ENTRY (R92), while one that is enabled
again, with no abort going on, owes it no more (R93). CTRL_ABORT on the HANG page during a collection completes: the
collection is discarded, DISCARDS counts it, EVENT.DISCARD is set and ABORT reads 1 (R94, R493); on a page without work it
discards nothing (R95, shown for HANG). DRAIN_COMPLETE of a page that owes the event and has no work left sets
EVENT.IDLE_ENTRY once; with work left it waits. ABORT_COMPLETE, once the discard is complete, makes ABORT read 0 and sets
EVENT.IDLE_ENTRY if the page owes it (R94); an ABORT that software has written in this fc stays (R96). -/
def Obligations.EnableAbortAndDrainGovernAPage : Prop :=
  (∀ (x : Src) (page : PageSlot) (d : Word) (s : State), s.mayWrite x (0x4000 * page.toNat + 8) d = true →
    noControl page.toNat = false → page.toNat ∉ [Slot.MILLRACE, Slot.HANG, Slot.POWER, Slot.TEAM] →
    testBit d.toNat 1 = false → testBit d.toNat 8 = false →
    ∃ t, exec (.ctrlEnableWrite x page d) s = .next t ∧ t.pageEnable page.toNat = d.toNat % 2
      ∧ t.get (Hdr.CTRL_IRQ_EN page.toNat) = bits d.toNat 2 2
      ∧ (s.pageEnable page.toNat = 1 → d.toNat % 2 = 0 → t.pageBusy page.toNat = true → page.toNat ∈ t.bank.draining)
      ∧ (s.pageEnable page.toNat = 0 → d.toNat % 2 = 1 → s.get (Hdr.CTRL_ABORT page.toNat) = 0 → page.toNat ∉ t.bank.draining)
      ∧ s.keeps t [Hdr.CTRL_ENABLE page.toNat, Hdr.CTRL_IRQ_EN page.toNat, Hdr.STATUS_PARITY_ERR page.toNat]
      ∧ t.agents = s.agents)
  ∧ (∀ (x : Src) (d : Word) (s : State), s.mayWrite x 0x40008 (d ||| 2) = true → d.toNat % 2 = 1 → testBit d.toNat 8 = false →
    s.pageEnable Slot.HANG = 1 →
    (s.hang.coll.isSome = true → ∃ t, exec (.ctrlAbort x 16#5 d) s = .next t ∧ t.hang.coll = none
      ∧ t.get (Hdr.EVENT_DISCARD Slot.HANG) = 1 ∧ t.get (Hdr.CTRL_ABORT Slot.HANG) = 1
      ∧ s.counted t Reg.HANG.STATUS.DISCARDS 1
      ∧ t.agents = s.agents)
    ∧ (s.hang.coll = none → ∃ t, exec (.ctrlAbort x 16#5 d) s = .next t
      ∧ t.get (Hdr.EVENT_DISCARD Slot.HANG) = s.get (Hdr.EVENT_DISCARD Slot.HANG)
      ∧ t.get Reg.HANG.STATUS.DISCARDS = s.get Reg.HANG.STATUS.DISCARDS ∧ t.agents = s.agents))
  ∧ (∀ (page : PageSlot) (s : State), page.toNat ∈ s.bank.draining →
    (s.pageBusy page.toNat = false → ∃ t, exec (.drainComplete page) s = .next t
      ∧ t.get (Hdr.EVENT_IDLE_ENTRY page.toNat) = 1 ∧ page.toNat ∉ t.bank.draining
      ∧ s.keeps t [Hdr.EVENT_IDLE_ENTRY page.toNat] ∧ t.agents = s.agents)
    ∧ (s.pageBusy page.toNat = true → exec (.drainComplete page) s = .next s))
  ∧ ∀ (page : PageSlot) (s : State),
    (s.abortDone page.toNat = true → s.issuedNow (Hdr.CTRL_ABORT page.toNat) = false → ∃ t, exec (.abortComplete page) s = .next t ∧ t.get (Hdr.CTRL_ABORT page.toNat) = 0
      ∧ (page.toNat ∈ s.bank.draining → (s.put (Hdr.CTRL_ABORT page.toNat) 0).pageBusy page.toNat = false →
          t.get (Hdr.EVENT_IDLE_ENTRY page.toNat) = 1)
      ∧ s.keeps t [Hdr.CTRL_ABORT page.toNat, Hdr.EVENT_IDLE_ENTRY page.toNat] ∧ t.agents = s.agents)
    ∧ (s.abortDone page.toNat = true → s.issuedNow (Hdr.CTRL_ABORT page.toNat) = true → exec (.abortComplete page) s = .next s)
    ∧ (s.abortDone page.toNat = false → exec (.abortComplete page) s = .next s)

/-- While the scrubber is enabled or a pass is asked for, the hub is READY and in W0 to W2: SCRUB_PASS completes; PASSES counts
it, PASS_NOW reads 0 unless software has written it in this fc (R96), and for every register with wrong parity (on a page in
use) its page's FAULT.PARITY and STATUS.PARITY_ERR read 1 (R83, R84); else it changes nothing. PASS_NOW, when its write passes
its checks and GUARD has no parity error standing, sets SCRUB_CTRL.PASS_NOW; INJECT then inverts the stored parity of
HUB.SCRATCH, and a second time restores it; under a parity error of GUARD neither is performed (R85). -/
def Obligations.ParityIsScrubbedAndReported : Prop :=
  (∀ s : State, s.isReady = true → s.power ≤ 2 → (s.cfg Reg.GUARD.SCRUB_CTRL.EN = 1 ∨ s.get Reg.GUARD.SCRUB_CTRL.PASS_NOW = 1) →
    ∃ t, exec .scrubPass s = .next t
      ∧ t.get Reg.GUARD.SCRUB_CTRL.PASSES = (s.get Reg.GUARD.SCRUB_CTRL.PASSES + 1) % 2 ^ Reg.GUARD.SCRUB_CTRL.PASSES.width
      ∧ t.get Reg.GUARD.SCRUB_CTRL.PASS_NOW = (if s.issuedNow Reg.GUARD.SCRUB_CTRL.PASS_NOW then s.get Reg.GUARD.SCRUB_CTRL.PASS_NOW else 0)
      ∧ (∀ o ∈ s.bank.parityBad, t.get (Hdr.FAULT_PARITY (o / 0x4000)) = 1 ∧ t.get (Hdr.STATUS_PARITY_ERR (o / 0x4000)) = 1)
      ∧ t.agents = s.agents ∧ t.bank.parityBad = s.bank.parityBad)
  ∧ (∀ s : State, s.cfg Reg.GUARD.SCRUB_CTRL.EN ≠ 1 → s.get Reg.GUARD.SCRUB_CTRL.PASS_NOW ≠ 1 → exec .scrubPass s = .next s)
  ∧ (∀ (x : Src) (s : State), s.mayWrite x 0x50B0 2 = true → ∃ t, exec (.passNow x) s = .next t
    ∧ t.get Reg.GUARD.SCRUB_CTRL.PASS_NOW = (if s.parityOk Slot.GUARD then 1 else s.get Reg.GUARD.SCRUB_CTRL.PASS_NOW)
    ∧ s.keeps t [Reg.GUARD.SCRUB_CTRL.PASS_NOW, Reg.GUARD.SCRUB_CTRL.EN, Hdr.STATUS_PARITY_ERR 1] ∧ t.agents = s.agents)
  ∧ ∀ (x : Src) (s : State), s.mayWrite x 0x50B0 4 = true → ∃ t, exec (.inject x) s = .next t
    ∧ t.bank.parityBad.contains 0x58 = (s.bank.parityBad.contains 0x58 ^^ s.parityOk Slot.GUARD)
    ∧ s.keeps t [Reg.GUARD.SCRUB_CTRL.EN, Hdr.STATUS_PARITY_ERR 1] ∧ t.agents = s.agents

/-- In every state in which the access passes its checks: AGENT_SEL_WRITE sets ID and clears TIMEOUT (R102); WINDOW_ACCESS, read
or write, of a register of the selected agent that is no high word of a pair waits for the agent with PENDING at 1, and with
the agents unreachable (R104) is a bus error. With such an access outstanding and nothing waiting behind it: WINDOW_ANSWER
within 4,096 fc of a read from a reachable selected agent whose Half is there answers the agent register's word and clears
PENDING, touching no hub register else; WINDOW_TIMEOUT from 4,096 fc on answers a bus error and sets AGENT_STATE.TIMEOUT, and
before that changes nothing (R103). -/
def Obligations.WindowAccessGoesToTheAgent : Prop :=
  (∀ (x : Src) (d : Word) (s : State), s.mayWrite x 0x54040 d = true → ∃ t, exec (.agentSelWrite x d) s = .next t
    ∧ t.winAgent = d.toNat % 2 ^ 14 ∧ t.get Reg.UNITWIN.AGENT_STATE.TIMEOUT = 0
    ∧ s.keeps t [Reg.UNITWIN.AGENT_SEL.ID, Reg.UNITWIN.AGENT_STATE.TIMEOUT, Hdr.STATUS_PARITY_ERR Slot.UNITWIN] ∧ t.agents = s.agents)
  ∧ (∀ (x : Src) (off : BitVec 12) (d : Word) (s : State), 0x400 ≤ off.toNat → off.toNat < 0x800 →
    (∀ lo, agentPair s.winType off.toNat ≠ some (lo, true)) → ∀ op ∈ [WinOp.read, WinOp.write d],
    s.admits (winOpAccess x off.toNat op) = true →
    (s.unreachable = false → ∃ t, exec (.windowAccess x off op) s = .next t ∧ t.bank.busy = some (winOpAccess x off.toNat op)
      ∧ t.get Reg.UNITWIN.AGENT_STATE.PENDING = 1 ∧ s.keeps t [Reg.UNITWIN.AGENT_STATE.PENDING] ∧ t.agents = s.agents)
    ∧ (s.unreachable = true → ∃ t, exec (.windowAccess x off op) s = .next t ∧ t.respOf x = some (errResp x) ∧ t.agents = s.agents))
  ∧ ∀ (x : Src) (off : Nat) (live : BitVec 64) (s : State), 0x400 ≤ off → off < 0x800 →
    s.bank.busy = some (rdAccess x (0x54000 + off)) → s.bank.held = [] → s.bsl.reqs = [] →
    (s.agentAnswers = true → s.unreachable = false → s.fc ≤ s.bank.busyFc + 4096 → (∀ p, agentPair s.winType off ≠ some p) → ∃ t, exec (.windowAnswer live) s = .next t
      ∧ t.respOf x = some (okResp x (s.agentWord s.winAgent off (live.toNat % 2 ^ 32)))
      ∧ t.bank.busy = none ∧ t.get Reg.UNITWIN.AGENT_STATE.PENDING = 0 ∧ s.keeps t [Reg.UNITWIN.AGENT_STATE.PENDING])
    ∧ (s.bank.busyFc + 4096 ≤ s.fc → ∃ t, exec .windowTimeout s = .next t ∧ t.respOf x = some (errResp x) ∧ t.bank.busy = none
      ∧ t.get Reg.UNITWIN.AGENT_STATE.TIMEOUT = 1 ∧ t.get Reg.UNITWIN.AGENT_STATE.PENDING = 0
      ∧ s.keeps t [Reg.UNITWIN.AGENT_STATE.TIMEOUT, Reg.UNITWIN.AGENT_STATE.PENDING] ∧ t.agents = s.agents)
    ∧ (s.fc < s.bank.busyFc + 4096 → exec .windowTimeout s = .next s)

/-- For both DATAWIN instances, in every state in which the write or read passes its checks: WIN_SRC_WRITE with a source 0 to 4
sets it and drops the prefetched words and the sticky bits; with 5 to 7 it only sets BAD_SRC (R105, R106); WIN_COUNT_WRITE
sets the count; PREFETCH_ARRIVAL of n words in W0 appends the source's next words, as many as n, the count, the source's end
and the 64 words of the buffer leave room for, from an SRAM source at once, from MEMORY where the word's block has come (R106,
R231); WIN_DATA_READ with a word there answers it, advances the offset by 4 and counts WIN_COUNT down (R107), without one it
waits, and with WIN_COUNT 0 it answers zero, sets RANGE and advances nothing (R108); WIN_DATA_WRITE with WRITE_EN at 0 sets
BAD_WRITE, with SRC staging and an offset in range stores the word and advances, and with SRC MEMORY hands the word to its
block write and advances (R109); WIN_DATA_TIMEOUT 65,536 fc after the read answers a bus error and sets TIMEOUT (R107). -/
def Obligations.BulkWindowStreamsWords : Prop :=
  ∀ (x : Src) (inst : Inst) (d : Word) (s : State), let i := inst.toNat
    (s.mayWrite x (0x58040 + 0x40 * i) d = true → ∃ t, exec (.winSrcWrite x inst d) s = .next t
      ∧ (d.toNat % 8 < 5 → t.get (Reg.DATAWIN.WIN_SRC.SRC i) = d.toNat % 8 ∧ (t.dw i).ready = []
          ∧ t.get (Reg.DATAWIN.WIN_STATUS.RANGE i) = 0 ∧ t.get (Reg.DATAWIN.WIN_STATUS.TIMEOUT i) = 0)
      ∧ (5 ≤ d.toNat % 8 → t.get (Reg.DATAWIN.WIN_STATUS.BAD_SRC i) = 1 ∧ (t.dw i).ready = (s.dw i).ready
          ∧ s.keeps t [Reg.DATAWIN.WIN_STATUS.BAD_SRC i, Hdr.STATUS_PARITY_ERR Slot.DATAWIN]))
    ∧ (s.mayWrite x (0x58050 + 0x40 * i) d = true → ∃ t, exec (.winCountWrite x inst d) s = .next t
      ∧ t.get (Reg.DATAWIN.WIN_COUNT i) = d.toNat % 2 ^ (Reg.DATAWIN.WIN_COUNT i).width
      ∧ (t.dw i).ready = (s.dw i).ready.take d.toNat)
    ∧ (∀ (n : BitVec 7) (ue : Bool), s.power = 0 → s.bank.busy = none → s.bank.held = [] → s.bsl.reqs = [] →
      let src := s.get (Reg.DATAWIN.WIN_SRC.SRC i)
      let r := (s.dw i).ready
      let left := min (s.get (Reg.DATAWIN.WIN_COUNT i)) ((s.winSize src - s.winOffset i + 3) / 4)
      let next := s.winOffset i + 4 * r.length
      ∃ t, exec (.prefetchArrival inst n ue) s = .next t
        ∧ (src ≠ 0 → (t.dw i).ready = r ++ (List.range (min n.toNat (min (64 - r.length) (left - r.length)))).map
            (fun j => (BitVec.ofNat 32 (s.sramWord src (next + 4 * j)), ue)))
        ∧ (∀ e, src = 0 → n = 1 → r.length < 64 → r.length < left → (s.dw i).blocks.find? (fun e => e.1 == next / 64) = some e →
            (t.dw i).ready = r ++ [(BitVec.ofNat 32 (wordAt e.2.1 (next % 64 / 4)), e.2.2 || ue)])
        ∧ (∀ g, t.get g = s.get g) ∧ t.agents = s.agents)
    ∧ (s.mayRead x (0x5804C + 0x40 * i) = true →
      (∀ w rest, s.winOut i = false → (s.dw i).ready = (w, false) :: rest → ∃ t, exec (.winDataRead x inst) s = .next t
        ∧ t.respOf x = some (okResp x w.toNat) ∧ (t.dw i).ready = rest ∧ t.winOffset i = (s.winOffset i + 4) % 2 ^ 64
        ∧ t.get (Reg.DATAWIN.WIN_COUNT i) = (s.get (Reg.DATAWIN.WIN_COUNT i) - 1) % 2 ^ (Reg.DATAWIN.WIN_COUNT i).width)
      ∧ (s.winOut i = false → (s.dw i).ready = [] → ∃ t, exec (.winDataRead x inst) s = .next t
        ∧ t.bank.busy = some (rdAccess x (0x5804C + 0x40 * i)) ∧ (∀ g, t.get g = s.get g))
      ∧ (s.get (Reg.DATAWIN.WIN_COUNT i) = 0 → ∃ t, exec (.winDataRead x inst) s = .next t
        ∧ t.get (Reg.DATAWIN.WIN_STATUS.RANGE i) = 1 ∧ s.keeps t [Reg.DATAWIN.WIN_STATUS.RANGE i]))
    ∧ (s.mayWrite x (0x5804C + 0x40 * i) d = true →
      (s.get (Reg.DATAWIN.WIN_SRC.WRITE_EN i) = 0 → ∃ t, exec (.winDataWrite x inst d) s = .next t
        ∧ t.get (Reg.DATAWIN.WIN_STATUS.BAD_WRITE i) = 1
        ∧ s.keeps t [Reg.DATAWIN.WIN_STATUS.BAD_WRITE i, Hdr.STATUS_PARITY_ERR Slot.DATAWIN])
      ∧ (s.get (Reg.DATAWIN.WIN_SRC.WRITE_EN i) = 1 → s.get (Reg.DATAWIN.WIN_SRC.SRC i) = 3 → s.winOut i = false →
        ∃ t, exec (.winDataWrite x inst d) s = .next t ∧ t.cut.staged = Sparse.ins s.cut.staged (s.winOffset i / 4) d.toNat
          ∧ t.winOffset i = (s.winOffset i + 4) % 2 ^ 64)
      ∧ (s.get (Reg.DATAWIN.WIN_SRC.WRITE_EN i) = 1 → s.get (Reg.DATAWIN.WIN_SRC.SRC i) = 0 → s.winOut i = false →
        ∃ t, exec (.winDataWrite x inst d) s = .next t ∧ (t.dw i).writes = (s.dw i).writes ++ [(s.winOffset i, d)]
          ∧ t.winOffset i = (s.winOffset i + 4) % 2 ^ 64))
    ∧ (s.bank.busy = some (rdAccess x (0x5804C + 0x40 * i)) → s.bank.held = [] → s.bsl.reqs = [] → s.bank.busyFc + 65536 ≤ s.fc →
      ∃ t, exec (.winDataTimeout inst) s = .next t ∧ t.respOf x = some (errResp x)
        ∧ t.get (Reg.DATAWIN.WIN_STATUS.TIMEOUT i) = 1 ∧ s.keeps t [Reg.DATAWIN.WIN_STATUS.TIMEOUT i] ∧ t.agents = s.agents)

/-- WHEEL_BOUNDARY at or past the revolution's length completes: the revolution takes its next count, begins at the fc that
overran the length, and one more revolution has turned; before the length it changes nothing (R113, R121). POS_LO_WRITE, when
its write passes its checks, commits the count of the revolution that begins at the next boundary while the source in effect
is not RING: bits 15 to 0 from the word's REV and the rest from the source's staged POS_HI, without one from an earlier commit
of it; while RING is in effect it commits nothing (R117, R153). WHEEL_SOURCE_WRITE stores SOURCE.SEL, or PERIOD_FC with a
least value of 4,096 (R117). WHEEL_SYNC_IN_EDGE completes and makes a mark 3 fc plus PIN_TRIM later (R119), changing nothing
else. -/
def Obligations.WheelMakesAndCountsRevolutions : Prop :=
  (∀ s : State, (s.wheel.len ≤ s.wheel.k → ∃ t, exec .wheelBoundary s = .next t ∧ t.wheel.rev = s.wheel.nextCount
      ∧ t.wheel.k = s.wheel.k - s.wheel.len ∧ t.wheel.turns = s.wheel.turns + 1 ∧ t.wheel.nextRev = none ∧ t.fc = s.fc)
    ∧ (s.wheel.k < s.wheel.len → exec .wheelBoundary s = .next s))
  ∧ (∀ (x : Src) (d : Word) (s : State), s.mayWrite x 0xC050 d = true → s.unscrubbed 0xC054 = true → ∃ t, exec (.posLoWrite x d) s = .next t
    ∧ (s.wheel.sel ≠ 2 → t.wheel.nextRev
        = some (d.toNat / 65536 % 65536, (s.stageOf x 0xC050).or (s.wheel.nextRev.bind (fun r => r.2))))
    ∧ (s.wheel.sel = 2 → t.wheel = s.wheel)
    ∧ t.wheel.rev = s.wheel.rev ∧ t.stageOf x 0xC050 = none
    ∧ s.keeps t [Hdr.STATUS_PARITY_ERR Slot.WHEEL] ∧ t.agents = s.agents)
  ∧ (∀ (x : Src) (d : Word) (s : State),
    (s.mayWrite x 0xC040 d = true → s.rwlLocked x 0xC040 = false → ∃ t, exec (.wheelSourceWrite x .source d) s = .next t
      ∧ t.get Reg.WHEEL.SOURCE.SEL = bits d.toNat Reg.WHEEL.SOURCE.SEL.hi Reg.WHEEL.SOURCE.SEL.lo
      ∧ t.get Reg.WHEEL.SOURCE.STATE = s.get Reg.WHEEL.SOURCE.STATE ∧ t.wheel = s.wheel)
    ∧ (s.mayWrite x 0xC044 d = true → s.rwlLocked x 0xC044 = false → ∃ t, exec (.wheelSourceWrite x .periodFc d) s = .next t
      ∧ t.get Reg.WHEEL.PERIOD_FC.FC
          = max 4096 (bits d.toNat Reg.WHEEL.PERIOD_FC.FC.hi Reg.WHEEL.PERIOD_FC.FC.lo) % 2 ^ Reg.WHEEL.PERIOD_FC.FC.width
      ∧ t.wheel = s.wheel))
  ∧ ∀ s : State, exec .wheelSyncInEdge s
    = .next { s with wheel := { s.wheel with pinMarks := s.wheel.pinMarks ++ [s.fc + 3 + s.cfg Reg.WHEEL.SUBNOTCH_CAL.PIN_TRIM] } }

/-- WHEEL_MARK, at an edge of the Wheel's clock (R129), takes the oldest pin mark that is due; between edges it changes nothing.
With the pin not the source in effect it only discards it. With the pin in effect, SEEKING and a boundary that the Wheel made
itself in the mark's own fc, it completes with the Wheel LOCKED, EVENT.LOCKED set and SLIP 0 (R122); LOCKED or COASTING and
nearer than W to the last accepted mark, the mark is spurious: LOSS_COUNT.SPURIOUS counts it and EVENT.SPURIOUS is set, and
the Wheel does not change (R123). MARK_MISSED, LOCKED or COASTING, with no mark by fc W after a boundary that the Wheel made
itself, completes with COASTING, MISSED counted and EVENT.MISSED set (R124), and else changes nothing.
SUBNOTCH_CALIBRATION_DONE with the round trip known completes with RING_DELAY (at most 65,535), VALID 1 and EVENT.CAL_DONE
set, the calibration over (R131). -/
def Obligations.MarksSteerTheWheel : Prop :=
  (∀ (s : State) (f : Nat), s.wheel.pinMarks.find? (fun m => decide (m ≤ s.fc)) = some f →
    (s.wheelEdge = false → exec .wheelMark s = .next s)
    ∧ (s.wheelEdge = true → s.wheel.sel ≠ 1 → exec .wheelMark s = .next { s with wheel := { s.wheel with pinMarks := s.wheel.pinMarks.erase f } })
    ∧ (s.wheelEdge = true → s.wheel.sel = 1 → s.get Reg.WHEEL.SOURCE.STATE = wheelSeeking → s.wheel.k + f = s.fc → s.wheel.selfMade = true →
      ∃ t, exec .wheelMark s = .next t ∧ t.get Reg.WHEEL.SOURCE.STATE = wheelLocked ∧ t.get Reg.WHEEL.EVENT.LOCKED = 1
        ∧ t.get Reg.WHEEL.SLIP.D = 0 ∧ t.wheel.rev = s.wheel.rev ∧ t.wheel.lastMark = some f
        ∧ s.keeps t [Reg.WHEEL.SOURCE.STATE, Reg.WHEEL.EVENT.LOCKED, Reg.WHEEL.SLIP.D] ∧ t.agents = s.agents)
    ∧ (∀ l, s.wheelEdge = true → s.wheel.sel = 1 → (s.get Reg.WHEEL.SOURCE.STATE = wheelLocked ∨ s.get Reg.WHEEL.SOURCE.STATE = wheelCoasting) →
      s.wheel.lastMark = some l → f < l + s.wheel.window →
      ∃ t, exec .wheelMark s = .next t ∧ t.get Reg.WHEEL.EVENT.SPURIOUS = 1
        ∧ s.counted t Reg.WHEEL.LOSS_COUNT.SPURIOUS 1
        ∧ t.wheel = { s.wheel with pinMarks := s.wheel.pinMarks.erase f }
        ∧ s.keeps t [Reg.WHEEL.EVENT.SPURIOUS, Reg.WHEEL.LOSS_COUNT.SPURIOUS] ∧ t.agents = s.agents))
  ∧ (∀ s : State, s.wheel.pinMarks.find? (fun m => decide (m ≤ s.fc)) = none → exec .wheelMark s = .next s)
  ∧ (∀ s : State,
    let due := (s.get Reg.WHEEL.SOURCE.STATE = wheelLocked ∨ s.get Reg.WHEEL.SOURCE.STATE = wheelCoasting)
      ∧ s.wheel.selfMade = true ∧ s.wheel.marked = false ∧ s.wheel.window ≤ s.wheel.k
    (due → ∃ t, exec .markMissed s = .next t ∧ t.get Reg.WHEEL.SOURCE.STATE = wheelCoasting ∧ t.get Reg.WHEEL.EVENT.MISSED = 1
      ∧ s.counted t Reg.WHEEL.LOSS_COUNT.MISSED 1
      ∧ s.keeps t [Reg.WHEEL.SOURCE.STATE, Reg.WHEEL.EVENT.MISSED, Reg.WHEEL.LOSS_COUNT.MISSED] ∧ t.agents = s.agents)
    ∧ (¬ due → exec .markMissed s = .next s))
  ∧ ∀ (s : State) (d : Nat), s.wheel.calRunning = true → s.team.rtt = some d →
    ∃ t, exec .subnotchCalibrationDone s = .next t ∧ t.get Reg.WHEEL.SUBNOTCH_CAL.RING_DELAY = min d 65535
      ∧ t.get Reg.WHEEL.SUBNOTCH_CAL.VALID = 1 ∧ t.get Reg.WHEEL.EVENT.CAL_DONE = 1 ∧ t.wheel.calRunning = false
      ∧ s.keeps t [Reg.WHEEL.SUBNOTCH_CAL.RING_DELAY, Reg.WHEEL.SUBNOTCH_CAL.VALID, Reg.WHEEL.EVENT.CAL_DONE] ∧ t.agents = s.agents

/-- CAM_FIRE of a Cam that is not ready, or whose angle the position has neither crossed in this fc nor failed to reach in the
revolution that just ended, changes nothing; nor does one while a Cam that comes before it in this fc has still to fire:
overdue Cams first, then ascending numbers (R140, R143). Else a ready Cam that is overdue or crosses its angle fires (R138 to
R144): its FIRED bit is set, ARMED is 0 and its revolution counts it as fired. The action is issued with no region left out
when none of its regions is held; with DEFER_END it is deferred, with ACTION and ARG as they stand, until the held regions
reach END (R147); else EVENT.EXCLUDED is set and it is issued without the held regions (R146, R148); while an earlier action
of the Cam is still deferred nothing is issued, OVERRUN is counted and its event set. DEFERRED_ACTION_ISSUE, once no awaited
region is left, removes the action, counts DEFERRED, sets its event and issues the action and argument that were kept, without
the regions held now; while some are awaited it changes nothing. -/
def Obligations.CamsFireAtTheirAngle : Prop :=
  ∀ (cam : BitVec 6) (s : State), let n := cam.toNat
    let late := s.camOverdue n
    let before := if late then s.camBefore n true else s.camBefore 64 true || s.camBefore n false
    (s.camReady n = false ∨ (late = false ∧ s.camCrossed n = false) ∨ before = true → exec (.camFire cam) s = .next s)
    ∧ (s.camReady n = true → late = true ∨ s.camCrossed n = true → before = false →
      let fired := fun (u : State) =>
        testBit (u.get (if n < 32 then Reg.CAMS.FIRED_LO else Reg.CAMS.FIRED_HI)) (n % 32) = true
          ∧ u.get (Reg.CAMS.CAM_FLAGS.ARMED n) = 0 ∧ n ∈ (if late then u.cams.firedPrev else u.cams.fired)
          ∧ u.agents = s.agents ∧ u.whistle = s.whistle ∧ u.cut = s.cut
      let act := s.camAction n
      let arg := s.camArg n
      let held := ((s.camTarget act arg).getD 0) &&& s.heldMask
      (s.cams.deferred.any (fun d => d.cam == n) = true → ∃ t, exec (.camFire cam) s = .next t ∧ fired t
        ∧ t.get Reg.CAMS.EVENT.OVERRUN = 1 ∧ t.cams.deferred = s.cams.deferred
        ∧ s.counted t Reg.CAMS.DEFER_COUNT.OVERRUN 1)
      ∧ (s.cams.deferred.any (fun d => d.cam == n) = false →
        (held = 0 → ∃ u : State, exec (.camFire cam) s = .next (u.camDue n act arg 0) ∧ fired u
          ∧ (act = 5 → u.get Reg.CAMS.EVENT.CAM_IRQ = 1))
        ∧ (held ≠ 0 → s.cfg (Reg.CAMS.CAM_FLAGS.DEFER_END n) = 1 → ∃ t, exec (.camFire cam) s = .next t ∧ fired t
          ∧ t.cams.deferred = s.cams.deferred ++ [⟨n, held, act, arg⟩])
        ∧ (held ≠ 0 → s.cfg (Reg.CAMS.CAM_FLAGS.DEFER_END n) ≠ 1 →
          ∃ u : State, exec (.camFire cam) s = .next (u.camDue n act arg held) ∧ fired u ∧ u.get Reg.CAMS.EVENT.EXCLUDED = 1)))
    ∧ (∀ d, s.cams.deferred.find? (fun d => d.cam == n && d.awaited == 0) = some d →
      let held := ((s.camTarget d.act d.arg).getD 0) &&& s.heldMask
      ∃ u : State, exec (.deferredActionIssue cam) s = .next (u.camDue n d.act d.arg held) ∧ u.cams.deferred = s.cams.deferred.erase d
        ∧ u.get Reg.CAMS.EVENT.DEFERRED = 1 ∧ (held ≠ 0 → u.get Reg.CAMS.EVENT.EXCLUDED = 1)
        ∧ s.counted u Reg.CAMS.DEFER_COUNT.DEFERRED 1
        ∧ u.agents = s.agents)
    ∧ (s.cams.deferred.find? (fun d => d.cam == n && d.awaited == 0) = none → exec (.deferredActionIssue cam) s = .next s)

/-- For every source of Table 4-1 whose request is evaluated, with the Whistle RUNNING, no step active and no command driven in
this fc: the three stop rows complete, a STOP is driven in this fc on the set's branches, STATE becomes FREEZING with the
acknowledge check due, KIND is ALL, REGIONS or CONTEXT, SET and CP_BRANCH show the set (all 17 branches; the regions of the
mask, which must not be empty; all branches with the context ID), CAUSE holds source, code and detail, STOP_POS the position,
and an access reads DRIVEN (R165, R195, Table 4-9). An access takes the mask from REGION_MASK and the context from CONTEXT, an
automatic source brings its own (the model's reading, DEDUCED, log entry 35). Registers other than WHISTLE's request
registers, and the agents, do not change. -/
def Obligations.StopRequestsDriveAStop : Prop :=
  ∀ (w : WSource) (s : State), s.get Reg.WHISTLE.STATE.STATE = wsRunning → s.get Reg.WHISTLE.STATE.STEP_ACTIVE = 0 →
    s.treeFree = true →
    let driven := fun (t : State) (code kind set cp branches mode field : Nat) =>
      t.get Reg.WHISTLE.STATE.STATE = wsFreezing ∧ t.get Reg.WHISTLE.STATE.KIND = kind ∧ t.get Reg.WHISTLE.STATE.SET = set
        ∧ t.get Reg.WHISTLE.STATE.CP_BRANCH = cp ∧ t.whistle.branches = branches
        ∧ t.whistle.last = some ⟨wireStop, mode, field, branches, s.fc⟩ ∧ t.whistle.freezeFc = some s.fc
        ∧ t.whistle.acks = s.whistle.acks ++ [⟨⟨wireStop, mode, field, branches, s.fc⟩, none, none⟩]
        ∧ t.get Reg.WHISTLE.CAUSE.SOURCE = (reqNos w).1 ∧ t.get Reg.WHISTLE.CAUSE.DETAIL = (reqNos w).2 ∧ t.get Reg.WHISTLE.CAUSE.CMD = code
        ∧ t.get64 Reg.WHISTLE.STOP_POS_LO Reg.WHISTLE.STOP_POS_HI = 2 ^ 32 * (s.wheel.posHi % 2 ^ 32) + s.wheel.posLo % 2 ^ 32
        ∧ t.get Reg.WHISTLE.CMD.RESULT = s.whistleResult w wrDriven ∧ s.keeps t whistleFields ∧ t.agents = s.agents
    (s.whistleOpen w 1 = true → ∃ t, exec (.whistleStopAll w) s = .next t ∧ driven t 1 1 0xFFFF 1 allBranches 0 0)
    ∧ (∀ mask : BitVec 16, s.whistleOpen w 2 = true →
      let m := match w with
        | .access _ => (s.whistleTurn w 2).cfg Reg.WHISTLE.REGION_MASK.MASK
        | _ => mask.toNat
      m ≠ 0 → m < 65536 → ∃ t, exec (.whistleStopRegions w mask) s = .next t ∧ driven t 2 2 m 0 m 1 m)
    ∧ (∀ ctx : BitVec 16, s.whistleOpen w 3 = true →
      let c := match w with
        | .access _ => (s.whistleTurn w 3).cfg Reg.WHISTLE.CONTEXT.CTX
        | _ => ctx.toNat
      c < 65536 → ∃ t, exec (.whistleStopContext w ctx) s = .next t ∧ driven t 3 3 c 1 allBranches 2 c)

/-- For every source whose request is evaluated and a fc in which no command was driven: RESUME of a FROZEN Whistle with no step
active drives RESUME on the frozen branches, empties the frozen set and makes STATE RESUMING (R177); with the Whistle RUNNING
it is refused with EVENT.REFUSED set and RESULT REFUSED_STATE (R190). STEP of a FROZEN Whistle with SCOPE 0 drives STEP on the
frozen set, sets STEP_ACTIVE and has its own STOP due N fc later (R181, R182). SNAP of a RUNNING Whistle with no undrained
shadows drives SNAP on all branches, freezes all of them and has RESUME due 16 fc later (R185). CANCEL empties the held
requests, counts them in DISCARDS, and brings the STOP of a running step forward to this fc (R191). No agent changes. -/
def Obligations.ResumeStepSnapAndCancelAct : Prop :=
  ∀ (w : WSource) (s : State), s.treeFree = true →
    (s.whistleOpen w 4 = true → s.get Reg.WHISTLE.STATE.STEP_ACTIVE = 0 →
      (s.get Reg.WHISTLE.STATE.STATE = wsFrozen → ∃ t, exec (.whistleResume w) s = .next t
        ∧ t.get Reg.WHISTLE.STATE.STATE = wsResuming ∧ t.get Reg.WHISTLE.STATE.KIND = 0 ∧ t.whistle.branches = 0
        ∧ t.whistle.resumeFc = some s.fc ∧ t.get Reg.WHISTLE.CMD.RESULT = s.whistleResult w wrDriven
        ∧ (∃ m f, t.whistle.last = some ⟨wireResume, m, f, s.whistle.branches, s.fc⟩)
        ∧ s.keeps t whistleFields ∧ t.agents = s.agents)
      ∧ (s.get Reg.WHISTLE.STATE.STATE = wsRunning → ∃ t, exec (.whistleResume w) s = .next t
        ∧ t.get Reg.WHISTLE.EVENT.REFUSED = 1 ∧ t.get Reg.WHISTLE.CMD.RESULT = s.whistleResult w wrRefusedState
        ∧ t.whistle = s.whistle
        ∧ s.keeps t [Reg.WHISTLE.EVENT.REFUSED, Reg.WHISTLE.CMD.RESULT, Reg.WHISTLE.CMD.LAST_CODE, Hdr.STATUS_PARITY_ERR Slot.WHISTLE]
        ∧ t.agents = s.agents))
    ∧ (s.whistleOpen w 5 = true → s.get Reg.WHISTLE.STATE.STATE = wsFrozen → s.get Reg.WHISTLE.STATE.STEP_ACTIVE = 0 →
      (s.whistleTurn w 5).cfg Reg.WHISTLE.STEP_COUNT.SCOPE = 0 → s.whistle.branches ≠ 0 → ∃ t, exec (.whistleStep w) s = .next t
        ∧ t.get Reg.WHISTLE.STATE.STATE = wsResuming ∧ t.get Reg.WHISTLE.STATE.STEP_ACTIVE = 1
        ∧ (∃ m f, t.whistle.last = some ⟨wireStep, m, f, s.whistle.branches, s.fc⟩
            ∧ t.whistle.stepDue
                = some ⟨wireStop, m, f, s.whistle.branches, s.fc + (s.whistleTurn w 5).cfg Reg.WHISTLE.STEP_COUNT.COUNT⟩)
        ∧ t.get Reg.WHISTLE.CMD.RESULT = s.whistleResult w wrDriven ∧ s.keeps t whistleFields ∧ t.agents = s.agents)
    ∧ (s.whistleOpen w 6 = true → s.get Reg.WHISTLE.STATE.STATE = wsRunning → s.get Reg.WHISTLE.STATE.STEP_ACTIVE = 0 →
      s.snapBlocked = false → ∃ t, exec (.whistleSnap w) s = .next t
        ∧ t.get Reg.WHISTLE.STATE.STATE = wsFreezing ∧ t.get Reg.WHISTLE.STATE.KIND = 1 ∧ t.whistle.branches = allBranches
        ∧ t.whistle.last = some ⟨wireSnap, 0, 0, allBranches, s.fc⟩ ∧ t.whistle.snapDue = some (s.fc + 16)
        ∧ t.get Reg.WHISTLE.CMD.RESULT = s.whistleResult w wrDriven ∧ s.keeps t whistleFields ∧ t.agents = s.agents)
    ∧ (s.whistleOpen w 7 = true → ∃ t, exec (.whistleCancel w) s = .next t ∧ t.whistle.held = [] ∧ t.get Reg.WHISTLE.STATE.HELD = 0
      ∧ s.counted t Reg.WHISTLE.STATUS.DISCARDS s.whistle.held.length
      ∧ t.whistle.stepDue = s.whistle.stepDue.map (fun c => { c with fc := min c.fc s.fc })
      ∧ s.keeps t (Reg.WHISTLE.STATUS.DISCARDS :: whistleFields) ∧ t.agents = s.agents)

/-- WHISTLE_HELD_DRIVE with no held request that can be taken changes nothing; a held RESUME of a FROZEN Whistle (no step active,
free fc) is taken and driven (R189). STEP_STOP, due and with a free fc, drives the step's STOP with its own qualifier and
branches and makes STATE FREEZING (R182); SNAP_RESUME, due, drives RESUME on all branches, empties the frozen set and makes
STATE RESUMING (R185). WAVE_FROZEN 16 fc into a freeze wave that no RESUME ends makes STATE FROZEN and sets EVENT.FROZEN, and
at the end of a step clears STEP_ACTIVE and sets STEP_DONE (R162, R183); ACK_CHECK 24 fc into the oldest wave checks it: with
every targeted agent frozen it records the latency from the trigger fc to the last agent's fc and the spread from the first
agent's, capped at 255, with the worst spread so far; with a targeted agent not frozen it is FAULT bit 8 and the records stay;
SKID_HIGH takes the largest skid and the lowest agent that holds it (R163, R164, R195); RESUME_WAVE_DONE 12 fc into a resume
wave makes STATE RUNNING and sets EVENT.RUNNING (R177). Before its fc each of them changes nothing. -/
def Obligations.WavesRunToTheirEnds : Prop :=
  ∀ s : State,
    (s.whistle.held.find? s.heldReady = none → exec .whistleHeldDrive s = .next s)
    ∧ (∀ r, s.whistle.held.find? s.heldReady = some r → r.code = 4 → s.get Reg.WHISTLE.STATE.STATE = wsFrozen →
      s.get Reg.WHISTLE.STATE.STEP_ACTIVE = 0 → ∃ t, exec .whistleHeldDrive s = .next t
        ∧ t.whistle.held = s.whistle.held.erase r ∧ t.whistle.resolved = some (r, wrDriven, s.fc)
        ∧ t.get Reg.WHISTLE.STATE.STATE = wsResuming ∧ t.whistle.branches = 0 ∧ t.agents = s.agents)
    ∧ (∀ c, s.whistle.stepDue = some c →
      (c.fc ≤ s.fc → s.treeFree = true → ∃ t, exec .stepStop s = .next t ∧ t.get Reg.WHISTLE.STATE.STATE = wsFreezing
        ∧ t.whistle.last = some ⟨c.wire, c.mode, c.field, c.branches, s.fc⟩ ∧ t.whistle.stepDue = none
        ∧ s.keeps t [Reg.WHISTLE.STATE.STATE] ∧ t.agents = s.agents)
      ∧ (s.fc < c.fc → exec .stepStop s = .next s))
    ∧ (∀ f, s.whistle.snapDue = some f →
      (f ≤ s.fc → s.treeFree = true → ∃ t, exec .snapResume s = .next t ∧ t.get Reg.WHISTLE.STATE.STATE = wsResuming
        ∧ t.get Reg.WHISTLE.STATE.KIND = 0 ∧ t.whistle.branches = 0 ∧ t.whistle.last = some ⟨wireResume, 0, 0, allBranches, s.fc⟩
        ∧ t.whistle.snapDue = none ∧ s.keeps t whistleFields ∧ t.agents = s.agents)
      ∧ (s.fc < f → exec .snapResume s = .next s))
    ∧ (∀ f, s.whistle.freezeFc = some f → s.whistle.snapDue = none → s.get Reg.WHISTLE.STATE.STATE = wsFreezing →
      (f + 16 ≤ s.fc → ∃ t, exec .waveFrozen s = .next t ∧ t.get Reg.WHISTLE.STATE.STATE = wsFrozen
        ∧ t.get Reg.WHISTLE.EVENT.FROZEN = 1
        ∧ (s.whistle.isStepEnd = true → t.get Reg.WHISTLE.STATE.STEP_ACTIVE = 0 ∧ t.get Reg.WHISTLE.EVENT.STEP_DONE = 1)
        ∧ s.keeps t [Reg.WHISTLE.STATE.STATE, Reg.WHISTLE.EVENT.FROZEN, Reg.WHISTLE.STATE.STEP_ACTIVE, Reg.WHISTLE.EVENT.STEP_DONE]
        ∧ t.agents = s.agents)
      ∧ (s.fc < f + 16 → exec .waveFrozen s = .next s))
    ∧ (∀ w rest, s.whistle.acks = w :: rest →
      (w.cmd.fc + 24 ≤ s.fc → ∃ t, exec .ackCheck s = .next t ∧ t.whistle.acks = rest ∧ t.agents = s.agents
        ∧ (s.ackMissing w = none → ∀ first last, w.first = some first → w.last = some last →
          t.get Reg.WHISTLE.SKEW_MAX.LATENCY = min (last - w.cmd.fc) 255
          ∧ t.get Reg.WHISTLE.SKEW_MAX.SKEW = min (last - first) 255
          ∧ t.get Reg.WHISTLE.SKEW_MAX.WORST = max (s.get Reg.WHISTLE.SKEW_MAX.WORST) (min (last - first) 255) % 256
          ∧ (12 < last - w.cmd.fc ∨ 3 < last - first → t.get ⟨0x14018, 11, 11, 0⟩ = 1))
        ∧ (∀ a, s.ackMissing w = some a → t.get ⟨0x14018, 8, 8, 0⟩ = 1
          ∧ t.get Reg.WHISTLE.SKEW_MAX.LATENCY = s.get Reg.WHISTLE.SKEW_MAX.LATENCY
          ∧ t.get Reg.WHISTLE.SKEW_MAX.SKEW = s.get Reg.WHISTLE.SKEW_MAX.SKEW)
        ∧ t.get Reg.WHISTLE.SKID_HIGH.LAST = s.skidMost.1 % 2 ^ Reg.WHISTLE.SKID_HIGH.LAST.width
        ∧ t.get Reg.WHISTLE.SKID_HIGH.AGENT = s.skidMost.2 % 2 ^ Reg.WHISTLE.SKID_HIGH.AGENT.width)
      ∧ (s.fc < w.cmd.fc + 24 → exec .ackCheck s = .next s))
    ∧ (s.whistle.acks = [] → exec .ackCheck s = .next s)
    ∧ (∀ f, s.whistle.resumeFc = some f → s.get Reg.WHISTLE.STATE.STATE = wsResuming →
      (f + 12 ≤ s.fc → ∃ t, exec .resumeWaveDone s = .next t ∧ t.get Reg.WHISTLE.STATE.STATE = wsRunning
        ∧ t.get Reg.WHISTLE.EVENT.RUNNING = 1 ∧ t.whistle.resumeFc = none
        ∧ s.keeps t [Reg.WHISTLE.STATE.STATE, Reg.WHISTLE.EVENT.RUNNING] ∧ t.agents = s.agents)
      ∧ (s.fc < f + 12 → exec .resumeWaveDone s = .next s))

/-- For every assigned agent and one command on the Whistle tree: before its first possible sample, on another branch, or heard
already, none of the four rows changes anything; nor does a row of another wire (R47, R156, R161). Where the agent performs
the command in this fc: AGENT_STOP of an agent that runs leaves it frozen by a stop with the unit's queues as they stood
(R29), and every sender is about to see its hold (R169); AGENT_RESUME of a frozen agent that owes no channel capture releases
it with its skids as they stand and clears the step flag, AGENT_STEP does the same and sets the flag (R32, R49), the senders
seeing the hold end; to an agent that is not frozen either is a protocol fault, A_FAULT bit 5. A running agent's skid gives up
to two tokens to its queue in each of its cycles, in arrival order (R178). AGENT_SNAP of an agent that holds no shadow leaves
it frozen with a shadow of this fc; with a shadow held that one stays, SNAP_OVERRUN, A_FAULT bit 8, is set and the cut in
progress counts as skipped once (R33, R35). No other hub register changes, and no other agent but for the holds that it sees.
-/
def Obligations.AgentsFreezeResumeAndSnap : Prop :=
  (∀ (a : AgentId) (u : UnitState) (c : TreeCmd) (s : State), agentType a.toNat ≠ 0 → s.whistle.tree = [c] → let n := a.toNat
    let g := s.agentNow n
    (testBit c.branches (agentBranch n) = false ∨ c.fc < g.heard
        ∨ (g.acts n s.fc c = true ∧ s.fc < performFrom (s.clockOf n) (c.fc + 7 + g.offset.getD 0)) →
      exec (.agentStop a u) s = .next s ∧ exec (.agentResume a) s = .next s ∧ exec (.agentStep a) s = .next s
        ∧ exec (.agentSnap a u) s = .next s)
    ∧ (g.acts n s.fc c = true → (c.wire ≠ wireStop → exec (.agentStop a u) s = .next s)
      ∧ (c.wire ≠ wireResume → exec (.agentResume a) s = .next s) ∧ (c.wire ≠ wireStep → exec (.agentStep a) s = .next s)
      ∧ (c.wire ≠ wireSnap → exec (.agentSnap a u) s = .next s))
    ∧ (s.performs n c = true →
      (c.wire = wireStop → (s.agent n).frozen = false → ∃ t, exec (.agentStop a u) s = .next t ∧ (t.agent n).frozen = true
        ∧ (t.agent n).byStop = true ∧ (t.agent n).queues = keyed 0 (u.queues.take (agentQueues n)) ∧ (t.agent n).unitBody = u.body
        ∧ s.holdSent t n true ∧ s.others t n ∧ s.sameRegs t)
      ∧ ((s.agent n).frozen = true → (∀ h, (s.agent n).shadow = some h → h.channels = true) →
        let released := fun (t : State) (step : Bool) => (t.agent n).frozen = false ∧ (t.agent n).skids = (s.agent n).skids
          ∧ (t.agent n).queues = (s.agent n).queues ∧ (t.agent n).stepFlag = step ∧ s.holdSent t n false ∧ s.others t n ∧ s.sameRegs t
        (c.wire = wireResume → ∃ t, exec (.agentResume a) s = .next t ∧ released t false)
        ∧ (c.wire = wireStep → ∃ t, exec (.agentStep a) s = .next t ∧ released t true))
      ∧ ((s.agent n).frozen = false →
        (c.wire = wireResume → ∃ t, exec (.agentResume a) s = .next t ∧ testBit ((t.agent n).get AReg.A_FAULT) 5 = true)
        ∧ (c.wire = wireStep → ∃ t, exec (.agentStep a) s = .next t ∧ testBit ((t.agent n).get AReg.A_FAULT) 5 = true))
      ∧ (c.wire = wireSnap → (s.agent n).shadow = none → ∃ t, exec (.agentSnap a u) s = .next t ∧ (t.agent n).frozen = true
        ∧ (∃ h, (t.agent n).shadow = some h ∧ h.fc = s.fc ∧ h.ctx = (s.agent n).ctx) ∧ s.others t n ∧ s.sameRegs t)
      ∧ (∀ h, c.wire = wireSnap → (s.agent n).shadow = some h → ∃ t, exec (.agentSnap a u) s = .next t ∧ (t.agent n).frozen = true
        ∧ (t.agent n).shadow = some h ∧ testBit ((t.agent n).get AReg.A_FAULT) 8 = true ∧ s.others t n
        ∧ (s.cut.job = none → s.sameRegs t)
        ∧ ∀ j, s.cut.job = some j → j.overrun = false → s.counted t Reg.CUT.STATUS.SKIPPED 1 ∧ t.get Reg.CUT.EVENT.SKIPPED = 1
          ∧ s.keeps t [Reg.CUT.STATUS.SKIPPED, Reg.CUT.EVENT.SKIPPED])))
  ∧ ∀ (g : Agent) (k q : Nat), g.frozen = false → Sparse.wf g.skids →
    Sparse.get (g.replay k).queues q [] = Sparse.get g.queues q [] ++ (Sparse.get g.skids q []).take (2 * k)
    ∧ Sparse.get (g.replay k).skids q [] = (Sparse.get g.skids q []).drop (2 * k)

/-- For every agent with the queue or link: at a frozen agent a token on a queue with a sender, whose skid holds fewer than 8,
joins the end of that skid, and SKID_HIGH keeps the most ever held (R30); a ninth token goes into the queue itself and sets
A_FAULT.SKID_OVF, bit 0, which the hub shows in WHISTLE.FAULT at once (R31, R176). A credit on a link with a receiver is added
to the frozen agent's count, and a count above 16 sets A_FAULT.CREDIT, bit 2; on a tied-off link nothing changes (R170, R19).
At an agent that is not frozen credits stay, a token joins the skid that is not empty yet (R178), enters the queue of a halted
unit that has room (R198), and else is the unit's own. No other agent changes. -/
def Obligations.FrozenAgentsKeepWhatArrives : Prop :=
  ∀ (a : AgentId) (q : QueueNo) (tok : Token) (s : State), q.toNat < agentQueues a.toNat → let n := a.toNat
    let k := q.toNat
    ((s.agent n).frozen = true → (queueSender n k).isSome = true →
      ((s.agent n).skid k < 8 → ∃ t, exec (.skidTokenArrival a q tok) s = .next t
        ∧ Sparse.get (t.agent n).skids k [] = Sparse.get (s.agent n).skids k [] ++ [tok] ∧ (t.agent n).queues = (s.agent n).queues
        ∧ (t.agent n).skidHigh = max (s.agent n).skidHigh ((s.agent n).skid k + 1)
        ∧ s.onlyAgent t n)
      ∧ (8 ≤ (s.agent n).skid k → ∃ t, exec (.skidTokenArrival a q tok) s = .next t
        ∧ Sparse.get (t.agent n).queues k [] = Sparse.get (s.agent n).queues k [] ++ [tok] ∧ (t.agent n).skids = (s.agent n).skids
        ∧ testBit ((t.agent n).get AReg.A_FAULT) 0 = true
        ∧ (testBit ((s.agent n).get AReg.A_FAULT) 0 = false → t.get ⟨0x14018, 9, 9, 0⟩ = 1)
        ∧ (∀ b, b ≠ n → t.agent b = s.agent b)))
    ∧ ((s.agent n).frozen = true → (linkReceiver n k).isSome = true → ∃ t, exec (.frozenCreditArrival a q) s = .next t
      ∧ Sparse.get (t.agent n).credits k 16 = (s.agent n).credit n k + 1
      ∧ (16 < (s.agent n).credit n k + 1 → testBit ((t.agent n).get AReg.A_FAULT) 2 = true)
      ∧ s.onlyAgent t n)
    ∧ ((s.agent n).frozen = false ∨ linkReceiver n k = none → ∃ t, exec (.frozenCreditArrival a q) s = .next t
      ∧ (t.agent n).credits = (s.agent n).credits ∧ (t.agent n).get AReg.A_FAULT = (s.agent n).get AReg.A_FAULT ∧ s.onlyAgent t n)
    ∧ ((s.agent n).frozen = false → let g := s.agentNow n
      ∃ t, exec (.skidTokenArrival a q tok) s = .next t ∧ (∀ b, b ≠ n → t.agent b = s.agent b)
        ∧ (g.skid k = 0 → (t.agent n).skids = g.skids ∧ (t.agent n).get AReg.A_FAULT = (s.agent n).get AReg.A_FAULT)
        ∧ (g.skid k = 0 → g.halted = false → (t.agent n).queues = g.queues)
        ∧ (g.skid k = 0 → g.halted = true → g.occ k < 16 → Sparse.get (t.agent n).queues k [] = Sparse.get g.queues k [] ++ [tok])
        ∧ (0 < g.skid k → g.skid k < 8 → Sparse.get (t.agent n).skids k [] = Sparse.get g.skids k [] ++ [tok]))

/-- For every assigned agent whose type knows the wait: EDGE_RECORD of an agent in no hold puts a wait in force that was not, at
length 0; one in force for 64 cycles and not recorded adds, with fewer than 8 edges, an edge with the wait's peer, link, kind
and the present notch count (R40, R42), with 8 edges held it adds none and sets the overflow mark (R41); a shorter or recorded
wait, and any wait of a held agent, stays as it is. WAIT_END removes the wait and its edge, though not a wait for a link that
the receiver holds (R169). UNIT_FAULT faults the unit, sets A_FAULT.UNIT_FAULT, bit 6, and raises event 6 (R268, Table 1-22).
PCNT_OVERFLOW of counter 0 latches trigger condition 2 and raises event 4, of counter 1 event 5 (R371). ARM_PULSE that is due
at the agent is latched, and marked as having reached it (R372). An event joins the bus queue of the agent's half behind those
raised before it (R52), shown where fewer than 4 of the agent's wait. -/
def Obligations.WaitsAreRecordedAsEdges : Prop :=
  ∀ (a : AgentId) (s : State), agentType a.toNat ≠ 0 → let n := a.toNat
    let room := ((s.bus (agentHalf n)).filter (fun e => e.agent == n)).length < 4
    (∀ w : WaitId, waitOk w (agentType n) = true → let g := s.agentNow n
      let v := g.waitOf n w
      ((s.agent n).unheld = true →
        (g.waits.find? (fun x => x.same v) = none → ∃ t, exec (.edgeRecord a w) s = .next t ∧ v ∈ (t.agent n).waits
          ∧ (t.agent n).edges = g.edges ∧ s.onlyAgent t n)
        ∧ (∀ x, g.waits.find? (fun x => x.same v) = some x →
          (x.recorded = false → 64 ≤ x.len → g.edges.length < 8 → ∃ t, exec (.edgeRecord a w) s = .next t
            ∧ (t.agent n).edges = g.edges ++ [⟨v.peer, v.link, v.kind, s.wheel.notchCount⟩]
            ∧ (t.agent n).edgeOvf = (s.agent n).edgeOvf ∧ s.onlyAgent t n)
          ∧ (x.recorded = false → 64 ≤ x.len → 8 ≤ g.edges.length → ∃ t, exec (.edgeRecord a w) s = .next t
            ∧ (t.agent n).edges = g.edges ∧ (t.agent n).edgeOvf = true ∧ s.onlyAgent t n)
          ∧ (x.recorded = true ∨ x.len < 64 → exec (.edgeRecord a w) s = .next s)))
      ∧ ((s.agent n).frozen = true ∨ (s.agent n).halted = true → exec (.edgeRecord a w) s = .next s)
      ∧ ∃ t, exec (.waitEnd a w) s = .next t ∧ (t.agent n).waits.any (fun x => !x.hold && x.same v) = false
        ∧ (g.waits.any (fun x => !x.hold && x.same v) = true → (t.agent n).edges.any (fun e => e.of v) = false)
        ∧ s.onlyAgent t n)
    ∧ (∀ code : Byte, ∃ t, exec (.unitFault a code) s = .next t ∧ (t.agent n).faulted = true
      ∧ testBit ((t.agent n).get AReg.A_FAULT) 6 = true
      ∧ (room → ∃ e ∈ t.bus (agentHalf n), e.agent = n ∧ e.code = 6 ∧ e.fc = s.fc)
      ∧ s.onlyAgent t n)
    ∧ (∀ k : BitVec 1, ∃ t, exec (.pcntOverflow a k) s = .next t ∧ (k = 0 → (t.agent n).ovfLatch = true)
      ∧ (room → ∃ e ∈ t.bus (agentHalf n), e.agent = n ∧ e.code = 4 + k.toNat ∧ e.fc = s.fc)
      ∧ s.onlyAgent t n)
    ∧ (s.cams.pulses.any (fun p => p.due n s.fc) = true → ∃ t, exec (.armPulse a) s = .next t ∧ (t.agent n).armLatch = true
      ∧ s.onlyAgent t n)
    ∧ (s.cams.pulses.any (fun p => p.due n s.fc) = false → exec (.armPulse a) s = .next s)

/-- For an assigned agent that is active in this fc: GRANULE_WRITE of an MU with no write waiting and no protected granule to
preserve stores every byte of the write in the scratchpad and marks its granules dirty while dirty tracking is enabled (R43);
one into a protected granule, with a preserve slot free, first copies the granule and waits 4 fc with the scratchpad unchanged
(R44); with all 64 slots in use it waits stalled and the stall is counted (R45). ACCUMULATOR_SPILL of a CU counts SPILLS
(saturating) and leaves it waiting for an accumulator (R46); CONTEXT_SWITCH gives the agent its context. While the unit
executes, COMPARATOR_MATCH of an access that an enabled comparator with HALT selects on an agent that can halt makes halt
cause 2 or 3 pending, outside the instruction whose halt is suppressed (R37, R196, R201), and of an access that it does not
select leaves comparator, halt and event state alone; TRIG_TRANSITION whose condition holds moves the sequencer to NEXT and
counts the transition (R370), and whose condition does not hold changes nothing. Of a sleeping unit the last two change
nothing, of a frozen one GRANULE_WRITE too (R38). -/
def Obligations.UnitsActWhileTheyExecute : Prop :=
  ∀ (a : AgentId) (s : State), agentType a.toNat ≠ 0 → let n := a.toNat
    (∀ (addr : BitVec 19) (data : List Byte) (masked : Bool), agentType n = 2 → 1 ≤ data.length → addr.toNat + data.length ≤ 2 ^ 19 →
      let need := (granulesOf addr.toNat data.length).filter (s.agent n).needsPreserve
      (s.agentActive n = true → (s.agent n).waitingWrites = [] →
        (need = [] → ∃ t, exec (.granuleWrite a addr data masked) s = .next t
          ∧ (∀ i < data.length, Sparse.get (t.agent n).cells (addr.toNat + i) 0 = data.getD i 0)
          ∧ (∀ j, j < addr.toNat ∨ addr.toNat + data.length ≤ j → Sparse.get (t.agent n).cells j 0 = Sparse.get (s.agent n).cells j 0)
          ∧ ((s.agent n).get AReg.A_DIRTY_CTRL.DIRTY_EN = 1 → ∀ k ∈ granulesOf addr.toNat data.length, k ∈ (t.agent n).dirty)
          ∧ s.onlyAgent t n)
        ∧ (∀ k, need = [k] → (s.agent n).preserved.length < 64 → ∃ t, exec (.granuleWrite a addr data masked) s = .next t
          ∧ (t.agent n).preserved = (s.agent n).preserved ++ [(k, (s.agent n).validMask k, (s.agent n).granule k)]
          ∧ (t.agent n).waitingWrites = [⟨addr.toNat, data, masked, some (s.fc + 4), false⟩]
          ∧ (t.agent n).cells = (s.agent n).cells ∧ s.onlyAgent t n)
        ∧ (∀ k, need = [k] → 64 ≤ (s.agent n).preserved.length → ∃ t, exec (.granuleWrite a addr data masked) s = .next t
          ∧ (t.agent n).waitingWrites = [⟨addr.toNat, data, masked, none, true⟩] ∧ (t.agent n).cells = (s.agent n).cells
          ∧ (t.agent n).cowStalls = satAdd (s.agent n).cowStalls 1 65535
          ∧ s.counted t Reg.CUT.COW_STALLS.COUNT 1 ∧ s.keeps t [Reg.CUT.COW_STALLS.COUNT]))
      ∧ ((s.agent n).frozen = true → exec (.granuleWrite a addr data masked) s = .next s))
    ∧ (agentType n = 1 → s.agentActive n = true → ∃ t, exec (.accumulatorSpill a) s = .next t
      ∧ (t.agent n).get AReg.CU_ACC_SPILLS = satAdd ((s.agent n).get AReg.CU_ACC_SPILLS) 1 65535 % 65536
      ∧ (t.agent n).waits.any (fun w => w.kind == 5) = true ∧ s.onlyAgent t n)
    ∧ (∀ ctx : BitVec 16, s.agentActive n = true → ∃ t, exec (.contextSwitch a ctx) s = .next t ∧ (t.agent n).ctx = ctx.toNat
      ∧ s.onlyAgent t n)
    ∧ (∀ (k : BitVec 1) (kind : AccessKind) (addr : Word) (locked first : Bool), s.agentActive n = true →
      ((s.agent n).asleep = false → (s.agent n).haltAt = none → (s.agent n).cmpMatches s.fc k.toNat kind addr.toNat = true →
        agentHaltable n = true → (s.agent n).get (AReg.A_CMP_CTRL.HALT k.toNat) = 1 → ((s.agent n).suppress && first) = false →
        ∃ t, exec (.comparatorMatch a k kind addr locked first) s = .next t ∧ 2 + k.toNat ∈ (t.agent n).haltPend
          ∧ (locked = false → (s.agent n).locked = false → (s.agentNow n).deferLeft = none →
              (t.agent n).haltAt = if kind = .fetch then some addr.toNat else none)
          ∧ s.onlyAgent t n)
      ∧ ((s.agent n).cmpMatches s.fc k.toNat kind addr.toNat = false →
        ∃ t, exec (.comparatorMatch a k kind addr locked first) s = .next t ∧ (t.agent n).haltPend = (s.agent n).haltPend
          ∧ (t.agent n).cmp0Fc = (s.agent n).cmp0Fc ∧ t.brk = s.brk ∧ s.onlyAgent t n)
      ∧ ((s.agent n).asleep = true → exec (.comparatorMatch a k kind addr locked first) s = .next s))
    ∧ ((s.agentNow n).condHolds s.fc = true → s.agentActive n = true → (s.agent n).asleep = false →
      ∃ t, exec (.trigTransition a) s = .next t
        ∧ (t.agent n).trig = (s.agent n).prog s.fc (AReg.A_TRIG_PROG.NEXT (s.agent n).trig)
        ∧ (t.agent n).trans = ((s.agent n).trans + 1) % 65536 ∧ s.onlyAgent t n)
    ∧ ((s.agentNow n).condHolds s.fc = false ∨ (s.agent n).asleep = true → exec (.trigTransition a) s = .next s)

/-- With the agent selected in AGENT_SEL, its Half there (R503), the agents reachable and the window access admitted: CLR_EDGES
empties the edges and their overflow mark (R41), CLR_HIGH clears SKID_HIGH (R589), PCNT_RESET leaves the counters only this
fc's increments (R436), TRIG_RESET puts the sequencer in state 0 (R369), DIRTY_CLEAR empties an MU's dirty marks (R43),
SHADOW_DATA_READ advances A_SHADOW_SEL, back to 0 past the shadow's last word (R55), GW_DIRTY_DATA_READ advances GW_DIRTY_SEL
(R74), CP_DEBUG_REGISTER_WRITE stores a register of a halted CP that executes no feed and leaves that of a CP that runs alone
(R214), and TAP_CONFIG_WRITE stores A_TAP_FMT or A_TAP_CTRL (R454). Each completes with the source answered and no other agent
changed. -/
def Obligations.AgentRegistersActThroughTheWindow : Prop :=
  ∀ (x : Src) (a : AgentId) (s : State), agentType a.toNat ≠ 0 → s.winAgent = a.toNat → s.agentAnswers = true →
    s.unreachable = false → let n := a.toNat
    let may := fun (o : Nat) (k : AccKind) => s.admits { src := x, off := 0x54000 + o, kind := k } = true
    let one := fun (t : State) => (t.respOf x).isSome = true ∧ t.bank.busy = none ∧ ∀ b, b ≠ n → t.agent b = s.agent b
    (may 0x1408 (.write 8) → ∃ t : State, exec (.clrEdges x a) s = .next t ∧ one t ∧ (t.agent n).edges = [] ∧ (t.agent n).edgeOvf = false)
    ∧ (may 0x1408 (.write 4) → ∃ t : State, exec (.clrHigh x a) s = .next t ∧ one t ∧ (t.agent n).skidHigh = 0)
    ∧ (may 0x1408 (.write 16) → ∃ t : State, exec (.pcntReset x a) s = .next t ∧ one t
      ∧ (t.agent n).get (AReg.A_PCNT 0) = (s.agentNow n).pcntInc s.fc 0 % 2 ^ 32
      ∧ (t.agent n).get (AReg.A_PCNT 1) = (s.agentNow n).pcntInc s.fc 1 % 2 ^ 32)
    ∧ (may 0x1408 (.write 2) → ∃ t : State, exec (.trigReset x a) s = .next t ∧ one t ∧ (t.agent n).trig = 0
      ∧ (t.agent n).trigResetFc = some s.fc)
    ∧ (agentType n = 2 → may 0x1478 (.write 4) → ∃ t : State, exec (.dirtyClear x a) s = .next t ∧ one t ∧ (t.agent n).dirty = [])
    ∧ (may 0x484 .read → ∃ t : State, exec (.shadowDataRead x a) s = .next t ∧ one t
      ∧ (t.agent n).get AReg.A_SHADOW_SEL.WORD = (if shadowBytes n / 4 ≤ (s.agent n).get AReg.A_SHADOW_SEL.WORD + 1 then 0
          else ((s.agent n).get AReg.A_SHADOW_SEL.WORD + 1) % 2 ^ AReg.A_SHADOW_SEL.WORD.width))
    ∧ (gwType (agentType n) = true → may 0x4A8 .read → ∃ t : State, exec (.gwDirtyDataRead x a) s = .next t ∧ one t
      ∧ (t.agent n).get AReg.GW_DIRTY_SEL = ((s.agent n).get AReg.GW_DIRTY_SEL + 1) % 2 ^ AReg.GW_DIRTY_SEL.width)
    ∧ (∀ (off : BitVec 11) (d : Word), agentType n = 6 → inRun off.toNat 0x4B0 0x5B0 = true → off.toNat % 8 = 0 →
      may off.toNat (.write d) →
      ((s.agent n).halted = true → (s.agent n).executing = false → ∃ t : State, exec (.cpDebugRegisterWrite x a off d) s = .next t
        ∧ one t ∧ (t.agent n).get ⟨off.toNat, 31, 0, 0⟩ = d.toNat
        ∧ ∀ h, s.stageOf x (agentTag n off.toNat) = some h → (t.agent n).get ⟨off.toNat + 4, 31, 0, 0⟩ = h % 2 ^ 32)
      ∧ ((s.agent n).halted = false → ∃ t : State, exec (.cpDebugRegisterWrite x a off d) s = .next t ∧ one t
        ∧ t.agent n = s.agent n))
    ∧ (∀ (fmt : Bool) (d : Word), agentType n = 2 → may (if fmt then 0x474 else 0x470) (.write d) →
      ∃ t : State, exec (.tapConfigWrite x a fmt d) s = .next t ∧ one t
        ∧ ∀ f ∈ agentFields 2 (if fmt then 0x474 else 0x470), (t.agent n).get f = bits d.toNat f.hi f.lo)

/-- With the write admitted, no Toss, no parity error of RUNCTL, CTRL.ENABLE at 1 and the drain rings powered: for a target that
can halt, HALT of a RUNNING target, RELEASE and STEP_INSTR (not frozen) of a HALTED one and CANCEL_HALT of one with a deferred
halt send the command to the target and RESULT reads IN_PROGRESS; HALT of a HALTED target reads NO_EFFECT; the other states
read REFUSED_STATE; a target that cannot halt reads REFUSED_TYPE; no command is sent then (R626, Table 5-4). With CTRL.ENABLE
at 0 RESULT reads REFUSED_DISABLED, and in W2 to W4 UNREACHABLE (R574). No agent changes before the command arrives. -/
def Obligations.HaltCommandsAreJudgedAndSent : Prop :=
  ∀ (x : Src) (s : State), let a := s.get Reg.RUNCTL.TARGET.ID
    let st := (s.agentNow a).haltState a
    let rows : List (Instr × Nat) := [(.halt x, 1), (.release x, 2), (.stepInstr x, 3), (.cancelHalt x, 4)]
    let takes := fun (c : Nat) => (c = 1 ∧ st = 0) ∨ (c = 2 ∧ st = 2) ∨ (c = 3 ∧ st = 2 ∧ (s.agent a).frozen = false) ∨ (c = 4 ∧ st = 1)
    let unsent := { s.runctl with sent := s.runctl.sent + 1 }
    let only := fun (t : State) => t.agents = s.agents ∧ s.keeps t [Reg.RUNCTL.HALT_CMD.RESULT, Hdr.STATUS_PARITY_ERR Slot.RUNCTL]
    s.tossActive = false → s.parityOk Slot.RUNCTL = true → ∀ ic ∈ rows, s.mayWrite x 0x18044 (BitVec.ofNat 32 ic.2) = true →
      ((s.writeTurn x 0x18044 (BitVec.ofNat 32 ic.2)).cfg Reg.RUNCTL.CTRL.ENABLE = 1 → agentHaltable a = true → s.unreachable = false →
        (takes ic.2 → ∃ t : State, exec ic.1 s = .next t ∧ t.runctl.cmds = s.runctl.cmds ++ [⟨ic.2, a, s.runctl.sent + 1⟩]
          ∧ t.get Reg.RUNCTL.HALT_CMD.RESULT = hrInProgress ∧ only t)
        ∧ (¬ takes ic.2 → ∃ t : State, exec ic.1 s = .next t ∧ t.runctl = unsent
          ∧ t.get Reg.RUNCTL.HALT_CMD.RESULT = (if ic.2 = 1 ∧ st = 2 then hrNoEffect else hrRefusedState) ∧ only t))
      ∧ ((s.writeTurn x 0x18044 (BitVec.ofNat 32 ic.2)).cfg Reg.RUNCTL.CTRL.ENABLE = 1 → agentHaltable a = false →
        ∃ t : State, exec ic.1 s = .next t ∧ t.runctl = unsent ∧ t.get Reg.RUNCTL.HALT_CMD.RESULT = hrRefusedType ∧ t.agents = s.agents)
      ∧ ((s.writeTurn x 0x18044 (BitVec.ofNat 32 ic.2)).cfg Reg.RUNCTL.CTRL.ENABLE = 0 →
        ∃ t : State, exec ic.1 s = .next t ∧ t.runctl = unsent ∧ t.get Reg.RUNCTL.HALT_CMD.RESULT = hrRefusedDisabled
          ∧ t.agents = s.agents)
      ∧ ((s.writeTurn x 0x18044 (BitVec.ofNat 32 ic.2)).cfg Reg.RUNCTL.CTRL.ENABLE = 1 → agentHaltable a = true → s.unreachable = true →
        ∃ t : State, exec ic.1 s = .next t ∧ t.runctl = unsent ∧ t.get Reg.RUNCTL.HALT_CMD.RESULT = hrUnreachable ∧ t.agents = s.agents)

/-- HALT_REQUEST_ARRIVAL with no command on its way changes nothing; of a HALT at a core that runs, in no known locked sequence
and with no deferral, it makes cause 1 pending, deferred by LOCK_DEFER when the core is in a locked sequence, and RESULT of
the newest command reads DEFERRED or IN_PROGRESS (R202, R204, R626). CORE_HALT of a core with a pending halt that is not
deferred, not stepping and free to halt, at the instruction at which a comparator of KIND 0 has stopped it, if one has (R197),
LOCK_DEFER_EXPIRE of one whose deferral count has run out (cause 6 is recorded, the reservation cleared, EXPIRIES counted),
STEP_INSTR_DONE of one that steps (cause 5 recorded, in a locked sequence or at a load-reserved cause 6 too, with the
reservation cleared, R205), and LOCKED_SEQUENCE_END of an active core with a deferred halt pending, complete with the core in
halt mode: halted, its causes those that were pending and the recorded one, nothing pending, no deferral, not stepping (R197,
R199, R624). Without their condition the first three change nothing. No other agent changes. -/
def Obligations.CoresHaltAtABoundary : Prop :=
  (∀ (locked : Bool) (s : State), s.runctl.cmds = [] → exec (.haltRequestArrival locked) s = .next s)
  ∧ (∀ (locked : Bool) (s : State) (a : Nat), s.runctl.cmds = [⟨1, a, s.runctl.sent⟩] → (s.agent a).halted = false → (s.agent a).locked = false → (s.agent a).executing = false →
    (s.agent a).deferLeft = none → ∃ t, exec (.haltRequestArrival locked) s = .next t ∧ t.runctl.cmds = []
      ∧ 1 ∈ (t.agent a).haltPend ∧ t.runctl.waits = s.runctl.waits ++ [⟨1, a, s.runctl.sent⟩]
      ∧ (t.agent a).deferLeft = (if locked then some (s.cfg Reg.RUNCTL.LOCK_DEFER.COUNT) else none)
      ∧ t.get Reg.RUNCTL.HALT_CMD.RESULT = (if locked then hrDeferred else hrInProgress)
      ∧ s.keeps t [Reg.RUNCTL.HALT_CMD.RESULT] ∧ ∀ b, b ≠ a → t.agent b = s.agent b)
  ∧ ∀ (a : AgentId) (pc : BitVec 64) (s : State), agentType a.toNat = 1 ∨ agentType a.toNat = 6 → let n := a.toNat
    let halts := fun (t : State) (cs : List Nat) => (t.agent n).halted = true ∧ (t.agent n).haltCauses = cs
      ∧ (t.agent n).haltPend = [] ∧ (t.agent n).deferLeft = none ∧ (t.agent n).stepping = false
      ∧ s.keeps t [Reg.RUNCTL.EVENT.HALTED, Reg.RUNCTL.HALT_CMD.RESULT, Reg.RUNCTL.LOCK_DEFER.EXPIRIES]
      ∧ ∀ b, b ≠ n → t.agent b = s.agent b
    ((s.agent n).haltPend ≠ [] → (s.agent n).deferLeft = none → (s.agent n).canHalt = true → (s.agent n).stepping = false →
      (s.agent n).haltAt.all (fun p => p == pc.toNat % 2 ^ 32) = true →
      ∃ t : State, exec (.coreHalt a pc) s = .next t ∧ halts t (s.agent n).haltPend)
    ∧ ((s.agent n).haltPend = [] ∨ (s.agent n).haltAt.any (fun p => p != pc.toNat % 2 ^ 32) = true → exec (.coreHalt a pc) s = .next s)
    ∧ (s.agentActive n = true → (s.agent n).haltPend ≠ [] → (s.agent n).deferLeft.isSome = true →
      ∃ t : State, exec (.lockedSequenceEnd a pc) s = .next t ∧ halts t (s.agent n).haltPend ∧ (t.agent n).locked = false)
    ∧ ((s.agentNow n).deferLeft = some 0 → (s.agent n).canHalt = true → ∃ t : State, exec (.lockDeferExpire a pc) s = .next t
      ∧ halts t (insertSorted 6 (s.agent n).haltPend) ∧ (t.agent n).reserved = false ∧ (t.agent n).resCleared = true
      ∧ s.counted t Reg.RUNCTL.LOCK_DEFER.EXPIRIES 1)
    ∧ ((s.agentNow n).deferLeft ≠ some 0 → exec (.lockDeferExpire a pc) s = .next s)
    ∧ (∀ reserves : Bool, (s.agent n).stepping = true → (s.agent n).canHalt = true →
      let inLock := (s.agent n).locked || (s.agent n).reserved || reserves
      ∃ t : State, exec (.stepInstrDone a pc reserves) s = .next t
        ∧ halts t (insertSorted 5 (if inLock then insertSorted 6 (s.agent n).haltPend else (s.agent n).haltPend))
        ∧ (t.agent n).resCleared = inLock)
    ∧ (∀ reserves : Bool, (s.agent n).stepping = false → exec (.stepInstrDone a pc reserves) s = .next s)

/-- With the write admitted, no Toss, no parity error and RUNCTL enabled: FEED_INSTR to a target that is halted, not frozen and
executes no feed, with none busy, sets BUSY, clears DONE, TIMEOUT, EXCEPTION and the refusal bits, and the target executes
(R206); to a target that is not halted it only sets NOT_HALTED among the refusal bits and starts nothing. FEED_DONE of a feed
in progress ends it: BUSY 0, DONE 1, FEEDS counts, EVENT.FEED_DONE set, data goes to FEED_DATA and an exception's code is
shown, in the FEED_STATUS of that target (R208, R217); of a feed that has timed out it ends the execution and shows nothing
(R211); with no feed known it changes nothing. FEED_TIMEOUT 65,536 fc after the start sets TIMEOUT, clears BUSY and leaves a
late feed to discard; with no feed of that age it changes nothing (R211). -/
def Obligations.FeedsExecuteAtAHaltedCore : Prop :=
  (∀ (x : Src) (d : Word) (s : State), let a := s.get Reg.RUNCTL.TARGET.ID
    s.mayWrite x 0x1804C d = true → s.tossActive = false → s.parityOk Slot.RUNCTL = true →
    (s.writeTurn x 0x1804C d).cfg Reg.RUNCTL.CTRL.ENABLE = 1 → (s.agent a).frozen = false → s.get Reg.RUNCTL.FEED_STATUS.BUSY = 0 →
    ((s.agent a).halted = true → (s.agent a).executing = false → ∃ t, exec (.feedInstr x d) s = .next t
      ∧ t.get Reg.RUNCTL.FEED_STATUS.BUSY = 1 ∧ t.get Reg.RUNCTL.FEED_STATUS.DONE = 0 ∧ t.get Reg.RUNCTL.FEED_STATUS.TIMEOUT = 0
      ∧ t.get Reg.RUNCTL.FEED_STATUS.EXCEPTION = 0 ∧ t.get Reg.RUNCTL.FEED_STATUS.NOT_HALTED = 0
      ∧ t.runctl.feeds = s.runctl.feeds ++ [⟨a, s.fc, d⟩] ∧ (t.agent a).executing = true ∧ ∀ b, b ≠ a → t.agent b = s.agent b)
    ∧ ((s.agent a).halted = false → ∃ t, exec (.feedInstr x d) s = .next t
      ∧ t.get Reg.RUNCTL.FEED_STATUS.NOT_HALTED = 1 ∧ t.get Reg.RUNCTL.FEED_STATUS.BUSY = 0 ∧ t.runctl = s.runctl
      ∧ t.agents = s.agents))
  ∧ (∀ (a : AgentId) (data : Option (BitVec 64)) (exc : Option Byte) (s : State), agentType a.toNat = 1 ∨ agentType a.toNat = 6 →
    let n := a.toNat
    (s.runctl.feeds.any (fun f => f.target == n) = true → ∃ t, exec (.feedDone a data exc) s = .next t
      ∧ t.runctl.feeds = s.runctl.feeds.filter (fun f => f.target != n) ∧ (t.agent n).executing = false
      ∧ t.get Reg.RUNCTL.EVENT.FEED_DONE = 1
      ∧ (∀ v, data = some v → t.get64 Reg.RUNCTL.FEED_DATA_LO Reg.RUNCTL.FEED_DATA_HI = v.toNat)
      ∧ (s.runctl.shown = n → t.get Reg.RUNCTL.FEED_STATUS.BUSY = 0 ∧ t.get Reg.RUNCTL.FEED_STATUS.DONE = 1
        ∧ t.get Reg.RUNCTL.FEED_STATUS.FEEDS = (s.get Reg.RUNCTL.FEED_STATUS.FEEDS + 1) % 2 ^ Reg.RUNCTL.FEED_STATUS.FEEDS.width
        ∧ ∀ c, exc = some c → t.get Reg.RUNCTL.FEED_STATUS.EXCEPTION = 1 ∧ t.get Reg.RUNCTL.FEED_STATUS.EXC_CODE = c.toNat)
      ∧ ∀ b, b ≠ n → t.agent b = s.agent b)
    ∧ (s.runctl.feeds.any (fun f => f.target == n) = false → s.runctl.lateFeeds.contains n = true →
      ∃ t, exec (.feedDone a data exc) s = .next t ∧ n ∉ t.runctl.lateFeeds ∧ (t.agent n).executing = false ∧ s.onlyAgent t n)
    ∧ (s.runctl.feeds.any (fun f => f.target == n) = false → s.runctl.lateFeeds.contains n = false →
      exec (.feedDone a data exc) s = .next s))
  ∧ ∀ s : State,
    (∀ f, s.runctl.feeds.find? (fun f => decide (f.fc + 65536 ≤ s.fc)) = some f → ∃ t, exec .feedTimeout s = .next t
      ∧ t.runctl.feeds = s.runctl.feeds.erase f ∧ f.target ∈ t.runctl.lateFeeds ∧ t.agents = s.agents
      ∧ (s.runctl.shown = f.target → t.get Reg.RUNCTL.FEED_STATUS.TIMEOUT = 1 ∧ t.get Reg.RUNCTL.FEED_STATUS.BUSY = 0
        ∧ s.keeps t [Reg.RUNCTL.FEED_STATUS.TIMEOUT, Reg.RUNCTL.FEED_STATUS.BUSY]))
    ∧ (s.runctl.feeds.find? (fun f => decide (f.fc + 65536 ≤ s.fc)) = none → exec .feedTimeout s = .next s)

/-- BREAK_EVENT_ARRIVAL in W0 and W1, for a half that has had no event in this fc, and for North none of South either (R219),
takes the oldest waiting event; with every slot disabled nothing else changes but the counters; with one slot alone enabled
whose OP is A (0), that matches, is not used up and reaches its target, SLOT_HIT gets its bit and the action waits (R219,
R220, R223, R224). With no event waiting, or a second one in a fc, or below W1, nothing changes (R52). LATCH_EXPIRE drops a
latch whose window has passed, and none of a slot that does not evaluate or whose window runs (R222, R226). SLOT_ACTION of a
hit of an earlier fc before which no other waits, by fc and then by slot (R225), takes the waiting action; with KIND 4, or IRQ
at 1 and KIND 0, EVENT.HIT is set; with no such hit it changes nothing (R224). SLOT_CONFIG_WRITE of a slot register stores its
RW fields and clears the slot's latches and count (R226). -/
def Obligations.BreakSlotsLatchHitAndAct : Prop :=
  (∀ (half : Half) (s : State) (e : BusEvent) (rest : List BusEvent), let h := halfNo half
    s.bus h = e :: rest → (if h = 0 then s.brk.northFc else s.brk.southFc) ≠ some s.fc → (h = 0 → s.brk.southFc ≠ some s.fc) →
    s.power ≤ 1 →
    (s.cfg Reg.BREAK.SLOT_ENABLE = 0 → ∃ t, exec (.breakEventArrival half) s = .next t ∧ t.bus h = rest
      ∧ t.brk.latches = s.brk.latches ∧ t.brk.actions = s.brk.actions ∧ s.keeps t [] ∧ t.agents = s.agents)
    ∧ (∀ n < 32, s.cfg Reg.BREAK.SLOT_ENABLE = 2 ^ n → s.cfg Reg.BREAK.CTRL.ENABLE = 1 → s.cfg (Reg.BREAK.SLOT_LINK.OP n) = 0 →
      s.cfg (Reg.BREAK.SLOT_LINK.ONCE n) = 0 → s.cfg (Reg.BREAK.SLOT_LINK.CTX_EN n) = 0 → s.matchesA n e = true →
      max 1 (s.cfg (Reg.BREAK.SLOT_COUNT.TARGET n)) ≤ s.get (Reg.BREAK.SLOT_COUNT.CURRENT n) + 1 →
      s.brk.actions.any (fun x => x.1 == n && x.2.1 == s.fc) = false →
      ∃ t, exec (.breakEventArrival half) s = .next t ∧ t.bus h = rest ∧ testBit (t.get Reg.BREAK.SLOT_HIT) n = true
        ∧ t.brk.actions = s.brk.actions ++ [(n, s.fc, e.agent)] ∧ s.counted t (Reg.BREAK.SLOT_HITS.COUNT n) 1
        ∧ s.keeps t [Reg.BREAK.SLOT_HIT, Reg.BREAK.SLOT_HITS.COUNT n, Reg.BREAK.SLOT_COUNT.CURRENT n] ∧ t.agents = s.agents))
  ∧ (∀ (half : Half) (s : State), let h := halfNo half
    s.bus h = [] ∨ (if h = 0 then s.brk.northFc else s.brk.southFc) = some s.fc ∨ (h = 0 ∧ s.brk.southFc = some s.fc) ∨ 2 ≤ s.power →
      exec (.breakEventArrival half) s = .next s)
  ∧ (∀ (slot : BitVec 5) (b : Bool) (s : State), let n := slot.toNat
    let l := s.latches n
    ∃ t, exec (.latchExpire slot b) s = .next t
      ∧ t.latches n = (if b then { l with b := l.b.filter (fun f => s.latchLives n f) }
          else { l with a := l.a.filter (fun f => s.latchLives n f.2) })
      ∧ (∀ m, m ≠ n → t.latches m = s.latches m) ∧ s.sameRegs t ∧ t.agents = s.agents)
  ∧ (∀ (slot : BitVec 5) (locked : Bool) (s : State), let n := slot.toNat
    let first := s.brk.actions.find? (fun x => x.1 == n && decide (x.2.1 < s.fc)
      && s.brk.actions.all (fun y => decide (x.2.1 < y.2.1) || (x.2.1 == y.2.1 && decide (x.1 ≤ y.1))))
    (first = none → exec (.slotAction slot locked) s = .next s)
    ∧ (∀ x, first = some x →
      s.cfg (Reg.BREAK.SLOT_ACTION.KIND n) = 4 ∨ (s.cfg (Reg.BREAK.SLOT_ACTION.KIND n) = 0 ∧ s.cfg (Reg.BREAK.SLOT_ACTION.IRQ n) = 1) →
      ∃ t, exec (.slotAction slot locked) s = .next t ∧ t.brk.actions = s.brk.actions.erase x ∧ t.get Reg.BREAK.EVENT.HIT = 1
        ∧ s.keeps t [Reg.BREAK.EVENT.HIT] ∧ t.agents = s.agents))
  ∧ ∀ (x : Src) (off : Off) (d : Word) (s : State), 0x1C100 ≤ off.toNat → off.toNat < 0x1C500 → (off.toNat - 0x1C100) % 0x20 < 0x14 →
    s.mayWrite x off.toNat d = true → let n := (off.toNat - 0x1C100) / 0x20
    ∃ t, exec (.slotConfigWrite x off d) s = .next t ∧ t.latches n = {} ∧ t.get (Reg.BREAK.SLOT_COUNT.CURRENT n) = 0
      ∧ (∀ f, (Acc.rw, f) ∈ fieldsAt off.toNat → t.get f = bits d.toNat f.hi f.lo) ∧ t.agents = s.agents

/-- With the write admitted, no Toss and no parity error of CUT: with CTRL.ENABLE at 0 RESULT reads REFUSED_DISABLED; with a job
in progress, a Millrace request pending or the apply engine enabled REFUSED_BUSY; with an agent's shadow undrained
REFUSED_SHADOWS; in FREEZING or RESUMING, for CONTEXT_RESTORE in RUNNING, and for CUT in RUNNING to the port, REFUSED_STATE;
with a set that selects nothing, has MU_LAST below MU_FIRST, a memory range not aligned to 4,096 or (CONTEXT_SAVE) no context,
REFUSED_SET; with a memory destination not aligned to 64 or (but for CONTEXT_RESTORE) a LIMIT below 65,536, REFUSED_DEST. A
refusal changes nothing else. Otherwise RESULT reads ACCEPTED, CUT_STATE.STATE is SETUP (RESTORE for CONTEXT_RESTORE),
OUTCOME, FREEZE, LEN and COW_STALLS read 0, as does every agent's count of stalls, and the job holds code, set and selection
(R45, R239, R241, R252, R262, R266). A Cam's CUT with the engine disabled counts SKIPPED and sets EVENT.SKIPPED; one that is
accepted leaves out the regions held (R243). A pending Millrace request as a reason for BUSY is the model's reading (DEDUCED,
log entry 105). -/
def Obligations.CutCommandsAreAcceptedOrRefused : Prop :=
  (∀ (x : Src) (s : State), s.tossActive = false → s.parityOk Slot.CUT = true →
    let rows : List (Instr × Nat) := [(.cut (.access x), 1), (.stopAndCut x, 2), (.contextSave x, 3), (.contextRestore x, 4)]
    ∀ ic ∈ rows, s.mayWrite x 0x20044 (BitVec.ofNat 32 ic.2) = true →
    let u := s.writeTurn x 0x20044 (BitVec.ofNat 32 ic.2)
    let n := u.cfg Reg.CUT.SET_SEL.SET
    let c := u.cutSel n
    let st := s.get Reg.WHISTLE.STATE.STATE
    let port : Bool := u.cfg Reg.CUT.POLICY.DEST == 1
    let applying : Bool := s.get Reg.MILLRACE.ROLE.ROLE == 1 && s.get Reg.MILLRACE.CTRL.ENABLE == 1
    let busy : Bool := s.cut.job.isSome || s.mill.pending || applying
    let badSet : Bool := c.empty || decide (c.muLast < c.muFirst) || c.memBase % 4096 != 0 || c.memLen % 4096 != 0
      || (ic.2 == 3 && c.ctx == none)
    let badDest : Bool := u.cfg Reg.CUT.POLICY.DEST == 0 && (u.cfg Reg.CUT.DEST_LO % 64 != 0
      || (ic.2 != 4 && decide (u.cfg64 Reg.CUT.LIMIT_LO Reg.CUT.LIMIT_HI < 65536)))
    let ans := fun (r : Nat) => ∃ t : State, exec ic.1 s = .next t ∧ t.get Reg.CUT.CMD.RESULT = r ∧ t.cut = s.cut
      ∧ s.keeps t [Reg.CUT.CMD.RESULT, Hdr.STATUS_PARITY_ERR Slot.CUT] ∧ t.agents = s.agents
    (u.cfg Reg.CUT.CTRL.ENABLE = 0 → ans crDisabled)
    ∧ (u.cfg Reg.CUT.CTRL.ENABLE = 1 →
      (s.cut.job = none → busy = true → ans crBusy)
      ∧ (∀ j, s.cut.job = some j → j.startFc ≠ s.fc → ans crBusy)
      ∧ (busy = false →
        (s.snapBlocked = true → ans crShadows)
        ∧ (s.snapBlocked = false →
          (st = wsFreezing ∨ st = wsResuming ∨ (st = wsRunning ∧ (ic.2 = 4 ∨ (ic.2 = 1 ∧ port = true))) → ans crState)
          ∧ (st = wsFrozen ∨ (st = wsRunning ∧ ic.2 ≠ 4 ∧ (ic.2 = 1 → port = false)) →
            (ic.2 ≠ 4 → badSet = true → ans crSet)
            ∧ (ic.2 = 4 ∨ badSet = false → badDest = true → ans crDest)
            ∧ (ic.2 = 4 ∨ badSet = false → badDest = false → ∃ t : State, exec ic.1 s = .next t
              ∧ t.get Reg.CUT.CMD.RESULT = crAccepted
              ∧ t.get Reg.CUT.CUT_STATE.STATE = (if ic.2 = 4 then csRestore else csSetup)
              ∧ t.get Reg.CUT.CUT_STATE.OUTCOME = 0 ∧ t.get Reg.CUT.CUT_STATE.FREEZE = 0 ∧ t.get Reg.CUT.CUT_STATE.SOURCE = 0
              ∧ t.get64 Reg.CUT.LEN_LO Reg.CUT.LEN_HI = 0 ∧ t.get Reg.CUT.COW_STALLS.COUNT = 0
              ∧ (∃ j, t.cut.job = some j ∧ j.code = ic.2 ∧ j.set = n ∧ j.sel = c ∧ j.toPort = port ∧ j.startFc = s.fc
                  ∧ j.dest = u.cfg64 Reg.CUT.DEST_LO Reg.CUT.DEST_HI)
              ∧ t.cut.count = (if ic.2 = 4 then s.cut.count else s.cut.count + 1)
              ∧ s.keeps t [Reg.CUT.CMD.RESULT, Reg.CUT.CUT_STATE.STATE, Reg.CUT.CUT_STATE.OUTCOME, Reg.CUT.CUT_STATE.FREEZE,
                  Reg.CUT.CUT_STATE.SOURCE, Reg.CUT.LEN_LO, Reg.CUT.LEN_HI, Reg.CUT.COW_STALLS.COUNT, Hdr.STATUS_PARITY_ERR Slot.CUT]
              ∧ ∀ b, t.agent b = { s.agent b with cowStalls := 0 }))))))
  ∧ ∀ (cam : BitVec 6) (set : BitVec 3) (s : State), s.tossActive = false → s.parityOk Slot.CUT = true →
    let c := s.cutSel set.toNat
    let d : CutSel := { c with mask := c.mask &&& (0xFFFF - s.heldMask % 0x10000) }
    (s.cfg Reg.CUT.CTRL.ENABLE = 0 → ∃ t, exec (.cut (.cam cam set)) s = .next t ∧ t.cut = s.cut
      ∧ s.counted t Reg.CUT.STATUS.SKIPPED 1 ∧ t.get Reg.CUT.EVENT.SKIPPED = 1
      ∧ s.keeps t [Reg.CUT.STATUS.SKIPPED, Reg.CUT.EVENT.SKIPPED] ∧ t.agents = s.agents)
    ∧ (s.cfg Reg.CUT.CTRL.ENABLE = 1 → s.cut.job = none → s.mill.pending = false → s.snapBlocked = false →
      s.get Reg.MILLRACE.ROLE.ROLE = 0 →
      s.get Reg.WHISTLE.STATE.STATE = wsFrozen → s.cfg Reg.CUT.POLICY.DEST = 1 → d.empty = false → c.muFirst ≤ c.muLast →
      c.memBase % 4096 = 0 → c.memLen % 4096 = 0 → ∃ t, exec (.cut (.cam cam set)) s = .next t
        ∧ t.get Reg.CUT.CUT_STATE.STATE = csSetup ∧ t.get Reg.CUT.CUT_STATE.SOURCE = 1
        ∧ (∃ j, t.cut.job = some j ∧ j.code = 1 ∧ j.sel = d ∧ j.reqSource = 6 ∧ j.reqDetail = cam.toNat)
        ∧ ∀ b, t.agent b = { s.agent b with cowStalls := 0 })

/-- CUT_ARM_RESPONSE without a job in SETUP changes nothing; STOP_AND_CUT or CONTEXT_SAVE whose stop the Whistle drives or merges
goes to STOPPING as a frozen cut, the trigger fc noted and the engine's own stop marked when it left RUNNING; one whose stop
is refused, of CMD, ends: IDLE, OUTCOME ABORTED, EVENT.FAILED, no job (R239, R240, R188); CUT in FROZEN goes to STOPPING with
its trigger fc the present one. A job whose fabric has run again does neither (R244). CUT_FROZEN without a job in STOPPING
changes nothing; of a frozen cut with no request waiting it goes to DRAIN_AGENTS with capture requests from this fc when the
Whistle is FROZEN and stays in STOPPING when it is not; of a snap it goes there 25 fc after the trigger fc, the agents whose
shadows its own SNAP made and which are selected being captured (R237, R35). CAPTURE_REQUEST at a frozen agent of the cut that
has not captured gives it a shadow of this fc, adds it to the agents with undrained shadows and to those captured; at an agent
that is not selected or captured already, or before the capture requests, it changes nothing (R236). -/
def Obligations.CutsStopAndCapture : Prop :=
  ∀ (s : State),
    (∀ b : Bool, s.cut.job = none ∨ s.cutState ≠ csSetup → exec (.cutArmResponse b) s = .next s)
    ∧ (s.cut.job = none ∨ s.cutState ≠ csStopping → exec .cutFrozen s = .next s)
    ∧ (∀ (b : Bool) (j : CutJob), s.cut.job = some j → j.lost = true →
      exec (.cutArmResponse b) s = .next s ∧ exec .cutFrozen s = .next s)
    ∧ (∀ (b : Bool) (j : CutJob), s.cut.job = some j → s.cutState = csSetup → j.lost = false →
      (j.code = 2 ∨ j.code = 3 → (s.whistleReq j.stopReq).2 = wrDriven ∨ (s.whistleReq j.stopReq).2 = wrMerged →
        ∃ t, exec (.cutArmResponse b) s = .next t ∧ t.cutState = csStopping ∧ ∃ k, t.cut.job = some k ∧ k.kind = 3 ∧ k.code = j.code
          ∧ k.sel = j.sel ∧ k.trigFc = s.fc ∧ k.waitReq = j.waitReq
          ∧ k.ownStop = (s.get Reg.WHISTLE.STATE.STATE == wsRunning && (s.whistleReq j.stopReq).2 == wrDriven))
      ∧ (j.code = 2 ∨ j.code = 3 → j.reqSource ≠ 6 → wrRefused (s.whistleReq j.stopReq).2 = true →
        ∃ t, exec (.cutArmResponse b) s = .next t ∧ t.cutState = csIdle ∧ t.cut.job = none
          ∧ t.get Reg.CUT.CUT_STATE.OUTCOME = coAborted ∧ t.get Reg.CUT.EVENT.FAILED = 1)
      ∧ (j.code = 1 → j.kind = 3 → ∃ t, exec (.cutArmResponse b) s = .next t
        ∧ t.cutState = csStopping ∧ (∃ k, t.cut.job = some k ∧ k.kind = 3 ∧ k.trigFc = s.fc ∧ k.sel = j.sel ∧ k.ownStop = j.ownStop)
        ∧ s.keeps t [Reg.CUT.CUT_STATE.STATE] ∧ t.agents = s.agents))
    ∧ (∀ j : CutJob, s.cut.job = some j → s.cutState = csStopping → j.waitReq = none → j.lost = false →
      (j.kind ≠ 1 → s.get Reg.WHISTLE.STATE.STATE = wsFrozen → ∃ t, exec .cutFrozen s = .next t ∧ t.cutState = csAgents
        ∧ ∃ k, t.cut.job = some k ∧ k.capFc = some s.fc ∧ k.frozenFc = some s.fc ∧ k.sel = j.sel ∧ k.others = s.frozenOthers j)
      ∧ (j.kind ≠ 1 → s.get Reg.WHISTLE.STATE.STATE ≠ wsFrozen → exec .cutFrozen s = .next s)
      ∧ (j.kind = 1 → j.trigFc + 25 ≤ s.fc → ∃ t, exec .cutFrozen s = .next t ∧ t.cutState = csAgents
        ∧ (∃ k, t.cut.job = some k ∧ t.cut.shadows = k.captured ∧ k.sel = j.sel)
        ∧ (s.canon → ∀ n ∈ t.cut.shadows, ∃ h, (s.agent n).shadow = some h ∧ j.trigFc ≤ h.fc ∧ j.sel.picksCtx n h.ctx = true))
      ∧ (j.kind = 1 → s.fc < j.trigFc + 25 → exec .cutFrozen s = .next s))
    ∧ ∀ (a : AgentId) (j : CutJob), agentType a.toNat ≠ 0 → s.cut.job = some j → let n := a.toNat
      (j.capFc.isSome = true → n ∉ j.captured → j.sel.picksCtx n (s.agentNow n).ctx = true → (s.agentNow n).frozen = true →
        ∃ t, exec (.captureRequest a) s = .next t ∧ (∃ h, (t.agent n).shadow = some h ∧ h.fc = s.fc ∧ h.ctx = (s.agentNow n).ctx)
          ∧ t.cut.shadows = s.cut.shadows ++ [n] ∧ (∃ k, t.cut.job = some k ∧ k.captured = j.captured ++ [n] ∧ k.items = j.items)
          ∧ s.onlyAgent t n)
      ∧ (j.capFc = none ∨ n ∈ j.captured ∨ j.sel.picksCtx n (s.agentNow n).ctx = false ∨ (s.agentNow n).frozen = false →
        exec (.captureRequest a) s = .next s)

/-- While a cut other than Millrace's drains and its port ring is not full: SHADOW_DRAINED of an agent whose shadow the cut holds
puts its item into the record and releases the agent, its live tiles becoming due where the set takes them (R238, R248);
HELD_TOKEN_DRAINED of an agent on a segment without undrained shadows takes its queue's oldest held token (R247);
GRANULE_DRAINED of the granule that is its segment's next takes it, with the valid mask and data of the cut point where it was
preserved, and ends its protection (R235, R246, R248); DRAIN_MEMORY_START with memory selected, every agent drained and no
request in flight at a selected gateway begins DRAIN_MEMORY (R234, R253); PAGE_READ_DONE of a page on the list that is not
read, with no guarded page ahead of it, takes the page (R253). Where the agent, granule or page is not the cut's to drain they
change nothing. AGENT_DRAIN_TIMEOUT 65,536 fc after the shadow was taken faults the agent (A_FAULT bit 7) and CUT (FAULT bit
9) and ends a cut that holds it with OUTCOME TIMEOUT and EVENT.FAILED (R238, R264); before that it changes nothing.
GUARDED_PAGE_WRITE of a guarded page, from a gateway that is not frozen, waits, moves the page ahead and counts COW_STALLS; of
a page that is not, without a carried region, it changes nothing, and marks a carried one dirty (R233, R253, R318). -/
def Obligations.CutsDrainWhatTheyHold : Prop :=
  (∀ (s : State) (j : CutJob), s.cut.job = some j → j.code ≠ 9 →
    (∀ (a : AgentId) (tiles : List TileData) (h : Shadow), agentType a.toNat ≠ 0 → let n := a.toNat
      (s.agent n).shadow = some h →
      (s.draining = true → n ∈ s.cut.shadows → s.portFull j = false →
        ∃ t, exec (.shadowDrained a tiles) s = .next t ∧ (t.agent n).shadow = none ∧ t.cut.shadows = s.cut.shadows.erase n
          ∧ (∃ k, t.cut.job = some k ∧ k.items = insertItem ⟨n, h, []⟩ j.items ∧ k.pages = j.pages ∧ k.granules = j.granules
              ∧ k.tileDue = (if j.sel.accum = true ∧ h.liveTiles n ≠ 0 then j.tileDue ++ [n] else j.tileDue))
          ∧ (∀ b, b ≠ n → t.agent b = s.agent b) ∧ s.keeps t [Reg.CUT.CUT_STATE.STATE, Reg.CUT.LEN_LO, Reg.CUT.LEN_HI])
      ∧ (n ∉ s.cut.shadows → exec (.shadowDrained a tiles) s = .next s))
    ∧ (∀ (a : AgentId) (h : Shadow), agentType a.toNat ≠ 0 → (s.agent a.toNat).shadow = some h →
      let n := a.toNat
      (h.fc + 65536 ≤ s.fc → n ∈ s.cut.shadows → ∃ t, exec (.agentDrainTimeout a) s = .next t
        ∧ testBit ((t.agent n).get AReg.A_FAULT) 7 = true
        ∧ t.get ⟨0x20018, 9, 9, 0⟩ = 1 ∧ t.get Reg.CUT.CUT_STATE.OUTCOME = coTimeout ∧ t.get Reg.CUT.EVENT.FAILED = 1
        ∧ t.cut.shadows = [] ∧ (t.agent n).shadow = some h)
      ∧ (h.fc + 65536 ≤ s.fc → n ∉ s.cut.shadows → ∃ t, exec (.agentDrainTimeout a) s = .next t
        ∧ testBit ((t.agent n).get AReg.A_FAULT) 7 = true ∧ t.get ⟨0x20018, 9, 9, 0⟩ = 1 ∧ t.cut = s.cut
        ∧ (t.agent n).shadow = some h ∧ ∀ b, b ≠ n → t.agent b = s.agent b)
      ∧ (s.fc < h.fc + 65536 → exec (.agentDrainTimeout a) s = .next s))
    ∧ (∀ (a : AgentId) (q : QueueNo) (tok : Token) (rest : List Token), q.toNat < agentQueues a.toNat → let n := a.toNat
      (s.segShadows j n = false → s.portFull j = false → Sparse.get (s.agentNow n).heldTokens q.toNat [] = tok :: rest →
        ∃ t, exec (.heldTokenDrained a q) s = .next t ∧ Sparse.get (t.agent n).heldTokens q.toNat [] = rest
          ∧ (t.agent n).queues = (s.agentNow n).queues ∧ (∀ b, b ≠ n → t.agent b = s.agent b)
          ∧ s.keeps t [Reg.CUT.CUT_STATE.STATE, Reg.CUT.LEN_LO, Reg.CUT.LEN_HI])
      ∧ (s.segShadows j n = true → exec (.heldTokenDrained a q) s = .next s))
    ∧ (∀ (a : AgentId) (g : BitVec 11), agentType a.toNat = 2 → let n := a.toNat
      let u := s.agent n
      let md := Sparse.get u.preserved g.toNat (u.validMask g.toNat, u.granule g.toNat)
      (g.toNat ∈ u.protectedG → s.granuleNext j n g.toNat = true → (s.agentNow n).waitingWrites = [] → s.draining = true →
        s.portFull j = false → ∃ t, exec (.granuleDrained a g) s = .next t
          ∧ (t.agent n).protectedG = u.protectedG.filter (· ≠ g.toNat) ∧ (t.agent n).cells = (s.agentNow n).cells
          ∧ (∃ k, t.cut.job = some k ∧ k.items = j.items ∧ k.granules = insertGranule
              ⟨n, g.toNat, u.preserved.any (fun p => p.1 == g.toNat), md.1, md.2⟩ j.granules)
          ∧ (∀ b, b ≠ n → t.agent b = s.agent b) ∧ s.keeps t [Reg.CUT.CUT_STATE.STATE, Reg.CUT.LEN_LO, Reg.CUT.LEN_HI])
      ∧ (g.toNat ∉ u.protectedG ∨ s.granuleNext j n g.toNat = false → exec (.granuleDrained a g) s = .next s))
    ∧ (∀ left : List (BitVec 4 × BitVec 10),
      (s.draining = true → j.memStarted = false → j.sel.has 4 = true → s.agentsDone j = true → j.gateways = [] ∨ j.kind = 1 →
        ∃ t, exec (.drainMemoryStart left) s = .next t ∧ t.cutState = csMemory
          ∧ (∃ k, t.cut.job = some k ∧ k.memStarted = true ∧ (j.pageList = none → k.pageList = some (s.pagesOf j)))
          ∧ s.keeps t [Reg.CUT.CUT_STATE.STATE, Reg.CUT.LEN_LO, Reg.CUT.LEN_HI] ∧ t.agents = s.agents)
      ∧ (s.draining = true → j.memStarted = false → j.sel.has 4 = true → s.agentsDone j = true → j.kind ≠ 1 →
        j.gateways.any (fun a => ((s.gatewaysQuiet j left).agent a).outstanding != 0) = true →
        ∃ t, exec (.drainMemoryStart left) s = .next t ∧ t.cutState = s.cutState ∧ t.cut = s.cut)
      ∧ (s.draining = false ∨ j.memStarted = true ∨ j.sel.has 4 = false → exec (.drainMemoryStart left) s = .next s))
    ∧ ∀ (page : BitVec 32) (data : List Byte) (ue late : Bool) (l : List Nat), j.pageList = some l →
      (page.toNat ∈ l → (∀ i ∈ j.pages, i.page ≠ page.toNat) → s.draining = true → j.pageFirst = [] → j.waits = [] →
        j.memStarted = true → s.portFull j = false → ∃ t, exec (.pageReadDone page data ue late) s = .next t
          ∧ (∃ k, t.cut.job = some k ∧ (∃ i ∈ k.pages, i.page = page.toNat ∧ i.data = data ∧ i.ue = ue)
              ∧ k.ue = (j.ue || ue) ∧ k.items = j.items) ∧ t.agents = s.agents)
      ∧ (page.toNat ∉ l → exec (.pageReadDone page data ue late) s = .next s))
  ∧ ∀ (page : BitVec 32) (w : Option AgentId) (gw : BitVec 4) (s : State), let p := page.toNat
    let row := exec (.guardedPageWrite page w gw) s
    let g := 0x2400 + gw.toNat
    (s.agent g).frozen = false →
    (s.cut.job = none → s.carried p = false → row = .next s)
    ∧ (s.cut.job = none → s.carried p = true → ∃ t : State, row = .next t ∧ p ∈ (t.agent g).dirtyPages
      ∧ (∀ b, b ≠ g → t.agent b = s.agent b) ∧ ∀ f : Fld, t.get f = s.get f)
    ∧ ∀ j, s.cut.job = some j →
      (s.pageGuarded j p gw.toNat = false → j.kind = 3 ∨ j.code = 9 → s.carried p = false → row = .next s)
      ∧ (s.pageGuarded j p gw.toNat = true → ∃ t : State, row = .next t ∧ s.counted t Reg.CUT.COW_STALLS.COUNT 1
        ∧ s.keeps t [Reg.CUT.COW_STALLS.COUNT]
        ∧ (∃ k, t.cut.job = some k ∧ p ∈ k.pageFirst ∧ k.waits = j.waits ++ [⟨p, w.map (·.toNat), gw.toNat, none⟩])
        ∧ (w = none → t.agents = s.agents)
        ∧ ∀ a, w = some a → agentType a.toNat ≠ 0 → (t.agent a.toNat).waits.any (fun x => x.kind == 3) = true
          ∧ ∀ b, b ≠ a.toNat → t.agent b = s.agent b)

/-- Of a job to memory that is not Millrace's: CUT_COMMIT, with everything drained and coded and header and sections within LIMIT,
completes: the record is header and sections, LEN their length, CUT_ID the job's number, OUTCOME DONE or TALLY as the tally
found, EVENT.DONE is set, and the engine goes to IDLE without a job, or to RESUMING where it must resume its own stop (R255,
R242); past LIMIT it ends the job: OUTCOME NO_SPACE, EVENT.FAILED, one DISCARDS more, no shadow held and no record written
(R262, R264); before everything is drained and coded it changes nothing. CUT_NO_SPACE, while draining with the drained
sections and the header past LIMIT, ends the job the same way; with them within LIMIT, or when nothing is draining, it changes
nothing. -/
def Obligations.CutsCommitTheirRecord : Prop :=
  ∀ (s : State) (j : CutJob), s.cut.job = some j → j.code ≠ 9 → j.toPort = false →
    let secs := s.recordSections j
    let drained := 64 + (j.sel.order.filter (fun t => t ≠ 5 ∧ t ≠ 7 ∧ t ≠ 8)).foldl (fun n t => n + (s.sectionOf j t).length) 0
    let ready : Bool := (s.cutComplete j && s.cutCoded j) || s.cutState == csCommit
    let noSpace := fun (t : State) => t.get Reg.CUT.CUT_STATE.OUTCOME = coNoSpace ∧ t.get Reg.CUT.EVENT.FAILED = 1
      ∧ s.counted t Reg.CUT.STATUS.DISCARDS 1 ∧ t.cut.shadows = [] ∧ t.cut.record = s.cut.record
      ∧ (if j.kind = 2 ∧ j.ownStop = true then t.cutState = csResuming else t.cutState = csIdle ∧ t.cut.job = none)
    (ready = true → 64 + secs.length ≤ j.limit → ∃ t, exec .cutCommit s = .next t
      ∧ t.cut.record = s.recordHeader j secs.length ++ secs
      ∧ t.get64 Reg.CUT.LEN_LO Reg.CUT.LEN_HI % 2 ^ 32 = t.cut.record.length % 2 ^ 32
      ∧ t.get Reg.CUT.CUT_ID.LOW = j.id % 2 ^ Reg.CUT.CUT_ID.LOW.width
      ∧ t.get Reg.CUT.CUT_STATE.OUTCOME = (if j.tally.mismatches = 0 then coDone else coTally) ∧ t.get Reg.CUT.EVENT.DONE = 1
      ∧ (if j.ownStop = true ∧ (j.kind = 2 ∨ (j.kind = 3 ∧ j.resumeAfter = true)) then t.cutState = csResuming
          else t.cutState = csIdle ∧ t.cut.job = none))
    ∧ (ready = true → j.limit < 64 + secs.length → ∃ t, exec .cutCommit s = .next t ∧ noSpace t)
    ∧ (ready = false → exec .cutCommit s = .next s)
    ∧ (s.draining = true → j.limit < drained → ∃ t, exec .cutNoSpace s = .next t ∧ noSpace t)
    ∧ (s.draining = false ∨ drained ≤ j.limit → exec .cutNoSpace s = .next s)

/-- CUT_RESUMED_FAIL of a held or frozen cut that is not drained, of code 1 to 3, when the fabric has run again, ends it: OUTCOME
RESUMED, EVENT.FAILED, one DISCARDS more, no shadow held (R244); while the Whistle is FROZEN and nothing was lost it changes
nothing. CUT_RESUME_AFTER in RESUMING completes: of the engine's own stop with the Whistle FROZEN it drives RESUME and goes to
IDLE without a job; where another RESUME has come before, it goes there and drives none (R242); in another state of the engine
it changes nothing. PORT_LIMIT_WRITE in PORT mode: below the current value or above LEN it is discarded, and another value
becomes the bytes consumed (R263). RESTORE_LOAD_DONE of a record with a bad header ends BAD_RECORD with EVENT.FAILED and
changes no agent; of a good record whose agents, those of its CHANNEL and MU_REGION items among them, are frozen it ends with
OUTCOME DONE or TALLY, EVENT.DONE and LEN (R266, R267); with one of them not frozen RESULT reads REFUSED_STATE and no agent
changes; without a restore it changes nothing. The RESULT and OUTCOME 0 of a restore refused after its start are the model's
reading (DEDUCED, log entry 54). -/
def Obligations.CutsEndAndRestoresLoad : Prop :=
  (∀ (s : State) (j : CutJob), s.cut.job = some j →
    let st := s.get Reg.WHISTLE.STATE.STATE
    (j.code ≠ 9 → j.kind = 2 ∨ j.kind = 3 → j.drained = false → j.lost = true ∨ (s.draining = true ∧ (st = wsRunning ∨ st = wsResuming)) →
      ∃ t, exec .cutResumedFail s = .next t ∧ t.get Reg.CUT.CUT_STATE.OUTCOME = coResumed ∧ t.get Reg.CUT.EVENT.FAILED = 1
        ∧ s.counted t Reg.CUT.STATUS.DISCARDS 1 ∧ t.cut.shadows = [] ∧ t.cut.record = s.cut.record
        ∧ (if j.kind = 2 ∧ j.ownStop = true then t.cutState = csResuming else t.cutState = csIdle ∧ t.cut.job = none))
    ∧ (st = wsFrozen → j.lost = false → exec .cutResumedFail s = .next s)
    ∧ (s.cutState = csResuming → j.ownStop = true → st = wsFrozen → s.get Reg.WHISTLE.STATE.STEP_ACTIVE = 0 →
      s.treeFree = true → s.parityOk Slot.WHISTLE = true → s.reqSuppressed ⟨4, j.reqSource, j.reqDetail, 0, 0⟩ = false →
      ∃ t, exec .cutResumeAfter s = .next t
        ∧ t.cutState = csIdle ∧ t.cut.job = none ∧ t.get Reg.WHISTLE.STATE.STATE = wsResuming ∧ t.agents = s.agents)
    ∧ (s.cutState = csResuming → j.ownStop = false → ∃ t, exec .cutResumeAfter s = .next t
      ∧ t.cutState = csIdle ∧ t.cut.job = none ∧ t.whistle = s.whistle ∧ s.keeps t [Reg.CUT.CUT_STATE.STATE] ∧ t.agents = s.agents)
    ∧ (s.cutState ≠ csResuming → exec .cutResumeAfter s = .next s))
  ∧ (∀ (x : Src) (d : Word) (s : State), s.mayWrite x 0x20058 d = true → (s.writeTurn x 0x20058 d).cfg Reg.CUT.POLICY.DEST = 1 →
    let h := (s.stageOf x 0x20058).getD (s.get Reg.CUT.LIMIT_HI)
    let v := 2 ^ 32 * h + d.toNat
    (v < s.consumed ∨ s.get64 Reg.CUT.LEN_LO Reg.CUT.LEN_HI < v → ∃ t, exec (.portLimitWrite x d) s = .next t
      ∧ t.get64 Reg.CUT.LIMIT_LO Reg.CUT.LIMIT_HI = s.consumed ∧ t.cut = s.cut ∧ t.agents = s.agents)
    ∧ (h < 2 ^ 32 → s.consumed ≤ v → v ≤ s.get64 Reg.CUT.LEN_LO Reg.CUT.LEN_HI → ∃ t, exec (.portLimitWrite x d) s = .next t
      ∧ t.get64 Reg.CUT.LIMIT_LO Reg.CUT.LIMIT_HI = v ∧ t.cut.job = s.cut.job ∧ t.agents = s.agents))
  ∧ ∀ (record : List Byte) (s : State),
    (s.cut.job = none ∨ s.cutState ≠ csRestore → exec (.restoreLoadDone record) s = .next s)
    ∧ ∀ j, s.cut.job = some j → s.cutState = csRestore →
      (headerFault (record.take 64) record.length = coBadRecord →
        ∃ t, exec (.restoreLoadDone record) s = .next t ∧ t.cutState = csIdle ∧ t.cut.job = none
          ∧ t.get Reg.CUT.CUT_STATE.OUTCOME = coBadRecord ∧ t.get Reg.CUT.EVENT.FAILED = 1 ∧ t.agents = s.agents)
      ∧ (record.length ≤ j.limit → headerFault (record.take 64) record.length = 0 →
        let secs := readSections (record.length + 1) (record.drop 64)
        let agents := readAgents (record.length + 1) (rawOf secs 1)
        let ids := agents.map (·.1)
        let named := ids ++ channelAgents ids (readChannels (record.length + 1) (rawOf secs 2))
          ++ (readRegions (record.length + 1) (rawOf secs 3)).map (·.1)
        secs.length = leVal (((record.take 64).drop 32).take 4) → (∀ r ∈ secs, r.good = true ∧ r.raw.isSome = true) →
        (∀ i ∈ agents, agentItemOk i = true) →
        ((∀ a ∈ named, (s.agent a).frozen = true) →
          ∃ t, exec (.restoreLoadDone record) s = .next t ∧ t.cutState = csIdle ∧ t.cut.job = none ∧ t.get Reg.CUT.EVENT.DONE = 1
            ∧ (t.get Reg.CUT.CUT_STATE.OUTCOME = coDone ∨ t.get Reg.CUT.CUT_STATE.OUTCOME = coTally)
            ∧ t.get Reg.CUT.LEN_LO = record.length % 2 ^ 32)
        ∧ ((∃ a ∈ named, (s.agent a).frozen = false) →
          ∃ t, exec (.restoreLoadDone record) s = .next t ∧ t.cutState = csIdle ∧ t.cut.job = none
            ∧ t.get Reg.CUT.CMD.RESULT = crState ∧ t.get Reg.CUT.EVENT.FAILED = 1 ∧ t.agents = s.agents))

/-- GOVERNOR_WINDOW in a fc that is a multiple of 1,536 starts a window with the settings of this fc and nothing used, in another
fc changes nothing (R259). MM_REQUEST_ISSUE with one ready request: within the allowances, with its port free for it and no
guard against it, it joins the outstanding requests, counts once at its gateway and in total, its bytes are counted, and a
write is what the master last wrote and marks a carried page dirty (R233); a DATAWIN instance issues the block that it needs,
or nothing when it needs none (R106, R232); beyond the allowances nothing is issued and GOV_THROTTLED counts once per fc
(R259, R261, R555). Of two that can be issued, neither passed over 14 times, the one of higher priority is issued, and a
requester passed over 15 times comes first (R260). MM_RESPONSE of an outstanding request ends it; an error status is a UE,
which ends a Hopper job with UE and marks a cut (R557). MM_TIMEOUT 65,536 fc after the issue ends it with MASTER.FAULT bit 8;
before, and with no such request, nothing changes. -/
def Obligations.MemoryMasterIssuesWithinAllowance : Prop :=
  ∀ s : State,
    (s.fc % 1536 = 0 → ∃ t, exec .governorWindow s = .next t ∧ t.mm.winFc = s.fc ∧ t.mm.used = [] ∧ t.mm.total = 0
      ∧ t.mm.share = s.cfg Reg.MASTER.GOV_SHARE.PERMILLE ∧ t.mm.ceiling = s.cfg Reg.MASTER.GOV_CEILING.UNITS ∧ t.mm.out = s.mm.out
      ∧ (∀ g : Fld, t.get g = s.get g) ∧ t.agents = s.agents)
    ∧ (s.fc % 1536 ≠ 0 → exec .governorWindow s = .next s)
    ∧ (∀ r : MmRequest, let g := r.gw.toNat
      let f := if r.write then (Reg.MASTER.BYTES_WRITTEN_LO, Reg.MASTER.BYTES_WRITTEN_HI)
        else (Reg.MASTER.BYTES_READ_LO, Reg.MASTER.BYTES_READ_HI)
      (dwOf r.who = none → s.mmGuarded r = false →
      (s.withinAllowance g = true → s.portFree r = true → ∃ t, exec (.mmRequestIssue [r]) s = .next t
        ∧ t.mm.out = s.mm.out ++ [⟨r.port.toNat, r.tag.toNat, r, s.fc⟩] ∧ Sparse.get t.mm.used g 0 = Sparse.get s.mm.used g 0 + 1
        ∧ t.mm.total = s.mm.total + 1 ∧ t.get64 f.1 f.2 = (s.get64 f.1 f.2 + requestBytes r) % 2 ^ 64
        ∧ t.mm.lastWrite = (if r.write then some (r.addr.toNat, r.data) else s.mm.lastWrite)
        ∧ s.keeps t [f.1, f.2] ∧ (r.write = false ∨ s.carried (r.addr.toNat / 4096) = false → t.agents = s.agents)
        ∧ (r.write = true → s.carried (r.addr.toNat / 4096) = true → r.addr.toNat / 4096 ∈ (t.agent (0x2400 + g)).dirtyPages)
        ∧ ∀ b, b ≠ 0x2400 + g → t.agent b = s.agent b)
      ∧ (s.withinAllowance g = false → s.mm.throttledFc ≠ some s.fc → ∃ t, exec (.mmRequestIssue [r]) s = .next t
        ∧ t.mm.out = s.mm.out ∧ t.mm.total = s.mm.total ∧ s.counted t Reg.MASTER.GOV_THROTTLED.FC 1
        ∧ s.keeps t [Reg.MASTER.GOV_THROTTLED.FC] ∧ t.agents = s.agents)
      ∧ (s.withinAllowance g = false → s.mm.throttledFc = some s.fc → exec (.mmRequestIssue [r]) s = .next s)
      ∧ (s.withinAllowance g = true → s.portFree r = false → exec (.mmRequestIssue [r]) s = .next s))
      ∧ ∀ i, dwOf r.who = some i → s.dwRequest i r = none → exec (.mmRequestIssue [r]) s = .next s)
    ∧ (∀ (r q : MmRequest) (i : Nat), dwOf r.who = some i → s.dwRequest i r = some q → s.mmGuarded q = false →
      s.withinAllowance q.gw.toNat = true → s.portFree q = true → ∃ t, exec (.mmRequestIssue [r]) s = .next t
        ∧ t.mm.out = s.mm.out ++ [⟨q.port.toNat, q.tag.toNat, q, s.fc⟩]
        ∧ (q.write = false → (t.dw i).asked = (s.dw i).asked ++ [q.addr.toNat / 64])
        ∧ (q.write = true → (t.dw i).writes = (s.dw i).writes.drop 1))
    ∧ (∀ a b : MmRequest, dwOf a.who = none → dwOf b.who = none → s.mmGuarded a = false → s.mmGuarded b = false → s.withinAllowance a.gw.toNat = true → s.portFree a = true → s.withinAllowance b.gw.toNat = true →
      s.portFree b = true → requesterNo a.who ≠ requesterNo b.who →
      (s.passedOver b < 15 ∧ 15 ≤ s.passedOver a)
        ∨ (s.passedOver a < 14 ∧ s.passedOver b < 14 ∧ requesterRank a.who < requesterRank b.who) →
      ∀ l, l = [a, b] ∨ l = [b, a] → ∃ t, exec (.mmRequestIssue l) s = .next t
        ∧ t.mm.out = s.mm.out ++ [⟨a.port.toNat, a.tag.toNat, a, s.fc⟩])
    ∧ ∀ (port : BitVec 1) (tag : BitVec 6), let o := s.mm.out.find? (fun o => o.port == port.toNat && o.tag == tag.toNat)
      (o = none → (∀ err data, exec (.mmResponse port tag err data) s = .next s) ∧ exec (.mmTimeout port tag) s = .next s)
      ∧ ∀ m, o = some m →
        (∀ data : List Byte, ∃ t, exec (.mmResponse port tag false data) s = .next t ∧ t.mm.out = s.mm.out.erase m
          ∧ t.mm.lastRead = (if m.req.write then s.mm.lastRead else data) ∧ (∀ g : Fld, t.get g = s.get g) ∧ t.agents = s.agents)
        ∧ (∀ data : List Byte, ∃ t, exec (.mmResponse port tag true data) s = .next t ∧ t.mm.out = s.mm.out.erase m
          ∧ (m.req.who = .hopper → s.hopper.job.isSome = true → t.hopper.job = none ∧ t.get Reg.HOPPER.RESULT.CODE = hcUe
              ∧ t.get Reg.HOPPER.EVENT.FAILED = 1)
          ∧ (m.req.who = .cut → ∀ j, s.cut.job = some j → ∃ k, t.cut.job = some k ∧ k.ue = true))
        ∧ (m.fc + 65536 ≤ s.fc → ∃ t, exec (.mmTimeout port tag) s = .next t ∧ t.mm.out = s.mm.out.erase m
          ∧ t.get ⟨0x28018, 8, 8, 0⟩ = 1
          ∧ (m.req.who = .hopper → s.hopper.job.isSome = true → t.hopper.job = none ∧ t.get Reg.HOPPER.RESULT.CODE = hcUe))
        ∧ (s.fc < m.fc + 65536 → exec (.mmTimeout port tag) s = .next s)

/-- For a watchdog whose WD_ACTION is CRASH, or an agent whose A_FAULT holds a fatal fault (R268, Table 17-4): before READY or in
W3 and W4 the error waits (R584, R588). READY in W0 with FREEZE_AND_HOLD, or under the parity error of R607, of a Whistle that
can take it: STOP_ALL from source 5 is driven; with the store armed and the Lead Half's slot EMPTY that slot is CAPTURING with
KIND, ACTION, DETAIL, position and fc of the error (R270, R271); HUB_FAULT_N is asserted for that slot (R608). With action
NONE nothing stops or captures, HUB_FAULT_N is asserted with no slot, and the interrupt of Table 6-14 is raised (plain state
of the model: log entry 162). With the store disarmed and FREEZE_AND_HOLD the capture is dropped, counted in DROPPED with
EVENT.DROPPED. A watchdog or an agent that is not fatal: nothing changes. A token UE, or a credit error of an output that is
not tied off (R19), sets A_FAULT bit 3 or 2 of the agent first; an error of the hub's control state sets HUB.FAULT.UE. -/
def Obligations.FatalErrorsStopAndCapture : Prop :=
  (∀ (f : FatalSource) (s : State),
    (∃ k, f = .watchdog k ∧ s.isFatal f = true) ∨ (∃ a : AgentId, f = .agent a ∧ agentType a.toNat ≠ 0 ∧ s.isFatal (.agent a) = true) →
    let lead := s.get Reg.HUB.ROLE.LEAD_HALF
    let hold := s.cfg Reg.HUB.FATAL_ACTION.ACTION = faHold ∨ (s.get (Hdr.FAULT_PARITY 0) = 1 ∧ s.get (Hdr.FAULT_INFO_DETAIL 0) = 0x050)
    let free := s.get (slotStateFld lead) = 0
    (s.isReady = false ∨ 3 ≤ s.power → ∃ t, exec (.fatalError f) s = .next t ∧ t.crash.waiting = s.crash.waiting ++ [(f, none)]
      ∧ t.crash.hold = true ∧ t.whistle = s.whistle ∧ (∀ g : Fld, t.get g = s.get g) ∧ t.agents = s.agents)
    ∧ (s.isReady = true → s.power = 0 →
      (hold → s.cfg Reg.WHISTLE.AUTO_SOURCES.FATAL = 1 → s.get Reg.WHISTLE.STATE.STATE = wsRunning →
        s.get Reg.WHISTLE.STATE.STEP_ACTIVE = 0 → s.treeFree = true → s.parityOk Slot.WHISTLE = true → ∃ t, exec (.fatalError f) s = .next t
          ∧ t.get Reg.WHISTLE.STATE.STATE = wsFreezing ∧ t.whistle.branches = allBranches ∧ t.get Reg.WHISTLE.CAUSE.SOURCE = 5
          ∧ t.crash.hold = true ∧ t.agents = s.agents
          ∧ (s.cfg Reg.CRASH.ARM.ARMED = 1 → lead ≤ 1 → free → t.get (slotStateFld lead) = 1
              ∧ t.crash.capturing = s.crash.capturing ++ [lead] ∧ t.crash.asserts = s.crash.asserts ++ [some lead]
              ∧ ∃ r, t.crash.slot lead = some r ∧ (r.kind, r.detail) = fatalCause f ∧ r.action = faHold ∧ r.cycle = s.fc ∧ r.pos = s.posWord)
          ∧ (s.cfg Reg.CRASH.ARM.ARMED = 0 → s.counted t Reg.CRASH.STATE.DROPPED 1 ∧ t.get Reg.CRASH.EVENT.DROPPED = 1
              ∧ t.crash.asserts = s.crash.asserts ++ [none] ∧ t.crash.capturing = s.crash.capturing))
      ∧ (¬ hold → s.cfg Reg.HUB.FATAL_ACTION.ACTION = faNone → ∃ t, exec (.fatalError f) s = .next t
        ∧ t.crash.asserts = s.crash.asserts ++ [none] ∧ t.crash.capturing = s.crash.capturing ∧ t.whistle = s.whistle
        ∧ t.crash.noneIrq = s.crash.noneIrq ++ [s.faultCtx f]
        ∧ (∀ g : Fld, t.get g = s.get g) ∧ t.agents = s.agents)))
  ∧ (∀ (a : AgentId) (s : State), agentType a.toNat ≠ 0 → s.isFatal (.agent a) = false → exec (.fatalError (.agent a)) s = .next s)
  ∧ (∀ (k : BitVec 3) (s : State), s.isFatal (.watchdog k) = false → exec (.fatalError (.watchdog k)) s = .next s)
  ∧ (∀ (a : AgentId) (q : QueueNo) (s : State), agentType a.toNat ≠ 0 → q.toNat < agentQueues a.toNat →
    (∃ t, exec (.fatalError (.tokenUe a q)) s = .next t ∧ testBit ((t.agent a.toNat).get AReg.A_FAULT) 3 = true ∧ t.crash.hold = true)
    ∧ ((linkReceiver a.toNat q.toNat).isSome = true → ∃ t, exec (.fatalError (.credit a q)) s = .next t
      ∧ testBit ((t.agent a.toNat).get AReg.A_FAULT) 2 = true ∧ t.crash.hold = true)
    ∧ (linkReceiver a.toNat q.toNat = none → exec (.fatalError (.credit a q)) s = .next s))
  ∧ ∀ s : State, ∃ t, exec (.fatalError .hub) s = .next t ∧ t.get (Hdr.FAULT_UE 0) = 1 ∧ t.crash.hold = true ∧ t.agents = s.agents

/-- With the write of RELEASE.GO at 1 admitted and no parity error of CRASH: where a slot is HELD, the oldest one (the current
slot) becomes EMPTY, and the records of both slots stay as they were; the other slot keeps its state. Where no slot is HELD, a
slot that is CAPTURING among them, no slot changes state, and the records stay. The agents do not change. That the current
slot is the oldest HELD one is R271's. -/
def Obligations.CrashReleaseEmptiesTheCurrentSlot : Prop :=
  ∀ (x : Src) (s : State), s.mayWrite x 0x5005C 1 = true → s.parityOk Slot.CRASH = true →
    (∀ k rest, s.crash.order = k :: rest → k ≤ 1 → ∃ t, exec (.crashRelease x) s = .next t ∧ t.get (slotStateFld k) = 0
      ∧ t.get (slotStateFld (1 - k)) = s.get (slotStateFld (1 - k)) ∧ t.crash.rec0 = s.crash.rec0 ∧ t.crash.rec1 = s.crash.rec1
      ∧ t.crash.capturing = s.crash.capturing ∧ t.crash.order = rest ∧ t.agents = s.agents)
    ∧ (s.crash.order = [] → ∃ t, exec (.crashRelease x) s = .next t ∧ t.get (slotStateFld 0) = s.get (slotStateFld 0)
      ∧ t.get (slotStateFld 1) = s.get (slotStateFld 1) ∧ t.crash.rec0 = s.crash.rec0 ∧ t.crash.rec1 = s.crash.rec1
      ∧ t.crash.capturing = s.crash.capturing ∧ t.crash.order = [] ∧ t.agents = s.agents)

/-- CRASH_CAPTURE_DONE with no capture in progress changes nothing. Of a capture whose action does not resume, it makes the oldest
capturing slot HELD, counts CAPTURES, sets EVENT.CAPTURED, and completes the record with the command history, the region
totals and the agents' status; with no other slot HELD, CAUSE, LEN and CUR_SLOT show it (R270, R271). CAPTURE_NOW, with its
write admitted and no parity error of CRASH: with the store armed and the Lead Half's slot EMPTY that slot is CAPTURING with
KIND 4 (software), the Whistle and HUB_FAULT_N untouched; with ARM.ARMED at 0 nothing is captured, DROPPED counts and
EVENT.DROPPED is set (R271). No agent changes. -/
def Obligations.CrashCapturesComplete : Prop :=
  (∀ s : State, s.crash.capturing = [] → exec .crashCaptureDone s = .next s)
  ∧ (∀ (s : State) (k : Nat) (rest : List Nat) (r : CrashRec), s.crash.capturing = k :: rest → k ≤ 1 → s.crash.slot k = some r →
    r.after = 0 → ∃ t, exec .crashCaptureDone s = .next t ∧ t.get (slotStateFld k) = 2 ∧ t.crash.capturing = rest
      ∧ t.crash.order = s.crash.order ++ [k] ∧ t.get Reg.CRASH.EVENT.CAPTURED = 1
      ∧ t.get Reg.CRASH.STATE.CAPTURES = (s.get Reg.CRASH.STATE.CAPTURES + 1) % 2 ^ Reg.CRASH.STATE.CAPTURES.width
      ∧ (∃ q, t.crash.slot k = some q ∧ q.kind = r.kind ∧ q.action = r.action ∧ q.detail = r.detail ∧ q.pos = r.pos ∧ q.cycle = r.cycle
          ∧ q.records = s.trace.history ∧ q.totals = s.regionWords ∧ q.status = s.agents.map (fun e => (e.1, s.statusWord e.1)))
      ∧ (s.crash.order = [] → t.get Reg.CRASH.STATE.CUR_SLOT = k ∧ t.get Reg.CRASH.LEN.BYTES = 176544 % 2 ^ Reg.CRASH.LEN.BYTES.width
          ∧ t.get Reg.CRASH.CAUSE.KIND = r.kind % 2 ^ Reg.CRASH.CAUSE.KIND.width)
      ∧ t.agents = s.agents)
  ∧ ∀ (x : Src) (s : State), s.mayWrite x 0x51060 2 = true → s.parityOk Slot.CRASH = true →
    let u := s.writeTurn x 0x51060 2
    let lead := s.get Reg.HUB.ROLE.LEAD_HALF
    (u.cfg Reg.CRASH.ARM.ARMED = 1 → lead ≤ 1 → s.get (slotStateFld lead) = 0 → ∃ t, exec (.captureNow x) s = .next t
      ∧ t.get (slotStateFld lead) = 1 ∧ t.crash.capturing = s.crash.capturing ++ [lead]
      ∧ (∃ r, t.crash.slot lead = some r ∧ r.kind = 4 ∧ r.cycle = s.fc ∧ r.pos = s.posWord)
      ∧ t.whistle = s.whistle ∧ t.crash.asserts = s.crash.asserts ∧ t.agents = s.agents)
    ∧ (u.cfg Reg.CRASH.ARM.ARMED = 0 → ∃ t, exec (.captureNow x) s = .next t ∧ t.crash = s.crash
      ∧ s.counted t Reg.CRASH.STATE.DROPPED 1 ∧ t.get Reg.CRASH.EVENT.DROPPED = 1 ∧ t.agents = s.agents)

/-- HOPPER_GO with START: with a job in flight, with CTRL.ENABLE at 0, or with a parity error (in this order) it only sets
LAST_REJECT 1, 2 or 3 and EVENT.REJECTED; else the job takes the registers of the start of its fc and JOB_STATE is SETUP
(R293, R294). HOPPER_SETUP 4 fc later ends a job with bad arguments REFUSED_ARGS, with overlapping ranges REFUSED_OVERLAP, and
takes a good one to the walk or to coding (R295). A header that passes the checks joins the walk, one that fails ends the job
with its code (R292). A block that an engine has taken, done no sooner than its rate allows, joins the outputs, a compress
job's coded as R296 has it; one that fails ends the job (R276, R302); HOPPER_BLOCK_FAIL with UE also sets FAULT.UE (R306).
HOPPER_COMMIT 64 fc into COMMIT sets RESULT DONE, BLOCKS, OUT_LEN and CRC of the bytes, counts JOBS_DONE and sets EVENT.DONE
(R303). Without their job or before their fc they change nothing, and no agent ever. -/
def Obligations.HopperJobsRunToTheirResult : Prop :=
  (∀ (x : Src) (d : Word) (s : State), s.mayWrite x 0x2405C d = true → d.toNat % 2 = 1 →
    let u := s.writeTurn x 0x2405C d
    let reject := fun (n : Nat) => ∃ t : State, exec (.hopperGo x d) s = .next t ∧ t.get Reg.HOPPER.STATUS.LAST_REJECT = n
      ∧ t.get Reg.HOPPER.EVENT.REJECTED = 1 ∧ t.hopper = s.hopper
      ∧ s.keeps t [Reg.HOPPER.STATUS.LAST_REJECT, Reg.HOPPER.EVENT.REJECTED, Hdr.STATUS_PARITY_ERR Slot.HOPPER] ∧ t.agents = s.agents
    (u.cfg Reg.HOPPER.STATUS.JOB_STATE ≠ hjIdle ∨ s.hopper.job.isSome = true → reject 1)
    ∧ (u.cfg Reg.HOPPER.STATUS.JOB_STATE = hjIdle → s.hopper.job = none →
      (u.cfg Reg.HOPPER.CTRL.ENABLE = 0 → reject 2)
      ∧ (u.cfg Reg.HOPPER.CTRL.ENABLE = 1 → u.cfg (Hdr.STATUS_PARITY_ERR Slot.HOPPER) = 1 → reject 3)
      ∧ (u.cfg Reg.HOPPER.CTRL.ENABLE = 1 → u.cfg (Hdr.STATUS_PARITY_ERR Slot.HOPPER) = 0 → ∃ t, exec (.hopperGo x d) s = .next t
        ∧ t.get Reg.HOPPER.STATUS.JOB_STATE = hjSetup ∧ (∃ j, t.hopper.job = some j ∧ j.startFc = s.fc
          ∧ j.src = u.cfg64 Reg.HOPPER.SRC_LO Reg.HOPPER.SRC_HI ∧ j.len = u.cfg Reg.HOPPER.SRC_LEN.BYTES
          ∧ j.dst = u.cfg64 Reg.HOPPER.DST_LO Reg.HOPPER.DST_HI ∧ j.limit = u.cfg Reg.HOPPER.DST_LIMIT.BYTES
          ∧ j.decompress = (u.cfg Reg.HOPPER.MODE.OP == 1) ∧ j.maxw = u.cfg Reg.HOPPER.MODE.MAXW ∧ j.plane = u.cfg Reg.HOPPER.MODE.PLANE
          ∧ j.hdrs = [] ∧ j.outs = [])
        ∧ s.keeps t [Reg.HOPPER.STATUS.JOB_STATE, Hdr.STATUS_PARITY_ERR Slot.HOPPER] ∧ t.agents = s.agents)))
  ∧ (∀ s : State, s.hopper.job = none → exec .hopperSetup s = .next s ∧ exec .hopperCommit s = .next s
    ∧ (∀ h, exec (.hopperHeaderRead h) s = .next s) ∧ ∀ i raw, exec (.hopperBlockDone i raw) s = .next s)
  ∧ ∀ (s : State) (j : HopJob), s.hopper.job = some j →
    let st := s.get Reg.HOPPER.STATUS.JOB_STATE
    let failed := fun (t : State) (c b : Nat) => t.hopper.job = none ∧ t.get Reg.HOPPER.RESULT.CODE = c
      ∧ t.get Reg.HOPPER.RESULT.BLOCKS = b % 2 ^ Reg.HOPPER.RESULT.BLOCKS.width ∧ t.get Reg.HOPPER.OUT_LEN.BYTES = 0
      ∧ t.get Reg.HOPPER.CRC.VALUE = 0 ∧ t.get Reg.HOPPER.STATUS.JOB_STATE = hjIdle ∧ t.get Reg.HOPPER.EVENT.FAILED = 1 ∧ t.agents = s.agents
    (st = hjSetup → j.startFc + 4 ≤ s.fc →
      (j.badArgs = true → ∃ t, exec .hopperSetup s = .next t ∧ failed t hcArgs 0)
      ∧ (j.badArgs = false → j.overlaps = true → ∃ t, exec .hopperSetup s = .next t ∧ failed t hcOverlap 0)
      ∧ (j.badArgs = false → j.overlaps = false → ∃ t, exec .hopperSetup s = .next t
        ∧ t.get Reg.HOPPER.STATUS.JOB_STATE = (if j.decompress then hjWalk else hjCoding) ∧ t.hopper = s.hopper
        ∧ s.keeps t [Reg.HOPPER.STATUS.JOB_STATE] ∧ t.agents = s.agents))
    ∧ (s.fc < j.startFc + 4 ∨ st ≠ hjSetup → exec .hopperSetup s = .next s)
    ∧ (∀ hdr : List Byte, st = hjWalk → hdr.length = 16 → 16 ≤ j.len - j.offset →
      let c := headerCheck hdr (j.len - j.offset - 16) j.sumOrig (if j.checkOnly then none else some j.limit) j.ratio
      (∀ e, c = .error e → e < 16 → ∃ t, exec (.hopperHeaderRead hdr) s = .next t ∧ failed t e j.hdrs.length)
      ∧ (∀ h, c = .ok h → ∃ t, exec (.hopperHeaderRead hdr) s = .next t ∧ (∃ k, t.hopper.job = some k ∧ k.hdrs = j.hdrs ++ [h]
          ∧ k.offset = j.offset + 16 + h.coded) ∧ t.agents = s.agents))
    ∧ (∀ (idx : Nat) (raw : List Byte), st = hjCoding → Sparse.has j.outs idx = false → j.decompress = false →
      (∃ e, s.pageBlock idx = some e ∧ e.due ≤ s.fc) → 65536 * idx < j.len → raw.length = j.blockLen idx →
      let out := codeBlock j.maxw j.plane j.noZrun raw
      let k := { j with outs := Sparse.ins j.outs idx out.1, origs := Sparse.ins j.origs idx raw, raws := j.raws + bit out.2 }
      (out.2 = true → j.rawFallback = false → ∃ t, exec (.hopperBlockDone idx raw) s = .next t ∧ failed t hcNotShrunk idx)
      ∧ (out.2 = false ∨ j.rawFallback = true → k.noSpace (k.outs.length + 1) 0 0 = none →
        ∃ t, exec (.hopperBlockDone idx raw) s = .next t ∧ (∃ l, t.hopper.job = some l ∧ l.outs = k.outs ∧ l.origs = k.origs ∧ l.raws = k.raws)
          ∧ s.keeps t [Reg.HOPPER.STATUS.JOB_STATE] ∧ t.agents = s.agents))
    ∧ (∀ (idx : Nat) (raw : List Byte), (∀ e, s.pageBlock idx = some e → s.fc < e.due) → exec (.hopperBlockDone idx raw) s = .next s)
    ∧ (∀ idx : Nat, (st = hjWalk ∨ (st = hjCoding ∧ (s.pageBlock idx).isSome = true) →
        (∀ c, hcNotShrunk ≤ c → c < hcUe → ∃ t, exec (.hopperBlockFail idx c) s = .next t ∧ failed t c idx)
        ∧ ∃ t, exec (.hopperBlockFail idx hcUe) s = .next t ∧ failed t hcUe idx ∧ t.get (Hdr.FAULT_UE Slot.HOPPER) = 1)
      ∧ (st ≠ hjWalk → st ≠ hjCoding ∨ s.pageBlock idx = none → ∀ c, exec (.hopperBlockFail idx c) s = .next s))
    ∧ ∀ f, j.commitFc = some f →
      (f + 64 ≤ s.fc → ∃ t, exec .hopperCommit s = .next t ∧ t.hopper.job = none ∧ t.get Reg.HOPPER.RESULT.CODE = hcDone
        ∧ t.get Reg.HOPPER.RESULT.BLOCKS = j.outs.length % 2 ^ Reg.HOPPER.RESULT.BLOCKS.width
        ∧ t.get Reg.HOPPER.CRC.VALUE = (if j.decompress then crc32c (j.outs.flatMap (·.2)) else crc32c (j.origs.flatMap (·.2)))
            % 2 ^ Reg.HOPPER.CRC.VALUE.width
        ∧ (j.decompress = false → t.hopper.out = j.outs.flatMap (·.2)
            ∧ t.get Reg.HOPPER.OUT_LEN.BYTES = (j.outs.flatMap (·.2)).length % 2 ^ Reg.HOPPER.OUT_LEN.BYTES.width)
        ∧ t.get Reg.HOPPER.EVENT.DONE = 1 ∧ t.get Reg.HOPPER.STATUS.JOB_STATE = hjIdle
        ∧ t.get Reg.HOPPER.JOBS_DONE.COUNT = (s.get Reg.HOPPER.JOBS_DONE.COUNT + 1) % 2 ^ Reg.HOPPER.JOBS_DONE.COUNT.width ∧ t.agents = s.agents)
      ∧ (s.fc < f + 64 → exec .hopperCommit s = .next s)

/-- With the write admitted: a PERIOD_REV write from 0 to a non-zero value, a CTRL write (without ABORT) that sets ENABLE with
ROLE APPLY, and a ROLE write to APPLY while ENABLE is 1, are checked against Table 8-2. Where a check fails, STATUS.REFUSE
takes the first failing reason, EVENT.REFUSED is set, and no other field changes but the page's PARITY_ERR, which every write
recomputes (R86). Where none fails: PERIOD_REV takes the value (at most 256) and the next cut is a BASE cut; ENABLE, or ROLE,
is set, and no frame has been accepted where no cut is being received. A ROLE write while PERIOD_REV is non-zero or apply is
enabled is refused with reason 5. A PERIOD_REV write that does not leave 0 for a non-zero value is stored. -/
def Obligations.MillraceEnablingIsChecked : Prop :=
  ∀ (x : Src) (d : Word) (s : State),
    let refused := fun (t : State) (r : Nat) => t.get Reg.MILLRACE.STATUS.REFUSE = r ∧ t.get Reg.MILLRACE.EVENT.REFUSED = 1
      ∧ t.mill = s.mill ∧ t.agents = s.agents
      ∧ s.keeps t [Reg.MILLRACE.STATUS.REFUSE, Reg.MILLRACE.EVENT.REFUSED, Hdr.STATUS_PARITY_ERR Slot.MILLRACE]
    let started := if s.mill.cut.isSome then s.mill else { s.mill with lastSeq := none }
    (s.mayWrite x 0x44040 d = true → let v := min (d.toNat % 512) 256
      (s.get Reg.MILLRACE.PERIOD_REV.REVS = 0 → v ≠ 0 →
        (s.enableFault mrSource ≠ 0 → ∃ t : State, exec (.periodRevWrite x d) s = .next t ∧ refused t (s.enableFault mrSource))
        ∧ (s.enableFault mrSource = 0 → ∃ t : State, exec (.periodRevWrite x d) s = .next t
          ∧ t.get Reg.MILLRACE.PERIOD_REV.REVS = v ∧ t.mill.nextBase = true ∧ t.mill.seq = 0 ∧ t.mill.chain = 0
          ∧ s.keeps t [Reg.MILLRACE.PERIOD_REV.REVS, Hdr.STATUS_PARITY_ERR Slot.MILLRACE]))
      ∧ (s.get Reg.MILLRACE.PERIOD_REV.REVS ≠ 0 ∨ v = 0 → s.mill.pending = false → ∃ t : State, exec (.periodRevWrite x d) s = .next t
        ∧ t.get Reg.MILLRACE.PERIOD_REV.REVS = v ∧ t.mill = s.mill ∧ t.agents = s.agents
        ∧ s.keeps t [Reg.MILLRACE.PERIOD_REV.REVS, Hdr.STATUS_PARITY_ERR Slot.MILLRACE]))
    ∧ (s.mayWrite x 0x44008 (d ||| 1) = true → testBit d.toNat 1 = false → s.get Reg.MILLRACE.CTRL.ENABLE = 0 →
      s.get Reg.MILLRACE.ROLE.ROLE = mrApply →
      (s.enableFault mrApply ≠ 0 → ∃ t : State, exec (.applyEnable x d) s = .next t ∧ refused t (s.enableFault mrApply))
      ∧ (s.enableFault mrApply = 0 → ∃ t : State, exec (.applyEnable x d) s = .next t ∧ t.get Reg.MILLRACE.CTRL.ENABLE = 1
        ∧ t.mill = started ∧ t.agents = s.agents
        ∧ s.keeps t [Reg.MILLRACE.CTRL.ENABLE, Hdr.CTRL_IRQ_EN Slot.MILLRACE, Hdr.STATUS_PARITY_ERR Slot.MILLRACE]))
    ∧ (s.mayWrite x 0x44068 d = true →
      (s.millRuns = true → ∃ t : State, exec (.millraceRoleWrite x d) s = .next t ∧ refused t 5)
      ∧ (s.millRuns = false → d.toNat % 2 = 1 → s.get Reg.MILLRACE.CTRL.ENABLE = 1 →
        (s.enableFault mrApply ≠ 0 → ∃ t : State, exec (.millraceRoleWrite x d) s = .next t ∧ refused t (s.enableFault mrApply))
        ∧ (s.enableFault mrApply = 0 → ∃ t : State, exec (.millraceRoleWrite x d) s = .next t ∧ t.get Reg.MILLRACE.ROLE.ROLE = mrApply
          ∧ t.mill = started ∧ t.agents = s.agents
          ∧ s.keeps t [Reg.MILLRACE.ROLE.ROLE, Hdr.STATUS_PARITY_ERR Slot.MILLRACE]))
      ∧ (s.millRuns = false → d.toNat % 2 = 0 → ∃ t : State, exec (.millraceRoleWrite x d) s = .next t
        ∧ t.get Reg.MILLRACE.ROLE.ROLE = mrSource ∧ t.agents = s.agents
        ∧ s.keeps t [Reg.MILLRACE.ROLE.ROLE, Hdr.STATUS_PARITY_ERR Slot.MILLRACE]))

/-- With the write admitted: a write of the pointer that the hub owns (HEAD on SOURCE, TAIL on APPLY) changes no field. A write of
the other pointer that is no multiple of 64, that lies outside the ring, that moves TAIL backwards or past HEAD, or that makes
the occupied length exceed the ring size less 64, sets EVENT.BAD_PTR and changes no other field. (The page's PARITY_ERR, which
every write recomputes, is not spoken of.) The response is OK and VIOL_LOG does not change. Any other write is taken: HEAD, or
TAIL with the frames it passes counted in FRAMES_DONE, is the offset written. The other pointer is that of the start of the
fc. -/
def Obligations.RingPointersAreGuarded : Prop :=
  ∀ (tail : Bool) (x : Src) (d : Word) (s : State), let o := if tail then 0x44058 else 0x44054
    s.mayWrite x o d = true →
    let u := s.writeTurn x o d
    let v := d.toNat
    let mine : Bool := if s.get Reg.MILLRACE.ROLE.ROLE = mrSource then !tail else tail
    let tl := if tail then s.get Reg.MILLRACE.TAIL.OFFSET else u.cfg Reg.MILLRACE.TAIL.OFFSET
    let hd := u.cfg Reg.MILLRACE.HEAD.OFFSET
    let bad := v % 64 ≠ 0 ∨ s.ringSize ≤ v ∨ (tail = true ∧ (s.ringUsed tl hd < s.ringUsed tl v ∨ s.ringSize < s.ringUsed v hd + 64))
      ∨ (tail = false ∧ s.ringSize < s.ringUsed tl v + 64)
    (mine = true → ∃ t, exec (.ringPointerWrite x tail d) s = .next t ∧ s.keeps t [Hdr.STATUS_PARITY_ERR Slot.MILLRACE]
      ∧ t.respOf x = some (okResp x 0) ∧ t.mill = s.mill ∧ t.agents = s.agents)
    ∧ (mine = false → bad → ∃ t, exec (.ringPointerWrite x tail d) s = .next t ∧ t.get Reg.MILLRACE.EVENT.BAD_PTR = 1
      ∧ s.keeps t [Reg.MILLRACE.EVENT.BAD_PTR, Hdr.STATUS_PARITY_ERR Slot.MILLRACE] ∧ t.respOf x = some (okResp x 0)
      ∧ t.mill = s.mill ∧ t.agents = s.agents)
    ∧ (mine = false → ¬ bad → ∃ t, exec (.ringPointerWrite x tail d) s = .next t
      ∧ t.get (if tail then Reg.MILLRACE.TAIL.OFFSET else Reg.MILLRACE.HEAD.OFFSET) = v
      ∧ (tail = true → t.get Reg.MILLRACE.FRAMES_DONE
          = (s.get Reg.MILLRACE.FRAMES_DONE + (passFrames (s.ringUsed tl v) s.mill.ring).1) % 2 ^ Reg.MILLRACE.FRAMES_DONE.width)
      ∧ s.keeps t (Hdr.STATUS_PARITY_ERR Slot.MILLRACE :: (if tail then
          [Reg.MILLRACE.TAIL.OFFSET, Reg.MILLRACE.FRAMES_DONE, Reg.MILLRACE.LAG.FRAMES] else [Reg.MILLRACE.HEAD.OFFSET])) ∧ t.agents = s.agents)

/-- MILLRACE_PENDING_PRESENT of a pending request with the Cut engine idle starts a cut of the Millrace set (SETUP, source 2),
with a cut of an earlier fc in progress changes nothing (R316, R328). DIRTY_LIST_OVERFLOW at a gateway with PERIOD_REV
non-zero makes the next cut a BASE cut and marks every page of every valid carried region dirty at every gateway (R314, R315).
FRAME_COMMIT without coding, of a Millrace cut whose record is complete: with room in the ring the frame of the next piece is
written at HEAD with its sequence number and flags, HEAD moves past its padding, FRAMES_PRODUCED counts, and the LAST frame
commits the cut with EVENT.COMMITTED (R322, R323, R325, R326); without room nothing changes. RING_STALLED after 4,096 notches
without room abandons the cut with reason RING_STALLED and FAULT bit 8 (R331); earlier it changes nothing.
MILLRACE_CUT_ABANDON, while a frame is owed and fits, writes one with flag ABANDONED; else nothing (R321). -/
def Obligations.MillraceCutsCommitInFrames : Prop :=
  ∀ s : State,
    (s.mill.pending = true → s.cut.job = none → ∃ t, exec .millracePendingPresent s = .next t ∧ t.mill.pending = false
      ∧ t.cutState = csSetup ∧ t.get Reg.CUT.CUT_STATE.SOURCE = 2
      ∧ (∃ j, t.cut.job = some j ∧ j.code = 9 ∧ j.set = 0xFE ∧ j.base = s.mill.nextBase
          ∧ j.sel = millSel s.mill.nextBase (s.cfg Reg.MILLRACE.CUT_NOTCH.CARRY_TILES == 1))
      ∧ ∀ b, t.agent b = { s.agent b with cowStalls := 0 })
    ∧ (s.mill.pending = false ∨ (∃ j, s.cut.job = some j ∧ j.startFc ≠ s.fc) → exec .millracePendingPresent s = .next s)
    ∧ (∀ a : AgentId, gwType (agentType a.toNat) = true →
      (s.get Reg.MILLRACE.PERIOD_REV.REVS ≠ 0 → ∃ t, exec (.dirtyListOverflow a) s = .next t ∧ t.mill.nextBase = true
        ∧ (∀ g < 16, ∀ e ∈ s.carriedEntries, ∀ i < e.2, e.1 + i ∈ (t.agent (0x2400 + g)).dirtyPages)
        ∧ ∀ f : Fld, t.get f = s.get f)
      ∧ (s.get Reg.MILLRACE.PERIOD_REV.REVS = 0 → exec (.dirtyListOverflow a) s = .next s))
    ∧ (∀ j : CutJob, s.cut.job = some j → j.code = 9 → s.mill.owed = false → s.cutState = csCommit →
      s.cfg Reg.MILLRACE.CUT_NOTCH.NO_CODE = 1 →
      let i := s.mill.frames
      let p := (s.cut.record.drop (i * pieceSize)).take pieceSize
      let last : Bool := decide (s.cut.record.length ≤ (i + 1) * pieceSize)
      let len := (32 + p.length + 63) / 64 * 64
      let streamed : Bool := s.mill.streamed || decide (s.ringSize < 2 * (s.mill.cutBytes + len))
      let f := frameBytes (bit (i == 0) + 2 * bit last + 4 * bit j.base + 8 * bit streamed) (s.get Reg.TEAM.MEMBER_ID.ID)
        (s.mill.seq + 1) (if j.base then 0 else s.mill.chain + 1) p p.length
      p ≠ [] → 0 < s.ringSize → s.ringSize ≤ 2 ^ 32 →
      (s.ringRoom f.length = true → ∃ t, exec .frameCommit s = .next t ∧ t.mm.lastWrite = some (s.ringBase + s.get Reg.MILLRACE.HEAD.OFFSET, f)
        ∧ t.get Reg.MILLRACE.HEAD.OFFSET = (s.get Reg.MILLRACE.HEAD.OFFSET + f.length) % s.ringSize
        ∧ t.mill.seq = s.mill.seq + 1
        ∧ t.get Reg.MILLRACE.FRAMES_PRODUCED = (s.get Reg.MILLRACE.FRAMES_PRODUCED + 1) % 2 ^ Reg.MILLRACE.FRAMES_PRODUCED.width
        ∧ (last = false → t.cut.job = some j ∧ t.mill.frames = i + 1 ∧ t.agents = s.agents)
        ∧ (last = true → t.get Reg.MILLRACE.EVENT.COMMITTED = 1 ∧ t.mill.frames = 0
            ∧ t.get Reg.MILLRACE.APPLIED_CUT.ID = j.id % 2 ^ Reg.MILLRACE.APPLIED_CUT.ID.width ∧ t.get Reg.CUT.EVENT.DONE = 1))
      ∧ (s.ringRoom f.length = false → exec .frameCommit s = .next s))
    ∧ (s.cut.job = none ∨ s.mill.owed = true → exec .frameCommit s = .next s)
    ∧ (∀ (j : CutJob) (n : Nat), s.cut.job = some j → s.mill.fullSince = some n → j.code = 9 →
      (n + 4096 ≤ s.wheel.notchCount → ∃ t, exec .ringStalled s = .next t ∧ t.get ⟨0x44018, 8, 8, 0⟩ = 1
        ∧ t.get Reg.MILLRACE.SKIPPED.REASON = msRing ∧ t.get Reg.MILLRACE.EVENT.SKIPPED = 1 ∧ s.counted t Reg.MILLRACE.SKIPPED.COUNT 1
        ∧ t.get Reg.CUT.EVENT.FAILED = 1 ∧ t.cut.shadows = [] ∧ (s.mill.frames ≠ 0 → t.mill.owed = true))
      ∧ (s.wheel.notchCount < n + 4096 → exec .ringStalled s = .next s))
    ∧ (s.mill.fullSince = none → exec .ringStalled s = .next s)
    ∧ (s.mill.owed = true → 0 < s.ringSize → s.ringSize ≤ 2 ^ 32 →
      let f := frameBytes 32 (s.get Reg.TEAM.MEMBER_ID.ID) (s.mill.seq + 1) s.mill.owedChain [] 0
      (s.ringRoom f.length = true → ∃ t, exec .millraceCutAbandon s = .next t ∧ t.mill.owed = false ∧ t.mill.seq = s.mill.seq + 1
        ∧ t.mm.lastWrite = some (s.ringBase + s.get Reg.MILLRACE.HEAD.OFFSET, f)
        ∧ t.get Reg.MILLRACE.HEAD.OFFSET = (s.get Reg.MILLRACE.HEAD.OFFSET + f.length) % s.ringSize
        ∧ s.keeps t [Reg.MILLRACE.HEAD.OFFSET, Reg.MILLRACE.FRAMES_PRODUCED, Reg.MILLRACE.LAG.FRAMES] ∧ t.agents = s.agents)
      ∧ (s.ringRoom f.length = false → exec .millraceCutAbandon s = .next s))
    ∧ (s.mill.owed = false → exec .millraceCutAbandon s = .next s)

/-- With apply enabled, no cut being received and 64 bytes in the ring: FRAME_CHECK of bytes without the magic discards them with
reason HEADER, EVENT.DISCARDED, and waits for FIRST and BASE (R334, R335); an uncoded FIRST frame of a delta cut with the next
sequence number is taken as the first piece of a cut (R336); with apply off and no cut being received nothing changes.
CUT_APPLY of a complete cut without BASE or STREAMED whose record header is bad discards it with reason RECORD and changes no
agent. FAILOVER, LOAD_ONLY, RESET_IMAGE and RESEED are accepted in the roles and states of Table 8-10 and refused as it says
in the others, BUSY during a Toss (R347, R72). RELOAD_DONE, once every complete cut is applied, of an IMAGE that is not READY
ends the restore NO_IMAGE; of one whose tally balances ends LOAD_ONLY LOADED and makes FAILOVER wait for the next revolution,
in whose first fc FAILOVER_RESUME ends it RESUMED (R340, R342, R343); a restore's end clears CTRL.ENABLE and sets
EVENT.RESTORED (R344). -/
def Obligations.StandbyAppliesAndRestores : Prop :=
  (∀ (s : State) (frame : List Byte),
    (s.applyOn = false → s.mill.cut = none → s.mill.restore = none → exec (.frameCheck frame) s = .next s)
    ∧ (s.applyOn = true → s.mill.cut = none → s.mill.restore = none → s.mill.nextPos = none → 0 < s.ringSize → s.ringSize ≤ 2 ^ 32 →
      let pos := s.get Reg.MILLRACE.TAIL.OFFSET
      let avail := s.ringUsed pos (s.get Reg.MILLRACE.HEAD.OFFSET)
      (64 ≤ avail → 32 ≤ frame.length → frame.take 4 ≠ [0x58#8, 0x4D#8, 0x49#8, 0x4C#8] → ∃ t, exec (.frameCheck frame) s = .next t
        ∧ t.get Reg.MILLRACE.STATUS.LAST_DISCARD = mdHeader ∧ t.get Reg.MILLRACE.EVENT.DISCARDED = 1 ∧ t.mill.lastSeq = none
        ∧ t.get Reg.MILLRACE.TAIL.OFFSET = (pos + 64) % s.ringSize ∧ t.agents = s.agents)
      ∧ (∀ (m q c : Nat) (p : List Byte), frame = frameBytes 1 m (q + 1) c p p.length → m < 65536 → q + 1 < 2 ^ 64 → c < 2 ^ 32 →
        p.length ≤ pieceSize → s.mill.lastSeq = some q → frame.length ≤ avail → ∃ t, exec (.frameCheck frame) s = .next t
          ∧ (∃ k, t.mill.cut = some k ∧ k.pieces = [p] ∧ k.member = m ∧ k.base = false ∧ k.streamed = false ∧ k.lasted = false)
          ∧ t.mill.lastSeq = some (q + 1) ∧ t.get Reg.MILLRACE.LAG.FRAMES = 1 ∧ t.agents = s.agents)))
  ∧ (∀ s : State,
    (s.mill.cut = none → exec .cutApply s = .next s)
    ∧ ∀ c : ApplyCut, s.mill.cut = some c →
      (c.lasted = false → exec .cutApply s = .next s)
      ∧ (c.lasted = true → c.base = false → c.streamed = false →
        headerFault (lastN 64 c.pieces.flatten) c.pieces.flatten.length = coBadRecord → ∃ t, exec .cutApply s = .next t
          ∧ t.mill.cut = none ∧ t.get Reg.MILLRACE.STATUS.LAST_DISCARD = mdRecord ∧ t.get Reg.MILLRACE.EVENT.DISCARDED = 1
          ∧ t.mill.lastSeq = none ∧ t.agents = s.agents)
      ∧ (c.lasted = true → headerFault (lastN 64 c.pieces.flatten) c.pieces.flatten.length = 0 →
        (let secs := readSections (c.pieces.flatten.length + 1) (c.pieces.flatten.take (c.pieces.flatten.length - 64))
         (∀ r ∈ secs, r.good = true ∧ r.raw.isSome = true)
           ∧ ∀ i ∈ readAgents ((rawOf secs 1).length + 1) (rawOf secs 1), agentItemOk i = true) →
        ∃ t, exec .cutApply s = .next t ∧ t.mill.cut = none ∧ t.get Reg.MILLRACE.STATUS.IMAGE = miReady
          ∧ t.get Reg.MILLRACE.EVENT.COMMITTED = 1 ∧ t.mill.imageUe = false))
  ∧ (∀ (x : Src) (s : State), let rows : List (Instr × Nat) := [(.failover x, 1), (.loadOnly x, 2), (.resetImage x, 3), (.reseed x, 4)]
    let role := s.get Reg.MILLRACE.ROLE.ROLE
    let on := s.get Reg.MILLRACE.CTRL.ENABLE
    let period := s.get Reg.MILLRACE.PERIOD_REV.REVS
    ∀ ic ∈ rows, s.mayWrite x 0x44070 (BitVec.ofNat 32 ic.2) = true →
      let ans := fun (r : Nat) => ∃ t : State, exec ic.1 s = .next t ∧ t.get Reg.MILLRACE.RESTORE_CMD.RESULT = r ∧ t.mill = s.mill
        ∧ s.keeps t [Reg.MILLRACE.RESTORE_CMD.RESULT, Hdr.STATUS_PARITY_ERR Slot.MILLRACE] ∧ t.agents = s.agents
      (s.tossActive = true → ans rcBusy)
      ∧ (s.tossActive = false → s.parityOk Slot.MILLRACE = true →
        (ic.2 ≤ 2 → role ≠ mrApply → ans rcRole)
        ∧ (ic.2 ≤ 2 → role = mrApply → on ≠ 1 → ans rcState)
        ∧ (ic.2 ≤ 2 → role = mrApply → on = 1 → s.mill.restore = none → ∃ t : State, exec ic.1 s = .next t
          ∧ t.get Reg.MILLRACE.RESTORE_CMD.RESULT = rcAccepted
          ∧ t.get Reg.MILLRACE.RESTORE_STATUS.STATE = (if s.finished then 2 else 1)
          ∧ t.get Reg.MILLRACE.RESTORE_STATUS.OUTCOME = 0
          ∧ t.mill.restore = some (ic.2 == 2, s.get Reg.MILLRACE.HEAD.OFFSET, s.fc) ∧ t.agents = s.agents)
        ∧ (ic.2 = 3 → role = mrApply → ∃ t : State, exec ic.1 s = .next t ∧ t.get Reg.MILLRACE.RESTORE_CMD.RESULT = rcAccepted
          ∧ t.get Reg.MILLRACE.TAIL.OFFSET = s.get Reg.MILLRACE.HEAD.OFFSET % 2 ^ Reg.MILLRACE.TAIL.OFFSET.width
          ∧ t.get Reg.MILLRACE.STATUS.IMAGE = miNone ∧ t.mill.cut = none ∧ t.agents = s.agents)
        ∧ (ic.2 = 3 → role = mrSource → period ≠ 0 → ans rcState)
        ∧ (ic.2 = 3 → role = mrSource → period = 0 → ∃ t : State, exec ic.1 s = .next t
          ∧ t.get Reg.MILLRACE.RESTORE_CMD.RESULT = rcAccepted ∧ t.get Reg.MILLRACE.HEAD.OFFSET = 0 ∧ t.get Reg.MILLRACE.TAIL.OFFSET = 0
          ∧ t.mill.ring = [] ∧ t.agents = s.agents)
        ∧ (ic.2 = 4 → role ≠ mrSource → ans rcRole)
        ∧ (ic.2 = 4 → role = mrSource → period = 0 → ans rcState)
        ∧ (ic.2 = 4 → role = mrSource → period ≠ 0 → ∃ t : State, exec ic.1 s = .next t
          ∧ t.get Reg.MILLRACE.RESTORE_CMD.RESULT = rcAccepted ∧ t.mill.nextBase = true)))
  ∧ ∀ s : State,
    let ended := fun (t : State) (o : Nat) => t.mill.restore = none ∧ t.get Reg.MILLRACE.RESTORE_STATUS.OUTCOME = o
      ∧ t.get Reg.MILLRACE.RESTORE_STATUS.STATE = 0 ∧ t.get Reg.MILLRACE.CTRL.ENABLE = 0 ∧ t.get Reg.MILLRACE.EVENT.RESTORED = 1
    (s.mill.restore = none → exec .reloadDone s = .next s)
    ∧ (s.mill.waitTurn.isSome = true ∨ s.finished = false → exec .reloadDone s = .next s)
    ∧ (∀ lo h f, s.mill.restore = some (lo, h, f) → s.mill.waitTurn = none → s.finished = true → s.mill.cut = none → s.mill.imageUe = false →
      (s.get Reg.MILLRACE.STATUS.IMAGE = miNone → ∃ t : State, exec .reloadDone s = .next t ∧ ended t 3 ∧ t.agents = s.agents)
      ∧ (s.get Reg.MILLRACE.STATUS.IMAGE = miReady →
        let ags := readAgents (s.mill.imageState.length + 1) s.mill.imageState
        let l := s.loadAgents ags (readChannels (s.mill.imageChan.length + 1) s.mill.imageChan)
        (l.loadedTally (ags.map (·.1))).mismatches = 0 →
          (lo = true → ∃ t : State, exec .reloadDone s = .next t ∧ ended t 2)
          ∧ (lo = false → ∃ t : State, exec .reloadDone s = .next t ∧ t.mill.waitTurn = some s.wheel.turns
            ∧ t.get Reg.MILLRACE.RESTORE_STATUS.STATE = 3 ∧ t.mill.restore = s.mill.restore)))
    ∧ (s.mill.waitTurn = none → exec .failoverResume s = .next s)
    ∧ ∀ n, s.mill.waitTurn = some n → (s.wheel.turns ≤ n ∨ s.wheel.madeFc ≠ some s.fc → exec .failoverResume s = .next s)
      ∧ (n < s.wheel.turns → s.wheel.madeFc = some s.fc → ∃ t : State, exec .failoverResume s = .next t ∧ ended t 1)

/-- For a CU or CP that is active and not about to halt, with its encoder ON and room among the waiting entries: an outcome joins
a literal buffer of fewer than 99; the hundredth taken of 100 taken starts a run of 100; the hundredth of a mixed buffer sends
one literal BITS entry; a taken outcome extends a run, one not taken ends it with one run BITS entry (R359, R360). An indirect
transfer of an encoder with no outcomes sends one TARGET entry, with outcomes first the BITS entry that flushes them (R352,
R361); a step address has 16 bits. RUN_SATURATE of a run at 2^32 - 1 sends its BITS entry and leaves run mode; of another it
changes nothing (R360); with four entries waiting its entry is dropped and a SYNC LOST is due (R366, R367). With the encoder
not ON, or its conditions no longer true, no entry is produced and the encoder stays. Entries carry the agent, its class and
the payload of Tables 9-4 and 9-5. No other agent and no hub register changes. -/
def Obligations.FlowEncodersCode : Prop :=
  ∀ (a : AgentId) (s : State), agentType a.toNat = 1 ∨ agentType a.toNat = 6 → let n := a.toNat
    let e := (s.agent n).enc
    let only := fun (t : State) => (∀ b, b ≠ n → t.agent b = s.agent b) ∧ ∀ g : Fld, t.get g = s.get g
    let sent := fun (t : State) (l : List (Nat × Nat)) => (t.agent n).enc.waiting
      = e.waiting ++ l.map (fun p => (⟨n, traceEntry n (s.srcClass n) p.1 p.2, none⟩ : TItem))
    let may : Bool := s.agentActive n && (s.agent n).haltAt.isNone
    (may = true → s.encIsOn n = true → e.queued + 2 ≤ 4 →
      (∀ taken : Bool,
        (e.run = none → e.lits.length < 99 → ∃ t : State, exec (.branchOutcome a taken) s = .next t ∧ sent t [] ∧ only t
          ∧ (t.agent n).enc.lits = e.lits ++ [taken] ∧ (t.agent n).enc.run = none)
        ∧ (e.run = none → e.lits.length = 99 → (e.lits ++ [taken]).all id = true → ∃ t : State, exec (.branchOutcome a taken) s = .next t
          ∧ sent t [] ∧ only t ∧ (t.agent n).enc.lits = [] ∧ (t.agent n).enc.run = some 100)
        ∧ (e.run = none → e.lits.length = 99 → (e.lits ++ [taken]).all id = false → ∃ t : State, exec (.branchOutcome a taken) s = .next t
          ∧ sent t [(tyBits, literalBits (e.lits ++ [taken]))] ∧ only t ∧ (t.agent n).enc.lits = [] ∧ (t.agent n).enc.run = none)
        ∧ (∀ k, e.run = some k → k < 2 ^ 32 - 1 → ∃ t : State, exec (.branchOutcome a taken) s = .next t ∧ only t
          ∧ (taken = true → sent t [] ∧ (t.agent n).enc.run = some (k + 1))
          ∧ (taken = false → sent t [(tyBits, runBits k true)] ∧ (t.agent n).enc.run = none ∧ (t.agent n).enc.lits = [])))
      ∧ (∀ (kind : TransferKind) (fromPc target : BitVec 48), kind = .indirect ∨ agentType n = 6 →
        let pay := targetPayload kind fromPc.toNat (if agentType n = 1 then target.toNat % 65536 else target.toNat)
        (e.run = none → e.lits = [] → ∃ t : State, exec (.indirectTransfer a kind fromPc target) s = .next t ∧ sent t [(tyTarget, pay)]
          ∧ only t)
        ∧ (e.run = none → e.lits ≠ [] → ∃ t : State, exec (.indirectTransfer a kind fromPc target) s = .next t
          ∧ sent t [(tyBits, literalBits e.lits), (tyTarget, pay)] ∧ (t.agent n).enc.lits = [] ∧ only t)
        ∧ (∀ k, e.run = some k → ∃ t : State, exec (.indirectTransfer a kind fromPc target) s = .next t
          ∧ sent t [(tyBits, runBits k false), (tyTarget, pay)] ∧ (t.agent n).enc.run = none ∧ only t)))
    ∧ (may = true → s.encIsOn n = false → ∀ taken : Bool, ∃ t : State, exec (.branchOutcome a taken) s = .next t
      ∧ (t.agent n).enc = e ∧ only t)
    ∧ (∀ k, e.run = some k → 2 ^ 32 - 1 ≤ k → e.queued < 4 → ∃ t : State, exec (.runSaturate a) s = .next t
      ∧ sent t [(tyBits, runBits (2 ^ 32 - 1) false)] ∧ (t.agent n).enc.run = none ∧ only t)
    ∧ (∀ k, e.run = some k → 2 ^ 32 - 1 ≤ k → 4 ≤ e.queued → ∃ t : State, exec (.runSaturate a) s = .next t ∧ sent t []
      ∧ (t.agent n).enc.dropping = e.dropping ++ [traceEntry n (s.srcClass n) tyBits (runBits (2 ^ 32 - 1) false)]
      ∧ srLost ∈ (t.agent n).enc.reasons ∧ (t.agent n).enc.run = none ∧ only t)
    ∧ ((∀ k, e.run = some k → k < 2 ^ 32 - 1) → exec (.runSaturate a) s = .next s)

/-- For a CU or CP: ENCODER_ON of an encoder that is OFF and whose conditions hold (enabled, gate open, unit awake and not held),
with no gate change owed, makes it ON with empty buffers and a SYNC due, and else changes nothing; ENCODER_OFF of one that is
not OFF and whose conditions fail makes it OFF (R355). ENCODER_SLEEP of a unit that executes, its encoder ON with no outcomes,
sends SLEEP with its context; ENCODER_WAKE of a unit that is not held still, whose encoder is asleep and enabled, sends WAKE,
is ON, and owes a SYNC. SYNC at an instruction boundary, a reason pending and no outcomes held, sends one SYNC entry and
clears the reasons (R363, R364). PERIODIC_SYNC once SYNC_PERIOD entries are produced makes reason 0 pending, before that
nothing (R363). ENCODER_DROP reports the oldest dropped entry: DROP_CLASS counts it (R367). ENCODER_ENTRY_SEND puts the oldest
waiting entry on the ring when its segment has a slot for trace (R366, R395). DROP_NOTICE that is owed makes a SYNC LOST due
(R403); without one it changes nothing. -/
def Obligations.EncodersFollowTheirUnit : Prop :=
  ∀ (a : AgentId) (s : State), agentType a.toNat = 1 ∨ agentType a.toNat = 6 → let n := a.toNat
    let g := s.agent n
    let e := g.enc
    let h := agentHalf n
    let only := fun (t : State) => (∀ b, b ≠ n → t.agent b = s.agent b) ∧ ∀ f : Fld, t.get f = s.get f
    let sent := fun (t : State) (l : List (Nat × Nat)) => (t.agent n).enc.waiting
      = e.waiting ++ l.map (fun p => (⟨n, traceEntry n (s.srcClass n) p.1 p.2, none⟩ : TItem))
    (e.state = encOff → s.encEnabled n = true → e.gate = true → g.asleep = false → g.held = false → e.gateNews = 0 →
      ∃ t : State, exec (.encoderOn a) s = .next t ∧ (t.agent n).enc.state = encOn ∧ (t.agent n).enc.lits = []
        ∧ (t.agent n).enc.run = none ∧ srStart ∈ (t.agent n).enc.reasons ∧ sent t [] ∧ only t)
    ∧ (e.state ≠ encOff ∨ s.encEnabled n = false ∨ e.gate = false → exec (.encoderOn a) s = .next s)
    ∧ (e.state ≠ encOff → s.encEnabled n = false ∨ e.gate = false → ∃ t : State, exec (.encoderOff a) s = .next t
      ∧ (t.agent n).enc.state = encOff ∧ only t)
    ∧ (e.state = encOff ∨ (s.encEnabled n = true ∧ e.gate = true) → exec (.encoderOff a) s = .next s)
    ∧ (g.executes = true → s.encIsOn n = true → e.lits = [] → e.run = none → e.queued < 4 → ∃ t : State,
      exec (.encoderSleep a) s = .next t ∧ (t.agent n).asleep = true ∧ (t.agent n).enc.state = encAsleep
        ∧ sent t [(tySleep, 2 ^ 92 * g.ctx)] ∧ only t)
    ∧ (s.gatedNow n = false → g.frozen = false → g.halted = false → g.faulted = false → e.state = encAsleep → s.encEnabled n = true → e.gate = true → e.queued < 4 → ∃ t : State,
      exec (.encoderWake a) s = .next t ∧ (t.agent n).asleep = false ∧ (t.agent n).enc.state = encOn
        ∧ sent t [(tyWake, 2 ^ 92 * g.ctx)] ∧ srWake ∈ (t.agent n).enc.reasons ∧ only t)
    ∧ (∀ (pc : BitVec 48) (r : Nat), s.agentActive n = true → s.encIsOn n = true → e.lits = [] → e.run = none → e.queued < 4 →
      e.cmd = none → srOrder.find? (fun r => e.reasons.contains r) = some r → ∃ t : State, exec (.sync a pc none) s = .next t
        ∧ sent t [(tySync, syncPayload g.ctx r (if agentType n = 1 then pc.toNat % 65536 else pc.toNat) none)]
        ∧ (t.agent n).enc.reasons = [] ∧ (t.agent n).enc.sinceSync = 0 ∧ only t)
    ∧ (let p := s.cfg Reg.FLOW.SYNC_PERIOD.ENTRIES
      (p ≠ 0 → p ≤ e.sinceSync → s.encIsOn n = true → ∃ t : State, exec (.periodicSync a) s = .next t
        ∧ srPeriodic ∈ (t.agent n).enc.reasons ∧ sent t [] ∧ only t)
      ∧ (p = 0 ∨ e.sinceSync < p ∨ s.encIsOn n = false → exec (.periodicSync a) s = .next s))
    ∧ (∀ x rest, e.dropping = x :: rest → s.rankOf x < 4 → ∃ t : State, exec (.encoderDrop a) s = .next t
      ∧ (t.agent n).enc.dropping = rest ∧ (t.agent n).enc.reasons = e.reasons ∧ t.get Reg.FUNNEL.EVENT.DROP = 1
      ∧ t.get (Reg.FUNNEL.DROP_CLASS.COUNT (s.rankOf x)) = (s.get (Reg.FUNNEL.DROP_CLASS.COUNT (s.rankOf x)) + 1) % 2 ^ 32
      ∧ s.keeps t [Reg.FUNNEL.EVENT.DROP, Reg.FUNNEL.DROP_CLASS.COUNT (s.rankOf x)] ∧ ∀ b, b ≠ n → t.agent b = s.agent b)
    ∧ (∀ i rest, e.waiting = i :: rest → (∀ j ∈ rest.head?, j.mark = none) → s.slotFree n = true → ∃ t : State, exec (.encoderEntrySend a) s = .next t
      ∧ (t.agent n).enc.waiting = rest ∧ (t.fh h).inbox = (s.fh h).inbox ++ [(s.fc, i)] ∧ only t)
    ∧ (e.waiting = [] ∨ s.slotFree n = false → exec (.encoderEntrySend a) s = .next s)
    ∧ ((s.fh h).notices.contains n = true → ∃ t : State, exec (.dropNotice a) s = .next t ∧ srLost ∈ (t.agent n).enc.reasons
      ∧ (t.fh h).notices = (s.fh h).notices.erase n ∧ only t)
    ∧ ((s.fh h).notices.contains n = false → exec (.dropNotice a) s = .next s)

/-- For an active command engine: CMD_BEGIN of an idle one puts it in DISPATCH with the command's sequence number, descriptor,
deadline and flag, and where the engine is traced a CMD_BEGIN record with class, sequence number, tag and position stamp
enters the history, RECORDS counts and LAST_SEQ reads the number (R377, R380, R383); of a busy one its registers stay. CMD_END
of a busy one leaves it idle; an END past its deadline by the wrapping comparison of R381 is recorded as CMD_END_LATE with
LATE_COUNT and EVENT.LATE, another as CMD_END; an untraced engine records nothing. PCS_SAMPLE_DUE before PCS_PERIOD has
passed, or with the sampler off, changes nothing; due, it samples the next selected agent, or with an answer outstanding or
the agent's half out of reach counts SKIPPED and sets EVENT.PCS_SKIP (R385, R387). PCS_ANSWER without a sample outstanding
changes nothing; else its record reaches the agent's half (R386, R388). -/
def Obligations.CommandsAndSamplesAreRecorded : Prop :=
  (∀ (ce : BitVec 5) (s : State), let k := ce.toNat
    let a := ceAgent k
    let g := s.agent a
    let newest := fun (t : State) (type seq tag : Nat) =>
      t.get64 Reg.CMDTR.RECORDS_LO Reg.CMDTR.RECORDS_HI = (s.get64 Reg.CMDTR.RECORDS_LO Reg.CMDTR.RECORDS_HI + 1) % 2 ^ 64
      ∧ (s.trace.histFc ≠ some s.fc → t.get Reg.CMDTR.LAST_SEQ.SEQ = seq ∧ t.trace.history.getLast?
          = some (traceEntry a (s.cfg Reg.CMDTR.CLASS.CLASS) type (2 ^ 76 * seq + 2 ^ 28 * tag + s.wheel.stamp28)))
    let quiet := fun (t : State) => t.trace.history = s.trace.history
      ∧ t.get64 Reg.CMDTR.RECORDS_LO Reg.CMDTR.RECORDS_HI = s.get64 Reg.CMDTR.RECORDS_LO Reg.CMDTR.RECORDS_HI
    s.agentActive a = true →
    (∀ cmd : CommandInfo,
      (g.get AReg.CE_ST = ceIdle → ∃ t : State, exec (.cmdBegin ce cmd) s = .next t ∧ (t.agent a).get AReg.CE_ST = ceDispatch
        ∧ (t.agent a).get AReg.CE_SEQ = cmd.seq.toNat ∧ (t.agent a).get AReg.CE_DEADLINE = cmd.deadline.toNat
        ∧ (t.agent a).get AReg.CE_NP = bit cmd.np ∧ (t.agent a).get AReg.CE_DESC_LO = cmd.desc.toNat % 2 ^ 32
        ∧ (t.agent a).get AReg.CE_DESC_HI = cmd.desc.toNat / 2 ^ 32
        ∧ (s.cmdRecorded k = true → newest t tyCmdBegin cmd.seq.toNat (s.cmdTag cmd.desc.toNat cmd.layer.toNat cmd.op.toNat false))
        ∧ (s.cmdRecorded k = false → quiet t))
      ∧ (g.get AReg.CE_ST ≠ ceIdle → ∃ t : State, exec (.cmdBegin ce cmd) s = .next t ∧ quiet t
        ∧ (∀ f ∈ [AReg.CE_ST, AReg.CE_SEQ, AReg.CE_DESC_LO, AReg.CE_DESC_HI, AReg.CE_DEADLINE, AReg.CE_NP], (t.agent a).get f = g.get f)
        ∧ (∀ b, b ≠ a → t.agent b = s.agent b) ∧ ∀ f : Fld, t.get f = s.get f))
    ∧ ∀ ab : Bool, g.get AReg.CE_ST ≠ ceIdle →
      let late := endLate s.wheel.stamp28 (g.get AReg.CE_DEADLINE)
      let tag := s.cmdTag (2 ^ 32 * g.get AReg.CE_DESC_HI + g.get AReg.CE_DESC_LO) (g.get AReg.CE_LAYER) (g.get AReg.CE_OP) ab
      g.get AReg.CE_SEQ < 2 ^ 32 → ∃ t : State, exec (.cmdEnd ce ab) s = .next t ∧ (t.agent a).get AReg.CE_ST = ceIdle
        ∧ (t.agent a).get AReg.CE_NP = 0 ∧ (t.agent a).get AReg.CE_SEQ = g.get AReg.CE_SEQ
        ∧ (s.cmdRecorded k = false → quiet t)
        ∧ (s.cmdRecorded k = true → newest t (if late then tyCmdEndLate else tyCmdEnd) (g.get AReg.CE_SEQ) tag
          ∧ (late = true → s.counted t Reg.CMDTR.LATE_COUNT.COUNT 1 ∧ t.get Reg.CMDTR.EVENT.LATE = 1)))
  ∧ ∀ s : State,
    let due := s.cfg Reg.FLOW.PCS_CTRL.EN = 1 ∧ s.cfg Reg.FLOW.CTRL.ENABLE = 1 ∧ s.belowW0 = false
      ∧ s.trace.pcsLast + s.cfg Reg.FLOW.PCS_PERIOD.FC ≤ s.fc
    let next := findAgent s.pcsSelected Config.firstUnusedAgent (s.trace.pcsAgent + 1)
    (¬ due → exec .pcsSampleDue s = .next s)
    ∧ (∀ a, due → next = some a → ∃ t, exec .pcsSampleDue s = .next t ∧ t.trace.pcsLast = s.fc ∧ t.trace.pcsAgent = a
      ∧ t.trace.pcsSeq = (s.trace.pcsSeq + 1) % 4096 ∧ t.agents = s.agents
      ∧ (s.trace.pcsOut = none → s.halfReached (agentHalf a) = true → t.trace.pcsOut = some (a, s.wheel.stamp28 / 16, (s.trace.pcsSeq + 1) % 4096)
          ∧ ∀ f : Fld, t.get f = s.get f)
      ∧ (s.trace.pcsOut.isSome = true ∨ s.halfReached (agentHalf a) = false → t.trace.pcsOut = s.trace.pcsOut ∧ s.counted t Reg.FLOW.PCS_CTRL.SKIPPED 1
          ∧ t.get Reg.FLOW.EVENT.PCS_SKIP = 1 ∧ s.keeps t [Reg.FLOW.PCS_CTRL.SKIPPED, Reg.FLOW.EVENT.PCS_SKIP]))
    ∧ (∀ pc : Word, s.trace.pcsOut = none → exec (.pcsAnswer pc) s = .next s)
    ∧ ∀ (pc : Word) (a pos seq : Nat), s.trace.pcsOut = some (a, pos, seq) → agentType a = 6 → let h := agentHalf a
      let e := traceEntry a (s.cfg Reg.FLOW.PCS_CTRL.CLASS) tyPcs (format1 a (s.agentNow a).code seq (s.agentWord a 0x4A0 pc.toNat))
      s.cfg Reg.FLOW.FORMAT.FMT = 1 → s.funnelShut h = false → Sparse.has (s.fh h).lost (entrySource e) = false →
      mergeLow (s.fh h).merge < 384 → mergeCount (s.fh h).merge < 512 → ∃ t, exec (.pcsAnswer pc) s = .next t
        ∧ t.trace.pcsOut = none ∧ (∃ q, (t.fh h).merge = (s.fh h).merge ++ [q] ∧ q.item.bits = e ∧ q.item.mark = none ∧ q.rank = s.rankOf e)
        ∧ ∀ f : Fld, t.get f = s.get f

/-- For each half: FUNNEL_ARRIVAL takes the oldest item of the ring 2 fc or more after it left. At the end of its fc
(State.halfTick) an entry of a half that is open and has room (384 below rank 3, 512 in all), whose source is not marked lost,
joins the merge buffer; in a half that is shut it is dropped, counted in DROP_CLASS with EVENT.DROP (R396, R399, R404).
FUNNEL_WRITE in RING mode writes the oldest entry into the buffer once per fc, and ACCEPT counts, a LOST not among its
source's accepted entries (R4, R394, R397). LOST_PLACEMENT of the source whose turn it is, with fewer than 2 placed in this fc
and room, puts its LOST entry of rank 3 into the merge buffer (R400, R401). SPILL_UNIT_WRITE takes four entries of the FIFO to
the spill area, in another mode also fewer, with PAD entries (R407, R411). POST_TRIG_STOP of a TRIGGERED half at its stop
count, and FILL_STOP_FULL of a full buffer in FILL_STOP, make the half STOPPED with EVENT.STOPPED (R407, R413, R414).
TALLY_MARK_CHECK of a mark at the write point compares, at the end of its fc, G with A + D and records a failure (R422).
Without their condition they change nothing; no agent changes. -/
def Obligations.FunnelsKeepAndWriteEntries : Prop :=
  ∀ (half : Half) (s : State), let h := halfNo half
    let f := s.fh h
    let st := s.get (trigStateFld h)
    (f.inbox = [] → exec (.funnelArrival half) s = .next s)
    ∧ (∀ i rest, f.inbox = i :: rest →
      (i.1 + 2 ≤ s.fc → ∃ t, exec (.funnelArrival half) s = .next t ∧ (t.fh h).inbox = rest ∧ (t.fh h).arrivals = f.arrivals ++ [i.2]
        ∧ (t.fh h).merge = f.merge ∧ t.agents = s.agents ∧ ∀ g : Fld, t.get g = s.get g)
      ∧ (s.fc < i.1 + 2 → exec (.funnelArrival half) s = .next s))
    ∧ (∀ i, f.arrivals = [i] → f.checks = [] → i.mark = none → s.rankOf i.bits < 4 → s.arrivalRank i.bits < 4 →
      i.src = entrySource i.bits → let t := s.halfTick h
      let d := Reg.FUNNEL.DROP_CLASS.COUNT (s.arrivalRank i.bits)
      (s.funnelShut h = false → Sparse.has f.lost i.src = false → mergeLow f.merge < 384 → mergeCount f.merge < 512 →
        (t.fh h).arrivals = [] ∧ (t.fh h).merge = f.merge ++ [⟨i, s.rankOf i.bits, none, false⟩] ∧ t.agents = s.agents
          ∧ ∀ g : Fld, t.get g = s.get g)
      ∧ (s.funnelShut h = true → (t.fh h).arrivals = [] ∧ mergeCount (t.fh h).merge = mergeCount f.merge
        ∧ t.get Reg.FUNNEL.EVENT.DROP = 1 ∧ t.get d = (s.get d + 1) % 2 ^ 32 ∧ s.keeps t [Reg.FUNNEL.EVENT.DROP, d] ∧ t.agents = s.agents))
    ∧ (f.merge = [] ∨ f.wroteFc = some s.fc → exec (.funnelWrite half) s = .next s)
    ∧ (∀ q rest, f.merge = q :: rest → q.item.mark = none → s.cfg Reg.FUNNEL.MODE.MODE = 0 → s.test.test ≠ 1 → f.wr < traceEntries →
      st ≠ tsStopped → s.belowW0 = false → f.stopping = false → f.post = none → f.wroteFc ≠ some s.fc →
      ∃ t, exec (.funnelWrite half) s = .next t ∧ (t.fh h).merge = rest ∧ Sparse.get (t.fh h).buf f.wr 0 = q.entry
        ∧ (∀ i, i ≠ f.wr → Sparse.get (t.fh h).buf i 0 = Sparse.get f.buf i 0) ∧ (t.fh h).wr = (f.wr + 1) % traceEntries
        ∧ (t.fh h).wroteFc = some s.fc ∧ (q.lost.isSome = true → (t.fh h).acc = f.acc)
        ∧ t.get64 Reg.FUNNEL.ACCEPT_LO Reg.FUNNEL.ACCEPT_HI = (s.get64 Reg.FUNNEL.ACCEPT_LO Reg.FUNNEL.ACCEPT_HI + 1) % 2 ^ 64
        ∧ s.keeps t [Reg.FUNNEL.ACCEPT_LO, Reg.FUNNEL.ACCEPT_HI] ∧ t.agents = s.agents)
    ∧ (∀ a : AgentId,
      let may := s.funnelShut h = false ∧ f.nextLost = some a.toNat ∧ ¬ (f.placedFc = s.fc ∧ 2 ≤ f.placed)
      (may → mergeCount f.merge < 512 → ∃ t, exec (.lostPlacement half a) s = .next t ∧ Sparse.has (t.fh h).lost a.toNat = false
        ∧ (∃ q, (t.fh h).merge = f.merge ++ [q] ∧ q.item.src = a.toNat ∧ q.rank = 3
            ∧ q.lost = some (Sparse.get f.lost a.toNat ⟨0, 0, false⟩)) ∧ t.agents = s.agents ∧ ∀ g : Fld, t.get g = s.get g)
      ∧ (¬ may → exec (.lostPlacement half a) s = .next s))
    ∧ (4 ≤ f.fifo.length → f.stopping = false → ∃ t, exec (.spillUnitWrite half) s = .next t ∧ (t.fh h).fifo = f.fifo.drop 4
      ∧ t.mm.lastWrite = some (2 ^ 32 * s.cfg Reg.FUNNEL.SPILL_BASE_HI.ADDR + s.cfg Reg.FUNNEL.SPILL_BASE_LO + h * s.spillEntries * 16
          + 16 * f.spillWr, (f.fifo.take 4).flatMap (fun e => leBytes 16 e.toNat))
      ∧ s.keeps t [Reg.FUNNEL.EVENT.SPILL_WRAP] ∧ t.agents = s.agents)
    ∧ (f.fifo = [] → exec (.spillUnitWrite half) s = .next s)
    ∧ (f.fifo.length < 4 → f.stopping = false → f.flushing = false → s.cfg Reg.FUNNEL.MODE.MODE = 2 → s.get Reg.FUNNEL.CTRL.ENABLE = 1 →
      exec (.spillUnitWrite half) s = .next s)
    ∧ (f.fifo ≠ [] → f.fifo.length < 4 → f.stopping = false → s.cfg Reg.FUNNEL.MODE.MODE ≠ 2 → ∃ t, exec (.spillUnitWrite half) s = .next t
      ∧ (t.fh h).fifo = [] ∧ s.keeps t [Reg.FUNNEL.EVENT.SPILL_WRAP] ∧ t.agents = s.agents)
    ∧ (∀ n, f.post = some n → st = tsTriggered → s.postLimit ≤ n → s.cfg Reg.FUNNEL.MODE.MODE ≠ 2 →
      ∃ t, exec (.postTrigStop half) s = .next t ∧ t.get (trigStateFld h) = tsStopped ∧ t.get Reg.FUNNEL.EVENT.STOPPED = 1
        ∧ mergeCount (t.fh h).merge = 0 ∧ t.agents = s.agents)
    ∧ (f.post = none ∨ st ≠ tsTriggered → exec (.postTrigStop half) s = .next s)
    ∧ (s.cfg Reg.FUNNEL.MODE.MODE = 1 → f.wr = traceEntries → st ≠ tsStopped → ∃ t, exec (.fillStopFull half) s = .next t
      ∧ t.get (trigStateFld h) = tsStopped ∧ t.get Reg.FUNNEL.EVENT.STOPPED = 1
      ∧ t.get (if h = 0 then Reg.FUNNEL.TRIG_STATE.NORTH_FULL else Reg.FUNNEL.TRIG_STATE.SOUTH_FULL) = 1 ∧ t.agents = s.agents)
    ∧ (s.cfg Reg.FUNNEL.MODE.MODE ≠ 1 ∨ f.wr ≠ traceEntries → exec (.fillStopFull half) s = .next s)
    ∧ (∀ a : AgentId, ∃ t, exec (.tallyMarkCheck half a) s = .next t ∧ (t.fh h).checks = f.checks ++ [a.toNat] ∧ (t.fh h).merge = f.merge
      ∧ t.cut = s.cut ∧ t.agents = s.agents ∧ ∀ g : Fld, t.get g = s.get g)
    ∧ ∀ (a : AgentId) (q : Queued) (rest : List Queued) (g : Nat) (j : CutJob), f.arrivals = [] → f.checks = [a.toNat] →
      f.merge = q :: rest → q.item.src = a.toNat → (s.agent a.toNat).enc.dropping = [] → q.item.mark = some g → s.cut.job = some j →
      let t := s.halfTick h
      let sum := (Sparse.get f.acc a.toNat 0 + Sparse.get f.drp a.toNat 0) % 2 ^ 32
      (t.fh h).merge = rest ∧ (∃ k, t.cut.job = some k ∧ k.marks = j.marks - 1
        ∧ k.traceChecked = j.traceChecked + 1
        ∧ k.traceBad = (if g % 2 ^ 32 = sum then j.traceBad else j.traceBad ++ [(a.toNat, (g : Int) - sum)]))
        ∧ t.agents = s.agents ∧ ∀ g : Fld, t.get g = s.get g

/-- A trigger from a Cam, a break slot or TRIG_CMD joins those of its fc, with origin 2, 3 or 1; TRIG_CMD, with its write admitted
and no parity error, reads DONE where a half takes triggers and NO_EFFECT where none does. At the end of the fc
(State.takeTrigs) the one trigger of an fc makes both halves, if they were ARMED at its start, TRIGGERED with its ORIGIN and
sets EVENT.TRIGGERED; with neither ARMED it only counts MISSED (R412). STOP_NOW with a half not STOPPED, outside SPILL mode,
makes both STOPPED and reads DONE, with both STOPPED NO_EFFECT; REARM makes both ARMED and reads DONE; DISARM of halves that
are ARMED or TRIGGERED makes them DISARMED and reads DONE, with none NO_EFFECT (R415). FUNNEL_MODE_WRITE that changes only
PTR_HALF stores it; one of mode 3, or of SPILL with fewer than 128 units, is refused with reason 4 or 1 and EVENT.REFUSED; a
mode that is taken is stored and both halves are ARMED with empty write positions (R407, R409). No agent changes. -/
def Obligations.TraceTriggersAndModesAct : Prop :=
  (∀ (src : TrigSource) (s : State), (∀ x, src ≠ .access x) → let origin := match src with
      | .cam _ => 2
      | _ => 3
    ∃ t, exec (.traceTrigger src) s = .next t ∧ (∃ d p, t.trace = { s.trace with trigs := s.trace.trigs ++ [(origin, d, p)] })
      ∧ (∀ g : Fld, t.get g = s.get g) ∧ t.agents = s.agents)
  ∧ (∀ (o d : Nat) (p : Option Nat) (s : State), s.trace.trigs = [(o, d, p)] → 1 ≤ o → o ≤ 3 → let t := s.takeTrigs
    (s.trigTakes 0 = true → s.trigTakes 1 = true → s.get Reg.FUNNEL.TRIG_STATE.NORTH ≠ tsStopped →
      s.get Reg.FUNNEL.TRIG_STATE.SOUTH ≠ tsStopped →
      t.get Reg.FUNNEL.TRIG_STATE.NORTH = tsTriggered ∧ t.get Reg.FUNNEL.TRIG_STATE.SOUTH = tsTriggered
        ∧ t.get Reg.FUNNEL.TRIG_STATE.ORIGIN = o ∧ t.get Reg.FUNNEL.EVENT.TRIGGERED = 1 ∧ t.trace.trigs = [] ∧ t.agents = s.agents)
    ∧ (s.trigTakes 0 = false → s.trigTakes 1 = false → s.counted t Reg.FUNNEL.TRIG_STATE.MISSED 1
      ∧ s.keeps t [Reg.FUNNEL.TRIG_STATE.MISSED, Reg.FUNNEL.TRIG_CMD.RESULT] ∧ t.trace = { s.trace with trigs := [] } ∧ t.agents = s.agents))
  ∧ (∀ (x : Src) (s : State), s.parityOk Slot.FUNNEL = true →
    let may := fun (c : Nat) => s.mayWrite x 0x34048 (s.cmdWord 0x34048 c) = true
    let u := s.writeTurn x 0x34048 (s.cmdWord 0x34048 1)
    let north := s.get Reg.FUNNEL.TRIG_STATE.NORTH
    let south := s.get Reg.FUNNEL.TRIG_STATE.SOUTH
    let is := fun (t : State) (n m r : Nat) => t.get Reg.FUNNEL.TRIG_STATE.NORTH = n ∧ t.get Reg.FUNNEL.TRIG_STATE.SOUTH = m
      ∧ t.get Reg.FUNNEL.TRIG_CMD.RESULT = r ∧ t.agents = s.agents
    let down := fun (n : Nat) => if n = tsArmed ∨ n = tsTriggered then tsDisarmed else n
    (may 1 → ∃ t : State, exec (.traceTrigger (.access x)) s = .next t
      ∧ is t north south (if u.trigTakes 0 = true ∨ u.trigTakes 1 = true then 1 else 2)
      ∧ ∃ p, t.trace.trigs = s.trace.trigs ++ [(1, srcNo x, p)])
    ∧ (may 2 → (s.writeTurn x 0x34048 (s.cmdWord 0x34048 2)).cfg Reg.FUNNEL.MODE.MODE ≠ 2 → ∃ t : State, exec (.stopNow x) s = .next t
      ∧ is t tsStopped tsStopped (if north = tsStopped ∧ south = tsStopped then 2 else 1))
    ∧ (may 3 → ∃ t : State, exec (.rearm x) s = .next t ∧ is t tsArmed tsArmed 1 ∧ t.trace.promoted = none)
    ∧ (may 4 → ∃ t : State, exec (.disarm x) s = .next t ∧ is t (down north) (down south)
      (if north = tsArmed ∨ north = tsTriggered ∨ south = tsArmed ∨ south = tsTriggered then 1 else 2)))
  ∧ ∀ (x : Src) (d : Word) (s : State), s.mayWrite x 0x34040 d = true → s.parityOk Slot.FUNNEL = true →
    let u := s.writeTurn x 0x34040 d
    let m := d.toNat % 4
    let refused := fun (r : Nat) => ∃ t : State, exec (.funnelModeWrite x d) s = .next t ∧ t.get Reg.FUNNEL.STATUS.REFUSE = r
      ∧ t.get Reg.FUNNEL.EVENT.REFUSED = 1 ∧ t.trace = s.trace ∧ t.agents = s.agents
      ∧ s.keeps t [Reg.FUNNEL.STATUS.REFUSE, Reg.FUNNEL.EVENT.REFUSED, Hdr.STATUS_PARITY_ERR Slot.FUNNEL]
    let ptr := bits d.toNat 8 8
    (m = s.get Reg.FUNNEL.MODE.MODE → ptr ≠ s.get Reg.FUNNEL.MODE.PTR_HALF → ∃ t : State, exec (.funnelModeWrite x d) s = .next t
      ∧ t.get Reg.FUNNEL.MODE.PTR_HALF = ptr ∧ t.trace = s.trace
      ∧ s.keeps t [Reg.FUNNEL.MODE.PTR_HALF, Hdr.STATUS_PARITY_ERR Slot.FUNNEL] ∧ t.agents = s.agents)
    ∧ (m ≠ s.get Reg.FUNNEL.MODE.MODE ∨ ptr = s.get Reg.FUNNEL.MODE.PTR_HALF →
    (m = 3 → refused 4)
    ∧ (m = 2 → u.cfg Reg.FUNNEL.SPILL_SIZE.UNITS < 128 → refused 1)
    ∧ (m < 2 → ∃ t : State, exec (.funnelModeWrite x d) s = .next t ∧ t.get Reg.FUNNEL.MODE.MODE = m
      ∧ t.get Reg.FUNNEL.TRIG_STATE.NORTH = tsArmed ∧ t.get Reg.FUNNEL.TRIG_STATE.SOUTH = tsArmed
      ∧ (∀ h ≤ 1, (t.fh h).wr = 0 ∧ (t.fh h).wrapped = false ∧ (t.fh h).trigPtr = none) ∧ t.agents = s.agents))

/-- ROLLUP_REQUEST in the fc of a boundary whose count is a multiple of ROLLUP_PERIOD, with rollups enabled, the hub in W0 or W1
and the boundary not taken before: with no rollup in progress and no PCNT_SUM counter counting, a rollup starts with this
revolution and fc, and every agent of a region in a half that can be reached has latched (its base the counts of now, no
switch record left), the others being counted as skipped (R426, R427, R430); with one in progress MERGED counts and this one
waits (R429); else nothing changes. ROLLUP_COMPLETE with none in progress changes nothing; else every region's total of every
kind has grown by the region's increments modulo 2^64, LAST_ROLLUP reads the boundary's count and EVENT.ROLLUP is set (R427,
R428). CONTEXT_SEL_WRITE with ASSIGN: an entry of 30 or more reads BAD_ENTRY, a context held by or pending for another entry
DUP, and otherwise the assignment is PENDING with its entry; without ASSIGN the entry is selected (R435). GATHER_REQUEST at an
agent that the counter owns and that has not answered hands A_PCNT over: the gather grows by what the agent gives up, and
without an increment in this fc the agent's counter reads 0 (R439); at another agent, or with no gather, nothing changes.
GATHER_COMPLETE with every agent answered adds the sum to the counter modulo 2^64 and ends the gather.
COMMAND_BOUNDARY_SNAPSHOT of a HUB or BUS_EVENT counter that owes one puts its value into the snapshot bank, VALID and RESET,
and the counter goes on without it; of a PCNT_SUM counter it issues a gather; else nothing changes (R442, R443). SNAP and
SNAP_RESET with SCORE disabled read 3; with no PCNT_SUM counter, no EMIT and none waiting they snapshot every HUB and
BUS_EVENT counter at its start-of-fc value with the position stamp, SNAP_SEQ counts and RESULT reads DONE (R444).
COUNTER_CONFIG_WRITE restarts the counter at 0, COUNTER_VALUE_WRITE sets it to the staged high and the low word (R438). -/
def Obligations.ScoreboardRollsUpGathersAndSnaps : Prop :=
  ((∀ s : State, let p := s.cfg Reg.SCORE.ROLLUP_PERIOD.REVS
      let due := s.cfg Reg.SCORE.AON_CTRL.ROLLUP_EN = 1 ∧ s.wheel.rev % p = 0 ∧ s.wheel.madeFc = some s.fc
        ∧ s.score.lastTurn ≠ some s.wheel.turns ∧ s.power ≤ 1
      (¬ due → exec .rollupRequest s = .next s)
      ∧ (due → (∀ n ∈ counters, s.counting n ckPcnt = false) →
        (s.score.rollup = none → s.fc - s.score.latchN < 2 ^ 32 → s.fc - s.score.latchS < 2 ^ 32 → ∃ t, exec .rollupRequest s = .next t
          ∧ (∃ l, t.score.rollup = some ⟨s.wheel.rev, s.fc,
              (if s.halfReached 0 then 0 else halfAgents) + (if s.halfReached 1 then 0 else halfAgents), l⟩)
          ∧ t.score.lastTurn = some s.wheel.turns
          ∧ (s.canon → ∀ e ∈ s.agents, (agentRegion e.1).isSome = true → s.halfReached (agentHalf e.1) = true →
            (t.agent e.1).switches = [] ∧ (t.agent e.1).switchBase = (s.agentNow e.1).aon)
          ∧ ∀ f : Fld, t.get f = s.get f)
        ∧ (s.score.rollup.isSome = true → ∃ t, exec .rollupRequest s = .next t ∧ t.score.rollup = s.score.rollup
          ∧ t.score.waiting = some (s.wheel.rev, s.fc) ∧ s.counted t Reg.SCORE.STATUS.MERGED 1
          ∧ s.keeps t [Reg.SCORE.STATUS.MERGED] ∧ t.agents = s.agents)))
    ∧ (∀ s : State, (s.score.rollup = none → exec .rollupComplete s = .next s)
      ∧ ∀ r : Rollup, s.score.rollup = some r → s.score.waiting = none → (∀ i ∈ r.incs, i.1 < 16) →
        ∃ t, exec .rollupComplete s = .next t ∧ t.score.rollup = none ∧ t.score.rolled = true
          ∧ t.get Reg.SCORE.LAST_ROLLUP.REV = r.rev % 2 ^ Reg.SCORE.LAST_ROLLUP.REV.width ∧ t.get Reg.SCORE.EVENT.ROLLUP = 1
          ∧ (∀ g < 16, ∀ k < 4, t.get64 (regionTotal g k).1 (regionTotal g k).2 % 2 ^ 64
              = (s.get64 (regionTotal g k).1 (regionTotal g k).2 + ((r.incs.filter (fun i => i.1 == g)).map (fun i => i.2.2.getD k 0)).sum) % 2 ^ 64)
          ∧ t.agents = s.agents)
    ∧ ∀ (x : Src) (d : Word) (s : State), s.mayWrite x 0x38048 d = true →
      let e := bits d.toNat 20 16
      let c := d.toNat % 65536
      let dup := s.score.ctxs.any (fun q => q.2 == c && q.1 != e) || s.score.pend.any (fun q => q.2.1 == c && q.1 != e)
      let only := fun (t : State) => s.keeps t [Reg.SCORE.CONTEXT_SEL.DUP, Reg.SCORE.CONTEXT_SEL.BAD_ENTRY, Reg.SCORE.CONTEXT_SEL.PENDING,
        Reg.SCORE.CONTEXT_SEL.ENTRY, Hdr.STATUS_PARITY_ERR Slot.SCORE] ∧ t.agents = s.agents
      (testBit d.toNat 31 = true →
        (30 ≤ e → ∃ t : State, exec (.contextSelWrite x d) s = .next t ∧ t.get Reg.SCORE.CONTEXT_SEL.BAD_ENTRY = 1
          ∧ t.score = s.score ∧ only t)
        ∧ (e < 30 → dup = true → ∃ t : State, exec (.contextSelWrite x d) s = .next t ∧ t.get Reg.SCORE.CONTEXT_SEL.DUP = 1
          ∧ t.score = s.score ∧ only t)
        ∧ (e < 30 → dup = false → ∃ t : State, exec (.contextSelWrite x d) s = .next t
          ∧ t.get Reg.SCORE.CONTEXT_SEL.PENDING = 1 ∧ t.get Reg.SCORE.CONTEXT_SEL.ENTRY = e ∧ t.score.pend = s.score.pend.filter (fun q => q.1 != e) ++ [(e, c, s.fc)] ∧ only t))
      ∧ (testBit d.toNat 31 = false → ∃ t : State, exec (.contextSelWrite x d) s = .next t ∧ t.get Reg.SCORE.CONTEXT_SEL.ENTRY = e
        ∧ t.score = s.score ∧ only t))
  ∧ ((∀ (n : BitVec 6) (a : AgentId) (s : State), agentType a.toNat ≠ 0 →
      let o := s.score.gathers.find? (fun g => g.counter == n.toNat && !g.answered.contains a.toNat)
      let f := AReg.A_PCNT (s.cfg (Reg.SCORE.CNT_EVENT.AGENT n.toNat) % 2)
      (o = none ∨ s.ownsAgent n.toNat a.toNat = false ∨ s.halfReached (agentHalf a.toNat) = false → exec (.gatherRequest n a) s = .next s)
      ∧ (∀ g, o = some g → s.ownsAgent n.toNat a.toNat = true → s.halfReached (agentHalf a.toNat) = true → ∃ t, exec (.gatherRequest n a) s = .next t
        ∧ ((s.agentNow a.toNat).pcntFc ≠ s.fc → (s.agentNow a.toNat).get f < 2 ^ 32 → (t.agent a.toNat).get f = 0
            ∧ ∃ h ∈ t.score.gathers, h.counter = n.toNat ∧ h.sum = g.sum + (s.agentNow a.toNat).get f ∧ h.answered = a.toNat :: g.answered)
        ∧ (∀ b, b ≠ a.toNat → t.agent b = s.agent b) ∧ ∀ f : Fld, t.get f = s.get f))
    ∧ (∀ (n : BitVec 6) (s : State),
      let v := s.get64 (Reg.SCORE.CNT_LO n.toNat) (Reg.SCORE.CNT_HI n.toNat)
      (s.score.gathers.find? (fun g => g.counter == n.toNat) = none → exec (.gatherComplete n) s = .next s)
      ∧ (∀ g, s.score.gathers.find? (fun g => g.counter == n.toNat) = some g → g.snap = false → g.stamped = false →
        (∀ e ∈ s.agents, s.ownsAgent n.toNat e.1 = true → s.halfReached (agentHalf e.1) = true → g.answered.contains e.1 = true) → ∃ t, exec (.gatherComplete n) s = .next t
          ∧ t.get64 (Reg.SCORE.CNT_LO n.toNat) (Reg.SCORE.CNT_HI n.toNat) = (v + g.sum) % 2 ^ 64
          ∧ t.score.gathers = s.score.gathers.erase g ∧ s.keeps t [] ∧ t.agents = s.agents)
      ∧ (s.score.due.find? (fun b => b.counter == n.toNat) = none ∨ s.boundaryTurn n.toNat = false → exec (.commandBoundarySnapshot n) s = .next s)
      ∧ ∀ b, s.score.due.find? (fun b => b.counter == n.toNat) = some b → s.boundaryTurn n.toNat = true →
        (s.cfg (Reg.SCORE.CNT_SRC.KIND n.toNat) ≠ ckPcnt → s.cfg (Reg.SCORE.CNT_SRC.EMIT n.toNat) = 0 →
          ∃ t, exec (.commandBoundarySnapshot n) s = .next t ∧ t.score.due = s.score.due.erase b
            ∧ t.get64 (Reg.SCORE.CNT_SNAP_LO n.toNat) (Reg.SCORE.CNT_SNAP_HI n.toNat) = b.value % 2 ^ 64
            ∧ t.get (Reg.SCORE.CNT_SNAP_TAG n.toNat) = b.tag % 2 ^ 32 ∧ t.get (Reg.SCORE.CNT_SNAP_FLAGS.VALID n.toNat) = 1
            ∧ t.get (Reg.SCORE.CNT_SNAP_FLAGS.RESET n.toNat) = 1 ∧ t.get (Reg.SCORE.CNT_SNAP_FLAGS.NO_PREV n.toNat) = bit b.noPrev
            ∧ (b.value ≤ v → v < 2 ^ 64 → s.score.rebased.contains n.toNat = false → s.score.resets.contains n.toNat = false →
              t.get64 (Reg.SCORE.CNT_LO n.toNat) (Reg.SCORE.CNT_HI n.toNat) = v - b.value) ∧ t.agents = s.agents)
        ∧ (s.cfg (Reg.SCORE.CNT_SRC.KIND n.toNat) = ckPcnt → ∃ t, exec (.commandBoundarySnapshot n) s = .next t
          ∧ t.score.gathers = s.score.gathers ++ [⟨n.toNat, 0, [], true, b.tag, false, true, b.noPrev⟩]
          ∧ (∀ f : Fld, t.get f = s.get f) ∧ t.agents = s.agents))
    ∧ (∀ (x : Src) (s : State), ∀ ic ∈ ([(.snap x, 1), (.snapReset x, 2)] : List (Instr × Nat)),
      s.mayWrite x 0x38050 (BitVec.ofNat 32 ic.2) = true → let u := s.writeTurn x 0x38050 (BitVec.ofNat 32 ic.2)
      (u.cfg Reg.SCORE.CTRL.ENABLE = 0 → ∃ t : State, exec ic.1 s = .next t ∧ t.get Reg.SCORE.SNAP_CMD.RESULT = 3 ∧ t.score = s.score
        ∧ s.keeps t [Reg.SCORE.SNAP_CMD.RESULT, Hdr.STATUS_PARITY_ERR Slot.SCORE] ∧ t.agents = s.agents)
      ∧ (u.cfg Reg.SCORE.CTRL.ENABLE = 1 → s.parityOk Slot.SCORE = true → s.score.snapWait = 0 → s.score.bounded = [] →
        (∀ m ∈ counters, u.cfg (Reg.SCORE.CNT_SRC.KIND m) ≠ ckPcnt ∧ u.cfg (Reg.SCORE.CNT_SRC.EMIT m) = 0) →
        ∃ t : State, exec ic.1 s = .next t ∧ t.get Reg.SCORE.SNAP_CMD.RESULT = srDone ∧ t.get Reg.SCORE.EVENT.SNAP = 1
          ∧ t.get Reg.SCORE.SNAP_SEQ.COUNT = (s.get Reg.SCORE.SNAP_SEQ.COUNT + 1) % 2 ^ 32 ∧ t.agents = s.agents
          ∧ ∀ m ∈ counters, u.cfg (Reg.SCORE.CNT_SRC.KIND m) = ckHub ∨ u.cfg (Reg.SCORE.CNT_SRC.KIND m) = ckBus →
            t.get64 (Reg.SCORE.CNT_SNAP_LO m) (Reg.SCORE.CNT_SNAP_HI m) = u.cntStart m % 2 ^ 64
            ∧ t.get (Reg.SCORE.CNT_SNAP_TAG m) = s.wheel.stamp28 % 2 ^ 32 ∧ t.get (Reg.SCORE.CNT_SNAP_FLAGS.VALID m) = 1
            ∧ t.get (Reg.SCORE.CNT_SNAP_FLAGS.STAMPED m) = 1 ∧ t.get (Reg.SCORE.CNT_SNAP_FLAGS.RESET m) = ic.2 - 1))
    ∧ ∀ (x : Src) (n : BitVec 6) (d : Word) (s : State), let m := n.toNat
      (s.mayWrite x (0x38100 + 16 * m) d = true → ∃ t, exec (.counterConfigWrite x n d) s = .next t
        ∧ t.get64 (Reg.SCORE.CNT_LO m) (Reg.SCORE.CNT_HI m) = 0 ∧ Sparse.get t.score.base m ⟨1, 1, 1⟩ = ⟨0, 0, 0⟩
        ∧ t.get (Reg.SCORE.CNT_SRC.KIND m) = d.toNat % 8 ∧ t.get (Reg.SCORE.CNT_SRC.REGIONS m) = d.toNat / 65536 ∧ t.agents = s.agents)
      ∧ (s.mayWrite x (0x38108 + 16 * m) d = true →
        let u := s.writeTurn x (0x38108 + 16 * m) d
        (Sparse.get u.hw (Reg.SCORE.CNT_LO m).key (0, 0)).2 = 0 →
        let h := (s.stageOf x (0x38108 + 16 * m)).getD (u.cfg (Reg.SCORE.CNT_HI m))
        h < 2 ^ 32 → ∃ t, exec (.counterValueWrite x n d) s = .next t
          ∧ t.get64 (Reg.SCORE.CNT_LO m) (Reg.SCORE.CNT_HI m) = 2 ^ 32 * h + d.toNat ∧ t.agents = s.agents))

/-- TAP_BEAT on the tapped port of an active MU whose tap counts, in W0, with a valid format and RANGE 0, is reduced into the
beats of its fc, which join the open interval in the next, and with the tap not counting leaves it (R457, R462).
TAP_CONFIG_PUSH reaches the agent with the slot's configuration (R453). A new command closes the interval of a tap in COMMAND
mode: a result with the old command's tag, the next sequence number and the statistics without the beats of this fc is held,
and the interval is empty again (R462, R463). CLOSE_NOW, past its checks, sends the slot's agent a MANUAL request stamped with
the position. TAP_RESULT_ARRIVAL in W0 of a result that the slot accepts counts RESULTS, sets EVENT.RESULT and is what the
slot holds; one that it does not accept counts REJECTED; the agent gives up its oldest held result (R464, R465).
RESULT_SEL_WRITE shows the selected slot's result of an earlier fc (R466). TAP_FLUSH_DONE of a segment that owes it drops its
agents' results, counted in DISCARDS (R469). Without their object they change nothing. -/
def Obligations.TapsReduceAndReport : Prop :=
  (∀ (a : AgentId) (s : State), agentType a.toNat = 2 → let n := a.toNat
    let g := s.agent n
    let v := g.tapNow s.fc
    let counts : Bool := tapOpen v && tapOpen g.tapView
    let only := fun (t : State) => (∀ b, b ≠ n → t.agent b = s.agent b) ∧ ∀ f : Fld, t.get f = s.get f
    (∀ b : Beat, s.agentActive n = true →
      (counts = true → s.power = 0 → v.port = b.port.toNat → v.fmt < 11 → v.conf.range = 0 →
        ∃ t : State, exec (.tapBeat a b) s = .next t
          ∧ (tapFresh g.tap s.fc = none → (t.agent n).tap.stats = tapClosing g.tap s.fc
              ∧ (t.agent n).tap.fresh = some (s.fc, ({} : TapStats).beat v.conf v.fmt v.maskEn b))
          ∧ (∀ f x, tapFresh g.tap s.fc = some (f, x) → (t.agent n).tap.stats = g.tap.stats
              ∧ (t.agent n).tap.fresh = some (s.fc, x.beat v.conf v.fmt v.maskEn b))
          ∧ (t.agent n).tap.held = g.tap.held ∧ only t)
      ∧ (counts = false → ∃ t : State, exec (.tapBeat a b) s = .next t ∧ (t.agent n).tap = g.tap ∧ only t))
    ∧ (∀ q : Word, v.conf.close = 0 → g.tap.cmd ≠ q.toNat → tapOpen v = true → g.tap.held = [] → g.tap.closeFc ≠ some s.fc →
      g.tap.loaded = none →
      ∃ t : State, exec (.tapClose a (.command q)) s = .next t ∧ (t.agent n).tap.stats = {} ∧ (t.agent n).tap.cmd = q.toNat
        ∧ (t.agent n).tap.seq = (g.tap.seq + 1) % 65536
        ∧ (∃ r, (t.agent n).tap.held = [r] ∧ r.agent = n ∧ r.cause = tcCommand ∧ r.tag = g.tap.cmd ∧ r.firstTag = g.tap.cmd
            ∧ r.seq = (g.tap.seq + 1) % 65536 ∧ r.stats = tapClosing g.tap s.fc ∧ r.fmt = v.fmt ∧ r.merges = 0
            ∧ r.slot = v.slot ∧ r.restored = g.tap.restored) ∧ only t)
    ∧ (g.tap.reqs = [] → exec (.tapClose a .manual) s = .next s ∧ exec (.tapClose a .revolution) s = .next s)
    ∧ (∀ age : Nat, g.tap.held = [] ∨ s.power ≠ 0 → exec (.tapResultArrival a age) s = .next s)
    ∧ ∀ (age : Nat) (r : TapResult) (rest : List TapResult), g.tap.held = r :: rest → s.power = 0 →
      s.tw.flushing.contains (muSegment n) = false → r.slot < 64 → ∃ t : State, exec (.tapResultArrival a age) s = .next t
        ∧ (t.agent n).tap.held = rest ∧ (∀ b, b ≠ n → t.agent b = s.agent b)
        ∧ (s.tapAccepts r = true → t.get Reg.TWATCH.EVENT.RESULT = 1
            ∧ t.get (TapSlot.RESULTS r.slot) = (s.get (TapSlot.RESULTS r.slot) + 1) % 2 ^ 32
            ∧ Sparse.get t.tw.held r.slot ⟨r, true, 0, 0, s.fc + 1⟩
              = ⟨r, decide (4096 < age), min age 65535, 2 ^ 32 * s.wheel.posHi + s.wheel.posLo, s.fc⟩)
        ∧ (s.tapAccepts r = false → t.get Reg.TWATCH.EVENT.REJECTED = 1 ∧ t.tw = s.tw
            ∧ t.get (TapSlot.REJECTED r.slot) = (s.get (TapSlot.REJECTED r.slot) + 1) % 2 ^ 32))
  ∧ (∀ (slot : BitVec 6) (s : State),
    (s.tw.pushes.find? (fun p => p.1 == slot.toNat) = none → exec (.tapConfigPush slot) s = .next s)
    ∧ ∀ p, s.tw.pushes.find? (fun p => p.1 == slot.toNat) = some p → tapOpen ((s.agent p.2.1).tapNow s.fc) = false →
      ∃ t, exec (.tapConfigPush slot) s = .next t ∧ t.tw.pushes = s.tw.pushes.erase p
        ∧ (p.2.2.enable = true → (t.agent p.2.1).tap.conf = p.2.2 ∧ (t.agent p.2.1).get AReg.A_TAP_FMT.FORMAT = p.2.2.fmt % 16)
        ∧ (p.2.2.enable = false → (t.agent p.2.1).tap.conf.enable = false)
        ∧ (∀ b, b ≠ p.2.1 → t.agent b = s.agent b) ∧ ∀ f : Fld, t.get f = s.get f)
  ∧ (∀ (x : Src) (d : Word) (s : State), s.mayWrite x 0x3C044 (d ||| 2) = true → s.parityOk Slot.TWATCH = true →
    let n := s.get Reg.TWATCH.TAP_SEL.SLOT
    let a := bits d.toNat 31 18
    (s.writeTurn x 0x3C044 (d ||| 2)).cfg Reg.TWATCH.CTRL.ENABLE = 1 → agentType a = 2 → n < 64 → ∃ t, exec (.closeNow x d) s = .next t
      ∧ (t.agent a).tap.reqs = (s.agent a).tap.reqs ++ [(tcManual, s.wheel.stamp28)] ∧ (∀ b, b ≠ a → t.agent b = s.agent b)
      ∧ t.get (TapSlot.AGENT n) = a ∧ t.get (TapSlot.ENABLE n) = d.toNat % 2)
  ∧ (∀ (x : Src) (d : Word) (s : State), s.mayWrite x 0x3C050 d = true → let n := bits d.toNat Reg.TWATCH.RESULT_SEL.SLOT.hi Reg.TWATCH.RESULT_SEL.SLOT.lo
    ∃ t, exec (.resultSelWrite x d) s = .next t ∧ t.get Reg.TWATCH.RESULT_SEL.SLOT = n ∧ t.tw.held = s.tw.held ∧ t.agents = s.agents
      ∧ (∀ e, s.tw.held.find? (fun e => e.1 == n) = some e → e.2.fc ≠ s.fc → ∀ b < 5, ∀ w < 11, (b = 4 → w < 5) →
          Sparse.get t.tw.window (16 * b + w) 0 = e.2.word b w)
      ∧ (s.tw.held.find? (fun e => e.1 == n) = none → ∀ b < 4, ∀ w < 11, Sparse.get t.tw.window (16 * b + w) 0 = 0))
  ∧ ∀ (half : Half) (column : BitVec 7) (s : State), let seg := 96 * halfNo half + column.toNat
    (s.tw.flushing.contains seg = false ∨ 96 ≤ column.toNat → exec (.tapFlushDone half column) s = .next s)
    ∧ (s.tw.flushing.contains seg = true → column.toNat < 96 → ∃ t, exec (.tapFlushDone half column) s = .next t
      ∧ t.tw.flushing = s.tw.flushing.erase seg
      ∧ (∀ b, (agentType b = 2 ∧ muSegment b = seg → (t.agent b).tap.held = []) ∧ (¬ (agentType b = 2 ∧ muSegment b = seg) → t.agent b = s.agent b))
      ∧ s.keeps t [Reg.TWATCH.STATUS.DISCARDS])

/-- UNIT_ALARM of an agent that is not held, whose wait count has reached the limit pushed to it, not alarmed before and in W0 or
W1, sends one alarm (R472); else it changes nothing. UNIT_ALARM_ARRIVAL takes an alarm that waits; with HANG enabled the unit
watchdog expires in it at once. The rows of the other three watchdogs, when due (a command past its notches while its engine
is not frozen; the revolution or firmware count at its limit), note the expiry, and change nothing else of HANG's registers;
undue they change nothing. What is noted takes effect at the end of the fc, in State.wdTick. Each expiry counts EXPIRIES, sets
the kind's EVENT and expired bit (R482); with the bit clear before, the subject is recorded; with the bit set or an action
below COLLECT nothing else happens; with COLLECT, of a RUNNING Whistle that can be driven and no collection in progress,
STOP_ALL from source 4 is driven and a collection is owed (R483, R484). UNIT_LIMIT_PUSH with HANG enabled stores UNIT_WD_FC
and pushes it (R473); KICK, without a parity error, is noted, and at the end of the fc the firmware watchdog's count is 0
(R476). No agent changes but the one that alarms. -/
def Obligations.WatchdogsAlarmAndExpire : Prop :=
  (∀ (a : AgentId) (s : State), agentType a.toNat ≠ 0 → let g := s.agentNow a.toNat
    let due := s.wdReached g.wdCount = true ∧ g.alarmed = false ∧ g.isHeld = false ∧ s.power ≤ 1
    (due → ∃ t, exec (.unitAlarm a) s = .next t ∧ t.hang = { s.hang with alarms := s.hang.alarms ++ [a.toNat] }
      ∧ (t.agent a.toNat).alarmed = true ∧ s.onlyAgent t a.toNat)
    ∧ (¬ due → exec (.unitAlarm a) s = .next s))
  ∧ (∀ (a : AgentId) (s : State), agentType a.toNat ≠ 0 →
    (s.hang.alarms.contains a.toNat = false → exec (.unitAlarmArrival a) s = .next s)
    ∧ (s.hang.alarms.contains a.toNat = true → ∃ t, exec (.unitAlarmArrival a) s = .next t
      ∧ t.hang.alarms = s.hang.alarms.erase a.toNat
      ∧ (s.cfg Reg.HANG.CTRL.ENABLE ≠ 1 → s.keeps t [] ∧ t.agents = s.agents)
      ∧ (s.cfg Reg.HANG.CTRL.ENABLE = 1 → s.expired t wdUnit a.toNat)))
  ∧ (∀ (k : BitVec 5) (s : State),
    let cmdDue : Bool := s.wdRuns && s.cfg Reg.HANG.CMD_WD_NOTCH.NOTCHES != 0 && Sparse.has s.hang.cmdWd k.toNat
      && !(s.agent (ceAgent k.toNat)).frozen
      && decide (Sparse.get s.hang.cmdWd k.toNat 0 + s.cfg Reg.HANG.CMD_WD_NOTCH.NOTCHES ≤ s.wheel.notchCount)
    let rows : List (Instr × Nat × Nat × Bool) := [(.cmdWatchdogExpire k, wdCmd, k.toNat, cmdDue),
      (.revWatchdogExpire, wdRev, 0, s.hang.revDue.isSome), (.fwWatchdogExpire, wdFw, 0, s.hang.fwDue)]
    ∀ r ∈ rows,
      (r.2.2.2 = false → exec r.1 s = .next s)
      ∧ (r.2.2.2 = true → ∃ t, exec r.1 s = .next t ∧ t.agents = s.agents ∧ s.sameRegs t
        ∧ t.hang.taken = insertTaken (r.2.1, r.2.2.1) s.hang.taken
        ∧ t.hang.cmdWd = (if r.2.1 = wdCmd then Sparse.del s.hang.cmdWd k.toNat else s.hang.cmdWd)
        ∧ t.hang.ended = s.hang.ended ∧ t.hang.kicked = s.hang.kicked))
  ∧ (∀ (w u : Nat) (s : State), 2 ≤ w → w ≤ 4 → s.hang.taken = [(w, u)] → s.hang.ended = false →
    s.expired s.wdTick w u ∧ s.wdTick.hang.taken = [] ∧ s.wdTick.hang.kicked = false
    ∧ (w = wdRev → s.wdTick.hang.revDue = none) ∧ (w = wdFw → s.wdTick.hang.fwDue = false)
    ∧ s.wdTick.hang.fwCount = (if s.hang.kicked then 0 else s.hang.fwCount) ∧ s.wdTick.hang.revCount = s.hang.revCount)
  ∧ ∀ (x : Src) (d : Word) (s : State),
    (s.mayWrite x 0x40040 d = true → (s.writeTurn x 0x40040 d).cfg Reg.HANG.CTRL.ENABLE = 1 → ∃ t, exec (.unitLimitPush x d) s = .next t
      ∧ t.hang.limit = t.get Reg.HANG.UNIT_WD_FC.LIMIT ∧ t.hang.limitWas = some (s.fc, s.hang.limit)
      ∧ t.get Reg.HANG.UNIT_WD_FC.LIMIT = (let v := d.toNat % 2 ^ 24
          if v = 0 then 0 else max 64 v)
      ∧ s.keeps t [Reg.HANG.UNIT_WD_FC.LIMIT, Hdr.STATUS_PARITY_ERR Slot.HANG] ∧ t.agents = s.agents)
    ∧ (s.mayWrite x 0x40068 (s.cmdWord 0x40068 0x80000000) = true → s.parityOk Slot.HANG = true → s.get Reg.HANG.FW_WD.PERIOD < 65536 →
      s.get Reg.HANG.FW_WD.CP < 4 → ∃ t, exec (.kick x) s = .next t
      ∧ t.hang = { s.hang with kicked := true } ∧ t.agents = s.agents)
    ∧ (s.hang.kicked = true → s.wdTick.hang.kicked = false ∧ (s.hang.taken = [] → s.wdTick.hang.fwCount = 0))

/-- COLLECT_NOW, admitted and without a parity error of HANG, with no collection in progress starts one: COLLECTING reads 1,
VALID, COUNT, AGENT_OVF and BUF_OVF 0 and the buffer is empty (R484, R485, R487); with one in progress it changes nothing of
it. COLLECTION_START of a collection that is owed starts it once WHISTLE.STATE is FROZEN and until then changes nothing
(R484). COLLECTION_COMPLETE without one in progress changes nothing; else the buffer holds the agents' edges, recorder
ascending, at most 4,096; COUNT, VALID, COLLECTING, BUF_OVF and SEQ follow and EVENT.COLLECTED is set (R485, R486, R489).
EDGE_DATA_HI_READ, past its checks, advances EDGE_INDEX by one with the buffer as it is (R490). No agent changes. -/
def Obligations.CollectionsGatherEdges : Prop :=
  (∀ (x : Src) (s : State), s.mayWrite x 0x41008 0x100 = true → s.parityOk Slot.HANG = true → s.get Reg.HANG.CTRL.ENABLE = 1 →
    (s.hang.coll = none → ∃ t, exec (.collectNow x) s = .next t ∧ t.hang.coll = some s.fc ∧ t.hang.edges = []
      ∧ t.get Reg.HANG.EDGE_COUNT.COLLECTING = 1 ∧ t.get Reg.HANG.EDGE_COUNT.VALID = 0 ∧ t.get Reg.HANG.EDGE_COUNT.COUNT = 0
      ∧ t.get Reg.HANG.EDGE_COUNT.AGENT_OVF = 0 ∧ t.get Reg.HANG.EDGE_COUNT.BUF_OVF = 0 ∧ t.agents = s.agents)
    ∧ (s.hang.coll.isSome = true → ∃ t, exec (.collectNow x) s = .next t ∧ t.hang = s.hang ∧ t.agents = s.agents))
  ∧ (∀ s : State,
    (s.hang.collectDue = false ∨ s.get Reg.WHISTLE.STATE.STATE ≠ wsFrozen → exec .collectionStart s = .next s)
    ∧ (s.hang.collectDue = true → s.get Reg.WHISTLE.STATE.STATE = wsFrozen → s.hang.coll = none → ∃ t, exec .collectionStart s = .next t
      ∧ t.hang.collectDue = false ∧ t.hang.coll = some s.fc ∧ t.get Reg.HANG.EDGE_COUNT.COLLECTING = 1
      ∧ t.get Reg.HANG.EDGE_COUNT.NOT_FROZEN = bit (!s.allFrozen) ∧ t.agents = s.agents)
    ∧ (s.hang.coll = none → exec .collectionComplete s = .next s)
    ∧ (s.hang.coll.isSome = true → ∃ t, exec .collectionComplete s = .next t ∧ t.hang.coll = none ∧ t.hang.edges = s.hangEdges.take 4096
      ∧ t.get Reg.HANG.EDGE_COUNT.COUNT = min s.hangEdges.length 4096 ∧ t.get Reg.HANG.EDGE_COUNT.COLLECTING = 0
      ∧ t.get Reg.HANG.EDGE_COUNT.VALID = 1 ∧ t.get Reg.HANG.EDGE_COUNT.BUF_OVF = bit (decide (4096 < s.hangEdges.length))
      ∧ t.get Reg.HANG.EDGE_COUNT.AGENT_OVF = bit (s.agents.any (fun e => e.2.edgeOvf))
      ∧ t.get Reg.HANG.EDGE_COUNT.SEQ = (s.get Reg.HANG.EDGE_COUNT.SEQ + 1) % 2 ^ Reg.HANG.EDGE_COUNT.SEQ.width
      ∧ t.get Reg.HANG.EVENT.COLLECTED = 1 ∧ t.agents = s.agents))
  ∧ ∀ (x : Src) (s : State), s.mayRead x 0x40064 = true → ∃ t, exec (.edgeDataHiRead x) s = .next t
    ∧ t.get Reg.HANG.EDGE_INDEX.INDEX = (s.get Reg.HANG.EDGE_INDEX.INDEX + 1) % 2 ^ Reg.HANG.EDGE_INDEX.INDEX.width
    ∧ (s.latchOf x 0x40060 = none → t.respOf x = some (okResp x ((s.readTurn x 0x40064).readWord 0x40064)))
    ∧ t.hang = s.hang ∧ t.agents = s.agents

/-- RING_MESSAGE on a lane that is up: a failing CRC only counts CRC_ERRS; a SOLO hub forwards it unchanged and acts on nothing; a
member drops its own, else forwards it with HOPS plus 1 (unless 255) on the other lane; a first copy that is addressed to it
is kept for its own command (a HEARTBEAT with FAULT 0 is heard in this fc, a CENSUS gives a worker MGR_HOPS and MANAGER), and
no later copy is (R505, R507, R508). WHEEL_MESSAGE waits for an edge of the Wheel's clock (R129); at a SEEKING worker in RING,
with its mark in fc 0 of a revolution the Wheel made itself, it locks the Wheel and gives its count; others drop it (R511).
CENSUS, PROBE (at a manager) and ECHO (the outstanding probe's) answer and measure as R509, R512 and R130 say; CENSUS_DONE
writes MEMBER_COUNT, hops, CHAIN and EVENT.CENSUS_DONE, with CENSUS_DUP for a duplicate; CENSUS_NOW on a manager makes one
due; LANE_DOWN after 4,096 silent fc lowers the lane (R509, R510). A message this member originates while the lane owner is
silent in a Toss waits for the Toss's end (R501). Without their object they change nothing. -/
def Obligations.RingMessagesAreForwardedAndActedOn : Prop :=
  (∀ (lane : Lane) (m : RingMsg) (s : State), let east : Bool := lane == .east
    let out := if east then 1 else 0
    let run := exec (.ringMessage lane m) s
    let same := fun (t : State) => t.agents = s.agents ∧ ∀ f : Fld, t.get f = s.get f
    let on : Prop := m.crcOk = true ∧ s.power ≤ 2 ∧ s.get (if east then Reg.TEAM.RING_STATUS.EAST_UP else Reg.TEAM.RING_STATUS.WEST_UP) = 1
    (2 < s.power → run = .next s)
    ∧ (s.power ≤ 2 → m.crcOk = false → ∃ t : State, run = .next t ∧ s.counted t Reg.TEAM.RING_STATUS.CRC_ERRS 1 ∧ t.team = s.team
      ∧ s.keeps t [Reg.TEAM.RING_STATUS.CRC_ERRS] ∧ t.agents = s.agents)
    ∧ (on → s.teamRole = trSolo → ∃ t : State, run = .next t ∧ t.team.tx = s.txNow ++ [(out, m)] ∧ t.team.inbox = s.team.inbox
      ∧ t.team.seen = s.team.seen ∧ same t)
    ∧ (on → s.teamRole ≠ trSolo →
      let o := m.origin.toNat
      let seen : Bool := (Sparse.get s.team.seen o []).contains m.seq.toNat
      let mine : Bool := m.all || m.target.toNat == s.memberId
      let sent := fun (t : State) => if m.hops.toNat = 255 then t.team.tx = s.team.tx else t.team.tx = s.txNow ++ [(out, forwarded m (!east))]
      (o = s.memberId → ∃ t : State, run = .next t ∧ t.team.tx = s.team.tx ∧ t.team.inbox = s.team.inbox ∧ same t)
      ∧ (o ≠ s.memberId → seen = true ∨ mine = false → ∃ t : State, run = .next t ∧ sent t ∧ t.team.inbox = s.team.inbox ∧ same t)
      ∧ (o ≠ s.memberId → seen = false → mine = true →
        (m.type ∈ ([1, 3, 4, 6, 7] : List (BitVec 7)) → ∃ t : State, run = .next t ∧ sent t ∧ t.team.inbox = s.team.inbox ++ [(s.fc, m)]
          ∧ (Sparse.get t.team.seen o []).contains m.seq.toNat = true ∧ same t)
        ∧ (m.type = 2 → payloadByte m 0 % 2 = 0 → ∃ t : State, run = .next t ∧ sent t ∧ (Sparse.get t.team.heard o (0, 0)).2 = s.fc
          ∧ (s.isMissing o = true → o ∈ t.team.rejoin) ∧ t.team.inbox = s.team.inbox ∧ same t)
        ∧ (m.type = 5 → s.teamRole = trWorker → ∃ t : State, run = .next t ∧ t.get Reg.TEAM.RING_STATUS.MGR_HOPS = min (m.hops.toNat + 1) 255
          ∧ t.get Reg.TEAM.MEMBER_COUNT.MANAGER = o ∧ s.keeps t [Reg.TEAM.RING_STATUS.MGR_HOPS, Reg.TEAM.MEMBER_COUNT.MANAGER]
          ∧ t.agents = s.agents))))
  ∧ (∀ s : State,
    (s.ringFirst mtWheel = none → exec .wheelMessage s = .next s) ∧ (s.ringFirst mtProbe = none → exec .probe s = .next s)
    ∧ (s.ringFirst mtEcho = none → exec .echo s = .next s)
    ∧ (∀ e, s.ringFirst mtWheel = some e →
      (s.wheelEdge = false → exec .wheelMessage s = .next s)
      ∧ (s.wheelEdge = true → ¬ (s.teamRole = trWorker ∧ s.wheel.sel = 2) → exec .wheelMessage s = .next (s.ringTake e))
      ∧ (s.wheelEdge = true → s.teamRole = trWorker → s.wheel.sel = 2 → s.get Reg.WHEEL.SOURCE.STATE = wheelSeeking →
        s.wheel.k = s.fc - e.1 + s.cfg Reg.WHEEL.SUBNOTCH_CAL.RING_DELAY → s.wheel.selfMade = true →
        ∃ t, exec .wheelMessage s = .next t ∧ t.get Reg.WHEEL.SOURCE.STATE = wheelLocked ∧ t.wheel.rev = e.2.payload.toNat
          ∧ t.get Reg.WHEEL.EVENT.LOCKED = 1 ∧ t.get Reg.WHEEL.SLIP.D = 0 ∧ t.team.inbox = s.team.inbox.erase e
          ∧ (e.2.payload.toNat ≠ s.wheel.rev → t.get Reg.WHEEL.EVENT.REV_JUMP = 1)
          ∧ s.keeps t [Reg.WHEEL.SOURCE.STATE, Reg.WHEEL.EVENT.LOCKED, Reg.WHEEL.SLIP.D, Reg.WHEEL.EVENT.REV_JUMP] ∧ t.agents = s.agents))
    ∧ (∀ e, s.ringFirst mtProbe = some e →
      (s.teamRole ≠ trManager → exec .probe s = .next (s.ringTake e))
      ∧ (s.teamRole = trManager → ∃ t, exec .probe s = .next t ∧ s.originated t false mtEcho e.2.origin.toNat (e.2.payload.toNat % 65536)
        ∧ t.team.inbox = s.team.inbox.erase e ∧ (∀ f : Fld, t.get f = s.get f) ∧ t.agents = s.agents))
    ∧ (∀ e n f, s.ringFirst mtEcho = some e → s.team.probe = some (n, f) → n = e.2.payload.toNat % 65536 → ∃ t, exec .echo s = .next t
      ∧ t.team.rtt = some ((e.1 - f) / 2) ∧ t.team.probe = none ∧ t.team.inbox = s.team.inbox.erase e ∧ (∀ f : Fld, t.get f = s.get f)
      ∧ t.agents = s.agents)
    ∧ (s.teamRole ≠ trManager ∨ s.team.censusDue = false → exec .census s = .next s)
    ∧ (s.teamRole = trManager → s.team.censusDue = true → ∃ t, exec .census s = .next t ∧ s.originated t true mtCensus 0 1
      ∧ t.team.censusDue = false ∧ t.team.census = some s.fc ∧ (∀ f : Fld, t.get f = s.get f) ∧ t.agents = s.agents)
    ∧ ∀ (ms : List (Byte × Byte)) (dup : Bool), let hops : Sparse Nat := ms.foldl (fun m e => Sparse.ins m e.1.toNat e.2.toNat) []
      (s.teamRole ≠ trManager ∨ s.team.census = none → exec (.censusDone ms dup) s = .next s)
      ∧ (s.teamRole = trManager → s.team.census.isSome = true → ∃ t, exec (.censusDone ms dup) s = .next t ∧ t.team.census = none
        ∧ t.team.hops = hops ∧ t.get Reg.TEAM.MEMBER_COUNT.VALID = 1 ∧ t.get Reg.TEAM.MEMBER_COUNT.COUNT = (hops.length + 1) % 512
        ∧ t.get Reg.TEAM.MEMBER_COUNT.MANAGER = s.memberId % 256 ∧ t.get Reg.TEAM.RING_STATUS.MGR_HOPS = 0
        ∧ t.get Reg.TEAM.RING_STATUS.CHAIN
            = bit (s.get Reg.TEAM.RING_STATUS.EAST_UP == 0 || s.get Reg.TEAM.RING_STATUS.WEST_UP == 0)
        ∧ t.get Reg.TEAM.EVENT.CENSUS_DONE = 1 ∧ (dup = true → t.get Reg.TEAM.FAULT.CENSUS_DUP = 1)
        ∧ (dup = false → t.get Reg.TEAM.FAULT.CENSUS_DUP = s.get Reg.TEAM.FAULT.CENSUS_DUP) ∧ t.agents = s.agents))
  ∧ (∀ (x : Src) (s : State), s.mayWrite x 0x49008 0x200 = true → s.tossActive = false → s.parityOk Slot.TEAM = true →
    s.get Reg.TEAM.CTRL.ENABLE = 1 → ∃ t, exec (.censusNow x) s = .next t ∧ (s.teamRole = trManager → t.team.censusDue = true)
      ∧ (s.teamRole ≠ trManager → t.team = s.team) ∧ t.agents = s.agents)
  ∧ ∀ (lane : Lane) (s : State), let east : Bool := lane == .east
    let up := if east then Reg.TEAM.RING_STATUS.EAST_UP else Reg.TEAM.RING_STATUS.WEST_UP
    let due := s.get up = 1 ∧ (if east then s.team.eastFc else s.team.westFc) + 4096 ≤ s.fc
    (¬ due → exec (.laneDown lane) s = .next s)
    ∧ (due → ∃ t, exec (.laneDown lane) s = .next t ∧ t.get up = 0 ∧ t.get Reg.TEAM.EVENT.RING_CHANGE = 1
      ∧ (s.teamRole = trManager → t.team.censusDue = true) ∧ s.keeps t [up, Reg.TEAM.EVENT.RING_CHANGE] ∧ t.agents = s.agents)

/-- HEARTBEAT_SEND at a boundary of HEARTBEAT_NOTCH not sent yet originates one (R517). HEARTBEAT_JUDGE of a due boundary sets the
member's miss count to 0 or adds 1; at MISS_LIMIT the member is MISSING, EVENT.MISSING is set, a manager sends FAILOVER and
writes FAILOVER_LAST, a deputy whose manager it is becomes manager with a census due (R518, R522, R523). MEMBER_REJOINED
clears the bit (R520). FAILOVER_MESSAGE stops the member it names and writes FAILOVER_LAST at its standby (R524, R525).
MANAGER_TOSS demotes the higher ID (R521). TEAM_ROLE_WRITE takes effect later and clears DEMOTED; during a Toss it only sets
TOSS_BUSY (R72, R505). PARTNER_SILENT, TOSS_START (the fifth of a revolution is a storm), TOSS_DECISION 6 fc on, and TOSS_END
follow R497 to R504: LEAD_HALF, claims, LANE_OWNER, TOSS_LOG, EVENT.TOSS, and after a silent partner its HALVES bit and
FAULT.HALF_LOST. Without their object they change nothing. -/
def Obligations.HeartbeatsFailoverAndTosses : Prop :=
  (∀ (b : Byte) (s : State), let n := b.toNat
    let beat := s.teamRole ≠ trSolo ∧ s.wheel.notch % s.cfg Reg.TEAM.HEARTBEAT_NOTCH.NOTCHES = 0 ∧ s.team.lastBeat ≠ some s.wheel.notchCount
    (¬ beat → exec .heartbeatSend s = .next s)
    ∧ (beat → ∃ t, exec .heartbeatSend s = .next t ∧ s.originated t true mtHeartbeat 0 s.beatPayload
      ∧ t.team.lastBeat = some s.wheel.notchCount ∧ s.fc ∈ t.team.beats ∧ (∀ f : Fld, t.get f = s.get f) ∧ t.agents = s.agents)
    ∧ (s.judgeHops n = none → exec (.heartbeatJudge b) s = .next s)
    ∧ (∀ h, s.judgeHops n = some h → (s.judgeDue n h = none → exec (.heartbeatJudge b) s = .next s)
      ∧ ∀ d, s.judgeDue n h = some d →
        let got : Bool := decide ((Sparse.get s.team.heard n (s.fc, 0)).1 < s.fc)
        let limit := s.cfg Reg.TEAM.MISS_LIMIT.LIMIT
        let count := min (Sparse.get s.team.misses n 0 + 1) limit
        let judged := fun (t : State) => Sparse.get t.team.judged n 0 = d ∧ t.agents = s.agents
        (got = true → ∃ t : State, exec (.heartbeatJudge b) s = .next t ∧ Sparse.get t.team.misses n 0 = 0 ∧ judged t
          ∧ ∀ f : Fld, t.get f = s.get f)
        ∧ (got = false → count < limit ∨ s.isMissing n = true → ∃ t : State, exec (.heartbeatJudge b) s = .next t
          ∧ Sparse.get t.team.misses n 0 = count ∧ judged t ∧ ∀ f : Fld, t.get f = s.get f)
        ∧ (got = false → limit ≤ count → s.isMissing n = false → ∃ t : State, exec (.heartbeatJudge b) s = .next t
          ∧ t.isMissing n = true ∧ t.get Reg.TEAM.EVENT.MISSING = 1 ∧ judged t
          ∧ (s.teamRole = trManager → s.cfg Reg.TEAM.CTRL.FAILOVER_EN = 1 → s.originated t true mtFailover 0 n
            ∧ t.get Reg.TEAM.FAILOVER_LAST.VALID = 1 ∧ t.get Reg.TEAM.FAILOVER_LAST.RECEIVED = 0
            ∧ t.get Reg.TEAM.FAILOVER_LAST.MEMBER = n ∧ t.get Reg.TEAM.EVENT.FAILOVER = 1)
          ∧ (s.teamRole = trWorker → s.cfg Reg.TEAM.ROLE.DEPUTY = 1 → t.teamRole = trManager ∧ t.team.censusDue = true)))
    ∧ (s.team.rejoin.contains n = false → exec (.memberRejoined b) s = .next s)
    ∧ (s.team.rejoin.contains n = true → ∃ t, exec (.memberRejoined b) s = .next t ∧ t.isMissing n = false
      ∧ (s.isMissing n = true → t.get Reg.TEAM.EVENT.REJOINED = 1) ∧ (∀ m : Byte, m ≠ b → t.isMissing m.toNat = s.isMissing m.toNat)
      ∧ s.keeps t [Reg.TEAM.MISSING (n / 32), Reg.TEAM.EVENT.REJOINED] ∧ t.agents = s.agents)
    ∧ (s.team.rivals.contains n = false → exec (.managerToss b) s = .next s)
    ∧ (s.team.rivals.contains n = true →
      (¬ (s.teamRole = trManager ∧ n < s.memberId) → ∃ t, exec (.managerToss b) s = .next t ∧ (∀ f : Fld, t.get f = s.get f)
        ∧ t.team.rivals.contains n = false ∧ t.agents = s.agents)
      ∧ (s.teamRole = trManager → n < s.memberId → ∃ t, exec (.managerToss b) s = .next t ∧ t.teamRole = trWorker
        ∧ t.get Reg.TEAM.ROLE.DEMOTED = 1 ∧ s.counted t Reg.TEAM.TOSS_LOG.MGR_TOSSES 1 ∧ t.get Reg.TEAM.TOSS_LOG.CAUSE = 4
        ∧ t.get Reg.TEAM.TOSS_LOG.RIVAL = n ∧ t.get Reg.TEAM.EVENT.TOSS = 1 ∧ t.manager = n
        ∧ s.keeps t [Reg.TEAM.ROLE.ROLE, Reg.TEAM.ROLE.DEMOTED, Reg.TEAM.TOSS_LOG.MGR_TOSSES, Reg.TEAM.TOSS_LOG.CAUSE,
            Reg.TEAM.TOSS_LOG.RIVAL, Reg.TEAM.EVENT.TOSS, Reg.TEAM.MEMBER_COUNT.MANAGER] ∧ t.agents = s.agents)))
  ∧ (∀ s : State, (s.ringFirst mtFailover = none → exec .failoverMessage s = .next s)
    ∧ ∀ e, s.ringFirst mtFailover = some e → let m := payloadByte e.2 0
      let standby := s.cfg Reg.TEAM.MEMBER_ID.STANDBY_VALID = 1 ∧ s.cfg Reg.TEAM.MEMBER_ID.STANDBY_FOR = m
      (m ≠ s.memberId → ¬ standby → exec .failoverMessage s = .next (s.ringTake e))
      ∧ (m = s.memberId → ¬ standby → s.teamOpen = true → ∃ t, exec .failoverMessage s = .next t ∧ s.teamStopped t e.2.origin.toNat
        ∧ t.team.inbox = s.team.inbox.erase e ∧ s.keeps t whistleFields ∧ t.agents = s.agents)
      ∧ (m ≠ s.memberId → standby → ∃ t, exec .failoverMessage s = .next t ∧ t.get Reg.TEAM.FAILOVER_LAST.VALID = 1
        ∧ t.get Reg.TEAM.FAILOVER_LAST.RECEIVED = 1 ∧ t.get Reg.TEAM.FAILOVER_LAST.MEMBER = m ∧ t.get Reg.TEAM.EVENT.FAILOVER = 1
        ∧ t.get Reg.MILLRACE.RESTORE_CMD.RESULT = (s.restoreCmd 1).get Reg.MILLRACE.RESTORE_CMD.RESULT
        ∧ t.mill.restore = (s.restoreCmd 1).mill.restore ∧ t.team.inbox = s.team.inbox.erase e ∧ t.agents = s.agents))
  ∧ (∀ (x : Src) (d : Word) (s : State), s.mayWrite x 0x48040 d = true → ∃ t, exec (.teamRoleWrite x d) s = .next t ∧ t.agents = s.agents
    ∧ (s.tossActive = true → t.get Reg.TEAM.STATUS.TOSS_BUSY = 1 ∧ t.team = s.team
        ∧ s.keeps t [Reg.TEAM.STATUS.TOSS_BUSY, Hdr.STATUS_PARITY_ERR Slot.TEAM])
    ∧ (s.tossActive = false → t.get Reg.TEAM.ROLE.DEMOTED = 0 ∧ t.get Reg.TEAM.ROLE.DEPUTY = bit (testBit d.toNat 9)
        ∧ t.teamRole = s.teamRole ∧ t.team.roleNext = some (if d.toNat % 4 = 3 then 0 else d.toNat % 4, s.fc)
        ∧ s.keeps t [Reg.TEAM.STATUS.TOSS_BUSY, Reg.TEAM.ROLE.DEMOTED, Reg.TEAM.ROLE.DEPUTY, Hdr.STATUS_PARITY_ERR Slot.TEAM]))
  ∧ ∀ s : State,
    (∀ h : Half, exec (.partnerSilent h) s = .next { s with halves := { s.halves with silent := some (halfNo h) } })
    ∧ (∀ cause : TossCause, let n := if s.halves.tossTurn = s.wheel.turns then s.halves.tossCount + 1 else 1
      let c := match cause with
        | .bothClaim => 1
        | .noneClaim => 2
        | .partnerSilent => 3
      let off := s.halves.toss.isSome = true ∨ (c = 3 ∧ s.halves.silent = none)
      (off → exec (.tossStart cause) s = .next s)
      ∧ (¬ off → ∃ t, exec (.tossStart cause) s = .next t ∧ t.halves.toss = some (c, s.fc, false) ∧ t.tossActive = true
        ∧ t.halves.tossCount = n ∧ (n = 5 → t.halves.storm = true ∧ t.get Reg.TEAM.FAULT.TOSS_STORM = 1 ∧ t.crash.latched = true)
        ∧ s.keeps t [Reg.HUB.ROLE.TOSS_ACTIVE, Reg.TEAM.HALF_STATUS.NORTH_CLAIM, Reg.TEAM.HALF_STATUS.SOUTH_CLAIM,
            Reg.TEAM.FAULT.TOSS_STORM, Hdr.FAULT_INFO_FIRST Slot.TEAM, Hdr.FAULT_INFO_DETAIL Slot.TEAM] ∧ t.agents = s.agents))
    ∧ (s.halves.toss = none → exec .tossDecision s = .next s ∧ exec .tossEnd s = .next s)
    ∧ (∀ c f, s.halves.toss = some (c, f, false) → exec .tossEnd s = .next s ∧ (s.fc < f + 6 → exec .tossDecision s = .next s)
      ∧ (f + 6 ≤ s.fc → let win := if c = 3 then s.halves.silent.getD 0 else s.get Reg.TEAM.HALF_STATUS.TOSS_PREF
        win < 2 → ∃ t, exec .tossDecision s = .next t ∧ t.halves.toss = some (c, f, true) ∧ t.get Reg.HUB.ROLE.LEAD_HALF = win
          ∧ t.get Reg.TEAM.HALF_STATUS.NORTH_CLAIM = 1 - win ∧ t.get Reg.TEAM.HALF_STATUS.SOUTH_CLAIM = win
          ∧ s.keeps t [Reg.HUB.ROLE.LEAD_HALF, Reg.TEAM.HALF_STATUS.NORTH_CLAIM, Reg.TEAM.HALF_STATUS.SOUTH_CLAIM] ∧ t.agents = s.agents))
    ∧ ∀ c f, s.halves.toss = some (c, f, true) → exec .tossDecision s = .next s ∧ (s.fc < f + 7 → exec .tossEnd s = .next s)
      ∧ (f + 7 ≤ s.fc → let win := s.get Reg.HUB.ROLE.LEAD_HALF
        win < 2 → c < 16 → ∃ t, exec .tossEnd s = .next t ∧ t.halves.toss = none ∧ t.tossActive = false
          ∧ t.get Reg.TEAM.HALF_STATUS.LANE_OWNER = win ∧ s.counted t Reg.TEAM.TOSS_LOG.HALF_TOSSES 1 ∧ t.get Reg.TEAM.TOSS_LOG.CAUSE = c
          ∧ t.get Reg.TEAM.TOSS_LOG.WINNER = win ∧ t.get Reg.TEAM.EVENT.TOSS = 1
          ∧ (c = 3 → t.get Reg.TEAM.FAULT.HALF_LOST = 1 ∧ t.halves.lost = true ∧ t.crash.latched = true
              ∧ (win = 0 → t.get Reg.HUB.HALVES.SOUTH_OK = 0 ∧ t.get Reg.HUB.HALVES.NORTH_OK = s.get Reg.HUB.HALVES.NORTH_OK)
              ∧ (win = 1 → t.get Reg.HUB.HALVES.NORTH_OK = 0 ∧ t.get Reg.HUB.HALVES.SOUTH_OK = s.get Reg.HUB.HALVES.SOUTH_OK))
          ∧ t.agents = s.agents)

/-- A cross-chip command, admitted: during a Toss RESULT reads BUSY and nothing else happens; else, without a parity error, on a
SOLO hub REFUSED_ROLE, with CTRL.ENABLE at 0 REFUSED_DISABLED, and no message is sent. A member with ENABLE at 1 originates
the XWHISTLE message with code, dump set, revolution r + 2 and notch. CANCEL reads SENT and leaves nothing pending. With
AT_ANGLE the command becomes the pending one, RESULT SCHEDULED, and a command it replaces is discarded (R515, R516). Without
it RESULT reads SENT and the hub presents its own: STOP_ALL, RESUME, SNAP as TEAM requests with its member ID, CUT with the
message's set (R513, R514). XWHISTLE_MESSAGE of the lowest origin that is 4 fc old writes FROM and CODE and presents,
schedules, presents late (LATE, EVENT.XW_LATE) or cancels; ANGLE_COMMAND_DUE presents the pending one once the position passes
its target and no fence waits. Without their object they change nothing. -/
def Obligations.CrossChipCommandsAreSentAndPresented : Prop :=
  (∀ (x : Src) (d : Word) (s : State),
    let rows : List (Instr × Nat) := [(.xwStopAll x d, 1), (.xwResume x d, 2), (.xwSnap x d, 3), (.xwCut x d, 4), (.xwCancel x d, 5)]
    ∀ ic ∈ rows, let w : Word := d &&& 0xFFFFFFF8#32 ||| BitVec.ofNat 32 ic.2
    s.mayWrite x 0x48084 w = true →
    let u := s.writeTurn x 0x48084 w
    let set := bits d.toNat 10 8
    let notch := bits d.toNat 31 20
    let angle := testBit d.toNat 4
    let rev := (s.wheel.rev + 2) % 65536
    let result := fun (t : State) (r : Nat) => t.get Reg.TEAM.XWHISTLE_CMD.RESULT = r
    let fields := [Reg.TEAM.STATUS.TOSS_BUSY, Reg.TEAM.XWHISTLE_CMD.NOTCH, Reg.TEAM.XWHISTLE_CMD.SET, Reg.TEAM.XWHISTLE_CMD.AT_ANGLE,
      Reg.TEAM.XWHISTLE_CMD.RESULT, Hdr.STATUS_PARITY_ERR Slot.TEAM]
    let sent := fun (t : State) => s.originated t true mtXwhistle 0 (ic.2 + 256 * set + 65536 * rev + 2 ^ 32 * (2 ^ 15 * bit angle + notch))
    (s.tossActive = true → ∃ t : State, exec ic.1 s = .next t ∧ result t xrBusy ∧ t.team = s.team
      ∧ s.keeps t [Reg.TEAM.XWHISTLE_CMD.RESULT, Hdr.STATUS_PARITY_ERR Slot.TEAM] ∧ t.agents = s.agents)
    ∧ (s.tossActive = false → s.parityOk Slot.TEAM = true →
      (s.teamRole = trSolo → ∃ t : State, exec ic.1 s = .next t ∧ result t xrRole ∧ t.team = s.team ∧ s.keeps t fields ∧ t.agents = s.agents)
      ∧ (s.teamRole ≠ trSolo → u.cfg Reg.TEAM.CTRL.ENABLE = 0 → ∃ t : State, exec ic.1 s = .next t ∧ result t xrDisabled ∧ t.team = s.team
        ∧ s.keeps t fields ∧ t.agents = s.agents)
      ∧ (s.teamRole ≠ trSolo → u.cfg Reg.TEAM.CTRL.ENABLE = 1 →
        (ic.2 = 5 → ∃ t : State, exec ic.1 s = .next t ∧ result t xrSent ∧ sent t ∧ t.team.pending = none
          ∧ t.get Reg.TEAM.XWHISTLE_STATE.PENDING = 0 ∧ s.keeps t (Reg.TEAM.XWHISTLE_STATE.PENDING :: fields) ∧ t.agents = s.agents)
        ∧ (ic.2 ≠ 5 → angle = true → s.angleDue = false → ∃ t : State, exec ic.1 s = .next t ∧ result t xrScheduled ∧ sent t
          ∧ t.team.pending = some ⟨ic.2, set, rev, notch, s.memberId⟩ ∧ t.get Reg.TEAM.XWHISTLE_STATE.PENDING = 1
          ∧ t.get Reg.TEAM.XWHISTLE_STATE.TARGET_REV = rev
          ∧ (s.team.pending.isSome = true → s.counted t Reg.TEAM.STATUS.DISCARDS 1)
          ∧ s.keeps t (Reg.TEAM.XWHISTLE_STATE.PENDING :: Reg.TEAM.XWHISTLE_STATE.TARGET_REV :: Reg.TEAM.STATUS.DISCARDS :: fields)
          ∧ t.agents = s.agents)
        ∧ (ic.2 ≠ 5 → angle = false → ∃ t : State, exec ic.1 s = .next t ∧ result t xrSent ∧ sent t ∧ t.team.pending = s.team.pending
          ∧ t.agents = s.agents
          ∧ (ic.2 = 1 → u.teamOpen = true → s.teamStopped t s.memberId)
          ∧ (ic.2 = 2 → s.parityOk Slot.WHISTLE = true → s.get Reg.WHISTLE.STATE.STATE = wsFrozen → s.get Reg.WHISTLE.STATE.STEP_ACTIVE = 0 → s.treeFree = true →
              u.cfg Reg.WHISTLE.AUTO_SOURCES.TEAM = 1 → u.cfg Reg.WHISTLE.CTRL.ENABLE = 1 →
              t.get Reg.WHISTLE.STATE.STATE = wsResuming ∧ t.whistle.branches = 0)
          ∧ (ic.2 = 3 → u.teamOpen = true → s.snapBlocked = false → t.get Reg.WHISTLE.STATE.STATE = wsFreezing
              ∧ t.whistle.last = some ⟨wireSnap, 0, 0, allBranches, s.fc⟩)
          ∧ (ic.2 = 4 → s.parityOk Slot.CUT = true → u.cfg Reg.CUT.CTRL.ENABLE = 1 → s.cut.job = none → s.snapBlocked = false →
              s.get Reg.MILLRACE.ROLE.ROLE = 0 → s.get Reg.WHISTLE.STATE.STATE = wsFrozen → u.setRefused 1 (u.cutSel set) = 0 →
              t.get Reg.CUT.CMD.RESULT = crAccepted
              ∧ ∃ j, t.cut.job = some j ∧ j.code = 1 ∧ j.set = set ∧ j.sel = u.cutSel set ∧ j.reqSource = 7 ∧ j.reqDetail = s.memberId)))))
  ∧ ∀ s : State, (s.xwNext = none → exec .xwhistleMessage s = .next s) ∧ ((s.angleDue = false ∨ s.fenceDue = true) → exec .angleCommandDue s = .next s)
    ∧ (∀ c : AngleCmd, s.team.pending = some c → s.angleDue = true → s.fenceDue = false → c.code = 1 → s.teamOpen = true → ∃ t, exec .angleCommandDue s = .next t
      ∧ s.teamStopped t c.origin ∧ t.team.pending = none ∧ t.get Reg.TEAM.XWHISTLE_STATE.PENDING = 0
      ∧ s.keeps t (Reg.TEAM.XWHISTLE_STATE.PENDING :: whistleFields) ∧ t.agents = s.agents)
    ∧ ∀ e, s.xwNext = some e → let code := payloadByte e.2 0 % 8
      let o := e.2.origin.toNat
      let rev := e.2.payload.toNat / 2 ^ 16 % 65536
      let w := e.2.payload.toNat / 2 ^ 32
      let late := reached s.lastPos.1 s.lastPos.2 rev (w % 4096)
      let seen := fun (t : State) => t.get Reg.TEAM.XWHISTLE_STATE.FROM = o ∧ t.get Reg.TEAM.XWHISTLE_STATE.CODE = code
        ∧ t.team.inbox = s.team.inbox.erase e ∧ t.agents = s.agents
      let fields := [Reg.TEAM.XWHISTLE_STATE.FROM, Reg.TEAM.XWHISTLE_STATE.CODE, Reg.TEAM.XWHISTLE_STATE.LATE,
        Reg.TEAM.XWHISTLE_STATE.PENDING]
      (code = 5 → ∃ t : State, exec .xwhistleMessage s = .next t ∧ seen t ∧ t.team.pending = none ∧ t.get Reg.TEAM.XWHISTLE_STATE.PENDING = 0
        ∧ s.keeps t fields)
      ∧ (code = 1 → w / 2 ^ 15 % 2 = 0 → s.teamOpen = true → ∃ t : State, exec .xwhistleMessage s = .next t ∧ seen t ∧ s.teamStopped t o
        ∧ t.get Reg.TEAM.XWHISTLE_STATE.LATE = 0 ∧ s.keeps t (fields ++ whistleFields))
      ∧ (code = 1 → w / 2 ^ 15 % 2 = 1 → late = true → s.teamOpen = true → ∃ t : State, exec .xwhistleMessage s = .next t ∧ seen t
        ∧ s.teamStopped t o ∧ t.get Reg.TEAM.XWHISTLE_STATE.LATE = 1 ∧ t.get Reg.TEAM.EVENT.XW_LATE = 1
        ∧ s.keeps t (Reg.TEAM.EVENT.XW_LATE :: fields ++ whistleFields))
      ∧ (code ≠ 5 → w / 2 ^ 15 % 2 = 1 → late = false → s.team.pending = none → ∃ t : State, exec .xwhistleMessage s = .next t ∧ seen t
        ∧ t.team.pending = some ⟨code, payloadByte e.2 1 % 8, rev, w % 4096, o⟩ ∧ t.get Reg.TEAM.XWHISTLE_STATE.PENDING = 1
        ∧ t.get Reg.TEAM.XWHISTLE_STATE.TARGET_REV = rev ∧ s.keeps t (Reg.TEAM.XWHISTLE_STATE.TARGET_REV :: fields))

/-- With the link not hearing, request frames and ordered sets change nothing. A request in sequence with fewer than 8 waiting is
queued (one for no words, with none waiting, ends at once with RESP 0), SEQ advances and an ACK goes out; with 8 it only sets
PROTO_ERR; one accepted before is acknowledged again, another refused with NAK (R541, R543). On a free bank a one-word READ or
PEEK of a plain register brings a RESP with its word, a one-word WRITE stores and brings RESP 1, a STREAM of 0 words RESP 0
(R537 to R539). BSL_FRAME_DISCARD sends NAK and counts CRC_ERRS (R536); ACK frees frames (R540); NAK and ACK_TIMEOUT replay
them and count RETRIES (R541); CRD adds credits (R544). BSL_LINK_DOWN discards all and trains, dropping the port level with
DROP_ON_DOWN; BSL_LINK_UP gives UP and 8 credits; RETRAIN trains (R542, R545). EVENT_FRAME sends the queued event with a
credit (R546). Out-of-sequence NAKs and the replay of every frame are the model's reading (log entry 70). -/
def Obligations.SerialLinkMovesFrames : Prop :=
  (∀ (q tag : Byte) (inc : Bool) (word : BitVec 17) (c : BitVec 7) (data : List Word) (inst : Inst) (n : Word) (s : State),
    let rows : List (Instr × BslReq) :=
      [(.bslRead q tag inc word c, { type := 1, tag := tag.toNat, inc := inc, word := word.toNat, left := c.toNat + 1 }),
       (.bslPeek q tag inc word c, { type := 3, tag := tag.toNat, inc := inc, word := word.toNat, left := c.toNat + 1 }),
       (.bslWrite q tag inc word data, { type := 2, tag := tag.toNat, inc := inc, word := word.toNat, left := data.length, data := data }),
       (.bslStream q tag inst n, { type := 4, tag := tag.toNat, inc := false, word := inst.toNat, left := n.toNat })]
    ∀ r ∈ rows,
      (s.bslHears = false → s.bankFree = true → exec r.1 s = .next s)
      ∧ (s.bslHears = true →
        (q.toNat = s.bsl.rxSeq → s.bsl.reqs.length < 8 → (∀ f ∈ (s.bsl.reqs ++ [r.2]).head?, 0 < f.left ∨ f.asked = true) →
          ∃ u : State, exec r.1 s = .next u.serve ∧ u.bsl.reqs = s.bsl.reqs ++ [r.2]
          ∧ u.bsl.rxSeq = (s.bsl.rxSeq + 1) % 256 ∧ (0, q.toNat) ∈ u.bsl.sets ∧ (∀ f : Fld, u.get f = s.get f) ∧ u.agents = s.agents)
        ∧ (q.toNat = s.bsl.rxSeq → s.bsl.reqs = [] → r.2.left = 0 → ∃ u : State, exec r.1 s = .next u.serve ∧ u.bsl.reqs = []
          ∧ u.bsl.rxSeq = (s.bsl.rxSeq + 1) % 256 ∧ (0, q.toNat) ∈ u.bsl.sets ∧ (2, 1) ∈ u.bsl.sets
          ∧ ((⟨8, 0, tag.toNat, [0]⟩ : BslFrame) ∈ u.bsl.out ∨ ∃ m, (m, (⟨8, 0, tag.toNat, [0]⟩ : BslFrame)) ∈ u.bsl.sent)
          ∧ s.keeps u [Reg.PORT.BSL_STATUS.CREDITS] ∧ u.agents = s.agents)
        ∧ (q.toNat = s.bsl.rxSeq → 8 ≤ s.bsl.reqs.length → ∃ u : State, exec r.1 s = .next u.serve ∧ u.bsl = s.bsl
          ∧ u.get Reg.PORT.BSL_STATUS.PROTO_ERR = 1 ∧ s.keeps u [Reg.PORT.BSL_STATUS.PROTO_ERR] ∧ u.agents = s.agents)
        ∧ (q.toNat ≠ s.bsl.rxSeq → let old := (s.bsl.rxSeq + 255 - q.toNat) % 256 < 128
          ∃ u : State, exec r.1 s = .next u.serve ∧ u.bsl.reqs = s.bsl.reqs ∧ u.bsl.rxSeq = s.bsl.rxSeq
            ∧ (old → (0, (s.bsl.rxSeq + 255) % 256) ∈ u.bsl.sets) ∧ (¬ old → (1, s.bsl.rxSeq) ∈ u.bsl.sets)
            ∧ (∀ f : Fld, u.get f = s.get f) ∧ u.agents = s.agents)))
  ∧ (∀ (tag : Byte) (inc : Bool) (word : BitVec 17) (d : Word) (inst : Inst) (s : State), s.bslHears = true → s.bsl.rxSeq < 256 →
    s.bsl.out.length < 2 → s.bankFree = true →
    let q : Byte := BitVec.ofNat 8 s.bsl.rxSeq
    let o := 4 * word.toNat
    let answered := fun (t : State) (p : List Word) => ((⟨8, 0, tag.toNat, p⟩ : BslFrame) ∈ t.bsl.out
        ∨ ∃ n, (n, (⟨8, 0, tag.toNat, p⟩ : BslFrame)) ∈ t.bsl.sent) ∧ (2, 1) ∈ t.bsl.sets ∧ t.bsl.reqs = [] ∧ t.agents = s.agents
    (plainOff o = true → o / 0x4000 ∉ [0, 2] → o % 0x4000 ≠ 0x0C → o ≠ 0x24070 → s.bank.parityBad.contains o = false →
      (s.mayRead .bsl o = true → ∃ t : State, exec (.bslRead q tag inc word 0) s = .next t
        ∧ answered t [BitVec.ofNat 32 ((s.readTurn .bsl o).readWord o)])
      ∧ (s.admits (pkAccess .bsl o) = true → ∃ t : State, exec (.bslPeek q tag inc word 0) s = .next t
        ∧ answered t [BitVec.ofNat 32 ((s.turn (pkAccess .bsl o)).readWord o)]))
    ∧ (plainOff o = true → s.mayWrite .bsl o d = true → ∃ t : State, exec (.bslWrite q tag inc word [d]) s = .next t ∧ answered t [1]
      ∧ ∀ f, (Acc.rw, f) ∈ fieldsAt o → t.get f = fieldStores f (bits d.toNat f.hi f.lo) % 2 ^ f.width)
    ∧ ∃ t : State, exec (.bslStream q tag inst 0) s = .next t ∧ answered t [0])
  ∧ (∀ (n : Byte) (s : State),
    let replayed := fun (t : State) => (∀ e ∈ s.bsl.unacked, e ∈ t.bsl.sent) ∧ t.bsl.unacked = s.bsl.unacked
      ∧ t.bsl.replays = s.bsl.replays + 1 ∧ t.bsl.ackFc = s.fc ∧ s.counted t Reg.PORT.BSL_RETRIES.COUNT 1
      ∧ s.keeps t [Reg.PORT.BSL_RETRIES.COUNT] ∧ t.agents = s.agents
    let acked : Bool := s.bsl.unacked.any (fun e => e.1 == n.toNat)
    (s.bslHears = false → exec .bslFrameDiscard s = .next s ∧ exec (.ack n) s = .next s ∧ exec (.nak n) s = .next s
      ∧ exec (.crd n) s = .next s)
    ∧ (s.bslHears = true →
      (∃ t : State, exec .bslFrameDiscard s = .next t ∧ (1, s.bsl.rxSeq) ∈ t.bsl.sets ∧ s.counted t Reg.PORT.BSL_CRC_ERRS.COUNT 1
        ∧ t.bsl.rxSeq = s.bsl.rxSeq ∧ t.bsl.reqs = s.bsl.reqs ∧ s.keeps t [Reg.PORT.BSL_CRC_ERRS.COUNT] ∧ t.agents = s.agents)
      ∧ (acked = false → exec (.ack n) s = .next s)
      ∧ (acked = true → s.bsl.out = [] → ∃ t : State, exec (.ack n) s = .next t
        ∧ t.bsl.unacked = (s.bsl.unacked.dropWhile (fun e => e.1 != n.toNat)).drop 1 ∧ t.bsl.replays = 0 ∧ t.bsl.ackFc = s.fc
        ∧ (∀ f : Fld, t.get f = s.get f) ∧ t.agents = s.agents)
      ∧ (s.bsl.unacked = [] → exec (.nak n) s = .next s)
      ∧ (s.bsl.unacked ≠ [] → ∃ t : State, exec (.nak n) s = .next t ∧ replayed t)
      ∧ (s.bsl.out = [] → ∃ t : State, exec (.crd n) s = .next t
        ∧ t.get Reg.PORT.BSL_STATUS.CREDITS = min 255 (s.get Reg.PORT.BSL_STATUS.CREDITS + n.toNat) ∧ t.bsl = s.bsl
        ∧ s.keeps t [Reg.PORT.BSL_STATUS.CREDITS] ∧ t.agents = s.agents))
    ∧ let late := s.link = lsUp ∧ s.bsl.unacked ≠ [] ∧ s.bsl.ackFc + 256 * s.cfg Reg.PORT.BSL_CTRL.ACK_TIMEOUT ≤ s.fc
      (¬ late → exec .ackTimeout s = .next s) ∧ (late → ∃ t : State, exec .ackTimeout s = .next t ∧ replayed t))
  ∧ (∀ (x : Src) (cause : DownCause) (s : State),
    let down := s.link = lsUp ∧ (cause = .replays → s.cfg Reg.PORT.BSL_CTRL.REPLAY_MAX ≤ s.bsl.replays ∧ s.bsl.unacked ≠ [])
    (¬ down → exec (.bslLinkDown cause) s = .next s)
    ∧ (down → ∃ t, exec (.bslLinkDown cause) s = .next t ∧ t.link = lsTraining ∧ t.get Reg.PORT.EVENT.LINK = 1
      ∧ t.get Reg.PORT.BSL_STATUS.CREDITS = 0 ∧ t.bsl.reqs = [] ∧ t.bsl.out = [] ∧ t.bsl.unacked = [] ∧ t.bsl.rxSeq = 0 ∧ t.bsl.txSeq = 0
      ∧ (s.cfg Reg.PORT.BSL_CTRL.DROP_ON_DOWN = 1 → t.get Reg.GUARD.PORT_LEVEL.LEVEL = 0)
      ∧ s.keeps t [Reg.PORT.BSL_STATUS.STATE, Reg.PORT.EVENT.LINK, Reg.PORT.BSL_STATUS.CREDITS, Reg.GUARD.PORT_LEVEL.LEVEL,
          Reg.PORT.EVENT.LEVEL] ∧ t.agents = s.agents)
    ∧ (¬ (s.link = lsTraining ∧ s.power ≤ 2) → exec .bslLinkUp s = .next s)
    ∧ (s.link = lsTraining → s.power ≤ 2 → ∃ t, exec .bslLinkUp s = .next t ∧ t.link = lsUp ∧ t.get Reg.PORT.EVENT.LINK = 1
      ∧ t.get Reg.PORT.BSL_STATUS.PROTO_ERR = 0 ∧ (2, 8) ∈ t.bsl.sets
      ∧ s.keeps t [Reg.PORT.BSL_STATUS.STATE, Reg.PORT.EVENT.LINK, Reg.PORT.BSL_STATUS.PROTO_ERR] ∧ t.agents = s.agents)
    ∧ (s.mayWrite x 0x9044 2 = true → s.parityOk Slot.PORT = true → s.get Reg.PORT.BSL_CTRL.EN = 1 → ∃ t, exec (.retrain x) s = .next t
      ∧ t.link = lsTraining ∧ (s.link ≠ lsDisabled → t.bsl.reqs = [] ∧ t.bsl.unacked = [] ∧ t.get Reg.PORT.BSL_STATUS.CREDITS = 0)
      ∧ t.agents = s.agents))
  ∧ ∀ (s : State) (c : Nat) (m i : Bool), s.bsl.event = some (c, m, i) →
    let can := s.link = lsUp ∧ (∀ f, s.bsl.eventFc = some f → f + 1024 ≤ s.fc) ∧ s.bsl.out = []
      ∧ s.get Reg.PORT.BSL_STATUS.CREDITS ≠ 0 ∧ s.bsl.unacked.length < 8
    (¬ can → exec .eventFrame s = .next s)
    ∧ (can → ∃ t, exec .eventFrame s = .next t ∧ t.bsl.event = none ∧ t.bsl.eventFc = some s.fc
      ∧ (s.bsl.txSeq, (⟨10, 0, 0, [BitVec.ofNat 32 (65536 * min c 65535 + 2 * bit m + bit i), BitVec.ofNat 32 s.irqSummary,
          BitVec.ofNat 32 s.wheel.posLo, BitVec.ofNat 32 s.wheel.posHi]⟩ : BslFrame)) ∈ t.bsl.sent
      ∧ t.get Reg.PORT.BSL_STATUS.CREDITS = (s.get Reg.PORT.BSL_STATUS.CREDITS - 1) % 256
      ∧ s.keeps t [Reg.PORT.BSL_STATUS.CREDITS] ∧ t.agents = s.agents)

/-- INSTRUCTION_REGISTER_UPDATE loads IR; TAP_RESET loads IDCODE and discards a pending result (R548, R552). REGACC_UPDATE without
REGACC or with OP 0 or 3 makes no access; with one pending it sets OVERRUN; on a free bank a read of a plain register ends OK
with its word, a write stores, an undefined offset ends in BUS_ERROR, and ACCESSES counts (R550). CHALLENGE, past its checks
and not BUSY, is LOCKED_OUT in a lockout, BAD_CMD for level 0, else BUSY with the draw running; CHALLENGE_READY opens it;
SUBMIT without an open challenge or a second late is BAD_CMD, else latches the response; AUTH_CHECK_DONE grants the level or
counts the refusal, the eighth starting a lockout, and closes the challenge; LOCKOUT_EXPIRE ends it; DROP returns to LOCKED;
while BUSY commands change nothing (R561 to R567). MBOX_OUT and MBOX_IN writes store one word or set their OVR; reads empty
them (R569, R570). -/
def Obligations.PortsAuthenticateAndExchangeWords : Prop :=
  (∀ (ir : BitVec 5) (dr : BitVec 52) (s : State),
    (∃ t, exec (.instructionRegisterUpdate ir) s = .next t ∧ t.get Reg.PORT.TAP_STATUS.IR = ir.toNat ∧ t.jtag = s.jtag
      ∧ s.keeps t [Reg.PORT.TAP_STATUS.IR] ∧ t.agents = s.agents)
    ∧ (∃ t, exec .tapReset s = .next t ∧ t.get Reg.PORT.TAP_STATUS.IR = 1
      ∧ (s.jtag.status = 2 → t.jtag.drop = true ∧ t.jtag.status = 2) ∧ (s.jtag.status ≠ 2 → t.jtag.status = 3 ∧ t.jtag.data = 0)
      ∧ s.keeps t [Reg.PORT.TAP_STATUS.IR] ∧ t.agents = s.agents)
    ∧ (s.get Reg.PORT.TAP_STATUS.IR ≠ irRegacc → exec (.regaccUpdate dr) s = .next s)
    ∧ (s.get Reg.PORT.TAP_STATUS.IR = irRegacc →
      let op := dr.toNat / 2 ^ 49 % 4
      let o := 4 * (dr.toNat / 2 ^ 32 % 2 ^ 17)
      let d : Word := BitVec.ofNat 32 dr.toNat
      (op = 0 ∨ op = 3 → exec (.regaccUpdate dr) s = .next { s with jtag := { s.jtag with overrun := false } })
      ∧ (op = 1 ∨ op = 2 → s.jtag.status = 2 → ∃ t, exec (.regaccUpdate dr) s = .next t ∧ t.get Reg.PORT.TAP_STATUS.OVERRUN = 1
        ∧ t.jtag = { s.jtag with overrun := true } ∧ s.keeps t [Reg.PORT.TAP_STATUS.OVERRUN] ∧ t.agents = s.agents)
      ∧ (s.jtag.status ≠ 2 →
        let ended := fun (t : State) (st data : Nat) => t.jtag.status = st ∧ t.jtag.data = data ∧ 4 * t.jtag.word = o
          ∧ t.get Reg.PORT.TAP_STATUS.PENDING = 0 ∧ t.get Reg.PORT.TAP_STATUS.ERROR = st
          ∧ t.get Reg.PORT.TAP_STATUS.ACCESSES = (s.get Reg.PORT.TAP_STATUS.ACCESSES + 1) % 65536 ∧ t.agents = s.agents
        (op = 1 → testBit dr.toNat 51 = false → plainOff o = true → o / 0x4000 ∉ [0, 2] → o % 0x4000 ≠ 0x0C → o ≠ 0x24070 →
          s.mayRead .tap o = true → ∃ t : State, exec (.regaccUpdate dr) s = .next t
            ∧ ended t 0 ((s.readTurn .tap o).readWord o % 2 ^ 32))
        ∧ (op = 2 → plainOff o = true → o / 0x4000 ≠ 2 → s.mayWrite .tap o d = true → ∃ t : State, exec (.regaccUpdate dr) s = .next t
            ∧ ended t 0 0 ∧ ∀ f, (Acc.rw, f) ∈ fieldsAt o → t.get f = fieldStores f (bits d.toNat f.hi f.lo) % 2 ^ f.width)
        ∧ (op = 1 → testBit dr.toNat 51 = false → s.bankFree = true → s.powered (rdAccess .tap o) = true →
            s.offsetDefined (rdAccess .tap o).norm.1 = false → ∃ t : State, exec (.regaccUpdate dr) s = .next t ∧ ended t 1 0))))
  ∧ (∀ (x : Src) (l : BitVec 2) (s : State), s.parityOk Slot.GUARD = true →
    let c : Word := 0x100#32 ||| l.zeroExtend 32
    let idle := s.get Reg.GUARD.AUTH_STATUS.BUSY ≠ 1
    let auth := [Reg.GUARD.AUTH_STATUS.RESULT, Reg.GUARD.AUTH_STATUS.BUSY, Reg.GUARD.AUTH_STATUS.LEVEL, Hdr.STATUS_PARITY_ERR Slot.GUARD]
    let answers := fun (i : Instr) (r : Nat) => ∃ t : State, exec i s = .next t ∧ t.get Reg.GUARD.AUTH_STATUS.RESULT = r
      ∧ t.get Reg.GUARD.AUTH_STATUS.BUSY = s.get Reg.GUARD.AUTH_STATUS.BUSY ∧ s.keeps t auth ∧ t.agents = s.agents
    (s.mayWrite x 0x4064 c = true →
      (¬ idle → ∃ t, exec (.challenge x l) s = .next t ∧ t.auth = s.auth ∧ s.keeps t [Hdr.STATUS_PARITY_ERR Slot.GUARD] ∧ t.agents = s.agents)
      ∧ (idle → s.authLockout = true → answers (.challenge x l) auLocked)
      ∧ (idle → s.authLockout = false → l = 0 → answers (.challenge x l) auBadCmd)
      ∧ (idle → s.authLockout = false → l ≠ 0 → ∃ t, exec (.challenge x l) s = .next t ∧ t.auth.drawing = some l.toNat
          ∧ t.get Reg.GUARD.AUTH_STATUS.BUSY = 1 ∧ s.keeps t auth ∧ t.agents = s.agents))
    ∧ (s.mayWrite x 0x4064 0x200 = true →
      (¬ idle → ∃ t, exec (.submit x) s = .next t ∧ t.auth = s.auth ∧ s.keeps t [Hdr.STATUS_PARITY_ERR Slot.GUARD] ∧ t.agents = s.agents)
      ∧ (idle → s.auth.challenge = none → answers (.submit x) auBadCmd)
      ∧ (∀ v f, idle → s.auth.challenge = some (v, f) →
        (f + authSecond < s.fc → answers (.submit x) auBadCmd)
        ∧ (s.fc ≤ f + authSecond → ∃ t, exec (.submit x) s = .next t ∧ t.auth.checking = some (s.words8 Reg.GUARD.AUTH_RESP)
            ∧ t.get Reg.GUARD.AUTH_STATUS.BUSY = 1 ∧ s.keeps t auth ∧ t.agents = s.agents)))
    ∧ (s.mayWrite x 0x4064 0x400 = true → idle → ∃ t, exec (.drop x) s = .next t ∧ t.get Reg.GUARD.PORT_LEVEL.LEVEL = 0
      ∧ (s.get Reg.GUARD.PORT_LEVEL.LEVEL ≠ 0 → t.get Reg.PORT.EVENT.LEVEL = 1)
      ∧ s.keeps t [Reg.GUARD.PORT_LEVEL.LEVEL, Reg.PORT.EVENT.LEVEL, Hdr.STATUS_PARITY_ERR Slot.GUARD] ∧ t.agents = s.agents))
  ∧ (∀ (chal : BitVec 256) (s : State),
    (s.auth.drawing = none → exec (.challengeReady chal) s = .next s)
    ∧ (∀ v, s.auth.drawing = some v → ∃ t, exec (.challengeReady chal) s = .next t ∧ t.auth.challenge = some (v, s.fc)
      ∧ t.auth.drawing = none ∧ t.get Reg.GUARD.AUTH_STATUS.RESULT = auReady ∧ t.get Reg.GUARD.AUTH_STATUS.BUSY = 0
      ∧ (∀ n < 8, t.get (Reg.GUARD.AUTH_CHAL n) = chal.toNat / 2 ^ (32 * n) % 2 ^ 32) ∧ t.agents = s.agents)
    ∧ (s.auth.checking = none ∨ s.auth.challenge = none → exec .authCheckDone s = .next s)
    ∧ (∀ resp v f, s.auth.checking = some resp → s.auth.challenge = some (v, f) → ∃ t, exec .authCheckDone s = .next t
      ∧ t.auth.checking = none ∧ t.auth.challenge = none ∧ t.get Reg.GUARD.AUTH_STATUS.BUSY = 0 ∧ t.agents = s.agents
      ∧ (s.authGrants v resp = true → v < 4 → t.get Reg.GUARD.PORT_LEVEL.LEVEL = v ∧ t.get Reg.GUARD.AUTH_STATUS.RESULT = auGranted
          ∧ t.auth.refusals = 0)
      ∧ (s.authGrants v resp = false → t.get Reg.GUARD.PORT_LEVEL.LEVEL = s.get Reg.GUARD.PORT_LEVEL.LEVEL
          ∧ t.get Reg.GUARD.AUTH_STATUS.RESULT = auRefused ∧ t.auth.refusals = s.auth.refusals + 1
          ∧ s.counted t Reg.GUARD.AUTH_STATUS.FAILS 1 ∧ (7 ≤ s.auth.refusals → t.auth.lockout = some (s.fc + 600000000))))
    ∧ (s.auth.lockout = none → exec .lockoutExpire s = .next s)
    ∧ ∀ e, s.auth.lockout = some e → (s.fc < e → exec .lockoutExpire s = .next s)
      ∧ (e ≤ s.fc → exec .lockoutExpire s = .next { s with auth := { s.auth with lockout := none } }))
  ∧ ∀ (x : Src) (d : Word) (s : State),
    (s.mayWrite x 0x8054 d = true → ∃ t, exec (.mboxOutWrite x d) s = .next t ∧ t.agents = s.agents
      ∧ s.keeps t [Reg.PORT.MBOX_OUT.WORD, Reg.PORT.MBOX_STATUS.OUT_FULL, Reg.PORT.MBOX_STATUS.OUT_OVR, Hdr.STATUS_PARITY_ERR Slot.PORT]
      ∧ (srcIsPort x = true → t.get Reg.PORT.MBOX_OUT.WORD = s.get Reg.PORT.MBOX_OUT.WORD
          ∧ t.get Reg.PORT.MBOX_STATUS.OUT_FULL = s.get Reg.PORT.MBOX_STATUS.OUT_FULL)
      ∧ (srcIsPort x = false → s.get Reg.PORT.MBOX_STATUS.OUT_FULL = 0 → t.get Reg.PORT.MBOX_OUT.WORD = d.toNat
          ∧ t.get Reg.PORT.MBOX_STATUS.OUT_FULL = 1)
      ∧ (srcIsPort x = false → s.get Reg.PORT.MBOX_STATUS.OUT_FULL = 1 → t.get Reg.PORT.MBOX_OUT.WORD = s.get Reg.PORT.MBOX_OUT.WORD
          ∧ t.get Reg.PORT.MBOX_STATUS.OUT_OVR = 1))
    ∧ (s.mayRead x 0x8054 = true → ∃ t, exec (.mboxOutRead x) s = .next t ∧ t.agents = s.agents
      ∧ t.respOf x = some (okResp x (s.get Reg.PORT.MBOX_OUT.WORD)) ∧ t.get Reg.PORT.MBOX_OUT.WORD = s.get Reg.PORT.MBOX_OUT.WORD
      ∧ (srcIsPort x = true → t.get Reg.PORT.MBOX_STATUS.OUT_FULL = 0 ∧ t.get Reg.PORT.EVENT.MBOX_TAKEN = 1)
      ∧ (srcIsPort x = false → t.get Reg.PORT.MBOX_STATUS.OUT_FULL = s.get Reg.PORT.MBOX_STATUS.OUT_FULL))
    ∧ (s.mayWrite x 0x8058 d = true → ∃ t, exec (.mboxInWrite x d) s = .next t ∧ t.agents = s.agents
      ∧ s.keeps t [Reg.PORT.MBOX_IN.WORD, Reg.PORT.MBOX_STATUS.IN_FULL, Reg.PORT.MBOX_STATUS.IN_OVR, Reg.PORT.EVENT.MBOX_IN,
          Hdr.STATUS_PARITY_ERR Slot.PORT]
      ∧ (srcIsPort x = false → t.get Reg.PORT.MBOX_IN.WORD = s.get Reg.PORT.MBOX_IN.WORD
          ∧ t.get Reg.PORT.MBOX_STATUS.IN_FULL = s.get Reg.PORT.MBOX_STATUS.IN_FULL)
      ∧ (srcIsPort x = true → s.get Reg.PORT.MBOX_STATUS.IN_FULL = 0 → t.get Reg.PORT.MBOX_IN.WORD = d.toNat
          ∧ t.get Reg.PORT.MBOX_STATUS.IN_FULL = 1 ∧ t.get Reg.PORT.EVENT.MBOX_IN = 1)
      ∧ (srcIsPort x = true → s.get Reg.PORT.MBOX_STATUS.IN_FULL = 1 → t.get Reg.PORT.MBOX_IN.WORD = s.get Reg.PORT.MBOX_IN.WORD
          ∧ t.get Reg.PORT.MBOX_STATUS.IN_OVR = 1))
    ∧ (s.mayRead x 0x8058 = true → ∃ t, exec (.mboxInRead x) s = .next t ∧ t.get Reg.PORT.MBOX_IN.WORD = 0
      ∧ t.get Reg.PORT.MBOX_STATUS.IN_FULL = 0 ∧ t.respOf x = some (okResp x ((s.readTurn x 0x8058).readWord 0x8058)) ∧ t.agents = s.agents)

/-- TARGET_STATE_WRITE reads BUSY in a Toss, REFUSED_PARITY, else stores the state (at most W4) with ACCEPTED or CLAMPED; deeper
sets a descent in motion, shallower starts a rise, equal moves nothing (R577, R579). IDLE_DESCENT after IDLE_REVS idle
boundaries starts one step (R578); STEP_DOWN_DONE, its work done (from W2 once the Wheel is on AON_CLK), changes STATE and
PREV with EVENT.STATE; a wake source of its fc leaves from the deeper state (R580); WAKE of a source that arose starts a rise
to W0, LAST and EVENT.WAKE telling (R581); RISE_REACHES_W2 reaches W2 and has the Wheel pass to FAB_CLK at a notch boundary
(R575, R576); RISE_DONE at the least exit time writes LAST_EXIT_FC and the state (R583). PORST brings every register to reset
but the straps' and fuses', and empties the crash store; HUB_RESET keeps the fuses, the crash registers and store, the command
history, and rebases the agents (R586, R494); AGENT_RESET before READY from fc 256 on unfreezes and clears an agent (R589);
READY sets READY and EVENT.READY, pushes the limit and trains the BSL (R587). Without cause they change nothing. -/
def Obligations.PowerStatesAndResetsAct : Prop :=
  (∀ (x : Src) (d : Word) (s : State), s.mayWrite x 0x4C040 d = true →
    let v := min 4 (d.toNat % 8)
    let parity := Hdr.STATUS_PARITY_ERR Slot.POWER
    let target := [Reg.POWER.TARGET_STATE.STATE, Reg.POWER.TARGET_STATE.RESULT, parity]
    (s.tossActive = true → ∃ t, exec (.targetStateWrite x d) s = .next t ∧ t.get Reg.POWER.TARGET_STATE.RESULT = ptBusy ∧ t.pow = s.pow
      ∧ s.keeps t [Reg.POWER.TARGET_STATE.RESULT, parity] ∧ t.agents = s.agents)
    ∧ (s.tossActive = false → s.parityOk Slot.POWER = true →
      (v = s.power → ∃ t, exec (.targetStateWrite x d) s = .next t ∧ t.get Reg.POWER.TARGET_STATE.STATE = v
        ∧ t.get Reg.POWER.TARGET_STATE.RESULT = ptAccepted ∧ t.pow = { s.pow with descend := none } ∧ s.keeps t target
        ∧ t.agents = s.agents)
      ∧ (v < s.power → s.pow.step = none → s.pow.rise = none → s.pow.left = none → ∃ t, exec (.targetStateWrite x d) s = .next t
        ∧ t.get Reg.POWER.TARGET_STATE.STATE = v ∧ t.get Reg.POWER.TARGET_STATE.RESULT = ptAccepted
        ∧ t.pow.rise = some (s.power, s.fc, v, decide (s.power < 3)) ∧ t.pow.descend = none
        ∧ t.get Reg.POWER.WAKE_SOURCES.LAST = wkTarget ∧ t.get Reg.POWER.EVENT.WAKE = 1
        ∧ s.keeps t (Reg.POWER.WAKE_SOURCES.LAST :: Reg.POWER.EVENT.WAKE :: target) ∧ t.agents = s.agents)
      ∧ (s.power < v → ∃ t, exec (.targetStateWrite x d) s = .next t ∧ t.get Reg.POWER.TARGET_STATE.STATE = v
        ∧ t.get Reg.POWER.TARGET_STATE.RESULT = (if s.floor < v then ptClamped else ptAccepted) ∧ t.pow.descend = some s.fc
        ∧ (s.pow.step = none → s.pow.rise = none → s.pow.wakes = [] → s.get Reg.POWER.CTRL.ENABLE = 1 → s.power < s.floor →
            t.pow.step = some (s.power + 1, s.fc) ∧ t.get Reg.POWER.CURRENT_STATE.MOVING = 1)
        ∧ (s.power ≠ 0 → s.keeps t (Reg.POWER.CURRENT_STATE.MOVING :: target) ∧ t.agents = s.agents))))
  ∧ (∀ s : State,
    let idle := s.get Reg.POWER.IDLE_REVS.REVS ≤ s.get Reg.POWER.IDLE_REVS.COUNT ∧ s.power < s.limit
    (¬ idle → exec .idleDescent s = .next s)
    ∧ (idle → s.pow.step = none → s.pow.rise = none → s.pow.wakes = [] → ∃ t, exec .idleDescent s = .next t
      ∧ t.pow.step = some (s.power + 1, s.fc) ∧ t.get Reg.POWER.CURRENT_STATE.MOVING = 1
      ∧ (s.power ≠ 0 → s.keeps t [Reg.POWER.CURRENT_STATE.MOVING] ∧ t.agents = s.agents))
    ∧ (s.pow.step = none → s.pow.left = none → exec .stepDownDone s = .next s)
    ∧ (∀ n f, s.pow.step = some (n, f) →
      let done : Bool := if n = 1 then (!s.tapResultsDue || decide (f + 8192 ≤ s.fc))
          && mergeCount (s.fh 0).merge + mergeCount (s.fh 1).merge == 0 && (s.fh 0).arrivals == [] && (s.fh 1).arrivals == []
          && (s.fh 0).fifo == [] && (s.fh 1).fifo == []
        else if n = 2 then s.score.rollup.isNone else if n = 3 then s.get Reg.WHEEL.TIMEBASE_SEL.AON == 1 else true
      (done = false → exec .stepDownDone s = .next s)
      ∧ (done = true → s.pow.wakes ≠ [] → exec .stepDownDone s = .next { s with pow := { s.pow with left := some (s.fc, n, true) } })
      ∧ (done = true → s.pow.wakes = [] → n ≤ s.floor → n < 5 → s.pow.descend = none → ∃ t, exec .stepDownDone s = .next t ∧ t.power = n
        ∧ t.get Reg.POWER.CURRENT_STATE.PREV = s.power % 8 ∧ t.get Reg.POWER.EVENT.STATE = 1 ∧ t.pow.step = none
        ∧ t.get Reg.POWER.CURRENT_STATE.MOVING = 0
        ∧ s.keeps t [Reg.POWER.CURRENT_STATE.STATE, Reg.POWER.CURRENT_STATE.PREV, Reg.POWER.EVENT.STATE, Reg.POWER.CURRENT_STATE.MOVING,
            Reg.POWER.IDLE_REVS.COUNT] ∧ t.agents = s.agents))
    ∧ (∀ c : WakeCause, c ≠ .bsl →
      (s.pow.wakes.contains (wakeCode c) = false → exec (.wake c) s = .next s)
      ∧ (s.pow.wakes.contains (wakeCode c) = true → s.power ≠ 0 → s.pow.step = none → s.pow.rise = none → s.pow.left = none →
        ∃ t, exec (.wake c) s = .next t ∧ t.pow.rise = some (s.power, s.fc, 0, decide (s.power < 3))
          ∧ t.pow.wakes = s.pow.wakes.erase (wakeCode c) ∧ t.get Reg.POWER.WAKE_SOURCES.LAST = wakeCode c
          ∧ t.get Reg.POWER.EVENT.WAKE = 1 ∧ s.keeps t [Reg.POWER.WAKE_SOURCES.LAST, Reg.POWER.EVENT.WAKE] ∧ t.agents = s.agents))
    ∧ (s.pow.wakes.contains wkBsl = true ∨ (s.power = 3 ∧ s.wakeEnabled wkBsl = true) → s.power ≠ 0 → s.pow.step = none → s.pow.rise = none →
      s.pow.left = none →
      ∃ t, exec (.wake .bsl) s = .next t ∧ t.pow.rise = some (s.power, s.fc, 0, decide (s.power < 3))
        ∧ t.get Reg.POWER.WAKE_SOURCES.LAST = wkBsl ∧ t.get Reg.POWER.EVENT.WAKE = 1 ∧ t.agents = s.agents)
    ∧ (s.bank.held = [] → s.bsl.reqs = [] →
      (s.pow.rise = none → exec .riseReachesW2 s = .next s)
      ∧ (∀ a f r, s.pow.rise = some (a, f, r, true) → exec .riseReachesW2 s = .next s)
      ∧ (∀ a f r, s.pow.rise = some (a, f, r, false) → ∃ t, exec .riseReachesW2 s = .next t ∧ t.power = 2
        ∧ t.wheel.clockNext = (if s.get Reg.WHEEL.TIMEBASE_SEL.AON = 1 then some false else none) ∧ t.pow.rise = some (a, f, r, true)
        ∧ s.keeps t [Reg.POWER.CURRENT_STATE.STATE, Reg.POWER.CURRENT_STATE.PREV, Reg.POWER.IDLE_REVS.COUNT]
        ∧ t.agents = s.agents)
      ∧ (∀ a f r, s.pow.rise = some (a, f, r, true) → f + exitFc a ≤ s.fc → r < 5 → a < 8 → s.crash.waiting = [] → s.cams.w0 = [] →
        ∃ t, exec .riseDone s = .next t ∧ t.power = r ∧ t.pow.rise = none ∧ t.get Reg.POWER.LAST_EXIT_FC.FROM = a
          ∧ t.get Reg.POWER.LAST_EXIT_FC.FC = (s.fc - f) % 2 ^ 29 ∧ t.get Reg.POWER.CURRENT_STATE.PREV = s.power % 8
          ∧ s.keeps t [Reg.POWER.CURRENT_STATE.STATE, Reg.POWER.CURRENT_STATE.PREV, Reg.POWER.IDLE_REVS.COUNT,
              Reg.POWER.LAST_EXIT_FC.FROM, Reg.POWER.LAST_EXIT_FC.FC]))
    ∧ (s.riseDue = false → exec .riseDone s = .next s))
  ∧ (∀ (p : Straps) (f : Fuses) (s : State),
    let lead := [Reg.HUB.ROLE.LEAD_SEL, Reg.HUB.ROLE.LEAD_HALF, Reg.TEAM.HALF_STATUS.LANE_OWNER, Reg.TEAM.HALF_STATUS.NORTH_CLAIM,
      Reg.TEAM.HALF_STATUS.SOUTH_CLAIM, Reg.PORT.PAGE_CAPS.KEY_BLANK, Reg.TEAM.HALF_STATUS.TOSS_PREF]
    let straps := fun (t : State) => t.get Reg.HUB.ROLE.LEAD_SEL = bit p.leadSel ∧ t.get Reg.HUB.ROLE.LEAD_HALF = bit p.leadSel
      ∧ t.get Reg.TEAM.HALF_STATUS.LANE_OWNER = bit p.leadSel ∧ t.fc = 0 ∧ t.isReady = false ∧ t.get Reg.GUARD.PORT_LEVEL.LEVEL = 0
      ∧ t.whistle = {} ∧ t.cams = {} ∧ t.score = {} ∧ t.hang = {} ∧ t.team = {} ∧ t.pow = {} ∧ t.pending = s.pending
    (∃ t, exec (.porst p f) s = .next t ∧ straps t ∧ t.agents = [] ∧ t.crash.rec0 = none ∧ t.crash.rec1 = none ∧ t.auth.key = f.key
      ∧ t.get Reg.PORT.PAGE_CAPS.KEY_BLANK = (if f.checkOk then bit f.keyBlank else 0)
      ∧ t.get Reg.TEAM.HALF_STATUS.TOSS_PREF = bit f.tossPref ∧ (f.checkOk = false → t.get ⟨0x4018, 8, 8, 0⟩ = 1)
      ∧ ∀ g : Fld, g.key ∉ lead.map Fld.key → (f.checkOk = false → g.key / 64 ≠ 0x4018 / 8) → t.get g = g.rst)
    ∧ ∃ t, exec (.hubReset p) s = .next t ∧ straps t ∧ t.auth.key = s.auth.key ∧ t.trace.history = s.trace.history
      ∧ (0 ∉ s.crash.capturing → t.crash.rec0 = s.crash.rec0) ∧ (1 ∉ s.crash.capturing → t.crash.rec1 = s.crash.rec1)
      ∧ (s.auth.fuseFail = false → t.get Reg.PORT.PAGE_CAPS.KEY_BLANK = s.get Reg.PORT.PAGE_CAPS.KEY_BLANK % 2)
      ∧ t.get Reg.TEAM.HALF_STATUS.TOSS_PREF = s.get Reg.TEAM.HALF_STATUS.TOSS_PREF % 2
      ∧ (∀ g : Fld, crashKept g.key = false → g.key ∉ lead.map Fld.key → t.get g = g.rst)
      ∧ (s.cut.job = none → ∀ a < Config.agentCount, t.agent a = (s.agentNow a).rebase s.wheel.notchCount s.fc))
  ∧ (∀ (a : AgentId) (s : State), agentType a.toNat ≠ 0 →
    (s.fc < 256 ∨ s.isReady = true → exec (.agentReset a) s = .next s)
    ∧ (256 ≤ s.fc → s.isReady = false → (s.agent a.toNat).waitingWrites = [] → ∃ t, exec (.agentReset a) s = .next t
      ∧ (t.agent a.toNat).frozen = false ∧ (t.agent a.toNat).halted = false ∧ (t.agent a.toNat).shadow = none
      ∧ (t.agent a.toNat).tap = {} ∧ (t.agent a.toNat).trig = 0 ∧ (t.agent a.toNat).ctx = (s.agent a.toNat).ctx
      ∧ (t.agent a.toNat).cells = (s.agent a.toNat).cells ∧ s.others t a.toNat ∧ s.sameRegs t))
  ∧ ∀ s : State, (s.isReady = true → exec .ready s = .next s)
    ∧ (s.isReady = false → s.crash.waiting = [] → s.bank.held = [] → s.bsl.reqs = [] → ∃ t, exec .ready s = .next t ∧ t.isReady = true
      ∧ t.get Reg.POWER.EVENT.READY = 1 ∧ (s.cfg Reg.HANG.CTRL.ENABLE = 1 → t.hang.limit = s.get Reg.HANG.UNIT_WD_FC.LIMIT)
      ∧ (s.get Reg.PORT.BSL_CTRL.EN = 1 → t.link = lsTraining)
      ∧ s.keeps t [Reg.POWER.CURRENT_STATE.READY, Reg.POWER.EVENT.READY, Reg.PORT.BSL_STATUS.STATE, Reg.PORT.EVENT.LINK] ∧ t.agents = s.agents)

/-- START, admitted and without a parity error of SELFTEST, reads REFUSED_DISABLED, BUSY, NO_EFFECT (no such test) or
REFUSED_STATE (a crash slot in use, a cut or the apply engine), else ACCEPTED: the test runs with unit 0 of each selected half
out of service, or ends PASS with no half selected (R591 to R593). STOP of a running test reads ACCEPTED and the test ends
STOPPED, else NO_EFFECT (R597). TEST_UNIT_DONE at a unit's time counts a failure and takes the next unit, at the last the half
is done; of an ending test it takes the unit back; when no unit is out the test ends with OUTCOME and EVENT.TEST_DONE (R595).
TEST_PREEMPT with its cause ends the test PREEMPTED (R594). CAL_* read BUSY, REFUSED_STATE or ACCEPTED with BUSY set;
CALIBRATION_END sets DONE or FAILED and EVENT.CAL_DONE (R596). Errors of the hub's SRAMs count ECC_CE or set FAULT.UE and show
in ECC_LAST, once for a word in one fc; a unit's own count in its A_AON2 and MU_ECC_COUNT or A_AON3 (R39); PATROL_READ moves
on (R600 to R602). Without cause they change nothing. -/
def Obligations.SelfTestCalibrationAndEccAct : Prop :=
  (∀ (x : Src) (s : State), s.parityOk Slot.SELFTEST = true →
    let parity := Hdr.STATUS_PARITY_ERR Slot.SELFTEST
    let only := fun (t : State) => s.keeps t [Reg.SELFTEST.CMD.RESULT, parity] ∧ t.test = s.test ∧ t.agents = s.agents
    let res := fun (t : State) (r : Nat) => t.get Reg.SELFTEST.CMD.RESULT = r
    (s.mayWrite x 0x5C044 1 = true → let u := s.writeTurn x 0x5C044 1
      let n := u.cfg Reg.SELFTEST.TEST_SEL.TEST
      (u.cfg Reg.SELFTEST.CTRL.ENABLE = 0 → ∃ t : State, exec (.start x) s = .next t ∧ res t teDisabled ∧ only t)
      ∧ (u.cfg Reg.SELFTEST.CTRL.ENABLE = 1 →
        let used := (n = 3 ∧ (s.get Reg.CRASH.STATE.SLOT0 ≠ 0 ∨ s.get Reg.CRASH.STATE.SLOT1 ≠ 0))
          ∨ (n = 2 ∧ (s.cut.job.isSome = true ∨ s.applyOn = true))
        (s.testBusy = true → ∃ t : State, exec (.start x) s = .next t ∧ res t teBusy ∧ only t)
        ∧ (s.testBusy = false → n = 0 ∨ 4 < n → ∃ t : State, exec (.start x) s = .next t ∧ res t teNoEffect ∧ only t)
        ∧ (s.testBusy = false → 1 ≤ n → n ≤ 4 → used → ∃ t : State, exec (.start x) s = .next t ∧ res t teState ∧ only t)
        ∧ (s.testBusy = false → 1 ≤ n → n ≤ 4 → ¬ used → ∃ t : State, exec (.start x) s = .next t ∧ res t teAccepted ∧ t.agents = s.agents
          ∧ (u.cfg Reg.SELFTEST.TEST_SEL.NORTH = 1 → t.test.test = n ∧ t.test.north = some 0 ∧ t.get Reg.SELFTEST.STATE.STATE = 1
              ∧ t.get Reg.SELFTEST.BANK_OFFLINE.NORTH_VALID = 1 ∧ t.get Reg.SELFTEST.BANK_OFFLINE.NORTH = 0)
          ∧ (u.cfg Reg.SELFTEST.TEST_SEL.SOUTH = 1 → t.test.test = n ∧ t.test.south = some 0 ∧ t.get Reg.SELFTEST.STATE.STATE = 1
              ∧ t.get Reg.SELFTEST.BANK_OFFLINE.SOUTH_VALID = 1 ∧ t.get Reg.SELFTEST.BANK_OFFLINE.SOUTH = 0)
          ∧ (u.cfg Reg.SELFTEST.TEST_SEL.NORTH = 0 → u.cfg Reg.SELFTEST.TEST_SEL.SOUTH = 0 → t.testBusy = false
              ∧ t.get Reg.SELFTEST.RESULT.OUTCOME = toPass ∧ t.get Reg.SELFTEST.EVENT.TEST_DONE = 1))))
    ∧ (s.mayWrite x 0x5C044 2 = true →
      (s.testBusy = true → ∃ t : State, exec (.stop x) s = .next t ∧ res t teAccepted
        ∧ t.test = { s.test with ending := some (s.test.ending.getD toStopped) } ∧ t.get Reg.SELFTEST.STATE.STATE = 2
        ∧ s.keeps t [Reg.SELFTEST.CMD.RESULT, Reg.SELFTEST.STATE.STATE, parity] ∧ t.agents = s.agents)
      ∧ (s.testBusy = false → ∃ t : State, exec (.stop x) s = .next t ∧ res t teNoEffect ∧ only t))
    ∧ ∀ r ∈ ([(.calWheel x, 1), (.calBsl x, 2), (.calRing x, 3)] : List (Instr × Nat)),
      s.mayWrite x 0x5C054 (BitVec.ofNat 32 r.2) = true →
      let ready : Bool := if r.2 = 1 then s.wheel.sel == 2 && s.get Reg.WHEEL.SOURCE.STATE == wheelLocked
        else if r.2 = 2 then s.link == lsUp
        else s.get Reg.TEAM.RING_STATUS.EAST_UP == 1 || s.get Reg.TEAM.RING_STATUS.WEST_UP == 1
      let busy := testBit (s.get Reg.SELFTEST.CAL_STATUS.BUSY) (r.2 - 1)
      let told := fun (t : State) (c : Nat) => t.get Reg.SELFTEST.CAL_CMD.RESULT = c ∧ t.agents = s.agents
      (busy = true → ∃ t : State, exec r.1 s = .next t ∧ told t caBusy ∧ s.keeps t [Reg.SELFTEST.CAL_CMD.RESULT, parity])
      ∧ (busy = false → ready = false → ∃ t : State, exec r.1 s = .next t ∧ told t caState ∧ s.keeps t [Reg.SELFTEST.CAL_CMD.RESULT, parity])
      ∧ (busy = false → ready = true → ∃ t : State, exec r.1 s = .next t ∧ told t caAccepted
        ∧ testBit (t.get Reg.SELFTEST.CAL_STATUS.BUSY) (r.2 - 1) = true ∧ testBit (t.get Reg.SELFTEST.CAL_STATUS.DONE) (r.2 - 1) = false
        ∧ testBit (t.get Reg.SELFTEST.CAL_STATUS.FAILED) (r.2 - 1) = false ∧ (r.2 = 1 → t.wheel.calRunning = true)
        ∧ s.keeps t [Reg.SELFTEST.CAL_CMD.RESULT, Reg.SELFTEST.CAL_STATUS.BUSY, Reg.SELFTEST.CAL_STATUS.DONE,
            Reg.SELFTEST.CAL_STATUS.FAILED, parity]))
  ∧ (∀ (half : Half) (fail : Bool) (s : State), let h := halfNo half
    let unit := s.test.unit h
    let other := s.test.unit (1 - h)
    let start := if h = 0 then s.test.northFc else s.test.southFc
    let cause : Bool := (s.test.test == 3 && s.crash.capturing != []) || (s.test.test == 2 && s.cut.job.isSome)
      || (s.test.test == 1 && s.test.trigs.contains h)
    (unit = none → exec (.testUnitDone half fail) s = .next s)
    ∧ (∀ u, unit = some u →
      (s.test.ending = none → s.fc < start + testTime s.test.test → exec (.testUnitDone half fail) s = .next s)
      ∧ (s.test.ending = none → start + testTime s.test.test ≤ s.fc → u + 1 < testUnits s.test.test →
        ∃ t, exec (.testUnitDone half fail) s = .next t ∧ t.test.unit h = some (u + 1) ∧ t.test.unit (1 - h) = other ∧ t.agents = s.agents
          ∧ (fail = true → s.counted t Reg.SELFTEST.RESULT.FAILS 1 ∧ t.test.failed = true
              ∧ (s.test.failed = false → t.get Reg.SELFTEST.RESULT.FIRST_FAIL = u % 64 ∧ t.get Reg.SELFTEST.RESULT.FAIL_HALF = h))
          ∧ (fail = false → t.get Reg.SELFTEST.RESULT.FAILS = s.get Reg.SELFTEST.RESULT.FAILS))
      ∧ (∀ o, o < 16 → s.test.ending = some o → other = none → ∃ t, exec (.testUnitDone half fail) s = .next t ∧ t.testBusy = false
        ∧ t.get Reg.SELFTEST.RESULT.OUTCOME = o ∧ t.get Reg.SELFTEST.STATE.STATE = 0 ∧ t.get Reg.SELFTEST.EVENT.TEST_DONE = 1
        ∧ t.agents = s.agents)
      ∧ (s.test.ending = none → start + testTime s.test.test ≤ s.fc → u + 1 = testUnits s.test.test → other = none →
        ∃ t, exec (.testUnitDone half fail) s = .next t ∧ t.testBusy = false ∧ t.get Reg.SELFTEST.EVENT.TEST_DONE = 1
          ∧ t.get Reg.SELFTEST.RESULT.OUTCOME = (if fail || s.test.failed then toFail else toPass) ∧ t.agents = s.agents))
    ∧ (cause = false ∨ unit = none → exec (.testPreempt half) s = .next s)
    ∧ (cause = true → unit.isSome = true → ∃ t, exec (.testPreempt half) s = .next t
      ∧ t.test = { s.test with ending := some (s.test.ending.getD toPreempted) } ∧ t.get Reg.SELFTEST.STATE.STATE = 2
      ∧ s.keeps t [Reg.SELFTEST.STATE.STATE] ∧ t.agents = s.agents))
  ∧ (∀ (kind : CalKind) (ok : Bool) (s : State), let k := calBit kind
    let due := testBit (s.get Reg.SELFTEST.CAL_STATUS.BUSY) k = true ∧ ¬ (ok = true ∧ kind = .wheel ∧ s.wheel.calRunning = true)
    (¬ due → exec (.calibrationEnd kind ok) s = .next s)
    ∧ (due → ∃ t, exec (.calibrationEnd kind ok) s = .next t ∧ testBit (t.get Reg.SELFTEST.CAL_STATUS.BUSY) k = false
      ∧ testBit (t.get (if ok then Reg.SELFTEST.CAL_STATUS.DONE else Reg.SELFTEST.CAL_STATUS.FAILED)) k = true
      ∧ t.get Reg.SELFTEST.EVENT.CAL_DONE = 1
      ∧ s.keeps t [Reg.SELFTEST.CAL_STATUS.BUSY, Reg.SELFTEST.CAL_STATUS.DONE, Reg.SELFTEST.CAL_STATUS.FAILED, Reg.SELFTEST.EVENT.CAL_DONE]
      ∧ t.agents = s.agents))
  ∧ ∀ (m : Sram) (word : Nat) (s : State),
    let last := fun (t : State) (w ue : Nat) => t.get Reg.GUARD.ECC_LAST.VALID = 1 ∧ t.get Reg.GUARD.ECC_LAST.UE = ue
      ∧ t.get Reg.GUARD.ECC_LAST.HALF = halfNo m.half ∧ t.get Reg.GUARD.ECC_LAST.PAGE = sramPage m.kind + 1
      ∧ t.get Reg.GUARD.ECC_LAST.WORD = w % 2 ^ 19
    let ecc := [Reg.GUARD.ECC_CE.COUNT, Reg.GUARD.ECC_LAST.VALID, Reg.GUARD.ECC_LAST.UE, Reg.GUARD.ECC_LAST.HALF,
      Reg.GUARD.ECC_LAST.PAGE, Reg.GUARD.ECC_LAST.WORD]
    let key := sramKey m
    let place := Sparse.get s.integ.patrol key (0, 0)
    let due := s.power ≤ 1 ∧ s.isReady = true ∧ (place.2 + 16 ≤ s.fc ∨ Sparse.has s.integ.patrol key = false)
    (s.eccSeen m word = false → ∃ t, exec (.sramCorrectedError (.hub m) word) s = .next t ∧ s.counted t Reg.GUARD.ECC_CE.COUNT 1 ∧ (s.integ.ecc = none → last t word 0)
      ∧ s.keeps t ecc ∧ t.agents = s.agents)
    ∧ (s.eccSeen m word = true → exec (.sramCorrectedError (.hub m) word) s = .next s)
    ∧ (s.eccSeen m word = false → ∃ t, exec (.sramUe (.hub m) word) s = .next t ∧ t.get (Hdr.FAULT_UE (sramPage m.kind)) = 1 ∧ (s.integ.ecc = none → last t word 1)
      ∧ (m.kind = .reload → t.mill.imageUe = true) ∧ (m.kind = .staging → ∀ j, s.cut.job = some j → ∃ k, t.cut.job = some k ∧ k.ue = true)
      ∧ t.agents = s.agents)
    ∧ (∀ (a : AgentId) (st : UnitStore), agentType a.toNat ≠ 0 → storeOk st (agentType a.toNat) = true →
      let g := s.agentNow a.toNat
      (∃ t, exec (.sramCorrectedError (.unit a st) word) s = .next t ∧ (t.agent a.toNat).aon2 = (g.aon2 + 1) % 2 ^ 32
        ∧ (t.agent a.toNat).get AReg.MU_ECC_COUNT = (if st = .scratchpad then satAdd (g.get AReg.MU_ECC_COUNT) 1 65535 % 65536
            else g.get AReg.MU_ECC_COUNT) ∧ s.onlyAgent t a.toNat)
      ∧ ∃ t, exec (.sramUe (.unit a st) word) s = .next t ∧ (t.agent a.toNat).aon3 = (g.aon3 + 1) % 2 ^ 32
        ∧ (st ≠ .shadow → s.onlyAgent t a.toNat) ∧ (st = .shadow → testBit ((t.agent a.toNat).get AReg.A_FAULT) 1 = true))
    ∧ ∀ found : Option Bool,
      (¬ due → exec (.patrolRead m found) s = .next s)
      ∧ (due → ∃ t, exec (.patrolRead m found) s = .next t
        ∧ Sparse.get t.integ.patrol key (0, 0) = ((place.1 + 1) % sramWords m.kind, s.fc)
        ∧ (found = none → ∀ f : Fld, t.get f = s.get f)
        ∧ (found = some false → s.eccSeen m place.1 = false → s.counted t Reg.GUARD.ECC_CE.COUNT 1 ∧ (s.integ.ecc = none → last t place.1 0) ∧ s.keeps t ecc)
        ∧ (found = some true → s.eccSeen m place.1 = false → t.get (Hdr.FAULT_UE (sramPage m.kind)) = 1
            ∧ (s.integ.ecc = none → last t place.1 1)) ∧ t.agents = s.agents)

/-- For every state in canonical form (the keys of the register fields, of the fields at the start of the fc, of the hardware
updates and of the agents rise strictly) and every command at the front of its queue, or an empty queue: when step answers a
next state, that state is in canonical form, and its queue is the old one without its front. The canonical form is the model's
own (log entry 3); the queue is the task's. -/
def Obligations.StepsKeepTheCanonicalForm : Prop :=
  ∀ s t : State, s.canon → step s = .next t → t.canon ∧ t.pending = s.pending.tail

/-- State.reset is in canonical form, no command waits, fc is 0, every register field holds its reset value (that of its table row
where the spec gives one, else the model's, log entries 2 and 5), no agent differs from its reset state, the hub is not READY,
no access waits or is outstanding, no request, job, capture or message is held, and the Whistle is RUNNING with nothing frozen
(R586 to R588, Table 16-7). -/
def Obligations.ResetIsCanonicalAndHoldsResetValues : Prop :=
  State.reset.canon ∧ State.reset.pending = [] ∧ State.reset.fc = 0 ∧ (∀ f : Fld, State.reset.get f = f.rst ∧ State.reset.cfg f = f.rst)
    ∧ (∀ a, State.reset.agent a = {}) ∧ State.reset.isReady = false ∧ State.reset.bank.held = [] ∧ State.reset.bank.busy = none
    ∧ State.reset.bsl.reqs = [] ∧ State.reset.cut.job = none ∧ State.reset.hopper.job = none ∧ State.reset.crash.capturing = []
    ∧ State.reset.team.inbox = [] ∧ State.reset.whistle.held = [] ∧ State.reset.get Reg.WHISTLE.STATE.STATE = wsRunning
    ∧ State.reset.power = 0 ∧ State.reset.get Reg.GUARD.PORT_LEVEL.LEVEL = 0

/-- For every well-formed command (an agent ID of Table 1-2 of a type that has the resource, numbers in their ranges) and every
state, exec answers a next state: the block has no command that stops it. A command about an agent ID that Table 1-2 leaves
unused is refused by name. -/
def Obligations.WellFormedCommandsComplete : Prop :=
  (∀ (i : Instr) (s : State), i.wf = true → ∃ t, exec i s = .next t)
  ∧ ∀ (a : AgentId) (s : State), agentType a.toNat = 0 → exec (.unitAlarm a) s = .refused (.noSuchUnit a.toNat)
    ∧ exec (.agentReset a) s = .refused (.noSuchUnit a.toNat) ∧ exec (.captureRequest a) s = .refused (.noSuchUnit a.toNat)
end

