-- ==== Sys2Proof/Laws/Sparse.lean ====
section
/-! SUPPORT. Laws of the sparse maps: what a read sees after a write, and that every operation keeps the canonical form. -/

namespace Sys2Proof

variable {α : Type}

/-- A key that is below every listed key is not listed. -/
theorem Sparse.get_ins_same (m : Sparse α) (i : Nat) (v d : α) : Sparse.get (Sparse.ins m i v) i d = v := by
  induction m with
  | nil => simp [Sparse.ins, Sparse.get]
  | cons e m ih =>
    obtain ⟨k, w⟩ := e
    unfold Sparse.ins
    split
    · simp [Sparse.get]
    · split
      · simp [Sparse.get]
      · rename_i h
        simp [Sparse.get, h, ih]

theorem Sparse.get_ins_ne (m : Sparse α) {i j : Nat} (v d : α) (h : j ≠ i) :
    Sparse.get (Sparse.ins m i v) j d = Sparse.get m j d := by
  induction m with
  | nil => simp [Sparse.ins, Sparse.get, h.symm]
  | cons e m ih =>
    obtain ⟨k, w⟩ := e
    unfold Sparse.ins
    split
    · simp [Sparse.get, h.symm]
    · split
      · rename_i hk; subst hk; simp [Sparse.get, h.symm]
      · simp [Sparse.get, ih]

theorem Sparse.get_del_same (m : Sparse α) (i : Nat) (d : α) : Sparse.get (Sparse.del m i) i d = d := by
  induction m with
  | nil => rfl
  | cons e m ih =>
    obtain ⟨k, w⟩ := e
    by_cases hk : k = i
    · subst hk; simpa [Sparse.del, List.filter_cons] using ih
    · simpa [Sparse.del, List.filter_cons, hk, Sparse.get] using ih

theorem Sparse.get_del_ne (m : Sparse α) {i j : Nat} (d : α) (h : j ≠ i) :
    Sparse.get (Sparse.del m i) j d = Sparse.get m j d := by
  induction m with
  | nil => rfl
  | cons e m ih =>
    obtain ⟨k, w⟩ := e
    by_cases hk : k = i
    · subst hk
      simpa [Sparse.del, List.filter_cons, Sparse.get, h.symm] using ih
    · by_cases hj : k = j
      · subst hj; simp [Sparse.del, hk, Sparse.get]
      · simpa [Sparse.del, List.filter_cons, hk, Sparse.get, hj] using ih

variable [DecidableEq α]

/-- A read of the written key gives the written value. -/
theorem Sparse.get_set_same (m : Sparse α) (i : Nat) (v d : α) : Sparse.get (Sparse.set m i v d) i d = v := by
  unfold Sparse.set
  split
  · rename_i h; rw [Sparse.get_del_same, h]
  · exact Sparse.get_ins_same m i v d

/-- A write leaves every other key alone. -/
theorem Sparse.get_set_ne (m : Sparse α) {i j : Nat} (v d e : α) (h : j ≠ i) :
    Sparse.get (Sparse.set m i v d) j e = Sparse.get m j e := by
  unfold Sparse.set
  split
  · exact Sparse.get_del_ne m e h
  · exact Sparse.get_ins_ne m v e h

omit [DecidableEq α] in
/-- A key below the whole map stays below it when a larger key is put in. -/
theorem Sparse.lt_ins {m : Sparse α} {k i : Nat} {v : α} (hi : k < i) (hm : ∀ e ∈ m, k < e.1) :
    ∀ e ∈ Sparse.ins m i v, k < e.1 := by
  induction m with
  | nil => simpa [Sparse.ins] using hi
  | cons e m ih =>
    obtain ⟨k', w⟩ := e
    have hk' : k < k' := hm _ List.mem_cons_self
    have hm' : ∀ e ∈ m, k < e.1 := fun e he => hm e (List.mem_cons_of_mem _ he)
    unfold Sparse.ins
    split
    · intro e he; rcases List.mem_cons.1 he with rfl | he
      · exact hi
      · exact hm e he
    · split
      · intro e he; rcases List.mem_cons.1 he with rfl | he
        · exact hi
        · exact hm' e he
      · intro e he; rcases List.mem_cons.1 he with rfl | he
        · exact hk'
        · exact ih hm' e he

omit [DecidableEq α] in
/-- Putting a key in keeps the canonical form. -/
theorem Sparse.wf_ins {m : Sparse α} (i : Nat) (v : α) (h : Sparse.wf m) : Sparse.wf (Sparse.ins m i v) := by
  induction m with
  | nil => simp [Sparse.ins, Sparse.wf]
  | cons e m ih =>
    obtain ⟨k, w⟩ := e
    obtain ⟨h1, h2⟩ := List.pairwise_cons.1 h
    unfold Sparse.ins
    split
    · rename_i hlt
      refine List.pairwise_cons.2 ⟨?_, h⟩
      intro e he; rcases List.mem_cons.1 he with rfl | he
      · exact hlt
      · exact Nat.lt_trans hlt (h1 e he)
    · split
      · rename_i hk; subst hk; exact List.pairwise_cons.2 ⟨h1, h2⟩
      · rename_i h3 h4
        exact List.pairwise_cons.2 ⟨Sparse.lt_ins (by omega) h1, ih h2⟩

omit [DecidableEq α] in
/-- Taking a key out keeps the canonical form. -/
theorem Sparse.wf_del {m : Sparse α} (i : Nat) (h : Sparse.wf m) : Sparse.wf (Sparse.del m i) :=
  List.Pairwise.filter _ h

/-- A write keeps the canonical form. -/
theorem Sparse.wf_set {m : Sparse α} (i : Nat) (v d : α) (h : Sparse.wf m) : Sparse.wf (Sparse.set m i v d) := by
  unfold Sparse.set
  split
  · exact Sparse.wf_del i h
  · exact Sparse.wf_ins i v h

end Sys2Proof
end

