-- ==== Sys2Proof/Laws/State.lean ====
section
/-! SUPPORT. What each update of the state leaves alone: one lemma for each field and update. -/

namespace Sys2Proof.Machine

variable (s : State)

/-! ### `State.put` -/

@[simp] theorem State.put_pending (f : Fld) (v : Nat) : (s.put f v).pending = s.pending := rfl
@[simp] theorem State.put_fc (f : Fld) (v : Nat) : (s.put f v).fc = s.fc := rfl
@[simp] theorem State.put_regs0 (f : Fld) (v : Nat) : (s.put f v).regs0 = s.regs0 := rfl
@[simp] theorem State.put_hw (f : Fld) (v : Nat) : (s.put f v).hw = s.hw := rfl
@[simp] theorem State.put_hwFault (f : Fld) (v : Nat) : (s.put f v).hwFault = s.hwFault := rfl
@[simp] theorem State.put_agents (f : Fld) (v : Nat) : (s.put f v).agents = s.agents := rfl
@[simp] theorem State.put_waitingMus (f : Fld) (v : Nat) : (s.put f v).waitingMus = s.waitingMus := rfl
@[simp] theorem State.put_throttle (f : Fld) (v : Nat) : (s.put f v).throttle = s.throttle := rfl
@[simp] theorem State.put_freeCount (f : Fld) (v : Nat) : (s.put f v).freeCount = s.freeCount := rfl
@[simp] theorem State.put_bank (f : Fld) (v : Nat) : (s.put f v).bank = s.bank := rfl
@[simp] theorem State.put_wheel (f : Fld) (v : Nat) : (s.put f v).wheel = s.wheel := rfl
@[simp] theorem State.put_cams (f : Fld) (v : Nat) : (s.put f v).cams = s.cams := rfl
@[simp] theorem State.put_whistle (f : Fld) (v : Nat) : (s.put f v).whistle = s.whistle := rfl
@[simp] theorem State.put_runctl (f : Fld) (v : Nat) : (s.put f v).runctl = s.runctl := rfl
@[simp] theorem State.put_brk (f : Fld) (v : Nat) : (s.put f v).brk = s.brk := rfl
@[simp] theorem State.put_cut (f : Fld) (v : Nat) : (s.put f v).cut = s.cut := rfl
@[simp] theorem State.put_hopper (f : Fld) (v : Nat) : (s.put f v).hopper = s.hopper := rfl
@[simp] theorem State.put_mill (f : Fld) (v : Nat) : (s.put f v).mill = s.mill := rfl
@[simp] theorem State.put_mm (f : Fld) (v : Nat) : (s.put f v).mm = s.mm := rfl
@[simp] theorem State.put_crash (f : Fld) (v : Nat) : (s.put f v).crash = s.crash := rfl
@[simp] theorem State.put_trace (f : Fld) (v : Nat) : (s.put f v).trace = s.trace := rfl
@[simp] theorem State.put_score (f : Fld) (v : Nat) : (s.put f v).score = s.score := rfl
@[simp] theorem State.put_tw (f : Fld) (v : Nat) : (s.put f v).tw = s.tw := rfl
@[simp] theorem State.put_hang (f : Fld) (v : Nat) : (s.put f v).hang = s.hang := rfl
@[simp] theorem State.put_team (f : Fld) (v : Nat) : (s.put f v).team = s.team := rfl
@[simp] theorem State.put_halves (f : Fld) (v : Nat) : (s.put f v).halves = s.halves := rfl
@[simp] theorem State.put_bsl (f : Fld) (v : Nat) : (s.put f v).bsl = s.bsl := rfl
@[simp] theorem State.put_jtag (f : Fld) (v : Nat) : (s.put f v).jtag = s.jtag := rfl
@[simp] theorem State.put_auth (f : Fld) (v : Nat) : (s.put f v).auth = s.auth := rfl
@[simp] theorem State.put_pow (f : Fld) (v : Nat) : (s.put f v).pow = s.pow := rfl
@[simp] theorem State.put_test (f : Fld) (v : Nat) : (s.put f v).test = s.test := rfl
@[simp] theorem State.put_integ (f : Fld) (v : Nat) : (s.put f v).integ = s.integ := rfl

/-! ### `State.put64` -/

@[simp] theorem State.put64_pending (l h : Fld) (v : Nat) : (s.put64 l h v).pending = s.pending := rfl
@[simp] theorem State.put64_fc (l h : Fld) (v : Nat) : (s.put64 l h v).fc = s.fc := rfl
@[simp] theorem State.put64_regs0 (l h : Fld) (v : Nat) : (s.put64 l h v).regs0 = s.regs0 := rfl
@[simp] theorem State.put64_hw (l h : Fld) (v : Nat) : (s.put64 l h v).hw = s.hw := rfl
@[simp] theorem State.put64_hwFault (l h : Fld) (v : Nat) : (s.put64 l h v).hwFault = s.hwFault := rfl
@[simp] theorem State.put64_agents (l h : Fld) (v : Nat) : (s.put64 l h v).agents = s.agents := rfl
@[simp] theorem State.put64_waitingMus (l h : Fld) (v : Nat) : (s.put64 l h v).waitingMus = s.waitingMus := rfl
@[simp] theorem State.put64_throttle (l h : Fld) (v : Nat) : (s.put64 l h v).throttle = s.throttle := rfl
@[simp] theorem State.put64_freeCount (l h : Fld) (v : Nat) : (s.put64 l h v).freeCount = s.freeCount := rfl
@[simp] theorem State.put64_bank (l h : Fld) (v : Nat) : (s.put64 l h v).bank = s.bank := rfl
@[simp] theorem State.put64_wheel (l h : Fld) (v : Nat) : (s.put64 l h v).wheel = s.wheel := rfl
@[simp] theorem State.put64_cams (l h : Fld) (v : Nat) : (s.put64 l h v).cams = s.cams := rfl
@[simp] theorem State.put64_whistle (l h : Fld) (v : Nat) : (s.put64 l h v).whistle = s.whistle := rfl
@[simp] theorem State.put64_runctl (l h : Fld) (v : Nat) : (s.put64 l h v).runctl = s.runctl := rfl
@[simp] theorem State.put64_brk (l h : Fld) (v : Nat) : (s.put64 l h v).brk = s.brk := rfl
@[simp] theorem State.put64_cut (l h : Fld) (v : Nat) : (s.put64 l h v).cut = s.cut := rfl
@[simp] theorem State.put64_hopper (l h : Fld) (v : Nat) : (s.put64 l h v).hopper = s.hopper := rfl
@[simp] theorem State.put64_mill (l h : Fld) (v : Nat) : (s.put64 l h v).mill = s.mill := rfl
@[simp] theorem State.put64_mm (l h : Fld) (v : Nat) : (s.put64 l h v).mm = s.mm := rfl
@[simp] theorem State.put64_crash (l h : Fld) (v : Nat) : (s.put64 l h v).crash = s.crash := rfl
@[simp] theorem State.put64_trace (l h : Fld) (v : Nat) : (s.put64 l h v).trace = s.trace := rfl
@[simp] theorem State.put64_score (l h : Fld) (v : Nat) : (s.put64 l h v).score = s.score := rfl
@[simp] theorem State.put64_tw (l h : Fld) (v : Nat) : (s.put64 l h v).tw = s.tw := rfl
@[simp] theorem State.put64_hang (l h : Fld) (v : Nat) : (s.put64 l h v).hang = s.hang := rfl
@[simp] theorem State.put64_team (l h : Fld) (v : Nat) : (s.put64 l h v).team = s.team := rfl
@[simp] theorem State.put64_halves (l h : Fld) (v : Nat) : (s.put64 l h v).halves = s.halves := rfl
@[simp] theorem State.put64_bsl (l h : Fld) (v : Nat) : (s.put64 l h v).bsl = s.bsl := rfl
@[simp] theorem State.put64_jtag (l h : Fld) (v : Nat) : (s.put64 l h v).jtag = s.jtag := rfl
@[simp] theorem State.put64_auth (l h : Fld) (v : Nat) : (s.put64 l h v).auth = s.auth := rfl
@[simp] theorem State.put64_pow (l h : Fld) (v : Nat) : (s.put64 l h v).pow = s.pow := rfl
@[simp] theorem State.put64_test (l h : Fld) (v : Nat) : (s.put64 l h v).test = s.test := rfl
@[simp] theorem State.put64_integ (l h : Fld) (v : Nat) : (s.put64 l h v).integ = s.integ := rfl

/-! ### `State.raiseBits` -/

@[simp] theorem State.raiseBits_pending (f : Fld) (m : Nat) : (s.raiseBits f m).pending = s.pending := rfl
@[simp] theorem State.raiseBits_fc (f : Fld) (m : Nat) : (s.raiseBits f m).fc = s.fc := rfl
@[simp] theorem State.raiseBits_regs0 (f : Fld) (m : Nat) : (s.raiseBits f m).regs0 = s.regs0 := rfl
@[simp] theorem State.raiseBits_hwFault (f : Fld) (m : Nat) : (s.raiseBits f m).hwFault = s.hwFault := rfl
@[simp] theorem State.raiseBits_agents (f : Fld) (m : Nat) : (s.raiseBits f m).agents = s.agents := rfl
@[simp] theorem State.raiseBits_waitingMus (f : Fld) (m : Nat) : (s.raiseBits f m).waitingMus = s.waitingMus := rfl
@[simp] theorem State.raiseBits_throttle (f : Fld) (m : Nat) : (s.raiseBits f m).throttle = s.throttle := rfl
@[simp] theorem State.raiseBits_freeCount (f : Fld) (m : Nat) : (s.raiseBits f m).freeCount = s.freeCount := rfl
@[simp] theorem State.raiseBits_bank (f : Fld) (m : Nat) : (s.raiseBits f m).bank = s.bank := rfl
@[simp] theorem State.raiseBits_wheel (f : Fld) (m : Nat) : (s.raiseBits f m).wheel = s.wheel := rfl
@[simp] theorem State.raiseBits_cams (f : Fld) (m : Nat) : (s.raiseBits f m).cams = s.cams := rfl
@[simp] theorem State.raiseBits_whistle (f : Fld) (m : Nat) : (s.raiseBits f m).whistle = s.whistle := rfl
@[simp] theorem State.raiseBits_runctl (f : Fld) (m : Nat) : (s.raiseBits f m).runctl = s.runctl := rfl
@[simp] theorem State.raiseBits_brk (f : Fld) (m : Nat) : (s.raiseBits f m).brk = s.brk := rfl
@[simp] theorem State.raiseBits_cut (f : Fld) (m : Nat) : (s.raiseBits f m).cut = s.cut := rfl
@[simp] theorem State.raiseBits_hopper (f : Fld) (m : Nat) : (s.raiseBits f m).hopper = s.hopper := rfl
@[simp] theorem State.raiseBits_mill (f : Fld) (m : Nat) : (s.raiseBits f m).mill = s.mill := rfl
@[simp] theorem State.raiseBits_mm (f : Fld) (m : Nat) : (s.raiseBits f m).mm = s.mm := rfl
@[simp] theorem State.raiseBits_crash (f : Fld) (m : Nat) : (s.raiseBits f m).crash = s.crash := rfl
@[simp] theorem State.raiseBits_trace (f : Fld) (m : Nat) : (s.raiseBits f m).trace = s.trace := rfl
@[simp] theorem State.raiseBits_score (f : Fld) (m : Nat) : (s.raiseBits f m).score = s.score := rfl
@[simp] theorem State.raiseBits_tw (f : Fld) (m : Nat) : (s.raiseBits f m).tw = s.tw := rfl
@[simp] theorem State.raiseBits_hang (f : Fld) (m : Nat) : (s.raiseBits f m).hang = s.hang := rfl
@[simp] theorem State.raiseBits_team (f : Fld) (m : Nat) : (s.raiseBits f m).team = s.team := rfl
@[simp] theorem State.raiseBits_halves (f : Fld) (m : Nat) : (s.raiseBits f m).halves = s.halves := rfl
@[simp] theorem State.raiseBits_bsl (f : Fld) (m : Nat) : (s.raiseBits f m).bsl = s.bsl := rfl
@[simp] theorem State.raiseBits_jtag (f : Fld) (m : Nat) : (s.raiseBits f m).jtag = s.jtag := rfl
@[simp] theorem State.raiseBits_auth (f : Fld) (m : Nat) : (s.raiseBits f m).auth = s.auth := rfl
@[simp] theorem State.raiseBits_pow (f : Fld) (m : Nat) : (s.raiseBits f m).pow = s.pow := rfl
@[simp] theorem State.raiseBits_test (f : Fld) (m : Nat) : (s.raiseBits f m).test = s.test := rfl
@[simp] theorem State.raiseBits_integ (f : Fld) (m : Nat) : (s.raiseBits f m).integ = s.integ := rfl

/-! ### `State.raise` -/

@[simp] theorem State.raise_pending (f : Fld) : (s.raise f).pending = s.pending := rfl
@[simp] theorem State.raise_fc (f : Fld) : (s.raise f).fc = s.fc := rfl
@[simp] theorem State.raise_regs0 (f : Fld) : (s.raise f).regs0 = s.regs0 := rfl
@[simp] theorem State.raise_hwFault (f : Fld) : (s.raise f).hwFault = s.hwFault := rfl
@[simp] theorem State.raise_agents (f : Fld) : (s.raise f).agents = s.agents := rfl
@[simp] theorem State.raise_waitingMus (f : Fld) : (s.raise f).waitingMus = s.waitingMus := rfl
@[simp] theorem State.raise_throttle (f : Fld) : (s.raise f).throttle = s.throttle := rfl
@[simp] theorem State.raise_freeCount (f : Fld) : (s.raise f).freeCount = s.freeCount := rfl
@[simp] theorem State.raise_bank (f : Fld) : (s.raise f).bank = s.bank := rfl
@[simp] theorem State.raise_wheel (f : Fld) : (s.raise f).wheel = s.wheel := rfl
@[simp] theorem State.raise_cams (f : Fld) : (s.raise f).cams = s.cams := rfl
@[simp] theorem State.raise_whistle (f : Fld) : (s.raise f).whistle = s.whistle := rfl
@[simp] theorem State.raise_runctl (f : Fld) : (s.raise f).runctl = s.runctl := rfl
@[simp] theorem State.raise_brk (f : Fld) : (s.raise f).brk = s.brk := rfl
@[simp] theorem State.raise_cut (f : Fld) : (s.raise f).cut = s.cut := rfl
@[simp] theorem State.raise_hopper (f : Fld) : (s.raise f).hopper = s.hopper := rfl
@[simp] theorem State.raise_mill (f : Fld) : (s.raise f).mill = s.mill := rfl
@[simp] theorem State.raise_mm (f : Fld) : (s.raise f).mm = s.mm := rfl
@[simp] theorem State.raise_crash (f : Fld) : (s.raise f).crash = s.crash := rfl
@[simp] theorem State.raise_trace (f : Fld) : (s.raise f).trace = s.trace := rfl
@[simp] theorem State.raise_score (f : Fld) : (s.raise f).score = s.score := rfl
@[simp] theorem State.raise_tw (f : Fld) : (s.raise f).tw = s.tw := rfl
@[simp] theorem State.raise_hang (f : Fld) : (s.raise f).hang = s.hang := rfl
@[simp] theorem State.raise_team (f : Fld) : (s.raise f).team = s.team := rfl
@[simp] theorem State.raise_halves (f : Fld) : (s.raise f).halves = s.halves := rfl
@[simp] theorem State.raise_bsl (f : Fld) : (s.raise f).bsl = s.bsl := rfl
@[simp] theorem State.raise_jtag (f : Fld) : (s.raise f).jtag = s.jtag := rfl
@[simp] theorem State.raise_auth (f : Fld) : (s.raise f).auth = s.auth := rfl
@[simp] theorem State.raise_pow (f : Fld) : (s.raise f).pow = s.pow := rfl
@[simp] theorem State.raise_test (f : Fld) : (s.raise f).test = s.test := rfl
@[simp] theorem State.raise_integ (f : Fld) : (s.raise f).integ = s.integ := rfl

/-! ### `State.bumpBy` -/

@[simp] theorem State.bumpBy_pending (f : Fld) (n : Nat) : (s.bumpBy f n).pending = s.pending := rfl
@[simp] theorem State.bumpBy_fc (f : Fld) (n : Nat) : (s.bumpBy f n).fc = s.fc := rfl
@[simp] theorem State.bumpBy_regs0 (f : Fld) (n : Nat) : (s.bumpBy f n).regs0 = s.regs0 := rfl
@[simp] theorem State.bumpBy_hwFault (f : Fld) (n : Nat) : (s.bumpBy f n).hwFault = s.hwFault := rfl
@[simp] theorem State.bumpBy_agents (f : Fld) (n : Nat) : (s.bumpBy f n).agents = s.agents := rfl
@[simp] theorem State.bumpBy_waitingMus (f : Fld) (n : Nat) : (s.bumpBy f n).waitingMus = s.waitingMus := rfl
@[simp] theorem State.bumpBy_throttle (f : Fld) (n : Nat) : (s.bumpBy f n).throttle = s.throttle := rfl
@[simp] theorem State.bumpBy_freeCount (f : Fld) (n : Nat) : (s.bumpBy f n).freeCount = s.freeCount := rfl
@[simp] theorem State.bumpBy_bank (f : Fld) (n : Nat) : (s.bumpBy f n).bank = s.bank := rfl
@[simp] theorem State.bumpBy_wheel (f : Fld) (n : Nat) : (s.bumpBy f n).wheel = s.wheel := rfl
@[simp] theorem State.bumpBy_cams (f : Fld) (n : Nat) : (s.bumpBy f n).cams = s.cams := rfl
@[simp] theorem State.bumpBy_whistle (f : Fld) (n : Nat) : (s.bumpBy f n).whistle = s.whistle := rfl
@[simp] theorem State.bumpBy_runctl (f : Fld) (n : Nat) : (s.bumpBy f n).runctl = s.runctl := rfl
@[simp] theorem State.bumpBy_brk (f : Fld) (n : Nat) : (s.bumpBy f n).brk = s.brk := rfl
@[simp] theorem State.bumpBy_cut (f : Fld) (n : Nat) : (s.bumpBy f n).cut = s.cut := rfl
@[simp] theorem State.bumpBy_hopper (f : Fld) (n : Nat) : (s.bumpBy f n).hopper = s.hopper := rfl
@[simp] theorem State.bumpBy_mill (f : Fld) (n : Nat) : (s.bumpBy f n).mill = s.mill := rfl
@[simp] theorem State.bumpBy_mm (f : Fld) (n : Nat) : (s.bumpBy f n).mm = s.mm := rfl
@[simp] theorem State.bumpBy_crash (f : Fld) (n : Nat) : (s.bumpBy f n).crash = s.crash := rfl
@[simp] theorem State.bumpBy_trace (f : Fld) (n : Nat) : (s.bumpBy f n).trace = s.trace := rfl
@[simp] theorem State.bumpBy_score (f : Fld) (n : Nat) : (s.bumpBy f n).score = s.score := rfl
@[simp] theorem State.bumpBy_tw (f : Fld) (n : Nat) : (s.bumpBy f n).tw = s.tw := rfl
@[simp] theorem State.bumpBy_hang (f : Fld) (n : Nat) : (s.bumpBy f n).hang = s.hang := rfl
@[simp] theorem State.bumpBy_team (f : Fld) (n : Nat) : (s.bumpBy f n).team = s.team := rfl
@[simp] theorem State.bumpBy_halves (f : Fld) (n : Nat) : (s.bumpBy f n).halves = s.halves := rfl
@[simp] theorem State.bumpBy_bsl (f : Fld) (n : Nat) : (s.bumpBy f n).bsl = s.bsl := rfl
@[simp] theorem State.bumpBy_jtag (f : Fld) (n : Nat) : (s.bumpBy f n).jtag = s.jtag := rfl
@[simp] theorem State.bumpBy_auth (f : Fld) (n : Nat) : (s.bumpBy f n).auth = s.auth := rfl
@[simp] theorem State.bumpBy_pow (f : Fld) (n : Nat) : (s.bumpBy f n).pow = s.pow := rfl
@[simp] theorem State.bumpBy_test (f : Fld) (n : Nat) : (s.bumpBy f n).test = s.test := rfl
@[simp] theorem State.bumpBy_integ (f : Fld) (n : Nat) : (s.bumpBy f n).integ = s.integ := rfl

/-! ### `State.bump` -/

@[simp] theorem State.bump_pending (f : Fld) : (s.bump f).pending = s.pending := rfl
@[simp] theorem State.bump_fc (f : Fld) : (s.bump f).fc = s.fc := rfl
@[simp] theorem State.bump_regs0 (f : Fld) : (s.bump f).regs0 = s.regs0 := rfl
@[simp] theorem State.bump_hwFault (f : Fld) : (s.bump f).hwFault = s.hwFault := rfl
@[simp] theorem State.bump_agents (f : Fld) : (s.bump f).agents = s.agents := rfl
@[simp] theorem State.bump_waitingMus (f : Fld) : (s.bump f).waitingMus = s.waitingMus := rfl
@[simp] theorem State.bump_throttle (f : Fld) : (s.bump f).throttle = s.throttle := rfl
@[simp] theorem State.bump_freeCount (f : Fld) : (s.bump f).freeCount = s.freeCount := rfl
@[simp] theorem State.bump_bank (f : Fld) : (s.bump f).bank = s.bank := rfl
@[simp] theorem State.bump_wheel (f : Fld) : (s.bump f).wheel = s.wheel := rfl
@[simp] theorem State.bump_cams (f : Fld) : (s.bump f).cams = s.cams := rfl
@[simp] theorem State.bump_whistle (f : Fld) : (s.bump f).whistle = s.whistle := rfl
@[simp] theorem State.bump_runctl (f : Fld) : (s.bump f).runctl = s.runctl := rfl
@[simp] theorem State.bump_brk (f : Fld) : (s.bump f).brk = s.brk := rfl
@[simp] theorem State.bump_cut (f : Fld) : (s.bump f).cut = s.cut := rfl
@[simp] theorem State.bump_hopper (f : Fld) : (s.bump f).hopper = s.hopper := rfl
@[simp] theorem State.bump_mill (f : Fld) : (s.bump f).mill = s.mill := rfl
@[simp] theorem State.bump_mm (f : Fld) : (s.bump f).mm = s.mm := rfl
@[simp] theorem State.bump_crash (f : Fld) : (s.bump f).crash = s.crash := rfl
@[simp] theorem State.bump_trace (f : Fld) : (s.bump f).trace = s.trace := rfl
@[simp] theorem State.bump_score (f : Fld) : (s.bump f).score = s.score := rfl
@[simp] theorem State.bump_tw (f : Fld) : (s.bump f).tw = s.tw := rfl
@[simp] theorem State.bump_hang (f : Fld) : (s.bump f).hang = s.hang := rfl
@[simp] theorem State.bump_team (f : Fld) : (s.bump f).team = s.team := rfl
@[simp] theorem State.bump_halves (f : Fld) : (s.bump f).halves = s.halves := rfl
@[simp] theorem State.bump_bsl (f : Fld) : (s.bump f).bsl = s.bsl := rfl
@[simp] theorem State.bump_jtag (f : Fld) : (s.bump f).jtag = s.jtag := rfl
@[simp] theorem State.bump_auth (f : Fld) : (s.bump f).auth = s.auth := rfl
@[simp] theorem State.bump_pow (f : Fld) : (s.bump f).pow = s.pow := rfl
@[simp] theorem State.bump_test (f : Fld) : (s.bump f).test = s.test := rfl
@[simp] theorem State.bump_integ (f : Fld) : (s.bump f).integ = s.integ := rfl

/-! ### `State.bumpWrap` -/

@[simp] theorem State.bumpWrap_pending (f : Fld) (n : Nat) : (s.bumpWrap f n).pending = s.pending := rfl
@[simp] theorem State.bumpWrap_fc (f : Fld) (n : Nat) : (s.bumpWrap f n).fc = s.fc := rfl
@[simp] theorem State.bumpWrap_regs0 (f : Fld) (n : Nat) : (s.bumpWrap f n).regs0 = s.regs0 := rfl
@[simp] theorem State.bumpWrap_hwFault (f : Fld) (n : Nat) : (s.bumpWrap f n).hwFault = s.hwFault := rfl
@[simp] theorem State.bumpWrap_agents (f : Fld) (n : Nat) : (s.bumpWrap f n).agents = s.agents := rfl
@[simp] theorem State.bumpWrap_waitingMus (f : Fld) (n : Nat) : (s.bumpWrap f n).waitingMus = s.waitingMus := rfl
@[simp] theorem State.bumpWrap_throttle (f : Fld) (n : Nat) : (s.bumpWrap f n).throttle = s.throttle := rfl
@[simp] theorem State.bumpWrap_freeCount (f : Fld) (n : Nat) : (s.bumpWrap f n).freeCount = s.freeCount := rfl
@[simp] theorem State.bumpWrap_bank (f : Fld) (n : Nat) : (s.bumpWrap f n).bank = s.bank := rfl
@[simp] theorem State.bumpWrap_wheel (f : Fld) (n : Nat) : (s.bumpWrap f n).wheel = s.wheel := rfl
@[simp] theorem State.bumpWrap_cams (f : Fld) (n : Nat) : (s.bumpWrap f n).cams = s.cams := rfl
@[simp] theorem State.bumpWrap_whistle (f : Fld) (n : Nat) : (s.bumpWrap f n).whistle = s.whistle := rfl
@[simp] theorem State.bumpWrap_runctl (f : Fld) (n : Nat) : (s.bumpWrap f n).runctl = s.runctl := rfl
@[simp] theorem State.bumpWrap_brk (f : Fld) (n : Nat) : (s.bumpWrap f n).brk = s.brk := rfl
@[simp] theorem State.bumpWrap_cut (f : Fld) (n : Nat) : (s.bumpWrap f n).cut = s.cut := rfl
@[simp] theorem State.bumpWrap_hopper (f : Fld) (n : Nat) : (s.bumpWrap f n).hopper = s.hopper := rfl
@[simp] theorem State.bumpWrap_mill (f : Fld) (n : Nat) : (s.bumpWrap f n).mill = s.mill := rfl
@[simp] theorem State.bumpWrap_mm (f : Fld) (n : Nat) : (s.bumpWrap f n).mm = s.mm := rfl
@[simp] theorem State.bumpWrap_crash (f : Fld) (n : Nat) : (s.bumpWrap f n).crash = s.crash := rfl
@[simp] theorem State.bumpWrap_trace (f : Fld) (n : Nat) : (s.bumpWrap f n).trace = s.trace := rfl
@[simp] theorem State.bumpWrap_score (f : Fld) (n : Nat) : (s.bumpWrap f n).score = s.score := rfl
@[simp] theorem State.bumpWrap_tw (f : Fld) (n : Nat) : (s.bumpWrap f n).tw = s.tw := rfl
@[simp] theorem State.bumpWrap_hang (f : Fld) (n : Nat) : (s.bumpWrap f n).hang = s.hang := rfl
@[simp] theorem State.bumpWrap_team (f : Fld) (n : Nat) : (s.bumpWrap f n).team = s.team := rfl
@[simp] theorem State.bumpWrap_halves (f : Fld) (n : Nat) : (s.bumpWrap f n).halves = s.halves := rfl
@[simp] theorem State.bumpWrap_bsl (f : Fld) (n : Nat) : (s.bumpWrap f n).bsl = s.bsl := rfl
@[simp] theorem State.bumpWrap_jtag (f : Fld) (n : Nat) : (s.bumpWrap f n).jtag = s.jtag := rfl
@[simp] theorem State.bumpWrap_auth (f : Fld) (n : Nat) : (s.bumpWrap f n).auth = s.auth := rfl
@[simp] theorem State.bumpWrap_pow (f : Fld) (n : Nat) : (s.bumpWrap f n).pow = s.pow := rfl
@[simp] theorem State.bumpWrap_test (f : Fld) (n : Nat) : (s.bumpWrap f n).test = s.test := rfl
@[simp] theorem State.bumpWrap_integ (f : Fld) (n : Nat) : (s.bumpWrap f n).integ = s.integ := rfl

/-! ### `State.setAgent` -/

@[simp] theorem State.setAgent_pending (a : Nat) (g : Agent) : (s.setAgent a g).pending = s.pending := rfl
@[simp] theorem State.setAgent_fc (a : Nat) (g : Agent) : (s.setAgent a g).fc = s.fc := rfl
@[simp] theorem State.setAgent_regs (a : Nat) (g : Agent) : (s.setAgent a g).regs = s.regs := rfl
@[simp] theorem State.setAgent_regs0 (a : Nat) (g : Agent) : (s.setAgent a g).regs0 = s.regs0 := rfl
@[simp] theorem State.setAgent_hw (a : Nat) (g : Agent) : (s.setAgent a g).hw = s.hw := rfl
@[simp] theorem State.setAgent_hwFault (a : Nat) (g : Agent) : (s.setAgent a g).hwFault = s.hwFault := rfl
@[simp] theorem State.setAgent_waitingMus (a : Nat) (g : Agent) : (s.setAgent a g).waitingMus = s.waitingMus := rfl
@[simp] theorem State.setAgent_throttle (a : Nat) (g : Agent) : (s.setAgent a g).throttle = s.throttle := rfl
@[simp] theorem State.setAgent_freeCount (a : Nat) (g : Agent) : (s.setAgent a g).freeCount = s.freeCount := rfl
@[simp] theorem State.setAgent_bank (a : Nat) (g : Agent) : (s.setAgent a g).bank = s.bank := rfl
@[simp] theorem State.setAgent_wheel (a : Nat) (g : Agent) : (s.setAgent a g).wheel = s.wheel := rfl
@[simp] theorem State.setAgent_cams (a : Nat) (g : Agent) : (s.setAgent a g).cams = s.cams := rfl
@[simp] theorem State.setAgent_whistle (a : Nat) (g : Agent) : (s.setAgent a g).whistle = s.whistle := rfl
@[simp] theorem State.setAgent_runctl (a : Nat) (g : Agent) : (s.setAgent a g).runctl = s.runctl := rfl
@[simp] theorem State.setAgent_brk (a : Nat) (g : Agent) : (s.setAgent a g).brk = s.brk := rfl
@[simp] theorem State.setAgent_cut (a : Nat) (g : Agent) : (s.setAgent a g).cut = s.cut := rfl
@[simp] theorem State.setAgent_hopper (a : Nat) (g : Agent) : (s.setAgent a g).hopper = s.hopper := rfl
@[simp] theorem State.setAgent_mill (a : Nat) (g : Agent) : (s.setAgent a g).mill = s.mill := rfl
@[simp] theorem State.setAgent_mm (a : Nat) (g : Agent) : (s.setAgent a g).mm = s.mm := rfl
@[simp] theorem State.setAgent_crash (a : Nat) (g : Agent) : (s.setAgent a g).crash = s.crash := rfl
@[simp] theorem State.setAgent_trace (a : Nat) (g : Agent) : (s.setAgent a g).trace = s.trace := rfl
@[simp] theorem State.setAgent_score (a : Nat) (g : Agent) : (s.setAgent a g).score = s.score := rfl
@[simp] theorem State.setAgent_tw (a : Nat) (g : Agent) : (s.setAgent a g).tw = s.tw := rfl
@[simp] theorem State.setAgent_hang (a : Nat) (g : Agent) : (s.setAgent a g).hang = s.hang := rfl
@[simp] theorem State.setAgent_team (a : Nat) (g : Agent) : (s.setAgent a g).team = s.team := rfl
@[simp] theorem State.setAgent_halves (a : Nat) (g : Agent) : (s.setAgent a g).halves = s.halves := rfl
@[simp] theorem State.setAgent_bsl (a : Nat) (g : Agent) : (s.setAgent a g).bsl = s.bsl := rfl
@[simp] theorem State.setAgent_jtag (a : Nat) (g : Agent) : (s.setAgent a g).jtag = s.jtag := rfl
@[simp] theorem State.setAgent_auth (a : Nat) (g : Agent) : (s.setAgent a g).auth = s.auth := rfl
@[simp] theorem State.setAgent_pow (a : Nat) (g : Agent) : (s.setAgent a g).pow = s.pow := rfl
@[simp] theorem State.setAgent_test (a : Nat) (g : Agent) : (s.setAgent a g).test = s.test := rfl
@[simp] theorem State.setAgent_integ (a : Nat) (g : Agent) : (s.setAgent a g).integ = s.integ := rfl

/-! ### `State.setCut` -/

@[simp] theorem State.setCut_pending (j : CutJob) : (s.setCut j).pending = s.pending := rfl
@[simp] theorem State.setCut_fc (j : CutJob) : (s.setCut j).fc = s.fc := rfl
@[simp] theorem State.setCut_regs (j : CutJob) : (s.setCut j).regs = s.regs := rfl
@[simp] theorem State.setCut_regs0 (j : CutJob) : (s.setCut j).regs0 = s.regs0 := rfl
@[simp] theorem State.setCut_hw (j : CutJob) : (s.setCut j).hw = s.hw := rfl
@[simp] theorem State.setCut_hwFault (j : CutJob) : (s.setCut j).hwFault = s.hwFault := rfl
@[simp] theorem State.setCut_agents (j : CutJob) : (s.setCut j).agents = s.agents := rfl
@[simp] theorem State.setCut_waitingMus (j : CutJob) : (s.setCut j).waitingMus = s.waitingMus := rfl
@[simp] theorem State.setCut_throttle (j : CutJob) : (s.setCut j).throttle = s.throttle := rfl
@[simp] theorem State.setCut_freeCount (j : CutJob) : (s.setCut j).freeCount = s.freeCount := rfl
@[simp] theorem State.setCut_bank (j : CutJob) : (s.setCut j).bank = s.bank := rfl
@[simp] theorem State.setCut_wheel (j : CutJob) : (s.setCut j).wheel = s.wheel := rfl
@[simp] theorem State.setCut_cams (j : CutJob) : (s.setCut j).cams = s.cams := rfl
@[simp] theorem State.setCut_whistle (j : CutJob) : (s.setCut j).whistle = s.whistle := rfl
@[simp] theorem State.setCut_runctl (j : CutJob) : (s.setCut j).runctl = s.runctl := rfl
@[simp] theorem State.setCut_brk (j : CutJob) : (s.setCut j).brk = s.brk := rfl
@[simp] theorem State.setCut_hopper (j : CutJob) : (s.setCut j).hopper = s.hopper := rfl
@[simp] theorem State.setCut_mill (j : CutJob) : (s.setCut j).mill = s.mill := rfl
@[simp] theorem State.setCut_mm (j : CutJob) : (s.setCut j).mm = s.mm := rfl
@[simp] theorem State.setCut_crash (j : CutJob) : (s.setCut j).crash = s.crash := rfl
@[simp] theorem State.setCut_trace (j : CutJob) : (s.setCut j).trace = s.trace := rfl
@[simp] theorem State.setCut_score (j : CutJob) : (s.setCut j).score = s.score := rfl
@[simp] theorem State.setCut_tw (j : CutJob) : (s.setCut j).tw = s.tw := rfl
@[simp] theorem State.setCut_hang (j : CutJob) : (s.setCut j).hang = s.hang := rfl
@[simp] theorem State.setCut_team (j : CutJob) : (s.setCut j).team = s.team := rfl
@[simp] theorem State.setCut_halves (j : CutJob) : (s.setCut j).halves = s.halves := rfl
@[simp] theorem State.setCut_bsl (j : CutJob) : (s.setCut j).bsl = s.bsl := rfl
@[simp] theorem State.setCut_jtag (j : CutJob) : (s.setCut j).jtag = s.jtag := rfl
@[simp] theorem State.setCut_auth (j : CutJob) : (s.setCut j).auth = s.auth := rfl
@[simp] theorem State.setCut_pow (j : CutJob) : (s.setCut j).pow = s.pow := rfl
@[simp] theorem State.setCut_test (j : CutJob) : (s.setCut j).test = s.test := rfl
@[simp] theorem State.setCut_integ (j : CutJob) : (s.setCut j).integ = s.integ := rfl

/-! ### `State.setBusy` -/

@[simp] theorem State.setBusy_pending (a : Access) : (s.setBusy a).pending = s.pending := rfl
@[simp] theorem State.setBusy_fc (a : Access) : (s.setBusy a).fc = s.fc := rfl
@[simp] theorem State.setBusy_regs (a : Access) : (s.setBusy a).regs = s.regs := rfl
@[simp] theorem State.setBusy_regs0 (a : Access) : (s.setBusy a).regs0 = s.regs0 := rfl
@[simp] theorem State.setBusy_hw (a : Access) : (s.setBusy a).hw = s.hw := rfl
@[simp] theorem State.setBusy_hwFault (a : Access) : (s.setBusy a).hwFault = s.hwFault := rfl
@[simp] theorem State.setBusy_agents (a : Access) : (s.setBusy a).agents = s.agents := rfl
@[simp] theorem State.setBusy_waitingMus (a : Access) : (s.setBusy a).waitingMus = s.waitingMus := rfl
@[simp] theorem State.setBusy_throttle (a : Access) : (s.setBusy a).throttle = s.throttle := rfl
@[simp] theorem State.setBusy_freeCount (a : Access) : (s.setBusy a).freeCount = s.freeCount := rfl
@[simp] theorem State.setBusy_wheel (a : Access) : (s.setBusy a).wheel = s.wheel := rfl
@[simp] theorem State.setBusy_cams (a : Access) : (s.setBusy a).cams = s.cams := rfl
@[simp] theorem State.setBusy_whistle (a : Access) : (s.setBusy a).whistle = s.whistle := rfl
@[simp] theorem State.setBusy_runctl (a : Access) : (s.setBusy a).runctl = s.runctl := rfl
@[simp] theorem State.setBusy_brk (a : Access) : (s.setBusy a).brk = s.brk := rfl
@[simp] theorem State.setBusy_cut (a : Access) : (s.setBusy a).cut = s.cut := rfl
@[simp] theorem State.setBusy_hopper (a : Access) : (s.setBusy a).hopper = s.hopper := rfl
@[simp] theorem State.setBusy_mill (a : Access) : (s.setBusy a).mill = s.mill := rfl
@[simp] theorem State.setBusy_mm (a : Access) : (s.setBusy a).mm = s.mm := rfl
@[simp] theorem State.setBusy_crash (a : Access) : (s.setBusy a).crash = s.crash := rfl
@[simp] theorem State.setBusy_trace (a : Access) : (s.setBusy a).trace = s.trace := rfl
@[simp] theorem State.setBusy_score (a : Access) : (s.setBusy a).score = s.score := rfl
@[simp] theorem State.setBusy_tw (a : Access) : (s.setBusy a).tw = s.tw := rfl
@[simp] theorem State.setBusy_hang (a : Access) : (s.setBusy a).hang = s.hang := rfl
@[simp] theorem State.setBusy_team (a : Access) : (s.setBusy a).team = s.team := rfl
@[simp] theorem State.setBusy_halves (a : Access) : (s.setBusy a).halves = s.halves := rfl
@[simp] theorem State.setBusy_bsl (a : Access) : (s.setBusy a).bsl = s.bsl := rfl
@[simp] theorem State.setBusy_jtag (a : Access) : (s.setBusy a).jtag = s.jtag := rfl
@[simp] theorem State.setBusy_auth (a : Access) : (s.setBusy a).auth = s.auth := rfl
@[simp] theorem State.setBusy_pow (a : Access) : (s.setBusy a).pow = s.pow := rfl
@[simp] theorem State.setBusy_test (a : Access) : (s.setBusy a).test = s.test := rfl
@[simp] theorem State.setBusy_integ (a : Access) : (s.setBusy a).integ = s.integ := rfl

/-! ### `State.clearBusy` -/

@[simp] theorem State.clearBusy_pending : (s.clearBusy).pending = s.pending := rfl
@[simp] theorem State.clearBusy_fc : (s.clearBusy).fc = s.fc := rfl
@[simp] theorem State.clearBusy_regs : (s.clearBusy).regs = s.regs := rfl
@[simp] theorem State.clearBusy_regs0 : (s.clearBusy).regs0 = s.regs0 := rfl
@[simp] theorem State.clearBusy_hw : (s.clearBusy).hw = s.hw := rfl
@[simp] theorem State.clearBusy_hwFault : (s.clearBusy).hwFault = s.hwFault := rfl
@[simp] theorem State.clearBusy_agents : (s.clearBusy).agents = s.agents := rfl
@[simp] theorem State.clearBusy_waitingMus : (s.clearBusy).waitingMus = s.waitingMus := rfl
@[simp] theorem State.clearBusy_throttle : (s.clearBusy).throttle = s.throttle := rfl
@[simp] theorem State.clearBusy_freeCount : (s.clearBusy).freeCount = s.freeCount := rfl
@[simp] theorem State.clearBusy_wheel : (s.clearBusy).wheel = s.wheel := rfl
@[simp] theorem State.clearBusy_cams : (s.clearBusy).cams = s.cams := rfl
@[simp] theorem State.clearBusy_whistle : (s.clearBusy).whistle = s.whistle := rfl
@[simp] theorem State.clearBusy_runctl : (s.clearBusy).runctl = s.runctl := rfl
@[simp] theorem State.clearBusy_brk : (s.clearBusy).brk = s.brk := rfl
@[simp] theorem State.clearBusy_cut : (s.clearBusy).cut = s.cut := rfl
@[simp] theorem State.clearBusy_hopper : (s.clearBusy).hopper = s.hopper := rfl
@[simp] theorem State.clearBusy_mill : (s.clearBusy).mill = s.mill := rfl
@[simp] theorem State.clearBusy_mm : (s.clearBusy).mm = s.mm := rfl
@[simp] theorem State.clearBusy_crash : (s.clearBusy).crash = s.crash := rfl
@[simp] theorem State.clearBusy_trace : (s.clearBusy).trace = s.trace := rfl
@[simp] theorem State.clearBusy_score : (s.clearBusy).score = s.score := rfl
@[simp] theorem State.clearBusy_tw : (s.clearBusy).tw = s.tw := rfl
@[simp] theorem State.clearBusy_hang : (s.clearBusy).hang = s.hang := rfl
@[simp] theorem State.clearBusy_team : (s.clearBusy).team = s.team := rfl
@[simp] theorem State.clearBusy_halves : (s.clearBusy).halves = s.halves := rfl
@[simp] theorem State.clearBusy_bsl : (s.clearBusy).bsl = s.bsl := rfl
@[simp] theorem State.clearBusy_jtag : (s.clearBusy).jtag = s.jtag := rfl
@[simp] theorem State.clearBusy_auth : (s.clearBusy).auth = s.auth := rfl
@[simp] theorem State.clearBusy_pow : (s.clearBusy).pow = s.pow := rfl
@[simp] theorem State.clearBusy_test : (s.clearBusy).test = s.test := rfl
@[simp] theorem State.clearBusy_integ : (s.clearBusy).integ = s.integ := rfl

/-! ### `State.hubEvent` -/

@[simp] theorem State.hubEvent_pending (c k : Nat) : (s.hubEvent c k).pending = s.pending := rfl
@[simp] theorem State.hubEvent_fc (c k : Nat) : (s.hubEvent c k).fc = s.fc := rfl
@[simp] theorem State.hubEvent_regs (c k : Nat) : (s.hubEvent c k).regs = s.regs := rfl
@[simp] theorem State.hubEvent_regs0 (c k : Nat) : (s.hubEvent c k).regs0 = s.regs0 := rfl
@[simp] theorem State.hubEvent_hw (c k : Nat) : (s.hubEvent c k).hw = s.hw := rfl
@[simp] theorem State.hubEvent_hwFault (c k : Nat) : (s.hubEvent c k).hwFault = s.hwFault := rfl
@[simp] theorem State.hubEvent_agents (c k : Nat) : (s.hubEvent c k).agents = s.agents := rfl
@[simp] theorem State.hubEvent_waitingMus (c k : Nat) : (s.hubEvent c k).waitingMus = s.waitingMus := rfl
@[simp] theorem State.hubEvent_throttle (c k : Nat) : (s.hubEvent c k).throttle = s.throttle := rfl
@[simp] theorem State.hubEvent_freeCount (c k : Nat) : (s.hubEvent c k).freeCount = s.freeCount := rfl
@[simp] theorem State.hubEvent_bank (c k : Nat) : (s.hubEvent c k).bank = s.bank := rfl
@[simp] theorem State.hubEvent_wheel (c k : Nat) : (s.hubEvent c k).wheel = s.wheel := rfl
@[simp] theorem State.hubEvent_cams (c k : Nat) : (s.hubEvent c k).cams = s.cams := rfl
@[simp] theorem State.hubEvent_whistle (c k : Nat) : (s.hubEvent c k).whistle = s.whistle := rfl
@[simp] theorem State.hubEvent_runctl (c k : Nat) : (s.hubEvent c k).runctl = s.runctl := rfl
@[simp] theorem State.hubEvent_brk (c k : Nat) : (s.hubEvent c k).brk = s.brk := rfl
@[simp] theorem State.hubEvent_cut (c k : Nat) : (s.hubEvent c k).cut = s.cut := rfl
@[simp] theorem State.hubEvent_hopper (c k : Nat) : (s.hubEvent c k).hopper = s.hopper := rfl
@[simp] theorem State.hubEvent_mill (c k : Nat) : (s.hubEvent c k).mill = s.mill := rfl
@[simp] theorem State.hubEvent_mm (c k : Nat) : (s.hubEvent c k).mm = s.mm := rfl
@[simp] theorem State.hubEvent_crash (c k : Nat) : (s.hubEvent c k).crash = s.crash := rfl
@[simp] theorem State.hubEvent_trace (c k : Nat) : (s.hubEvent c k).trace = s.trace := rfl
@[simp] theorem State.hubEvent_tw (c k : Nat) : (s.hubEvent c k).tw = s.tw := rfl
@[simp] theorem State.hubEvent_hang (c k : Nat) : (s.hubEvent c k).hang = s.hang := rfl
@[simp] theorem State.hubEvent_team (c k : Nat) : (s.hubEvent c k).team = s.team := rfl
@[simp] theorem State.hubEvent_halves (c k : Nat) : (s.hubEvent c k).halves = s.halves := rfl
@[simp] theorem State.hubEvent_bsl (c k : Nat) : (s.hubEvent c k).bsl = s.bsl := rfl
@[simp] theorem State.hubEvent_jtag (c k : Nat) : (s.hubEvent c k).jtag = s.jtag := rfl
@[simp] theorem State.hubEvent_auth (c k : Nat) : (s.hubEvent c k).auth = s.auth := rfl
@[simp] theorem State.hubEvent_pow (c k : Nat) : (s.hubEvent c k).pow = s.pow := rfl
@[simp] theorem State.hubEvent_test (c k : Nat) : (s.hubEvent c k).test = s.test := rfl
@[simp] theorem State.hubEvent_integ (c k : Nat) : (s.hubEvent c k).integ = s.integ := rfl

/-! ### `State.busCount` -/

@[simp] theorem State.busCount_pending (a c : Nat) : (s.busCount a c).pending = s.pending := rfl
@[simp] theorem State.busCount_fc (a c : Nat) : (s.busCount a c).fc = s.fc := rfl
@[simp] theorem State.busCount_regs (a c : Nat) : (s.busCount a c).regs = s.regs := rfl
@[simp] theorem State.busCount_regs0 (a c : Nat) : (s.busCount a c).regs0 = s.regs0 := rfl
@[simp] theorem State.busCount_hw (a c : Nat) : (s.busCount a c).hw = s.hw := rfl
@[simp] theorem State.busCount_hwFault (a c : Nat) : (s.busCount a c).hwFault = s.hwFault := rfl
@[simp] theorem State.busCount_agents (a c : Nat) : (s.busCount a c).agents = s.agents := rfl
@[simp] theorem State.busCount_waitingMus (a c : Nat) : (s.busCount a c).waitingMus = s.waitingMus := rfl
@[simp] theorem State.busCount_throttle (a c : Nat) : (s.busCount a c).throttle = s.throttle := rfl
@[simp] theorem State.busCount_freeCount (a c : Nat) : (s.busCount a c).freeCount = s.freeCount := rfl
@[simp] theorem State.busCount_bank (a c : Nat) : (s.busCount a c).bank = s.bank := rfl
@[simp] theorem State.busCount_wheel (a c : Nat) : (s.busCount a c).wheel = s.wheel := rfl
@[simp] theorem State.busCount_cams (a c : Nat) : (s.busCount a c).cams = s.cams := rfl
@[simp] theorem State.busCount_whistle (a c : Nat) : (s.busCount a c).whistle = s.whistle := rfl
@[simp] theorem State.busCount_runctl (a c : Nat) : (s.busCount a c).runctl = s.runctl := rfl
@[simp] theorem State.busCount_brk (a c : Nat) : (s.busCount a c).brk = s.brk := rfl
@[simp] theorem State.busCount_cut (a c : Nat) : (s.busCount a c).cut = s.cut := rfl
@[simp] theorem State.busCount_hopper (a c : Nat) : (s.busCount a c).hopper = s.hopper := rfl
@[simp] theorem State.busCount_mill (a c : Nat) : (s.busCount a c).mill = s.mill := rfl
@[simp] theorem State.busCount_mm (a c : Nat) : (s.busCount a c).mm = s.mm := rfl
@[simp] theorem State.busCount_crash (a c : Nat) : (s.busCount a c).crash = s.crash := rfl
@[simp] theorem State.busCount_trace (a c : Nat) : (s.busCount a c).trace = s.trace := rfl
@[simp] theorem State.busCount_tw (a c : Nat) : (s.busCount a c).tw = s.tw := rfl
@[simp] theorem State.busCount_hang (a c : Nat) : (s.busCount a c).hang = s.hang := rfl
@[simp] theorem State.busCount_team (a c : Nat) : (s.busCount a c).team = s.team := rfl
@[simp] theorem State.busCount_halves (a c : Nat) : (s.busCount a c).halves = s.halves := rfl
@[simp] theorem State.busCount_bsl (a c : Nat) : (s.busCount a c).bsl = s.bsl := rfl
@[simp] theorem State.busCount_jtag (a c : Nat) : (s.busCount a c).jtag = s.jtag := rfl
@[simp] theorem State.busCount_auth (a c : Nat) : (s.busCount a c).auth = s.auth := rfl
@[simp] theorem State.busCount_pow (a c : Nat) : (s.busCount a c).pow = s.pow := rfl
@[simp] theorem State.busCount_test (a c : Nat) : (s.busCount a c).test = s.test := rfl
@[simp] theorem State.busCount_integ (a c : Nat) : (s.busCount a c).integ = s.integ := rfl

/-! ### `State.cntAdd` -/

@[simp] theorem State.cntAdd_pending (n k : Nat) : (s.cntAdd n k).pending = s.pending := rfl
@[simp] theorem State.cntAdd_fc (n k : Nat) : (s.cntAdd n k).fc = s.fc := rfl
@[simp] theorem State.cntAdd_regs0 (n k : Nat) : (s.cntAdd n k).regs0 = s.regs0 := rfl
@[simp] theorem State.cntAdd_hwFault (n k : Nat) : (s.cntAdd n k).hwFault = s.hwFault := rfl
@[simp] theorem State.cntAdd_agents (n k : Nat) : (s.cntAdd n k).agents = s.agents := rfl
@[simp] theorem State.cntAdd_waitingMus (n k : Nat) : (s.cntAdd n k).waitingMus = s.waitingMus := rfl
@[simp] theorem State.cntAdd_throttle (n k : Nat) : (s.cntAdd n k).throttle = s.throttle := rfl
@[simp] theorem State.cntAdd_freeCount (n k : Nat) : (s.cntAdd n k).freeCount = s.freeCount := rfl
@[simp] theorem State.cntAdd_bank (n k : Nat) : (s.cntAdd n k).bank = s.bank := rfl
@[simp] theorem State.cntAdd_wheel (n k : Nat) : (s.cntAdd n k).wheel = s.wheel := rfl
@[simp] theorem State.cntAdd_cams (n k : Nat) : (s.cntAdd n k).cams = s.cams := rfl
@[simp] theorem State.cntAdd_whistle (n k : Nat) : (s.cntAdd n k).whistle = s.whistle := rfl
@[simp] theorem State.cntAdd_runctl (n k : Nat) : (s.cntAdd n k).runctl = s.runctl := rfl
@[simp] theorem State.cntAdd_brk (n k : Nat) : (s.cntAdd n k).brk = s.brk := rfl
@[simp] theorem State.cntAdd_cut (n k : Nat) : (s.cntAdd n k).cut = s.cut := rfl
@[simp] theorem State.cntAdd_hopper (n k : Nat) : (s.cntAdd n k).hopper = s.hopper := rfl
@[simp] theorem State.cntAdd_mill (n k : Nat) : (s.cntAdd n k).mill = s.mill := rfl
@[simp] theorem State.cntAdd_mm (n k : Nat) : (s.cntAdd n k).mm = s.mm := rfl
@[simp] theorem State.cntAdd_crash (n k : Nat) : (s.cntAdd n k).crash = s.crash := rfl
@[simp] theorem State.cntAdd_trace (n k : Nat) : (s.cntAdd n k).trace = s.trace := rfl
@[simp] theorem State.cntAdd_tw (n k : Nat) : (s.cntAdd n k).tw = s.tw := rfl
@[simp] theorem State.cntAdd_hang (n k : Nat) : (s.cntAdd n k).hang = s.hang := rfl
@[simp] theorem State.cntAdd_team (n k : Nat) : (s.cntAdd n k).team = s.team := rfl
@[simp] theorem State.cntAdd_halves (n k : Nat) : (s.cntAdd n k).halves = s.halves := rfl
@[simp] theorem State.cntAdd_bsl (n k : Nat) : (s.cntAdd n k).bsl = s.bsl := rfl
@[simp] theorem State.cntAdd_jtag (n k : Nat) : (s.cntAdd n k).jtag = s.jtag := rfl
@[simp] theorem State.cntAdd_auth (n k : Nat) : (s.cntAdd n k).auth = s.auth := rfl
@[simp] theorem State.cntAdd_pow (n k : Nat) : (s.cntAdd n k).pow = s.pow := rfl
@[simp] theorem State.cntAdd_test (n k : Nat) : (s.cntAdd n k).test = s.test := rfl
@[simp] theorem State.cntAdd_integ (n k : Nat) : (s.cntAdd n k).integ = s.integ := rfl

/-! ### Updates made of several -/

omit s in
/-- A fold of updates that leave a component alone leaves it alone. -/
theorem foldl_leaves {α β : Type} (p : State → β) (f : State → α → State) (h : ∀ t x, p (f t x) = p t) (l : List α) (s : State) :
    p (l.foldl f s) = p s := by
  induction l generalizing s with
  | nil => rfl
  | cons x l ih => rw [List.foldl_cons, ih, h]


@[simp] theorem State.fault_pending (p b d : Nat) : (s.fault p b d).pending = s.pending := by
  unfold State.fault; dsimp only; split <;> rfl
@[simp] theorem State.fault_fc (p b d : Nat) : (s.fault p b d).fc = s.fc := by
  unfold State.fault; dsimp only; split <;> rfl
@[simp] theorem State.fault_regs0 (p b d : Nat) : (s.fault p b d).regs0 = s.regs0 := by
  unfold State.fault; dsimp only; split <;> rfl
@[simp] theorem State.fault_agents (p b d : Nat) : (s.fault p b d).agents = s.agents := by
  unfold State.fault; dsimp only; split <;> rfl
@[simp] theorem State.fault_waitingMus (p b d : Nat) : (s.fault p b d).waitingMus = s.waitingMus := by
  unfold State.fault; dsimp only; split <;> rfl
@[simp] theorem State.fault_throttle (p b d : Nat) : (s.fault p b d).throttle = s.throttle := by
  unfold State.fault; dsimp only; split <;> rfl
@[simp] theorem State.fault_freeCount (p b d : Nat) : (s.fault p b d).freeCount = s.freeCount := by
  unfold State.fault; dsimp only; split <;> rfl
@[simp] theorem State.fault_bank (p b d : Nat) : (s.fault p b d).bank = s.bank := by
  unfold State.fault; dsimp only; split <;> rfl
@[simp] theorem State.fault_wheel (p b d : Nat) : (s.fault p b d).wheel = s.wheel := by
  unfold State.fault; dsimp only; split <;> rfl
@[simp] theorem State.fault_cams (p b d : Nat) : (s.fault p b d).cams = s.cams := by
  unfold State.fault; dsimp only; split <;> rfl
@[simp] theorem State.fault_whistle (p b d : Nat) : (s.fault p b d).whistle = s.whistle := by
  unfold State.fault; dsimp only; split <;> rfl
@[simp] theorem State.fault_runctl (p b d : Nat) : (s.fault p b d).runctl = s.runctl := by
  unfold State.fault; dsimp only; split <;> rfl
@[simp] theorem State.fault_brk (p b d : Nat) : (s.fault p b d).brk = s.brk := by
  unfold State.fault; dsimp only; split <;> rfl
@[simp] theorem State.fault_cut (p b d : Nat) : (s.fault p b d).cut = s.cut := by
  unfold State.fault; dsimp only; split <;> rfl
@[simp] theorem State.fault_hopper (p b d : Nat) : (s.fault p b d).hopper = s.hopper := by
  unfold State.fault; dsimp only; split <;> rfl
@[simp] theorem State.fault_mill (p b d : Nat) : (s.fault p b d).mill = s.mill := by
  unfold State.fault; dsimp only; split <;> rfl
@[simp] theorem State.fault_mm (p b d : Nat) : (s.fault p b d).mm = s.mm := by
  unfold State.fault; dsimp only; split <;> rfl
@[simp] theorem State.fault_crash (p b d : Nat) : (s.fault p b d).crash = s.crash := by
  unfold State.fault; dsimp only; split <;> rfl
@[simp] theorem State.fault_trace (p b d : Nat) : (s.fault p b d).trace = s.trace := by
  unfold State.fault; dsimp only; split <;> rfl
@[simp] theorem State.fault_score (p b d : Nat) : (s.fault p b d).score = s.score := by
  unfold State.fault; dsimp only; split <;> rfl
@[simp] theorem State.fault_tw (p b d : Nat) : (s.fault p b d).tw = s.tw := by
  unfold State.fault; dsimp only; split <;> rfl
@[simp] theorem State.fault_hang (p b d : Nat) : (s.fault p b d).hang = s.hang := by
  unfold State.fault; dsimp only; split <;> rfl
@[simp] theorem State.fault_team (p b d : Nat) : (s.fault p b d).team = s.team := by
  unfold State.fault; dsimp only; split <;> rfl
@[simp] theorem State.fault_halves (p b d : Nat) : (s.fault p b d).halves = s.halves := by
  unfold State.fault; dsimp only; split <;> rfl
@[simp] theorem State.fault_bsl (p b d : Nat) : (s.fault p b d).bsl = s.bsl := by
  unfold State.fault; dsimp only; split <;> rfl
@[simp] theorem State.fault_jtag (p b d : Nat) : (s.fault p b d).jtag = s.jtag := by
  unfold State.fault; dsimp only; split <;> rfl
@[simp] theorem State.fault_auth (p b d : Nat) : (s.fault p b d).auth = s.auth := by
  unfold State.fault; dsimp only; split <;> rfl
@[simp] theorem State.fault_pow (p b d : Nat) : (s.fault p b d).pow = s.pow := by
  unfold State.fault; dsimp only; split <;> rfl
@[simp] theorem State.fault_test (p b d : Nat) : (s.fault p b d).test = s.test := by
  unfold State.fault; dsimp only; split <;> rfl
@[simp] theorem State.fault_integ (p b d : Nat) : (s.fault p b d).integ = s.integ := by
  unfold State.fault; dsimp only; split <;> rfl

@[simp] theorem State.wakeNote_pending (c : Nat) : (s.wakeNote c).pending = s.pending := by
  unfold State.wakeNote; split <;> rfl
@[simp] theorem State.wakeNote_fc (c : Nat) : (s.wakeNote c).fc = s.fc := by
  unfold State.wakeNote; split <;> rfl
@[simp] theorem State.wakeNote_regs (c : Nat) : (s.wakeNote c).regs = s.regs := by
  unfold State.wakeNote; split <;> rfl
@[simp] theorem State.wakeNote_regs0 (c : Nat) : (s.wakeNote c).regs0 = s.regs0 := by
  unfold State.wakeNote; split <;> rfl
@[simp] theorem State.wakeNote_hw (c : Nat) : (s.wakeNote c).hw = s.hw := by
  unfold State.wakeNote; split <;> rfl
@[simp] theorem State.wakeNote_hwFault (c : Nat) : (s.wakeNote c).hwFault = s.hwFault := by
  unfold State.wakeNote; split <;> rfl
@[simp] theorem State.wakeNote_agents (c : Nat) : (s.wakeNote c).agents = s.agents := by
  unfold State.wakeNote; split <;> rfl
@[simp] theorem State.wakeNote_waitingMus (c : Nat) : (s.wakeNote c).waitingMus = s.waitingMus := by
  unfold State.wakeNote; split <;> rfl
@[simp] theorem State.wakeNote_throttle (c : Nat) : (s.wakeNote c).throttle = s.throttle := by
  unfold State.wakeNote; split <;> rfl
@[simp] theorem State.wakeNote_freeCount (c : Nat) : (s.wakeNote c).freeCount = s.freeCount := by
  unfold State.wakeNote; split <;> rfl
@[simp] theorem State.wakeNote_bank (c : Nat) : (s.wakeNote c).bank = s.bank := by
  unfold State.wakeNote; split <;> rfl
@[simp] theorem State.wakeNote_wheel (c : Nat) : (s.wakeNote c).wheel = s.wheel := by
  unfold State.wakeNote; split <;> rfl
@[simp] theorem State.wakeNote_cams (c : Nat) : (s.wakeNote c).cams = s.cams := by
  unfold State.wakeNote; split <;> rfl
@[simp] theorem State.wakeNote_whistle (c : Nat) : (s.wakeNote c).whistle = s.whistle := by
  unfold State.wakeNote; split <;> rfl
@[simp] theorem State.wakeNote_runctl (c : Nat) : (s.wakeNote c).runctl = s.runctl := by
  unfold State.wakeNote; split <;> rfl
@[simp] theorem State.wakeNote_brk (c : Nat) : (s.wakeNote c).brk = s.brk := by
  unfold State.wakeNote; split <;> rfl
@[simp] theorem State.wakeNote_cut (c : Nat) : (s.wakeNote c).cut = s.cut := by
  unfold State.wakeNote; split <;> rfl
@[simp] theorem State.wakeNote_hopper (c : Nat) : (s.wakeNote c).hopper = s.hopper := by
  unfold State.wakeNote; split <;> rfl
@[simp] theorem State.wakeNote_mill (c : Nat) : (s.wakeNote c).mill = s.mill := by
  unfold State.wakeNote; split <;> rfl
@[simp] theorem State.wakeNote_mm (c : Nat) : (s.wakeNote c).mm = s.mm := by
  unfold State.wakeNote; split <;> rfl
@[simp] theorem State.wakeNote_crash (c : Nat) : (s.wakeNote c).crash = s.crash := by
  unfold State.wakeNote; split <;> rfl
@[simp] theorem State.wakeNote_trace (c : Nat) : (s.wakeNote c).trace = s.trace := by
  unfold State.wakeNote; split <;> rfl
@[simp] theorem State.wakeNote_score (c : Nat) : (s.wakeNote c).score = s.score := by
  unfold State.wakeNote; split <;> rfl
@[simp] theorem State.wakeNote_tw (c : Nat) : (s.wakeNote c).tw = s.tw := by
  unfold State.wakeNote; split <;> rfl
@[simp] theorem State.wakeNote_hang (c : Nat) : (s.wakeNote c).hang = s.hang := by
  unfold State.wakeNote; split <;> rfl
@[simp] theorem State.wakeNote_team (c : Nat) : (s.wakeNote c).team = s.team := by
  unfold State.wakeNote; split <;> rfl
@[simp] theorem State.wakeNote_halves (c : Nat) : (s.wakeNote c).halves = s.halves := by
  unfold State.wakeNote; split <;> rfl
@[simp] theorem State.wakeNote_bsl (c : Nat) : (s.wakeNote c).bsl = s.bsl := by
  unfold State.wakeNote; split <;> rfl
@[simp] theorem State.wakeNote_jtag (c : Nat) : (s.wakeNote c).jtag = s.jtag := by
  unfold State.wakeNote; split <;> rfl
@[simp] theorem State.wakeNote_auth (c : Nat) : (s.wakeNote c).auth = s.auth := by
  unfold State.wakeNote; split <;> rfl
@[simp] theorem State.wakeNote_test (c : Nat) : (s.wakeNote c).test = s.test := by
  unfold State.wakeNote; split <;> rfl
@[simp] theorem State.wakeNote_integ (c : Nat) : (s.wakeNote c).integ = s.integ := by
  unfold State.wakeNote; split <;> rfl

end Sys2Proof.Machine
end

