-- ==== Sys2Proof/Laws/Ops.lean ====
section
/-! SUPPORT. What the named operations on register fields and agents do: what a read gives after each of them. -/

namespace Sys2Proof.Machine

variable (s : State)

/-! ### One field -/

/-- A field reads what was written, cut to its width. -/
@[simp] theorem State.get_put_same (f : Fld) (v : Nat) : (s.put f v).get f = v % 2 ^ f.width :=
  Sparse.get_set_same s.regs f.key _ f.rst

/-- A write leaves every other field alone. -/
theorem State.get_put_ne {f g : Fld} (v : Nat) (h : g.key ≠ f.key) : (s.put f v).get g = s.get g :=
  Sparse.get_set_ne s.regs _ f.rst g.rst h

/-- The configuration that hardware uses in this fc is not changed by a write (R97). -/
@[simp] theorem State.cfg_put (f g : Fld) (v : Nat) : (s.put f v).cfg g = s.cfg g := rfl

/-- Hardware sets event bits: the others stay. -/
theorem State.get_raiseBits_same (f : Fld) (m : Nat) : (s.raiseBits f m).get f = (s.get f ||| m) % 2 ^ f.width :=
  State.get_put_same s f _

theorem State.get_raiseBits_ne {f g : Fld} (m : Nat) (h : g.key ≠ f.key) : (s.raiseBits f m).get g = s.get g :=
  State.get_put_ne s _ h

/-- A one-bit event reads 1 once hardware has set it. -/
theorem State.get_raise_same {f : Fld} (hw : f.width = 1) : (s.raise f).get f = 1 := by
  rw [State.raise, State.get_raiseBits_same, hw]
  have h : (s.get f ||| 1) % 2 = 1 := by
    rw [← Nat.and_one_is_mod, Nat.and_or_distrib_right, Nat.and_one_is_mod]
    rcases Nat.mod_two_eq_zero_or_one (s.get f) with h | h <;> simp [h]
  exact h

theorem State.get_raise_ne {f g : Fld} (h : g.key ≠ f.key) : (s.raise f).get g = s.get g := State.get_raiseBits_ne s 1 h

/-- A saturating count. -/
theorem State.get_bumpBy_same (f : Fld) (n : Nat) :
    (s.bumpBy f n).get f = satAdd (s.get f) n (2 ^ f.width - 1) % 2 ^ f.width := State.get_put_same s f _

theorem State.get_bumpBy_ne {f g : Fld} (n : Nat) (h : g.key ≠ f.key) : (s.bumpBy f n).get g = s.get g :=
  State.get_put_ne s _ h

theorem State.get_bump_ne {f g : Fld} (h : g.key ≠ f.key) : (s.bump f).get g = s.get g := State.get_bumpBy_ne s 1 h

/-- A wrapping count. -/
theorem State.get_bumpWrap_same (f : Fld) (n : Nat) : (s.bumpWrap f n).get f = (s.get f + n) % 2 ^ f.width :=
  State.get_put_same s f _

theorem State.get_bumpWrap_ne {f g : Fld} (n : Nat) (h : g.key ≠ f.key) : (s.bumpWrap f n).get g = s.get g :=
  State.get_put_ne s _ h

theorem State.get_put64_ne {l u g : Fld} (v : Nat) (h1 : g.key ≠ l.key) (h2 : g.key ≠ u.key) :
    (s.put64 l u v).get g = s.get g := by rw [State.put64, State.get_put_ne _ _ h2, State.get_put_ne _ _ h1]

/-! ### The start-of-fc copy is untouched -/

@[simp] theorem State.cfg_raiseBits (f g : Fld) (m : Nat) : (s.raiseBits f m).cfg g = s.cfg g := rfl
@[simp] theorem State.cfg_raise (f g : Fld) : (s.raise f).cfg g = s.cfg g := rfl
@[simp] theorem State.cfg_bumpBy (f g : Fld) (n : Nat) : (s.bumpBy f n).cfg g = s.cfg g := rfl
@[simp] theorem State.cfg_bump (f g : Fld) : (s.bump f).cfg g = s.cfg g := rfl
@[simp] theorem State.cfg_bumpWrap (f g : Fld) (n : Nat) : (s.bumpWrap f n).cfg g = s.cfg g := rfl
@[simp] theorem State.cfg_put64 (l u g : Fld) (v : Nat) : (s.put64 l u v).cfg g = s.cfg g := rfl
@[simp] theorem State.cfg_cntAdd (n k : Nat) (g : Fld) : (s.cntAdd n k).cfg g = s.cfg g :=
  congrArg (fun r => Sparse.get r g.key g.rst) (s.cntAdd_regs0 n k)
@[simp] theorem State.cfg_hubEvent (c k : Nat) (g : Fld) : (s.hubEvent c k).cfg g = s.cfg g := rfl

/-! ### Counters (R437) -/

/-- The field is not a word of a hub counter's value. -/
def notCounter (g : Fld) : Prop := g.key < 0x38108 * 8 ∨ 0x38500 * 8 ≤ g.key

theorem State.get_cntAdd_ne (n k : Nat) {g : Fld} (hn : n < 64) (h : notCounter g) : (s.cntAdd n k).get g = s.get g := by
  have h1 : g.key ≠ (Reg.SCORE.CNT_LO n).key := by
    simp only [Fld.key, Reg.SCORE.CNT_LO, notCounter] at h ⊢; omega
  have h2 : g.key ≠ (Reg.SCORE.CNT_HI n).key := by
    simp only [Fld.key, Reg.SCORE.CNT_HI, notCounter] at h ⊢; omega
  exact State.get_put64_ne s _ h1 h2

/-- An event is only noted: the counters count it at the end of the fc. -/
@[simp] theorem State.get_hubEvent (c k : Nat) (g : Fld) : (s.hubEvent c k).get g = s.get g := rfl
@[simp] theorem State.get_busCount (a c : Nat) (g : Fld) : (s.busCount a c).get g = s.get g := rfl
@[simp] theorem State.cfg_busCount (a c : Nat) (g : Fld) : (s.busCount a c).cfg g = s.cfg g := rfl

/-! ### Faults (R90) -/

/-- A fault bit reads 1 once it has been raised. -/
theorem State.get_fault_ne (p b d : Nat) {g : Fld} (h1 : g.key ≠ (⟨0x4000 * p + 0x18, b, b, 0⟩ : Fld).key)
    (h2 : g.key ≠ (Hdr.FAULT_INFO_FIRST p).key) (h3 : g.key ≠ (Hdr.FAULT_INFO_DETAIL p).key) :
    (s.fault p b d).get g = s.get g := by
  have hr : ∀ t : State, ({ t with hwFault := t.hwFault ++ [(p, b, d)] } : State).get g = t.get g := fun _ => rfl
  unfold State.fault
  dsimp only
  split
  · rw [State.get_put_ne _ _ h3, State.get_put_ne _ _ h2, hr, State.get_raise_ne _ h1]
  · rw [hr, State.get_raise_ne _ h1]

/-! ### Agents -/

@[simp] theorem State.agent_setAgent_same (a : Nat) (g : Agent) : (s.setAgent a g).agent a = g :=
  Sparse.get_set_same s.agents a g {}

theorem State.agent_setAgent_ne {a b : Nat} (g : Agent) (h : b ≠ a) : (s.setAgent a g).agent b = s.agent b :=
  Sparse.get_set_ne s.agents g {} {} h

@[simp] theorem State.get_setAgent (a : Nat) (g : Agent) (f : Fld) : (s.setAgent a g).get f = s.get f := rfl
@[simp] theorem State.cfg_setAgent (a : Nat) (g : Agent) (f : Fld) : (s.setAgent a g).cfg f = s.cfg f := rfl
@[simp] theorem State.agent_put (f : Fld) (v a : Nat) : (s.put f v).agent a = s.agent a := rfl
@[simp] theorem State.agent_raise (f : Fld) (a : Nat) : (s.raise f).agent a = s.agent a := rfl

/-- A field of an agent reads what was written, cut to its width. -/
@[simp] theorem Agent.get_put_same (g : Agent) (f : Fld) (v : Nat) : (g.put f v).get f = v % 2 ^ f.width :=
  Sparse.get_set_same g.regs f.key _ f.rst

theorem Agent.get_put_ne (g : Agent) {f h : Fld} (v : Nat) (hk : h.key ≠ f.key) : (g.put f v).get h = g.get h :=
  Sparse.get_set_ne g.regs _ f.rst h.rst hk

/-! ### The canonical form -/

theorem State.canon_put_regs (f : Fld) (v : Nat) (h : Sparse.wf s.regs) : Sparse.wf (s.put f v).regs := Sparse.wf_set _ _ _ h

theorem State.canon_raiseBits_regs (f : Fld) (m : Nat) (h : Sparse.wf s.regs) : Sparse.wf (s.raiseBits f m).regs :=
  Sparse.wf_set _ _ _ h

theorem State.canon_raiseBits_hw (f : Fld) (m : Nat) (h : Sparse.wf s.hw) : Sparse.wf (s.raiseBits f m).hw := Sparse.wf_ins _ _ h

theorem State.canon_bumpBy_regs (f : Fld) (n : Nat) (h : Sparse.wf s.regs) : Sparse.wf (s.bumpBy f n).regs := Sparse.wf_set _ _ _ h

theorem State.canon_bumpBy_hw (f : Fld) (n : Nat) (h : Sparse.wf s.hw) : Sparse.wf (s.bumpBy f n).hw := Sparse.wf_ins _ _ h

theorem State.canon_setAgent_agents (a : Nat) (g : Agent) (h : Sparse.wf s.agents) : Sparse.wf (s.setAgent a g).agents :=
  Sparse.wf_set _ _ _ h

end Sys2Proof.Machine
end

