-- ==== Sys2Proof/Laws/Bank.lean ====
section
/-! SUPPORT. An access that finds the bank free is performed at once: what `present`, a write and a read then are. -/

namespace Sys2Proof.Machine

variable (s : State)

/-- The one access that waits is the access served next, on whichever path it came. -/
theorem State.nextAccess_one (a : Access) (hh : s.bank.held = [a]) (hp : s.powered a = true) : s.nextAccess = some a := by
  have hs : srcPath a.src = 0 ∨ srcPath a.src = 1 ∨ srcPath a.src = 2 := by
    cases a.src <;> simp [srcPath]
  have hq : ∀ q, s.pathReady q = if srcPath a.src = q then some a else none := by
    intro q
    by_cases h : srcPath a.src = q <;> simp [State.pathReady, State.pathHead, h, hp, hh]
  simp only [State.nextAccess, hq]
  have h3 : s.bank.lastPath % 3 = 0 ∨ s.bank.lastPath % 3 = 1 ∨ s.bank.lastPath % 3 = 2 := by omega
  rcases hs with h | h | h <;> rcases h3 with g | g | g <;> simp [h, g, Nat.add_mod]

/-- One access waits and nothing else: it is performed, and the bank is done. -/
theorem State.serve_one (a : Access) (hr : s.isReady = true) (hb : s.bank.busy = none) (hh : s.bank.held = [a])
    (hq : s.bsl.reqs = []) (hp : s.powered a = true) : s.serve = (s.turn a).perform a := by
  have hn := s.nextAccess_one a hh hp
  have hw : s.waiting = 1 := by simp [State.waiting, hq, hh]
  have hbp : s.bslPresent = none := by simp [State.bslPresent, State.bslNext, hq]
  have hone : s.serveOne = some ((s.turn a).perform a) := by
    simp [State.serveOne, hbp, hn, hr, hb, State.turn, hh]
  rw [State.serve, hw, State.serveN, hone]
  rfl

/-- With the bank free, an access that the power state allows is performed at once, and nothing else happens. -/
theorem State.present_idle (a : Access) (hb : s.bankFree = true) (hp : s.powered a = true) : s.present a = (s.turn a).perform a := by
  simp only [State.bankFree, Bool.and_eq_true, beq_iff_eq] at hb
  obtain ⟨⟨⟨hr, hbusy⟩, hheld⟩, hreqs⟩ := hb
  exact State.serve_one (s.hold a) a hr hbusy (by simp [State.hold, hheld]) hreqs hp


/-! ### A write that passes its checks -/

/-- The write as the bank performs it (Table 2-2). -/
theorem State.busWrite_perform {x : Src} {o : Nat} {d : Word} (h : s.mayWrite x o d = true) :
    s.busWrite x o d = (s.writeTurn x o d).perform (wrAccess x o d) := by
  simp only [State.mayWrite, State.admits, Bool.and_eq_true] at h
  exact s.present_idle _ h.1.1.1 h.1.1.2

/-- A write of a register that is no window register and no word of a pair: the locks do not stand in its way, and it is
performed with what its register does. -/
theorem State.busWrite_eq {x : Src} {o : Nat} {d : Word} (h : s.mayWrite x o d = true) (hv : offView o = none) (hb : offBase o = o)
    (hw : isWindow o = false) (hp : isPairLo o = false) (hq : isPairHi o = false) :
    s.busWrite x o d =
      let w : Wr := ⟨x, o, d.toNat, false, 2 ^ 32 - 1⟩
      let u := s.writeTurn x o d
      let l := u.rwlLocked x o
      ((u.writeSpecial w l).getD (u.storeReg w l)).wrote x o d := by
  rw [s.busWrite_perform h]
  simp only [State.mayWrite, State.admits, Bool.and_eq_true, State.passes, wrAccess, Access.norm, hv, hb, hw, Bool.false_or,
    beq_iff_eq] at h
  obtain ⟨⟨_, ⟨ho, hl⟩, hk⟩, _⟩ := h
  simp only [State.writeTurn, State.perform, wrAccess, Access.norm, hv, hb, ho, hl, hw, State.writeAccess, hk, hp, hq,
    State.regWrite, State.wrote]
  simp

/-- A write of a word of a pair (R77, R78). -/
theorem State.busWrite_pair {x : Src} {o : Nat} {d : Word} (h : s.mayWrite x o d = true) (hv : offView o = none) (hb : offBase o = o)
    (hw : isWindow o = false) (hp : isPairLo o = true ∨ isPairHi o = true) :
    s.busWrite x o d =
      ((s.writeTurn x o d).pairWrite ⟨x, o, d.toNat, false, 2 ^ 32 - 1⟩).answerOk (wrAccess x o d) 0 := by
  rw [s.busWrite_perform h]
  simp only [State.mayWrite, State.admits, Bool.and_eq_true, State.passes, wrAccess, Access.norm, hv, hb, hw, Bool.false_or,
    beq_iff_eq] at h
  obtain ⟨⟨_, ⟨ho, hl⟩, hk⟩, _⟩ := h
  simp only [State.writeTurn, State.perform, wrAccess, Access.norm, hv, hb, ho, hl, hw, State.writeAccess, hk, hp]
  simp

/-- A write through the SET view: the read-modify-write of the register (R61, R63). -/
theorem State.busSet_eq {x : Src} {o : Nat} {d : Word} (h : s.mayWrite x (o + 0x1000) d = true) (hv : offView (o + 0x1000) = some .set)
    (hb : offBase (o + 0x1000) = o) (hw : isWindow o = false) (hp : isPairLo o = false) (hq : isPairHi o = false) :
    s.busSet x o d =
      let u := s.writeTurn x (o + 0x1000) d
      let w := u.aliasWr x o .set d.toNat
      let l := u.rwlLocked x o
      (((u.writeSpecial w l).getD (u.storeReg w l)).parityWritten o).answerOk (wrAccess x (o + 0x1000) d) 0 := by
  rw [State.busSet, s.busWrite_perform h]
  simp only [State.mayWrite, State.admits, Bool.and_eq_true, State.passes, wrAccess, Access.norm, hv, hb, hw, Bool.false_or,
    beq_iff_eq] at h
  obtain ⟨⟨_, ⟨ho, hl⟩, ha, hk⟩, _⟩ := h
  have hoff : ∀ u : State, (u.aliasWr x o .set d.toNat).o = o := fun _ => rfl
  simp only [State.writeTurn, State.perform, wrAccess, Access.norm, hv, hb, ho, hl, hw, ha, State.writeAccess, hoff, hk, hp, hq,
    State.regWrite]
  simp

/-! ### A read that passes its checks -/

/-- An ordinary read of a register that is no window register and no WIN_DATA. -/
theorem State.busRead_eq {x : Src} {o : Nat} (h : s.mayRead x o = true) (hv : offView o = none) (hb : offBase o = o)
    (hw : isWindow o = false) (h1 : o ≠ 0x5804C) (h2 : o ≠ 0x5808C) :
    s.busRead x o =
      let r := (s.readTurn x o).regRead x o false
      r.1.answerOk (rdAccess x o) r.2 := by
  simp only [State.mayRead, State.admits, Bool.and_eq_true] at h
  rw [State.busRead, show ({ src := x, off := o, kind := .read } : Access) = rdAccess x o from rfl, s.present_idle _ h.1.1 h.1.2]
  simp only [State.passes, rdAccess, Access.norm, hv, hb, Bool.and_eq_true] at h
  obtain ⟨_, ⟨ho, hl⟩, _⟩ := h
  simp only [State.readTurn, State.perform, rdAccess, Access.norm, hv, hb, ho, hl, hw]
  simp [h1, h2]

/-! ### What the turn and the end of a write leave alone -/

/-- Updates of the registers, of the hardware updates of the fc, of its faults and of the bank only. -/
def State.bankOnly (s t : State) : Prop := ∃ v w f b, t = { s with regs := v, hw := w, hwFault := f, bank := b }

theorem State.bankOnly_trans {s t u : State} (h : s.bankOnly t) (k : t.bankOnly u) : s.bankOnly u := by
  obtain ⟨_, _, _, _, rfl⟩ := h
  obtain ⟨v, w, f, b, rfl⟩ := k
  exact ⟨v, w, f, b, rfl⟩

theorem State.bankOnly_rfl : s.bankOnly s := ⟨_, _, _, _, rfl⟩

theorem State.bankOnly_put (f : Fld) (v : Nat) : s.bankOnly (s.put f v) := ⟨_, _, _, _, rfl⟩

/-- The withdrawal of a scrubber's fault touches the registers and the faults of the fc only. -/
theorem State.bankOnly_scrubWithdraw (o : Nat) : s.bankOnly (s.scrubWithdraw o) := by
  unfold State.scrubWithdraw
  dsimp only
  split
  · exact s.bankOnly_rfl
  · split
    all_goals
      refine State.bankOnly_trans ?_ (State.bankOnly_put _ _ _)
      repeat'
        first
        | exact State.bankOnly_trans ?_ (State.bankOnly_put _ _ _)
        | split
      all_goals exact ⟨_, _, _, _, rfl⟩

/-- A register that the scrubber has not found in this fc: nothing is withdrawn (R88). -/
theorem State.scrubWithdraw_none {o : Nat} (h : s.hwFault.contains (o / 0x4000, 0, o % 0x1000) = false) : s.scrubWithdraw o = s := by
  exact if_pos (by rw [h]; decide)

theorem State.bankOnly_parityWritten (o : Nat) : s.bankOnly (s.parityWritten o) := by
  refine State.bankOnly_trans (s.bankOnly_scrubWithdraw o) ?_
  simp only [State.parityWritten, State.parityClear]
  split
  · exact ⟨_, _, _, _, rfl⟩
  · exact ⟨_, _, _, _, rfl⟩

theorem State.bankOnly_wrote (x : Src) (o : Nat) (d : Word) : s.bankOnly (s.wrote x o d) :=
  State.bankOnly_trans (s.bankOnly_parityWritten o) ⟨_, _, _, _, rfl⟩

theorem State.parityWritten_eq {o : Nat} (h : s.hwFault.contains (o / 0x4000, 0, o % 0x1000) = false) :
    ∃ v l, s.parityWritten o = { s with bank := { s.bank with parityBad := l }, regs := v } ∧
      (v = s.regs ∨ v = (s.put (Hdr.STATUS_PARITY_ERR (o / 0x4000)) 0).regs) := by
  simp only [State.parityWritten, s.scrubWithdraw_none h, State.parityClear]
  split
  · exact ⟨_, _, rfl, Or.inr rfl⟩
  · exact ⟨_, _, rfl, Or.inl rfl⟩

theorem State.wrote_eq {x : Src} {o : Nat} {d : Word} (hf : s.hwFault.contains (o / 0x4000, 0, o % 0x1000) = false) :
    ∃ v b, s.wrote x o d = { s with bank := b, regs := v } ∧
      (v = s.regs ∨ v = (s.put (Hdr.STATUS_PARITY_ERR (o / 0x4000)) 0).regs) := by
  obtain ⟨v, l, h, hv⟩ := s.parityWritten_eq hf
  simp only [State.wrote, h, State.answerOk, State.answer, wrAccess]
  exact ⟨v, _, rfl, hv⟩

theorem State.turn_eq (a : Access) : ∃ r h f b, s.turn a = { s with regs0 := r, hw := h, hwFault := f, bank := b } ∧
    (r = s.regs0 ∨ r = s.regs) := by
  simp only [State.turn, State.accessFc]
  split
  · exact ⟨_, _, _, _, rfl, Or.inr rfl⟩
  · exact ⟨_, _, _, _, rfl, Or.inl rfl⟩

@[simp] theorem State.wrote_pending (x : Src) (o : Nat) (d : Word) : (s.wrote x o d).pending = s.pending := by
  obtain ⟨v, w, f, b, h⟩ := s.bankOnly_wrote x o d
  rw [h]
@[simp] theorem State.wrote_fc (x : Src) (o : Nat) (d : Word) : (s.wrote x o d).fc = s.fc := by
  obtain ⟨v, w, f, b, h⟩ := s.bankOnly_wrote x o d
  rw [h]
@[simp] theorem State.wrote_regs0 (x : Src) (o : Nat) (d : Word) : (s.wrote x o d).regs0 = s.regs0 := by
  obtain ⟨v, w, f, b, h⟩ := s.bankOnly_wrote x o d
  rw [h]
@[simp] theorem State.wrote_agents (x : Src) (o : Nat) (d : Word) : (s.wrote x o d).agents = s.agents := by
  obtain ⟨v, w, f, b, h⟩ := s.bankOnly_wrote x o d
  rw [h]
@[simp] theorem State.wrote_throttle (x : Src) (o : Nat) (d : Word) : (s.wrote x o d).throttle = s.throttle := by
  obtain ⟨v, w, f, b, h⟩ := s.bankOnly_wrote x o d
  rw [h]
@[simp] theorem State.wrote_freeCount (x : Src) (o : Nat) (d : Word) : (s.wrote x o d).freeCount = s.freeCount := by
  obtain ⟨v, w, f, b, h⟩ := s.bankOnly_wrote x o d
  rw [h]
@[simp] theorem State.wrote_wheel (x : Src) (o : Nat) (d : Word) : (s.wrote x o d).wheel = s.wheel := by
  obtain ⟨v, w, f, b, h⟩ := s.bankOnly_wrote x o d
  rw [h]
@[simp] theorem State.wrote_cams (x : Src) (o : Nat) (d : Word) : (s.wrote x o d).cams = s.cams := by
  obtain ⟨v, w, f, b, h⟩ := s.bankOnly_wrote x o d
  rw [h]
@[simp] theorem State.wrote_whistle (x : Src) (o : Nat) (d : Word) : (s.wrote x o d).whistle = s.whistle := by
  obtain ⟨v, w, f, b, h⟩ := s.bankOnly_wrote x o d
  rw [h]
@[simp] theorem State.wrote_runctl (x : Src) (o : Nat) (d : Word) : (s.wrote x o d).runctl = s.runctl := by
  obtain ⟨v, w, f, b, h⟩ := s.bankOnly_wrote x o d
  rw [h]
@[simp] theorem State.wrote_brk (x : Src) (o : Nat) (d : Word) : (s.wrote x o d).brk = s.brk := by
  obtain ⟨v, w, f, b, h⟩ := s.bankOnly_wrote x o d
  rw [h]
@[simp] theorem State.wrote_cut (x : Src) (o : Nat) (d : Word) : (s.wrote x o d).cut = s.cut := by
  obtain ⟨v, w, f, b, h⟩ := s.bankOnly_wrote x o d
  rw [h]
@[simp] theorem State.wrote_hopper (x : Src) (o : Nat) (d : Word) : (s.wrote x o d).hopper = s.hopper := by
  obtain ⟨v, w, f, b, h⟩ := s.bankOnly_wrote x o d
  rw [h]
@[simp] theorem State.wrote_mill (x : Src) (o : Nat) (d : Word) : (s.wrote x o d).mill = s.mill := by
  obtain ⟨v, w, f, b, h⟩ := s.bankOnly_wrote x o d
  rw [h]
@[simp] theorem State.wrote_mm (x : Src) (o : Nat) (d : Word) : (s.wrote x o d).mm = s.mm := by
  obtain ⟨v, w, f, b, h⟩ := s.bankOnly_wrote x o d
  rw [h]
@[simp] theorem State.wrote_crash (x : Src) (o : Nat) (d : Word) : (s.wrote x o d).crash = s.crash := by
  obtain ⟨v, w, f, b, h⟩ := s.bankOnly_wrote x o d
  rw [h]
@[simp] theorem State.wrote_trace (x : Src) (o : Nat) (d : Word) : (s.wrote x o d).trace = s.trace := by
  obtain ⟨v, w, f, b, h⟩ := s.bankOnly_wrote x o d
  rw [h]
@[simp] theorem State.wrote_score (x : Src) (o : Nat) (d : Word) : (s.wrote x o d).score = s.score := by
  obtain ⟨v, w, f, b, h⟩ := s.bankOnly_wrote x o d
  rw [h]
@[simp] theorem State.wrote_tw (x : Src) (o : Nat) (d : Word) : (s.wrote x o d).tw = s.tw := by
  obtain ⟨v, w, f, b, h⟩ := s.bankOnly_wrote x o d
  rw [h]
@[simp] theorem State.wrote_hang (x : Src) (o : Nat) (d : Word) : (s.wrote x o d).hang = s.hang := by
  obtain ⟨v, w, f, b, h⟩ := s.bankOnly_wrote x o d
  rw [h]
@[simp] theorem State.wrote_team (x : Src) (o : Nat) (d : Word) : (s.wrote x o d).team = s.team := by
  obtain ⟨v, w, f, b, h⟩ := s.bankOnly_wrote x o d
  rw [h]
@[simp] theorem State.wrote_halves (x : Src) (o : Nat) (d : Word) : (s.wrote x o d).halves = s.halves := by
  obtain ⟨v, w, f, b, h⟩ := s.bankOnly_wrote x o d
  rw [h]
@[simp] theorem State.wrote_bsl (x : Src) (o : Nat) (d : Word) : (s.wrote x o d).bsl = s.bsl := by
  obtain ⟨v, w, f, b, h⟩ := s.bankOnly_wrote x o d
  rw [h]
@[simp] theorem State.wrote_jtag (x : Src) (o : Nat) (d : Word) : (s.wrote x o d).jtag = s.jtag := by
  obtain ⟨v, w, f, b, h⟩ := s.bankOnly_wrote x o d
  rw [h]
@[simp] theorem State.wrote_auth (x : Src) (o : Nat) (d : Word) : (s.wrote x o d).auth = s.auth := by
  obtain ⟨v, w, f, b, h⟩ := s.bankOnly_wrote x o d
  rw [h]
@[simp] theorem State.wrote_pow (x : Src) (o : Nat) (d : Word) : (s.wrote x o d).pow = s.pow := by
  obtain ⟨v, w, f, b, h⟩ := s.bankOnly_wrote x o d
  rw [h]
@[simp] theorem State.wrote_test (x : Src) (o : Nat) (d : Word) : (s.wrote x o d).test = s.test := by
  obtain ⟨v, w, f, b, h⟩ := s.bankOnly_wrote x o d
  rw [h]
@[simp] theorem State.wrote_integ (x : Src) (o : Nat) (d : Word) : (s.wrote x o d).integ = s.integ := by
  obtain ⟨v, w, f, b, h⟩ := s.bankOnly_wrote x o d
  rw [h]
@[simp] theorem State.writeTurn_pending (x : Src) (o : Nat) (d : Word) : (s.writeTurn x o d).pending = s.pending := by
  obtain ⟨r, w, f, b, h, _⟩ := s.turn_eq (wrAccess x o d)
  rw [State.writeTurn, h]
@[simp] theorem State.writeTurn_fc (x : Src) (o : Nat) (d : Word) : (s.writeTurn x o d).fc = s.fc := by
  obtain ⟨r, w, f, b, h, _⟩ := s.turn_eq (wrAccess x o d)
  rw [State.writeTurn, h]
@[simp] theorem State.writeTurn_agents (x : Src) (o : Nat) (d : Word) : (s.writeTurn x o d).agents = s.agents := by
  obtain ⟨r, w, f, b, h, _⟩ := s.turn_eq (wrAccess x o d)
  rw [State.writeTurn, h]
@[simp] theorem State.writeTurn_throttle (x : Src) (o : Nat) (d : Word) : (s.writeTurn x o d).throttle = s.throttle := by
  obtain ⟨r, w, f, b, h, _⟩ := s.turn_eq (wrAccess x o d)
  rw [State.writeTurn, h]
@[simp] theorem State.writeTurn_freeCount (x : Src) (o : Nat) (d : Word) : (s.writeTurn x o d).freeCount = s.freeCount := by
  obtain ⟨r, w, f, b, h, _⟩ := s.turn_eq (wrAccess x o d)
  rw [State.writeTurn, h]
@[simp] theorem State.writeTurn_wheel (x : Src) (o : Nat) (d : Word) : (s.writeTurn x o d).wheel = s.wheel := by
  obtain ⟨r, w, f, b, h, _⟩ := s.turn_eq (wrAccess x o d)
  rw [State.writeTurn, h]
@[simp] theorem State.writeTurn_cams (x : Src) (o : Nat) (d : Word) : (s.writeTurn x o d).cams = s.cams := by
  obtain ⟨r, w, f, b, h, _⟩ := s.turn_eq (wrAccess x o d)
  rw [State.writeTurn, h]
@[simp] theorem State.writeTurn_whistle (x : Src) (o : Nat) (d : Word) : (s.writeTurn x o d).whistle = s.whistle := by
  obtain ⟨r, w, f, b, h, _⟩ := s.turn_eq (wrAccess x o d)
  rw [State.writeTurn, h]
@[simp] theorem State.writeTurn_runctl (x : Src) (o : Nat) (d : Word) : (s.writeTurn x o d).runctl = s.runctl := by
  obtain ⟨r, w, f, b, h, _⟩ := s.turn_eq (wrAccess x o d)
  rw [State.writeTurn, h]
@[simp] theorem State.writeTurn_brk (x : Src) (o : Nat) (d : Word) : (s.writeTurn x o d).brk = s.brk := by
  obtain ⟨r, w, f, b, h, _⟩ := s.turn_eq (wrAccess x o d)
  rw [State.writeTurn, h]
@[simp] theorem State.writeTurn_cut (x : Src) (o : Nat) (d : Word) : (s.writeTurn x o d).cut = s.cut := by
  obtain ⟨r, w, f, b, h, _⟩ := s.turn_eq (wrAccess x o d)
  rw [State.writeTurn, h]
@[simp] theorem State.writeTurn_hopper (x : Src) (o : Nat) (d : Word) : (s.writeTurn x o d).hopper = s.hopper := by
  obtain ⟨r, w, f, b, h, _⟩ := s.turn_eq (wrAccess x o d)
  rw [State.writeTurn, h]
@[simp] theorem State.writeTurn_mill (x : Src) (o : Nat) (d : Word) : (s.writeTurn x o d).mill = s.mill := by
  obtain ⟨r, w, f, b, h, _⟩ := s.turn_eq (wrAccess x o d)
  rw [State.writeTurn, h]
@[simp] theorem State.writeTurn_mm (x : Src) (o : Nat) (d : Word) : (s.writeTurn x o d).mm = s.mm := by
  obtain ⟨r, w, f, b, h, _⟩ := s.turn_eq (wrAccess x o d)
  rw [State.writeTurn, h]
@[simp] theorem State.writeTurn_crash (x : Src) (o : Nat) (d : Word) : (s.writeTurn x o d).crash = s.crash := by
  obtain ⟨r, w, f, b, h, _⟩ := s.turn_eq (wrAccess x o d)
  rw [State.writeTurn, h]
@[simp] theorem State.writeTurn_trace (x : Src) (o : Nat) (d : Word) : (s.writeTurn x o d).trace = s.trace := by
  obtain ⟨r, w, f, b, h, _⟩ := s.turn_eq (wrAccess x o d)
  rw [State.writeTurn, h]
@[simp] theorem State.writeTurn_score (x : Src) (o : Nat) (d : Word) : (s.writeTurn x o d).score = s.score := by
  obtain ⟨r, w, f, b, h, _⟩ := s.turn_eq (wrAccess x o d)
  rw [State.writeTurn, h]
@[simp] theorem State.writeTurn_tw (x : Src) (o : Nat) (d : Word) : (s.writeTurn x o d).tw = s.tw := by
  obtain ⟨r, w, f, b, h, _⟩ := s.turn_eq (wrAccess x o d)
  rw [State.writeTurn, h]
@[simp] theorem State.writeTurn_hang (x : Src) (o : Nat) (d : Word) : (s.writeTurn x o d).hang = s.hang := by
  obtain ⟨r, w, f, b, h, _⟩ := s.turn_eq (wrAccess x o d)
  rw [State.writeTurn, h]
@[simp] theorem State.writeTurn_team (x : Src) (o : Nat) (d : Word) : (s.writeTurn x o d).team = s.team := by
  obtain ⟨r, w, f, b, h, _⟩ := s.turn_eq (wrAccess x o d)
  rw [State.writeTurn, h]
@[simp] theorem State.writeTurn_halves (x : Src) (o : Nat) (d : Word) : (s.writeTurn x o d).halves = s.halves := by
  obtain ⟨r, w, f, b, h, _⟩ := s.turn_eq (wrAccess x o d)
  rw [State.writeTurn, h]
@[simp] theorem State.writeTurn_bsl (x : Src) (o : Nat) (d : Word) : (s.writeTurn x o d).bsl = s.bsl := by
  obtain ⟨r, w, f, b, h, _⟩ := s.turn_eq (wrAccess x o d)
  rw [State.writeTurn, h]
@[simp] theorem State.writeTurn_jtag (x : Src) (o : Nat) (d : Word) : (s.writeTurn x o d).jtag = s.jtag := by
  obtain ⟨r, w, f, b, h, _⟩ := s.turn_eq (wrAccess x o d)
  rw [State.writeTurn, h]
@[simp] theorem State.writeTurn_auth (x : Src) (o : Nat) (d : Word) : (s.writeTurn x o d).auth = s.auth := by
  obtain ⟨r, w, f, b, h, _⟩ := s.turn_eq (wrAccess x o d)
  rw [State.writeTurn, h]
@[simp] theorem State.writeTurn_pow (x : Src) (o : Nat) (d : Word) : (s.writeTurn x o d).pow = s.pow := by
  obtain ⟨r, w, f, b, h, _⟩ := s.turn_eq (wrAccess x o d)
  rw [State.writeTurn, h]
@[simp] theorem State.writeTurn_test (x : Src) (o : Nat) (d : Word) : (s.writeTurn x o d).test = s.test := by
  obtain ⟨r, w, f, b, h, _⟩ := s.turn_eq (wrAccess x o d)
  rw [State.writeTurn, h]
@[simp] theorem State.writeTurn_integ (x : Src) (o : Nat) (d : Word) : (s.writeTurn x o d).integ = s.integ := by
  obtain ⟨r, w, f, b, h, _⟩ := s.turn_eq (wrAccess x o d)
  rw [State.writeTurn, h]
@[simp] theorem State.get_writeTurn (x : Src) (o : Nat) (d : Word) (g : Fld) : (s.writeTurn x o d).get g = s.get g := by
  obtain ⟨r, w, f, b, h, _⟩ := s.turn_eq (wrAccess x o d)
  rw [State.writeTurn, h]
  rfl

@[simp] theorem State.get_readTurn (x : Src) (o : Nat) (g : Fld) : (s.readTurn x o).get g = s.get g := by
  obtain ⟨r, w, f, b, h, _⟩ := s.turn_eq (rdAccess x o)
  rw [State.readTurn, h]
  rfl

@[simp] theorem State.agent_wrote (x : Src) (o : Nat) (d : Word) (a : Nat) : (s.wrote x o d).agent a = s.agent a := by
  rw [State.agent, State.wrote_agents, State.agent]

@[simp] theorem State.agent_writeTurn (x : Src) (o : Nat) (d : Word) (a : Nat) : (s.writeTurn x o d).agent a = s.agent a := by
  rw [State.agent, State.writeTurn_agents, State.agent]

/-- The end of a write of a register that the scrubber has not found in this fc leaves every field alone but the page's
PARITY_ERR. -/
theorem State.get_wrote_ne (x : Src) (o : Nat) (d : Word) {g : Fld} (hf : s.hwFault.contains (o / 0x4000, 0, o % 0x1000) = false)
    (hg : g.key ≠ (Hdr.STATUS_PARITY_ERR (o / 0x4000)).key) :
    (s.wrote x o d).get g = s.get g := by
  obtain ⟨v, b, h, hv⟩ := s.wrote_eq (x := x) (d := d) hf
  rw [h]
  rcases hv with rfl | rfl
  · rfl
  · exact s.get_put_ne (f := Hdr.STATUS_PARITY_ERR (o / 0x4000)) 0 hg

/-- The source has the answer OK. -/
theorem State.wrote_resp (x : Src) (o : Nat) (d : Word) : (s.wrote x o d).respOf x = some { src := x, err := false, data := 0 } := by
  simp only [State.wrote, State.answerOk, State.answer, wrAccess, State.respOf]
  have h : ∀ l : List Resp, l.find? (fun _ => false) = none := fun l => by simp
  simp [List.find?_append, List.find?_filter, h]

end Sys2Proof.Machine
end

