-- ==== Sys2Proof/Laws/Regs.lean ====
section
/-! SUPPORT. The field tables: every field of a register lies in that register, and two fields of a register do not share
their key, so that a write of one leaves the others alone. -/

namespace Sys2Proof

/-- Every copy of the row's field lies `stride` bytes after the one before, at the same bits. -/
def Row.regular (r : Row) : Bool :=
  (r.fld 0).off % 4 == 0 && r.stride % 4 == 0 && decide ((r.fld 0).lo ≤ (r.fld 0).hi) && decide ((r.fld 0).hi < 32)
    && (List.range r.n).all (fun i => (r.fld i).off == (r.fld 0).off + i * r.stride && (r.fld i).lo == (r.fld 0).lo
      && (r.fld i).hi == (r.fld 0).hi)

/-- No register holds fields of both rows that share a bit. -/
def Row.apart (r q : Row) : Bool :=
  decide ((r.fld 0).hi < (q.fld 0).lo) || decide ((q.fld 0).hi < (r.fld 0).lo) || (List.range r.n).all (fun i => (q.at? ((r.fld 0).off + i * r.stride)).isNone)

theorem rows_regular : ∀ p < 24, (pageRows p).all Row.regular = true := by decide +kernel

theorem rows_apart : ∀ p < 24, (pageRows p).Pairwise (fun r q => r.apart q = true) := by decide +kernel

theorem pageRows_none (p : Nat) (h : 24 ≤ p) : pageRows p = [] := by
  unfold pageRows
  split <;> first | omega | rfl

theorem pageRows_regular (p : Nat) : ∀ r ∈ pageRows p, r.regular = true := by
  by_cases h : p < 24
  · exact List.all_eq_true.1 (rows_regular p h)
  · simp [pageRows_none p (by omega)]

theorem pageRows_apart (p : Nat) : (pageRows p).Pairwise (fun r q => r.apart q = true) := by
  by_cases h : p < 24
  · exact rows_apart p h
  · simp [pageRows_none p (by omega)]

/-- What a row answers at an offset. -/
theorem Row.at?_some {r : Row} {o : Nat} {x : Acc × Fld} (hr : r.regular = true) (h : r.at? o = some x) :
    x.2.off = o ∧ (x.2.lo = (r.fld 0).lo ∧ x.2.hi = (r.fld 0).hi) ∧ (x.2.lo ≤ x.2.hi ∧ x.2.hi < 32) ∧ o % 4 = 0 ∧ ∃ i < r.n, o = (r.fld 0).off + i * r.stride := by
  simp only [Row.at?] at h
  split at h
  · rename_i hc
    obtain ⟨h1, h2, h3⟩ := hc
    simp only [Option.some.injEq] at h
    subst h
    simp only [Row.regular, List.all_eq_true, List.mem_range, Bool.and_eq_true, beq_iff_eq, decide_eq_true_eq] at hr
    obtain ⟨⟨⟨⟨hb, hs⟩, hl⟩, hh⟩, hr⟩ := hr
    have e := hr _ h3
    have hm := Nat.mul_mod ((o - (r.fld 0).off) / r.stride) r.stride 4
    rw [hs, Nat.mul_zero, Nat.zero_mod] at hm
    have hd := Nat.div_add_mod (o - (r.fld 0).off) r.stride
    rw [h2, Nat.mul_comm] at hd
    exact ⟨by rw [e.1.1]; omega, ⟨e.1.2, e.2⟩, by rw [e.1.2, e.2]; exact ⟨hl, hh⟩, by omega, _, h3, by omega⟩
  · exact absurd h (by simp)

/-- Every field of a register lies in that register. -/
theorem fieldsAt_off {o : Nat} {x : Acc × Fld} (h : x ∈ fieldsAt o) : x.2.off = o := by
  obtain ⟨r, hr, hx⟩ := List.mem_filterMap.1 h
  exact (Row.at?_some (pageRows_regular _ r hr) hx).1

/-- A field lies in the 32 bits of its register, whose offset is a multiple of 4. -/
theorem fieldsAt_word {o : Nat} {x : Acc × Fld} (h : x ∈ fieldsAt o) : (x.2.lo ≤ x.2.hi ∧ x.2.hi < 32) ∧ o % 4 = 0 := by
  obtain ⟨r, hr, hx⟩ := List.mem_filterMap.1 h
  obtain ⟨_, _, h3, h4, _⟩ := Row.at?_some (pageRows_regular _ r hr) hx
  exact ⟨h3, h4⟩

/-- The key of a field of the register at `o` names the register's word. -/
theorem fieldsAt_key {o : Nat} {x : Acc × Fld} (h : x ∈ fieldsAt o) : x.2.key / 32 = o / 4 := by
  have h1 := fieldsAt_off h
  obtain ⟨h2, h3⟩ := fieldsAt_word h
  simp only [Fld.key, h1]
  omega

/-- Two fields of a register share no bit. -/
theorem fieldsAt_apart (o : Nat) : (fieldsAt o).Pairwise (fun x y => x.2.hi < y.2.lo ∨ y.2.hi < x.2.lo) := by
  have hp := pageRows_apart (o / 0x4000)
  have hg := pageRows_regular (o / 0x4000)
  rw [fieldsAt, List.pairwise_filterMap]
  refine (List.Pairwise.and_mem.1 hp).imp ?_
  intro r q ⟨hr, hq, hrq⟩ x hx y hy
  obtain ⟨_, ⟨h1, h2⟩, _, _, i, hi, ho⟩ := Row.at?_some (hg r hr) hx
  obtain ⟨_, ⟨g1, g2⟩, _⟩ := Row.at?_some (hg q hq) hy
  simp only [Row.apart, Bool.or_eq_true, decide_eq_true_eq, List.all_eq_true, List.mem_range] at hrq
  rcases hrq with (h | h) | h
  · left; omega
  · right; omega
  · have := h i hi
    rw [← ho, hy] at this
    simp at this

/-- Two fields of a register have different keys. -/
theorem fieldsAt_keys (o : Nat) : (fieldsAt o).Pairwise (fun x y => x.2.key ≠ y.2.key) := by
  refine (List.Pairwise.and_mem.1 (fieldsAt_apart o)).imp ?_
  intro x y ⟨hx, hy, h⟩
  have := fieldsAt_off hx
  have := fieldsAt_off hy
  have := (fieldsAt_word hx).1
  have := (fieldsAt_word hy).1
  simp only [Fld.key]
  omega

end Sys2Proof
end

/-! PROOF. The funnels (chapter 10): what reads of a half's funnel and of the registers give after each funnel operation, and what
the events of the funnels do. -/

namespace Sys2Proof

/-- A key that is taken out is not listed. -/
theorem Sparse.has_del_same {α : Type} (m : Sparse α) (i : Nat) : Sparse.has (Sparse.del m i) i = false := by
  simp [Sparse.has, Sparse.del]

end Sys2Proof

namespace Sys2Proof.Machine

section FunnelState

variable (s : State)

/-! ### `State.setFh` -/

@[simp] theorem State.fh_setFh_same (h : Nat) (f : FunnelHalf) : (s.setFh h f).fh h = f := by
  unfold State.setFh State.fh; split <;> rfl
@[simp] theorem State.setFh_fc (h : Nat) (f : FunnelHalf) : (s.setFh h f).fc = s.fc := by
  unfold State.setFh; split <;> rfl
@[simp] theorem State.setFh_agents (h : Nat) (f : FunnelHalf) : (s.setFh h f).agents = s.agents := by
  unfold State.setFh; split <;> rfl
@[simp] theorem State.setFh_cut (h : Nat) (f : FunnelHalf) : (s.setFh h f).cut = s.cut := by
  unfold State.setFh; split <;> rfl
@[simp] theorem State.setFh_mm (h : Nat) (f : FunnelHalf) : (s.setFh h f).mm = s.mm := by
  unfold State.setFh; split <;> rfl
@[simp] theorem State.setFh_setFh (h : Nat) (f f' : FunnelHalf) : (s.setFh h f).setFh h f' = s.setFh h f' := by
  unfold State.setFh; split <;> rfl
@[simp] theorem State.setFh_promoted (h : Nat) (f : FunnelHalf) : (s.setFh h f).trace.promoted = s.trace.promoted := by
  unfold State.setFh; split <;> rfl
@[simp] theorem State.setFh_promotedWas (h : Nat) (f : FunnelHalf) : (s.setFh h f).trace.promotedWas = s.trace.promotedWas := by
  unfold State.setFh; split <;> rfl
@[simp] theorem State.get_setFh (h : Nat) (f : FunnelHalf) (g : Fld) : (s.setFh h f).get g = s.get g := by
  unfold State.setFh; split <;> rfl
@[simp] theorem State.cfg_setFh (h : Nat) (f : FunnelHalf) (g : Fld) : (s.setFh h f).cfg g = s.cfg g := by
  unfold State.setFh; split <;> rfl
@[simp] theorem State.agent_setFh (h : Nat) (f : FunnelHalf) (a : Nat) : (s.setFh h f).agent a = s.agent a := by
  simp [State.agent]
@[simp] theorem State.rankOf_setFh (h : Nat) (f : FunnelHalf) (e : BitVec 128) : (s.setFh h f).rankOf e = s.rankOf e := by
  simp [State.rankOf]
@[simp] theorem State.arrivalRank_setFh (h : Nat) (f : FunnelHalf) (e : BitVec 128) :
    (s.setFh h f).arrivalRank e = s.arrivalRank e := by
  simp [State.arrivalRank]
@[simp] theorem State.funnelShut_setFh (h : Nat) (f : FunnelHalf) (k : Nat) : (s.setFh h f).funnelShut k = s.funnelShut k := by
  simp [State.funnelShut, State.belowW0]

/-! ### The registers hold nothing of a funnel -/

@[simp] theorem State.fh_put (f : Fld) (v h : Nat) : (s.put f v).fh h = s.fh h := rfl
@[simp] theorem State.fh_put64 (lo hi : Fld) (v h : Nat) : (s.put64 lo hi v).fh h = s.fh h := rfl
@[simp] theorem State.fh_raise (f : Fld) (h : Nat) : (s.raise f).fh h = s.fh h := rfl
@[simp] theorem State.fh_bumpWrap (f : Fld) (n h : Nat) : (s.bumpWrap f n).fh h = s.fh h := rfl
@[simp] theorem State.fh_hubEvent (c k h : Nat) : (s.hubEvent c k).fh h = s.fh h := rfl

/-- A pair of 32-bit words reads the value written, cut to 64 bits. -/
theorem State.get64_put64 {lo hi : Fld} (v : Nat) (hl : lo.width = 32) (hh : hi.width = 32) (hk : lo.key ≠ hi.key) :
    (s.put64 lo hi v).get64 lo hi = v % 2 ^ 64 := by
  simp only [State.get64, State.put64, State.get_put_same, State.get_put_ne _ _ hk, hl, hh]
  omega

/-! ### Counting the entries of a merge buffer -/

/-- The count of a merge buffer's entries is one of its items: ranks and LOST records have no part in it. -/
theorem mergeCount_eq_items (m : List Queued) :
    mergeCount m = ((m.map Queued.item).filter (fun i => i.mark.isNone)).length := by
  simp [mergeCount, List.filter_map, Function.comp_def]

theorem mergeCount_congr {m m' : List Queued} (h : m.map Queued.item = m'.map Queued.item) : mergeCount m = mergeCount m' := by
  rw [mergeCount_eq_items, mergeCount_eq_items, h]

/-- A merge buffer of tally marks holds no entry. -/
theorem mergeCount_marks (m : List Queued) : mergeCount (m.filter (fun q => q.item.mark.isSome)) = 0 := by
  simp [mergeCount, List.filter_filter]

/-- Changing one queued entry but for its item leaves the items. -/
theorem items_updateFirst {p : Queued → Bool} {f : Queued → Queued} (hf : ∀ q, (f q).item = q.item) (m : List Queued) :
    (updateFirst p f m).map Queued.item = m.map Queued.item := by
  induction m with
  | nil => rfl
  | cons q m ih =>
    unfold updateFirst
    split
    · simp [hf]
    · simp [ih]

/-! ### A drop (R400, R403, R404) -/

/-- Recording drops touches one half's funnel only: there its merge buffer's items and its arrivals stay. -/
theorem State.recordLost_eq (h src : Nat) (k : LostRec) (n : Bool) : ∃ f, s.recordLost h src k n = s.setFh h f
    ∧ f.merge.map Queued.item = (s.fh h).merge.map Queued.item ∧ f.arrivals = (s.fh h).arrivals := by
  unfold State.recordLost
  dsimp only
  split
  · refine ⟨_, rfl, ?_, rfl⟩
    rw [List.map_reverse, items_updateFirst, ← List.map_reverse, List.reverse_reverse]
    exact fun _ => rfl
  · exact ⟨_, rfl, rfl, rfl⟩

@[simp] theorem State.dropCount_agents (r : Nat) : (s.dropCount r).agents = s.agents := rfl
@[simp] theorem State.fh_dropCount (r h : Nat) : (s.dropCount r).fh h = s.fh h := rfl

theorem dropClass_key_ne_drop (r : Nat) : (Reg.FUNNEL.DROP_CLASS.COUNT r).key ≠ Reg.FUNNEL.EVENT.DROP.key := by
  simp only [Fld.key, Reg.FUNNEL.DROP_CLASS.COUNT, Reg.FUNNEL.EVENT.DROP]
  omega

/-- A drop sets EVENT.DROP. -/
theorem State.get_dropCount_event (r : Nat) : (s.dropCount r).get Reg.FUNNEL.EVENT.DROP = 1 :=
  State.get_raise_same _ rfl

/-- A drop counts in its class. -/
theorem State.get_dropCount_class (r : Nat) : (s.dropCount r).get (Reg.FUNNEL.DROP_CLASS.COUNT r)
    = (s.get (Reg.FUNNEL.DROP_CLASS.COUNT r) + 1) % 2 ^ 32 := by
  rw [State.dropCount, State.get_hubEvent, State.get_raise_ne _ (dropClass_key_ne_drop r), State.get_bumpWrap_same]
  rfl

/-- A drop changes no other register. -/
theorem State.get_dropCount_ne {r : Nat} {g : Fld} (he : g.key ≠ Reg.FUNNEL.EVENT.DROP.key)
    (hc : g.key ≠ (Reg.FUNNEL.DROP_CLASS.COUNT r).key) : (s.dropCount r).get g = s.get g := by
  rw [State.dropCount, State.get_hubEvent, State.get_raise_ne _ he, State.get_bumpWrap_ne _ _ hc]

@[simp] theorem State.recordLost_agents (h src : Nat) (k : LostRec) (n : Bool) : (s.recordLost h src k n).agents = s.agents := by
  obtain ⟨f, hf, _⟩ := s.recordLost_eq h src k n
  rw [hf, State.setFh_agents]

@[simp] theorem State.get_recordLost (h src : Nat) (k : LostRec) (n : Bool) (g : Fld) :
    (s.recordLost h src k n).get g = s.get g := by
  obtain ⟨f, hf, _⟩ := s.recordLost_eq h src k n
  rw [hf, State.get_setFh]

@[simp] theorem State.items_recordLost (h src : Nat) (k : LostRec) (n : Bool) :
    ((s.recordLost h src k n).fh h).merge.map Queued.item = (s.fh h).merge.map Queued.item := by
  obtain ⟨f, hf, hm, _⟩ := s.recordLost_eq h src k n
  rw [hf, State.fh_setFh_same, hm]

@[simp] theorem State.arrivals_recordLost (h src : Nat) (k : LostRec) (n : Bool) :
    ((s.recordLost h src k n).fh h).arrivals = (s.fh h).arrivals := by
  obtain ⟨f, hf, _, ha⟩ := s.recordLost_eq h src k n
  rw [hf, State.fh_setFh_same, ha]

@[simp] theorem State.dropEntry_agents (h : Nat) (e : BitVec 128) (r : Nat) (n : Bool) :
    (s.dropEntry h e r n).agents = s.agents := by
  simp [State.dropEntry]

/-- Of the registers, dropping an entry changes those of its count. -/
@[simp] theorem State.get_dropEntry (h : Nat) (e : BitVec 128) (r : Nat) (n : Bool) (g : Fld) :
    (s.dropEntry h e r n).get g = (s.dropCount r).get g := by
  simp [State.dropEntry]

@[simp] theorem State.items_dropEntry (h : Nat) (e : BitVec 128) (r : Nat) (n : Bool) :
    ((s.dropEntry h e r n).fh h).merge.map Queued.item = (s.fh h).merge.map Queued.item := by
  simp [State.dropEntry]

@[simp] theorem State.arrivals_dropEntry (h : Nat) (e : BitVec 128) (r : Nat) (n : Bool) :
    ((s.dropEntry h e r n).fh h).arrivals = (s.fh h).arrivals := by
  simp [State.dropEntry]

/-- From `s` to `t` only drops have happened in half `h`, so far as the items of its merge buffer, the agents, and the registers
before the drop counts other than EVENT.DROP can tell. -/
def State.onlyDrops (s t : State) (h : Nat) : Prop :=
  t.agents = s.agents ∧ (t.fh h).merge.map Queued.item = (s.fh h).merge.map Queued.item
    ∧ ∀ g : Fld, g.key < (Reg.FUNNEL.DROP_CLASS.COUNT 0).key → g.key ≠ Reg.FUNNEL.EVENT.DROP.key → t.get g = s.get g

theorem State.onlyDrops_rfl (h : Nat) : s.onlyDrops s h := ⟨rfl, rfl, fun _ _ _ => rfl⟩

theorem State.onlyDrops_trans {s t u : State} {h : Nat} (a : s.onlyDrops t h) (b : t.onlyDrops u h) : s.onlyDrops u h := by
  obtain ⟨a1, a2, a3⟩ := a
  obtain ⟨b1, b2, b3⟩ := b
  exact ⟨b1.trans a1, b2.trans a2, fun g hk he => (b3 g hk he).trans (a3 g hk he)⟩

/-- A new funnel with the old merge buffer's items. -/
theorem State.onlyDrops_setFh {h : Nat} {f : FunnelHalf} (hm : f.merge.map Queued.item = (s.fh h).merge.map Queued.item) :
    s.onlyDrops (s.setFh h f) h := by
  refine ⟨by simp, by simpa using hm, by simp⟩

theorem State.onlyDrops_dropCount (r h : Nat) : s.onlyDrops (s.dropCount r) h := by
  refine ⟨rfl, rfl, fun g hk he => s.get_dropCount_ne he ?_⟩
  simp only [Fld.key, Reg.FUNNEL.DROP_CLASS.COUNT] at hk ⊢
  omega

theorem State.onlyDrops_dropQueued (h : Nat) (e : BitVec 128) (r : Nat) (l : Option LostRec) :
    s.onlyDrops (s.dropQueued h e r l) h := by
  refine State.onlyDrops_trans (s.onlyDrops_dropCount r h) ?_
  cases l with
  | none => exact ⟨s.dropEntry_agents h e r true, s.items_dropEntry h e r true, fun g _ _ => s.get_dropEntry h e r true g⟩
  | some k => exact ⟨State.recordLost_agents _ _ _ _ _, State.items_recordLost _ _ _ _ _, fun g _ _ => State.get_recordLost _ _ _ _ _ g⟩

/-- Dropping a list of queued entries one after the other only drops. -/
theorem State.onlyDrops_foldl {h : Nat} {d : State → Queued → State} (hd : ∀ (t : State) q, t.onlyDrops (d t q) h) (l : List Queued) :
    ∀ s : State, s.onlyDrops (l.foldl d s) h := by
  induction l with
  | nil => exact fun s => s.onlyDrops_rfl h
  | cons q l ih => exact fun s => State.onlyDrops_trans (hd s q) (ih _)

/-! ### A half stops (R406, R414) -/

/-- Dropping every queued entry leaves the tally marks, and otherwise only drops. -/
theorem State.dropMerge_onlyDrops (h : Nat) :
    (s.setFh h { s.fh h with merge := (s.fh h).merge.filter (fun q => q.item.mark.isSome) }).onlyDrops (s.dropMerge h) h := by
  refine State.onlyDrops_foldl (fun t q => ?_) _ _
  have hq := t.onlyDrops_dropQueued h q.entry q.rank q.lost
  dsimp only
  split
  · exact State.onlyDrops_trans hq (State.onlyDrops_setFh _ rfl)
  · exact hq

@[simp] theorem State.promote_agents (p : Option Nat) : (s.promote p).agents = s.agents := by
  simp [State.promote]
@[simp] theorem State.get_promote (p : Option Nat) (g : Fld) : (s.promote p).get g = s.get g := by
  simp only [State.promote, State.get_setFh]
  rfl

/-- A promotion ranks the queued entries anew and leaves their items. -/
theorem State.items_promote (p : Option Nat) (h : Nat) :
    ((s.promote p).fh h).merge.map Queued.item = (s.fh h).merge.map Queued.item := by
  by_cases h0 : h = 0 <;> simp [State.promote, State.setFh, State.fh, h0, Function.comp_def]

theorem State.onlyDrops_endPromotion (k h : Nat) : s.onlyDrops (s.endPromotion k) h := by
  have hp : s.onlyDrops (s.promote none) h := ⟨s.promote_agents none, s.items_promote none h, fun g _ _ => s.get_promote none g⟩
  unfold State.endPromotion
  split
  · split
    · exact hp
    · exact s.onlyDrops_rfl h
  · exact s.onlyDrops_rfl h

theorem trigStateFld_width (h : Nat) : (trigStateFld h).width = 2 := by
  unfold trigStateFld; split <;> rfl

/-- A half's state stands at bit 0 or 2 of TRIG_STATE. -/
theorem trigStateFld_key (h : Nat) : (trigStateFld h).key = 0x3404C * 8 ∨ (trigStateFld h).key = 0x3404C * 8 + 2 := by
  unfold trigStateFld
  split
  · exact .inl rfl
  · exact .inr rfl

/-- A half that enters STOPPED: its state, EVENT.STOPPED, no entry left in its merge buffer, and every agent as it was. -/
theorem State.enterStopped_spec (h : Nat) : let t := s.enterStopped h
    t.get (trigStateFld h) = tsStopped ∧ t.get Reg.FUNNEL.EVENT.STOPPED = 1 ∧ mergeCount (t.fh h).merge = 0 ∧ t.agents = s.agents := by
  obtain ⟨hag, hit, hreg⟩ := State.onlyDrops_trans ((s.put (trigStateFld h) tsStopped).dropMerge_onlyDrops h)
    (State.onlyDrops_endPromotion _ h h)
  have hkey := trigStateFld_key h
  have hstate : (s.enterStopped h).get (trigStateFld h) = tsStopped := by
    rw [State.enterStopped, State.get_raise_ne, State.get_setFh, hreg, State.get_setFh, State.get_put_same, trigStateFld_width]
    · rfl
    all_goals
      simp only [Fld.key, Reg.FUNNEL.EVENT.STOPPED, Reg.FUNNEL.EVENT.DROP, Reg.FUNNEL.DROP_CLASS.COUNT] at hkey ⊢
      omega
  refine ⟨hstate, State.get_raise_same _ rfl, ?_, ?_⟩
  · simp only [State.enterStopped, State.fh_raise, State.fh_setFh_same]
    rw [mergeCount_congr hit]
    simp [mergeCount_marks]
  · simpa [State.enterStopped] using hag

/-! ### Ring arrivals (R396, R399, R404, Table 10-1) -/

/-- An entry joins the merge buffer of an open half with room for its rank, if its source is not marked lost. -/
theorem State.arriveQ_joins {h : Nat} {q : Queued} (hm : q.item.mark = none) (ho : s.funnelShut h = false)
    (hl : Sparse.has (s.fh h).lost q.item.src = false) (hlow : mergeLow (s.fh h).merge < 384)
    (hall : mergeCount (s.fh h).merge < 512) : s.arriveQ h q
      = s.setFh h { s.fh h with merge := (s.fh h).merge ++ [{ q with rank := s.rankOf q.item.bits }] } := by
  simp [State.arriveQ, hm, ho, hl, hlow, hall]

/-- An entry other than a TRIGGER is dropped in a half that is shut. -/
theorem State.arriveQ_shut {h : Nat} {q : Queued} (hm : q.item.mark = none) (ht : q.trig = false) (ho : s.funnelShut h = true) :
    s.arriveQ h q = s.dropEntry h q.item.bits q.rank true := by
  simp [State.arriveQ, hm, ht, ho]

/-- At the end of an fc with one ring arrival and no mark to check, the arrival is handled. -/
theorem State.halfTick_one {h : Nat} {i : TItem} (ha : (s.fh h).arrivals = [i]) (hc : (s.fh h).checks = []) : s.halfTick h
    = (s.setFh h { s.fh h with arrivals := [], checks := [] }).arriveQ h ⟨i, s.arrivalRank i.bits, none, false⟩ := by
  simp [State.halfTick, ha, hc, insertArrival]

/-- The one ring arrival of an fc at an open half with room joins the merge buffer with its rank (R396, R398, R399). -/
theorem State.halfTick_joins {h : Nat} {i : TItem} (ha : (s.fh h).arrivals = [i]) (hc : (s.fh h).checks = []) (hm : i.mark = none)
    (ho : s.funnelShut h = false) (hl : Sparse.has (s.fh h).lost i.src = false) (hlow : mergeLow (s.fh h).merge < 384)
    (hall : mergeCount (s.fh h).merge < 512) : let t := s.halfTick h
    (t.fh h).arrivals = [] ∧ (t.fh h).merge = (s.fh h).merge ++ [⟨i, s.rankOf i.bits, none, false⟩] ∧ t.agents = s.agents
      ∧ ∀ g : Fld, t.get g = s.get g := by
  rw [s.halfTick_one ha hc, State.arriveQ_joins _ hm (by simpa using ho) (by simpa using hl) (by simpa using hlow)
    (by simpa using hall)]
  simp

/-- The one ring arrival of an fc at a half that is shut is dropped, counted by the rank with which it arrived (R404). -/
theorem State.halfTick_drops {h : Nat} {i : TItem} (ha : (s.fh h).arrivals = [i]) (hc : (s.fh h).checks = []) (hm : i.mark = none)
    (ho : s.funnelShut h = true) : let t := s.halfTick h
    let d := Reg.FUNNEL.DROP_CLASS.COUNT (s.arrivalRank i.bits)
    (t.fh h).arrivals = [] ∧ mergeCount (t.fh h).merge = mergeCount (s.fh h).merge ∧ t.get Reg.FUNNEL.EVENT.DROP = 1
      ∧ t.get d = (s.get d + 1) % 2 ^ 32 ∧ s.keeps t [Reg.FUNNEL.EVENT.DROP, d] ∧ t.agents = s.agents := by
  rw [s.halfTick_one ha hc, State.arriveQ_shut _ hm rfl (by simpa using ho)]
  refine ⟨by simp, ?_, ?_, ?_, fun g _ hk => ?_, by simp⟩
  · simpa using mergeCount_congr (State.items_dropEntry (s.setFh h { s.fh h with arrivals := [], checks := [] }) h i.bits
      (s.arrivalRank i.bits) true)
  · rw [State.get_dropEntry, State.get_dropCount_event]
  · rw [State.get_dropEntry, State.get_dropCount_class, State.get_setFh]
  · simp only [List.map_cons, List.map_nil, List.mem_cons, List.not_mem_nil, or_false, not_or] at hk
    obtain ⟨he, hc⟩ := hk
    rw [State.get_dropEntry, State.get_dropCount_ne _ he hc, State.get_setFh]

/-! ### Tally marks (R422) -/

/-- At the end of an fc with no ring arrival, a source's mark at the write point is taken and checked. -/
theorem State.halfTick_checks {h a g : Nat} {q : Queued} {rest : List Queued} (ha : (s.fh h).arrivals = [])
    (hc : (s.fh h).checks = [a]) (hm : (s.fh h).merge = q :: rest) (hsrc : q.item.src = a) (hd : (s.agent a).enc.dropping = [])
    (hq : q.item.mark = some g) : s.halfTick h
      = (s.setFh h { s.fh h with arrivals := [], checks := [], merge := rest }).markCheck h a g := by
  simp [State.halfTick, State.takeMark, ha, hc, hm, hsrc, hd, hq]

/-- The check of G against A + D enters the cut in progress, and touches nothing else. -/
theorem State.markCheck_some {j : CutJob} (h a g : Nat) (hj : s.cut.job = some j) : let t := s.markCheck h a g
    (∃ k, t.cut.job = some k ∧ k.marks = j.marks - 1 ∧ k.traceChecked = j.traceChecked + 1
      ∧ k.traceBad = (if g % 2 ^ 32 = (Sparse.get (s.fh h).acc a 0 + Sparse.get (s.fh h).drp a 0) % 2 ^ 32 then j.traceBad
        else j.traceBad ++ [(a, (g : Int)
          - ((Sparse.get (s.fh h).acc a 0 + Sparse.get (s.fh h).drp a 0) % 2 ^ 32 : Nat))]))
      ∧ t.fh h = s.fh h ∧ t.agents = s.agents ∧ ∀ f : Fld, t.get f = s.get f := by
  unfold State.markCheck
  rw [hj]
  exact ⟨⟨_, rfl, rfl, rfl, rfl⟩, rfl, rfl, fun _ => rfl⟩

/-! ### Writing the oldest entry (R394, R397, R407) -/

/-- With nothing to write, or an entry already written in this fc, the funnel writes nothing. -/
theorem State.funnelWrite_idle {h : Nat} (hi : (s.fh h).merge = [] ∨ (s.fh h).wroteFc = some s.fc) : s.funnelWrite h = s := by
  unfold State.funnelWrite
  rcases hi with hi | hi
  · by_cases hm : s.cfg Reg.FUNNEL.MODE.MODE = 2 <;> simp [hm, hi]
  · by_cases hm : s.cfg Reg.FUNNEL.MODE.MODE = 2 <;> cases hl : (s.fh h).merge <;> simp [hm, hi, hl]

/-- Without a test of the buffers no bank is skipped. -/
theorem State.skipOffline_of_test_ne {h i : Nat} (ht : s.test.test ≠ 1) : s.skipOffline h i = i := by
  simp [State.skipOffline, ht]

/-- A half's funnel after its oldest entry `q` has been written at the write index of RING mode in fc `n`. -/
def FunnelHalf.ringWrote (f : FunnelHalf) (q : Queued) (rest : List Queued) (n : Nat) : FunnelHalf :=
  { f with merge := rest
           wroteFc := some n
           acc := if q.lost.isSome then f.acc else Sparse.ins f.acc q.item.src ((Sparse.get f.acc q.item.src 0 + 1) % 2 ^ 32)
           tail := f.tail ++ [q.entry]
           trigPtr := if q.trig then some f.wr else f.trigPtr
           post := if q.trig then some 0 else f.post.map (· + 1)
           buf := Sparse.set f.buf f.wr q.entry 0
           wr := (f.wr + 1) % traceEntries
           wrapped := f.wrapped || f.wr + 1 == traceEntries }

/-- In RING mode the oldest entry is written at the write index, and ACCEPT counts. -/
theorem State.funnelWrite_ring {h : Nat} {q : Queued} {rest : List Queued} (hm : (s.fh h).merge = q :: rest)
    (hq : q.item.mark = none) (hmode : s.cfg Reg.FUNNEL.MODE.MODE = 0) (ht : s.test.test ≠ 1) (hw : (s.fh h).wr < traceEntries)
    (hst : s.get (trigStateFld h) ≠ tsStopped) (hp : s.belowW0 = false) (hs : (s.fh h).stopping = false)
    (hpost : (s.fh h).post = none) (hfc : (s.fh h).wroteFc ≠ some s.fc) : s.funnelWrite h
      = ((s.setFh h ((s.fh h).ringWrote q rest s.fc)).hubEvent 11 1).put64 Reg.FUNNEL.ACCEPT_LO Reg.FUNNEL.ACCEPT_HI
          ((s.get64 Reg.FUNNEL.ACCEPT_LO Reg.FUNNEL.ACCEPT_HI + 1) % 2 ^ 64) := by
  have hmod : (s.fh h).wr % traceEntries = (s.fh h).wr := Nat.mod_eq_of_lt hw
  have hne : ((s.fh h).wr == traceEntries) = false := by simpa using Nat.ne_of_lt hw
  simp [State.funnelWrite, FunnelHalf.ringWrote, s.skipOffline_of_test_ne ht, hm, hq, hmode, hst, hp, hs, hpost, hfc, hmod, hne]

/-- The write as the registers and the buffer show it (R394, R397). -/
theorem State.funnelWrite_ring_spec {h : Nat} {q : Queued} {rest : List Queued} (hm : (s.fh h).merge = q :: rest)
    (hq : q.item.mark = none) (hmode : s.cfg Reg.FUNNEL.MODE.MODE = 0) (ht : s.test.test ≠ 1) (hw : (s.fh h).wr < traceEntries)
    (hst : s.get (trigStateFld h) ≠ tsStopped) (hp : s.belowW0 = false) (hs : (s.fh h).stopping = false)
    (hpost : (s.fh h).post = none) (hfc : (s.fh h).wroteFc ≠ some s.fc) : let t := s.funnelWrite h
    t.fh h = (s.fh h).ringWrote q rest s.fc
      ∧ t.get64 Reg.FUNNEL.ACCEPT_LO Reg.FUNNEL.ACCEPT_HI = (s.get64 Reg.FUNNEL.ACCEPT_LO Reg.FUNNEL.ACCEPT_HI + 1) % 2 ^ 64
      ∧ s.keeps t [Reg.FUNNEL.ACCEPT_LO, Reg.FUNNEL.ACCEPT_HI] ∧ t.agents = s.agents := by
  rw [s.funnelWrite_ring hm hq hmode ht hw hst hp hs hpost hfc]
  refine ⟨by simp, ?_, fun g _ hk => ?_, by simp⟩
  · rw [State.get64_put64 _ _ rfl rfl (by decide), Nat.mod_mod]
  · simp only [List.map_cons, List.map_nil, List.mem_cons, List.not_mem_nil, or_false, not_or] at hk
    rw [State.get_put64_ne _ _ hk.1 hk.2, State.get_hubEvent, State.get_setFh]

/-! ### LOST placements (R400, R401) -/

/-- With room in the merge buffer the LOST entry joins it. -/
theorem State.placeLost_spec {h : Nat} (a : Nat) (hr : mergeCount (s.fh h).merge < 512) : let t := s.placeLost h a
    Sparse.has (t.fh h).lost a = false
      ∧ (∃ q, (t.fh h).merge = (s.fh h).merge ++ [q] ∧ q.item.src = a ∧ q.rank = 3
          ∧ q.lost = some (Sparse.get (s.fh h).lost a ⟨0, 0, false⟩)) ∧ t.agents = s.agents ∧ ∀ g : Fld, t.get g = s.get g := by
  rw [State.placeLost, if_pos hr]
  dsimp only
  rw [State.fh_setFh_same]
  exact ⟨Sparse.has_del_same _ _, ⟨_, rfl, rfl, rfl, rfl⟩, by simp, by simp⟩

/-! ### Spill units (R407, R411) -/

/-- With an empty FIFO no unit leaves. -/
theorem State.spillUnit_empty {h : Nat} (hf : (s.fh h).fifo = []) : s.spillUnit h = s := by
  simp [State.spillUnit, hf]

/-- In SPILL mode a FIFO with fewer than four entries that is not being flushed keeps them. -/
theorem State.spillUnit_short {h : Nat} (hf : (s.fh h).fifo.length < 4) (hs : (s.fh h).stopping = false)
    (hfl : (s.fh h).flushing = false) (hm : s.cfg Reg.FUNNEL.MODE.MODE = 2) (he : s.get Reg.FUNNEL.CTRL.ENABLE = 1) :
    s.spillUnit h = s := by
  simp [State.spillUnit, hf, hs, hfl, hm, he]

/-- The place in memory of the entry of the spill area that the half's FIFO writes next (R408). -/
def State.spillAddr (s : State) (h : Nat) : Nat :=
  2 ^ 32 * s.cfg Reg.FUNNEL.SPILL_BASE_HI.ADDR + s.cfg Reg.FUNNEL.SPILL_BASE_LO + h * s.spillEntries * 16 + 16 * (s.fh h).spillWr

/-- The PAD entries that complete the unit which leaves a half's FIFO (R411). -/
def FunnelHalf.spillPads (f : FunnelHalf) : List (BitVec 128) := List.replicate (4 - f.fifo.length) (traceEntry hubSource 0 tyPad 0)

/-- The bytes of that unit. -/
def FunnelHalf.spillBytes (f : FunnelHalf) : List (BitVec 8) := (f.fifo.take 4 ++ f.spillPads).flatMap (fun e => leBytes 16 e.toNat)

/-- A half's funnel after a unit has left its FIFO for a spill area of `area` entries, in SPILL mode or not. -/
def FunnelHalf.spilled (f : FunnelHalf) (area : Nat) (spills : Bool) : FunnelHalf :=
  { f with fifo := f.fifo.drop 4
           spillWr := if area ≤ f.spillWr + 4 then 0 else f.spillWr + 4
           wrapped := f.wrapped || (spills && decide (area ≤ f.spillWr + 4))
           tail := f.tail ++ f.spillPads }

/-- The memory master has written `w`. -/
def State.memWrote (s : State) (w : Nat × List (BitVec 8)) : State := { s with mm := { s.mm with lastWrite := some w } }

@[simp] theorem State.fh_memWrote (w : Nat × List (BitVec 8)) (h : Nat) : (s.memWrote w).fh h = s.fh h := rfl
@[simp] theorem State.get_memWrote (w : Nat × List (BitVec 8)) (g : Fld) : (s.memWrote w).get g = s.get g := rfl
@[simp] theorem State.memWrote_agents (w : Nat × List (BitVec 8)) : (s.memWrote w).agents = s.agents := rfl
@[simp] theorem State.memWrote_lastWrite (w : Nat × List (BitVec 8)) : (s.memWrote w).mm.lastWrite = some w := rfl

/-- A unit leaves a FIFO of four entries, in another mode than SPILL also of fewer. -/
theorem State.spillUnit_eq {h : Nat} (hne : (s.fh h).fifo ≠ []) (hs : (s.fh h).stopping = false)
    (hw : 4 ≤ (s.fh h).fifo.length ∨ s.cfg Reg.FUNNEL.MODE.MODE ≠ 2) : s.spillUnit h =
      let u := (s.setFh h ((s.fh h).spilled s.spillEntries (s.cfg Reg.FUNNEL.MODE.MODE == 2))).memWrote
        (s.spillAddr h, (s.fh h).spillBytes)
      if s.spillEntries ≤ (s.fh h).spillWr + 4 then u.raise Reg.FUNNEL.EVENT.SPILL_WRAP else u := by
  have hgo : s.cfg Reg.FUNNEL.MODE.MODE = 2 → ¬ (s.fh h).fifo.length < 4 := by omega
  unfold State.spillUnit
  dsimp only
  rw [if_neg (by simpa [hne] using fun hl _ _ hm => absurd hl (hgo hm)), if_neg (by simp [hs])]
  simp only [decide_eq_true_eq, State.memWrote, State.setFh_mm]
  rfl

/-- What the unit's leaving changes. -/
theorem State.spillUnit_spec {h : Nat} (hne : (s.fh h).fifo ≠ []) (hs : (s.fh h).stopping = false)
    (hw : 4 ≤ (s.fh h).fifo.length ∨ s.cfg Reg.FUNNEL.MODE.MODE ≠ 2) : let t := s.spillUnit h
    (t.fh h).fifo = (s.fh h).fifo.drop 4 ∧ t.mm.lastWrite = some (s.spillAddr h, (s.fh h).spillBytes)
      ∧ s.keeps t [Reg.FUNNEL.EVENT.SPILL_WRAP] ∧ t.agents = s.agents := by
  rw [s.spillUnit_eq hne hs hw]
  dsimp only
  split
  · refine ⟨by simp [FunnelHalf.spilled], by simp, fun g _ hk => ?_, by simp⟩
    rw [State.get_raise_ne _ (by simpa using hk), State.get_memWrote, State.get_setFh]
  · exact ⟨by simp [FunnelHalf.spilled], by simp, fun g _ _ => by simp, by simp⟩

/-! ### Stops (R407, R413, R414) -/

/-- Outside SPILL mode a half that is to stop enters STOPPED at once. -/
theorem State.stopHalf_of_mode_ne {h : Nat} (hm : s.cfg Reg.FUNNEL.MODE.MODE ≠ 2) : s.stopHalf h = s.enterStopped h :=
  if_neg fun hc => hm hc.1

/-- A half that a full buffer stops in FILL_STOP shows FULL beside what STOPPED shows. -/
theorem State.fillStopped_spec (h : Nat) :
    let full := if h = 0 then Reg.FUNNEL.TRIG_STATE.NORTH_FULL else Reg.FUNNEL.TRIG_STATE.SOUTH_FULL
    let t := (s.enterStopped h).put full 1
    t.get (trigStateFld h) = tsStopped ∧ t.get Reg.FUNNEL.EVENT.STOPPED = 1 ∧ t.get full = 1 ∧ t.agents = s.agents := by
  obtain ⟨hst, hev, _, hag⟩ := s.enterStopped_spec h
  have hkey := trigStateFld_key h
  dsimp only
  split
  all_goals
    refine ⟨(State.get_put_ne _ _ ?_).trans hst, (State.get_put_ne _ _ (by decide)).trans hev, State.get_put_same _ _ _, hag⟩
    simp only [Fld.key, Reg.FUNNEL.TRIG_STATE.NORTH_FULL, Reg.FUNNEL.TRIG_STATE.SOUTH_FULL] at hkey ⊢
    omega

end FunnelState

/-! ### The events of the funnels -/

section FunnelEvents

variable (half : Half) (s : State)

theorem exec_funnelArrival_empty (hi : (s.fh (halfNo half)).inbox = []) : exec (.funnelArrival half) s = .next s := by
  simp only [exec, execFunnelArrival, hi]

theorem exec_funnelArrival_cons {i : Nat × TItem} {rest : List (Nat × TItem)} (hi : (s.fh (halfNo half)).inbox = i :: rest) :
    exec (.funnelArrival half) s = .next (if i.1 + 2 ≤ s.fc then s.setFh (halfNo half)
      { s.fh (halfNo half) with inbox := rest, arrivals := (s.fh (halfNo half)).arrivals ++ [i.2] } else s) := by
  simp only [exec, execFunnelArrival, hi]

theorem exec_funnelWrite : exec (.funnelWrite half) s = .next (s.funnelWrite (halfNo half)) := rfl

theorem exec_spillUnitWrite : exec (.spillUnitWrite half) s = .next (s.spillUnit (halfNo half)) := rfl

theorem exec_tallyMarkCheck (a : AgentId) : exec (.tallyMarkCheck half a) s
    = .next (s.setFh (halfNo half) { s.fh (halfNo half) with checks := (s.fh (halfNo half)).checks ++ [a.toNat] }) := rfl

/-- It is the turn of source `a`, in an open half with fewer than two LOST entries placed in this fc (R401). -/
def State.lostTurn (s : State) (h a : Nat) : Prop :=
  s.funnelShut h = false ∧ (s.fh h).nextLost = some a ∧ ¬ ((s.fh h).placedFc = s.fc ∧ 2 ≤ (s.fh h).placed)

theorem exec_lostPlacement_turn {a : AgentId} (ht : s.lostTurn (halfNo half) a.toNat) :
    exec (.lostPlacement half a) s = .next (s.placeLost (halfNo half) a.toNat) := by
  obtain ⟨ho, hn, hp⟩ := ht
  exact congrArg _ (if_pos ⟨by simp [ho], hn, hp⟩)

theorem exec_lostPlacement_idle {a : AgentId} (ht : ¬ s.lostTurn (halfNo half) a.toNat) :
    exec (.lostPlacement half a) s = .next s :=
  congrArg _ (if_neg fun ⟨ho, hn, hp⟩ => ht ⟨by simpa using ho, hn, hp⟩)

theorem exec_postTrigStop_due {n : Nat} (hp : (s.fh (halfNo half)).post = some n)
    (hst : s.get (trigStateFld (halfNo half)) = tsTriggered) (hn : s.postLimit ≤ n) :
    exec (.postTrigStop half) s = .next (s.stopHalf (halfNo half)) := by
  simp only [exec, execPostTrigStop, hp, hst, hn, and_self, if_true]

theorem exec_postTrigStop_idle (hi : (s.fh (halfNo half)).post = none ∨ s.get (trigStateFld (halfNo half)) ≠ tsTriggered) :
    exec (.postTrigStop half) s = .next s := by
  rcases hi with hi | hi
  · simp only [exec, execPostTrigStop, hi]
  · cases hp : (s.fh (halfNo half)).post <;> simp [exec, execPostTrigStop, hp, hi]

theorem exec_fillStopFull_due (hm : s.cfg Reg.FUNNEL.MODE.MODE = 1) (hw : (s.fh (halfNo half)).wr = traceEntries)
    (hst : s.get (trigStateFld (halfNo half)) ≠ tsStopped) : exec (.fillStopFull half) s
      = .next ((s.enterStopped (halfNo half)).put
        (if halfNo half = 0 then Reg.FUNNEL.TRIG_STATE.NORTH_FULL else Reg.FUNNEL.TRIG_STATE.SOUTH_FULL) 1) :=
  congrArg _ (if_pos ⟨hm, hw, hst⟩)

theorem exec_fillStopFull_idle (hi : s.cfg Reg.FUNNEL.MODE.MODE ≠ 1 ∨ (s.fh (halfNo half)).wr ≠ traceEntries) :
    exec (.fillStopFull half) s = .next s :=
  congrArg _ (if_neg fun ⟨hm, hw, _⟩ => hi.elim (· hm) (· hw))

end FunnelEvents

/-- Settles O45: each clause is what one funnel operation does, in the two halves alike. -/
theorem funnelsKeepAndWriteEntries : Obligations.FunnelsKeepAndWriteEntries := by
  intro half s h f st
  refine ⟨exec_funnelArrival_empty half s, ?arrival, ?tick, ?idle, ?ring, ?lost, ?spill, ?spillEmpty, ?spillShort, ?spillFlush,
    ?stop, exec_postTrigStop_idle half s, ?fill, exec_fillStopFull_idle half s, ?check, ?mark⟩
  case arrival =>
    intro i rest hi
    rw [exec_funnelArrival_cons half s hi]
    constructor
    · intro hfc
      rw [if_pos hfc]
      exact ⟨_, rfl, by simp [h], by simp [h, f], by simp [h, f], by simp, by simp⟩
    · intro hfc
      rw [if_neg (by omega)]
  case tick =>
    intro i ha hc hm _ _ _
    exact ⟨s.halfTick_joins ha hc hm, s.halfTick_drops ha hc hm⟩
  case idle =>
    intro hi
    rw [exec_funnelWrite, s.funnelWrite_idle hi]
  case ring =>
    intro q rest hm hq hmode ht hw hst hp hs hpost hfc
    obtain ⟨hfh, hacc, hkeep, hag⟩ := s.funnelWrite_ring_spec hm hq hmode ht hw hst hp hs hpost hfc
    refine ⟨_, exec_funnelWrite half s, ?_⟩
    rw [hfh]
    exact ⟨rfl, Sparse.get_set_same _ _ _ _, fun i hi => Sparse.get_set_ne _ _ _ _ hi, rfl, rfl, fun hl => if_pos hl, hacc, hkeep,
      hag⟩
  case lost =>
    intro a may
    exact ⟨fun ht hr => ⟨_, exec_lostPlacement_turn half s ht, s.placeLost_spec a.toNat hr⟩, exec_lostPlacement_idle half s⟩
  case spill =>
    intro hl hs
    have hne : f.fifo ≠ [] := by
      intro he
      simp [he] at hl
    obtain ⟨hfifo, hmem, hkeep, hag⟩ := s.spillUnit_spec hne hs (.inl hl)
    have hpads : f.spillPads = [] := by simp [FunnelHalf.spillPads, Nat.sub_eq_zero_of_le hl]
    have hbytes : f.spillBytes = (f.fifo.take 4).flatMap (fun e => leBytes 16 e.toNat) := by
      rw [FunnelHalf.spillBytes, hpads, List.append_nil]
    exact ⟨_, exec_spillUnitWrite half s, hfifo, by rw [hmem, hbytes]; rfl, hkeep, hag⟩
  case spillEmpty =>
    intro he
    rw [exec_spillUnitWrite, s.spillUnit_empty he]
  case spillShort =>
    intro hl hs hfl hm he
    rw [exec_spillUnitWrite, s.spillUnit_short hl hs hfl hm he]
  case spillFlush =>
    intro hne hl hs hm
    obtain ⟨hfifo, _, hkeep, hag⟩ := s.spillUnit_spec hne hs (.inr hm)
    exact ⟨_, exec_spillUnitWrite half s, hfifo.trans (List.drop_eq_nil_of_le (Nat.le_of_lt hl)), hkeep, hag⟩
  case stop =>
    intro n hp hst hn hm
    rw [exec_postTrigStop_due half s hp hst hn, s.stopHalf_of_mode_ne hm]
    exact ⟨_, rfl, s.enterStopped_spec h⟩
  case fill =>
    intro hm hw hst
    exact ⟨_, exec_fillStopFull_due half s hm hw hst, s.fillStopped_spec h⟩
  case check =>
    intro a
    exact ⟨_, exec_tallyMarkCheck half s a, by simp [h, f], by simp [h, f], by simp, by simp, by simp⟩
  case mark =>
    intro a q rest g j ha hc hm hsrc hd hq hj
    dsimp only
    rw [s.halfTick_checks ha hc hm hsrc hd hq]
    obtain ⟨hjob, hfh, hag, hreg⟩ := State.markCheck_some (j := j) (s.setFh h { f with arrivals := [], checks := [], merge := rest })
      h a.toNat g (by simpa using hj)
    rw [State.fh_setFh_same] at hjob hfh
    exact ⟨by rw [hfh], hjob, by simpa using hag, fun k => by simpa using hreg k⟩

end Sys2Proof.Machine

/-! PROOF. The agents (chapter 1): what bringing an agent up to date leaves alone, and what a change of one agent does to it, to
the other agents and to the hub. -/

namespace Sys2Proof.Machine

/-! ### Bringing an agent up to date -/

section AgentTime

/-- The field is none of A_PCNT0 and A_PCNT1. -/
def notPcnt (f : Fld) : Prop := f.key ≠ (AReg.A_PCNT 0).key ∧ f.key ≠ (AReg.A_PCNT 1).key

/-- An agent without what the passing of time changes: the registers, the counts, the waits and their edges, the skids and the
queues that they feed, and the stall code. -/
def Agent.timeless (g : Agent) : Agent :=
  { g with regs := [], carry0 := false, carry1 := false, queues := [], skids := [], settled := 0, ctxCycle := none, dur := 0
           wdCount := 0, alarmed := false, aon0 := 0, aon1 := 0, ovfLatch := false, armLatch := false, waits := [], edges := []
           deferLeft := none, code := 0, prev := 0 }

/-- Only time has passed from agent `g` to `h`: of its registers the programmable counters may have changed, and a frozen agent
keeps its queues and skids (R29, R436). -/
structure Agent.Aged (g h : Agent) : Prop where
  timeless : h.timeless = g.timeless
  get : ∀ f, notPcnt f → h.get f = g.get f
  frozen : g.frozen = true → h.queues = g.queues ∧ h.skids = g.skids

theorem Agent.aged_rfl (g : Agent) : g.Aged g := ⟨rfl, fun _ _ => rfl, fun _ => ⟨rfl, rfl⟩⟩

theorem Agent.aged_ite {c : Prop} [Decidable c] {g h k : Agent} (a : g.Aged h) (b : g.Aged k) : g.Aged (if c then h else k) := by
  split
  · exact a
  · exact b

/-- What `timeless` keeps is as it was. -/
theorem Agent.Aged.proj {α : Type} {g h : Agent} (a : g.Aged h) (p : Agent → α) (hp : ∀ x : Agent, p x.timeless = p x) :
    p h = p g := by
  rw [← hp h, a.timeless, hp g]

theorem Agent.Aged.trans {g h k : Agent} (a : g.Aged h) (b : h.Aged k) : g.Aged k where
  timeless := b.timeless.trans a.timeless
  get f hf := (b.get f hf).trans (a.get f hf)
  frozen hg := by
    have hh : h.frozen = true := (a.proj Agent.frozen fun _ => rfl).trans hg
    exact ⟨(b.frozen hh).1.trans (a.frozen hg).1, (b.frozen hh).2.trans (a.frozen hg).2⟩

/-- A change of nothing but timed state other than registers, queues and skids. -/
theorem Agent.aged_of_eq {g h : Agent} (ht : h.timeless = g.timeless) (hr : h.regs = g.regs) (hq : h.queues = g.queues)
    (hs : h.skids = g.skids) : g.Aged h :=
  ⟨ht, fun _ _ => by rw [Agent.get, hr, Agent.get], fun _ => ⟨hq, hs⟩⟩

theorem Agent.aged_put_pcnt (g : Agent) (k v : Nat) (hk : k = 0 ∨ k = 1) : g.Aged (g.put (AReg.A_PCNT k) v) := by
  refine ⟨rfl, fun f hf => Agent.get_put_ne _ _ ?_, fun _ => ⟨rfl, rfl⟩⟩
  rcases hk with rfl | rfl
  · exact hf.1
  · exact hf.2

theorem Agent.aged_countCycles (g : Agent) (ctx k n : Nat) (hk : k = 0 ∨ k = 1) : g.Aged (g.countCycles ctx k n) := by
  have hp := fun v => g.aged_put_pcnt k v hk
  unfold Agent.countCycles
  dsimp only
  repeat' split
  · exact (hp _).trans (Agent.aged_of_eq rfl rfl rfl rfl)
  · exact (hp _).trans (Agent.aged_of_eq rfl rfl rfl rfl)
  · exact hp _
  · exact g.aged_rfl

theorem Agent.aged_countSpan (g : Agent) (n : Nat) : g.Aged (g.countSpan n) := by
  have both : ∀ (g : Agent) c m, g.Aged ((g.countCycles c 0 m).countCycles c 1 m) := fun g c m =>
    (g.aged_countCycles c 0 m (.inl rfl)).trans (Agent.aged_countCycles _ c 1 m (.inr rfl))
  unfold Agent.countSpan
  dsimp only
  generalize (if g.ctxCycle = some g.settled then min n 1 else 0) = m
  exact (Agent.aged_ite g.aged_rfl (both g _ _)).trans (Agent.aged_ite (Agent.aged_rfl _) (both _ _ _))

theorem Agent.aged_replay (g : Agent) (n : Nat) : g.Aged (g.replay n) := by
  unfold Agent.replay
  split
  · exact g.aged_rfl
  next h =>
    have hf : g.frozen = false := by simp at h; exact h.1
    exact ⟨rfl, fun _ _ => rfl, fun h => by simp [hf] at h⟩

theorem Agent.aged_settle (g : Agent) (now : Nat) : g.Aged (g.settle now) := by
  unfold Agent.settle
  dsimp only
  split
  · exact Agent.aged_of_eq rfl rfl rfl rfl
  · exact ((g.aged_countSpan _).trans (Agent.aged_replay _ _)).trans (Agent.aged_of_eq rfl rfl rfl rfl)

theorem Agent.aged_recode (g : Agent) : g.Aged g.recode := by
  unfold Agent.recode
  dsimp only
  split
  · exact g.aged_rfl
  · exact Agent.aged_of_eq rfl rfl rfl rfl

theorem Agent.aged_endWaits (g : Agent) (p : Wait → Bool) : g.Aged (g.endWaits p) := Agent.aged_of_eq rfl rfl rfl rfl

theorem Agent.aged_beginWait (g : Agent) (w : Wait) : g.Aged (g.beginWait w) := by
  unfold Agent.beginWait
  split
  · exact g.aged_rfl
  · exact Agent.aged_of_eq rfl rfl rfl rfl

theorem Agent.aged_holdSeen (g : Agent) (a : Nat) (e : HoldEdge) : g.Aged (g.holdSeen a e) := by
  unfold Agent.holdSeen
  dsimp only
  split
  · exact (g.aged_beginWait _).trans (Agent.aged_recode _)
  · exact (g.aged_endWaits _).trans (Agent.aged_recode _)

/-- The agent without the holds that it has seen by fc `t`. -/
def Agent.dropSeen (g : Agent) (t : Nat) : Agent := { g with sched := g.sched.filter (fun e => decide (t < e.fc)) }

/-- To bring an agent up to date is to let time pass. -/
theorem Agent.aged_advance (g : Agent) (a : Nat) (clk : Nat × Nat) (t : Nat) : (g.dropSeen t).Aged (g.advance a clk t) := by
  have hold : ∀ (l : List HoldEdge) (g : Agent),
      g.Aged (l.foldl (fun g e => (g.settle (ownCycles clk.1 clk.2 e.fc)).holdSeen a e) g) := by
    intro l
    induction l with
    | nil => exact fun g => g.aged_rfl
    | cons e l ih => exact fun g => ((g.aged_settle _).trans (Agent.aged_holdSeen _ a e)).trans (ih _)
  exact (hold _ _).trans (Agent.aged_settle _ _)

/-- The agent is up to date in fc `t` of its clock: its counts are, and it has seen every hold that it could. -/
def Agent.current (g : Agent) (clk : Nat × Nat) (t : Nat) : Prop :=
  g.settled = ownCycles clk.1 clk.2 t ∧ ∀ e ∈ g.sched, t < e.fc

theorem Agent.settle_settled (g : Agent) (now : Nat) : (g.settle now).settled = now := by
  unfold Agent.settle
  dsimp only
  split <;> rfl

theorem Agent.settle_current {g : Agent} {now : Nat} (h : g.settled = now) : g.settle now = g := by
  subst h
  simp [Agent.settle]

theorem Agent.current_advance (g : Agent) (a : Nat) (clk : Nat × Nat) (t : Nat) : (g.advance a clk t).current clk t := by
  refine ⟨Agent.settle_settled _ _, ?_⟩
  rw [(g.aged_advance a clk t).proj Agent.sched fun _ => rfl]
  simp [Agent.dropSeen]

/-- An agent that is up to date stays as it is. -/
theorem Agent.advance_current {g : Agent} {clk : Nat × Nat} {t : Nat} (a : Nat) (h : g.current clk t) : g.advance a clk t = g := by
  obtain ⟨hs, hd⟩ := h
  have hdue : g.sched.filter (fun e => decide (e.fc ≤ t)) = [] := by
    simpa using fun e he => hd e he
  have hleft : g.sched.filter (fun e => decide (t < e.fc)) = g.sched := by
    simpa using fun e he => hd e he
  unfold Agent.advance
  dsimp only
  rw [hdue, hleft]
  exact Agent.settle_current hs

end AgentTime

/-! ### The agent of this fc -/

section AgentNow

variable (s : State) (n : Nat)

theorem State.agentNow_aged : ((s.agent n).dropSeen s.fc).Aged (s.agentNow n) := (s.agent n).aged_advance n (s.clockOf n) s.fc

theorem State.agentNow_current : (s.agentNow n).current (s.clockOf n) s.fc := (s.agent n).current_advance n (s.clockOf n) s.fc

/-- What neither time nor a hold changes is in the agent of this fc as it was. -/
theorem State.agentNow_proj {α : Type} (p : Agent → α) (hp : ∀ x : Agent, p x.timeless = p x)
    (hs : ∀ (x : Agent) t, p (x.dropSeen t) = p x) : p (s.agentNow n) = p (s.agent n) :=
  ((s.agentNow_aged n).proj p hp).trans (hs _ _)

theorem State.agentNow_get {f : Fld} (hf : notPcnt f) : (s.agentNow n).get f = (s.agent n).get f := (s.agentNow_aged n).get f hf

theorem State.agentNow_queues (hf : (s.agent n).frozen = true) : (s.agentNow n).queues = (s.agent n).queues :=
  ((s.agentNow_aged n).frozen hf).1

theorem State.agentNow_skids (hf : (s.agent n).frozen = true) : (s.agentNow n).skids = (s.agent n).skids :=
  ((s.agentNow_aged n).frozen hf).2

@[simp] theorem State.agentNow_frozen : (s.agentNow n).frozen = (s.agent n).frozen :=
  s.agentNow_proj n Agent.frozen (fun _ => rfl) fun _ _ => rfl
@[simp] theorem State.agentNow_halted : (s.agentNow n).halted = (s.agent n).halted :=
  s.agentNow_proj n Agent.halted (fun _ => rfl) fun _ _ => rfl
@[simp] theorem State.agentNow_faulted : (s.agentNow n).faulted = (s.agent n).faulted :=
  s.agentNow_proj n Agent.faulted (fun _ => rfl) fun _ _ => rfl
@[simp] theorem State.agentNow_asleep : (s.agentNow n).asleep = (s.agent n).asleep :=
  s.agentNow_proj n Agent.asleep (fun _ => rfl) fun _ _ => rfl
@[simp] theorem State.agentNow_heard : (s.agentNow n).heard = (s.agent n).heard :=
  s.agentNow_proj n Agent.heard (fun _ => rfl) fun _ _ => rfl
@[simp] theorem State.agentNow_ctx : (s.agentNow n).ctx = (s.agent n).ctx :=
  s.agentNow_proj n Agent.ctx (fun _ => rfl) fun _ _ => rfl
@[simp] theorem State.agentNow_shadow : (s.agentNow n).shadow = (s.agent n).shadow :=
  s.agentNow_proj n Agent.shadow (fun _ => rfl) fun _ _ => rfl
@[simp] theorem State.agentNow_credits : (s.agentNow n).credits = (s.agent n).credits :=
  s.agentNow_proj n Agent.credits (fun _ => rfl) fun _ _ => rfl
@[simp] theorem State.agentNow_skidHigh : (s.agentNow n).skidHigh = (s.agent n).skidHigh :=
  s.agentNow_proj n Agent.skidHigh (fun _ => rfl) fun _ _ => rfl
@[simp] theorem State.agentNow_heldNotch : (s.agentNow n).heldNotch = (s.agent n).heldNotch :=
  s.agentNow_proj n Agent.heldNotch (fun _ => rfl) fun _ _ => rfl
@[simp] theorem State.agentNow_edgeOvf : (s.agentNow n).edgeOvf = (s.agent n).edgeOvf :=
  s.agentNow_proj n Agent.edgeOvf (fun _ => rfl) fun _ _ => rfl

theorem notPcnt_fault : notPcnt AReg.A_FAULT := ⟨by decide, by decide⟩

theorem State.agentNow_fault : (s.agentNow n).get AReg.A_FAULT = (s.agent n).get AReg.A_FAULT := s.agentNow_get n notPcnt_fault

end AgentNow

end Sys2Proof.Machine

namespace Sys2Proof.Machine

/-! ### A change of one agent -/

section ModAgent

variable (s : State) (n : Nat)

/-- An agent without what storing it works out anew: its stall code, what is noted of its hold, and the holds it is about to
see. -/
def Agent.lasting (g : Agent) : Agent :=
  { g with heldNotch := none, edges := [], wdCount := 0, alarmed := false, code := 0, prev := 0, dur := 0, sched := [] }

theorem Agent.recode_lasting (g : Agent) : g.recode.lasting = g.lasting := by
  unfold Agent.recode
  dsimp only
  split <;> rfl

/-- What `recode` cannot reach is as it was. -/
theorem Agent.recode_proj {α : Type} (g : Agent) (p : Agent → α) (hp : ∀ (x : Agent) c d e, p { x with code := c, prev := d, dur := e } = p x) :
    p g.recode = p g := by
  unfold Agent.recode
  dsimp only
  split
  · rfl
  · exact hp _ _ _ _

@[simp] theorem Agent.recode_frozen (g : Agent) : g.recode.frozen = g.frozen := g.recode_proj Agent.frozen fun _ _ _ _ => rfl
@[simp] theorem Agent.recode_heldNotch (g : Agent) : g.recode.heldNotch = g.heldNotch := g.recode_proj Agent.heldNotch fun _ _ _ _ => rfl
@[simp] theorem Agent.recode_edges (g : Agent) : g.recode.edges = g.edges := g.recode_proj Agent.edges fun _ _ _ _ => rfl
@[simp] theorem Agent.recode_get (g : Agent) (f : Fld) : g.recode.get f = g.get f := g.recode_proj (fun x => x.get f) fun _ _ _ _ => rfl

/-! #### Storing it -/

theorem State.holdEnded_eq (a since : Nat) (snap : Bool) : ∃ h, s.holdEnded a since snap = { s with hang := h } := by
  unfold State.holdEnded
  dsimp only
  repeat' split
  all_goals exact ⟨_, rfl⟩

/-- Storing an agent writes the agent and, at the end of its hold, the watchdogs. -/
theorem State.storeAgent_eq (g0 g : Agent) : ∃ g' h, s.storeAgent n g0 g = { s.setAgent n g' with hang := h }
    ∧ g'.lasting = g.lasting ∧ (∃ d : Int, g'.edges = g.edges.map (fun e => { e with notch := e.notch + d }))
    ∧ (g.heldNotch = none → g'.edges = g.edges) := by
  have keep : g.edges = g.edges.map (fun e => { e with notch := e.notch + (0 : Int) }) := by simp
  unfold State.storeAgent
  dsimp only
  split
  next hn => exact ⟨_, _, rfl, by split <;> rfl, ⟨0, by split <;> exact keep⟩, fun _ => by split <;> rfl⟩
  next since hn =>
    split
    · exact ⟨_, _, rfl, rfl, ⟨0, keep⟩, fun _ => rfl⟩
    · obtain ⟨h, hh⟩ := (s.setAgent n (g.holdEnd since s.wheel.notchCount !(g0.byStop || g0.halted))).holdEnded_eq n since
        !(g0.byStop || g0.halted)
      exact ⟨_, h, hh, rfl, ⟨_, rfl⟩, fun h => absurd (hn.symm.trans h) (by simp)⟩

/-! #### What the hub hears of it -/

theorem State.fault_eq (p b d : Nat) : ∃ r w l, s.fault p b d = { s with regs := r, hw := w, hwFault := l } := by
  unfold State.fault
  dsimp only
  split <;> exact ⟨_, _, _, rfl⟩

/-- A fault bit that hardware has raised reads 1. -/
theorem State.get_fault_bit {p b d : Nat} (h2 : (⟨0x4000 * p + 0x18, b, b, 0⟩ : Fld).key ≠ (Hdr.FAULT_INFO_FIRST p).key)
    (h3 : (⟨0x4000 * p + 0x18, b, b, 0⟩ : Fld).key ≠ (Hdr.FAULT_INFO_DETAIL p).key) :
    (s.fault p b d).get ⟨0x4000 * p + 0x18, b, b, 0⟩ = 1 := by
  have hw : (⟨0x4000 * p + 0x18, b, b, 0⟩ : Fld).width = 1 := by simp [Fld.width]
  have hr : ∀ t : State, ({ t with hwFault := t.hwFault ++ [(p, b, d)] } : State).get = t.get := fun _ => rfl
  unfold State.fault
  dsimp only
  split
  · rw [State.get_put_ne _ _ h3, State.get_put_ne _ _ h2, hr, State.get_raise_same _ hw]
  · rw [hr, State.get_raise_same _ hw]

theorem State.faultHeard_eq (was now : Nat) : ∃ r w l p, s.faultHeard was now
    = { s with regs := r, hw := w, hwFault := l, whistle := { s.whistle with protocol := p } } := by
  have h : ∃ r w l, (if (testBit now 0 && !testBit was 0) = true then s.fault Slot.WHISTLE 9 0 else s)
      = { s with regs := r, hw := w, hwFault := l } := by
    split
    · exact s.fault_eq _ _ _
    · exact ⟨_, _, _, rfl⟩
  obtain ⟨r, w, l, h⟩ := h
  unfold State.faultHeard
  dsimp only
  rw [h]
  split <;> exact ⟨_, _, _, _, rfl⟩

/-- Without a new skid overflow no hub register shows the fault yet (R163, R176). -/
theorem State.get_faultHeard {was now : Nat} (h : testBit now 0 = true → testBit was 0 = true) (f : Fld) :
    (s.faultHeard was now).get f = s.get f := by
  have hb : (testBit now 0 && !testBit was 0) = false := by
    cases hn : testBit now 0
    · rfl
    · simp [h hn]
  unfold State.faultHeard
  rw [hb]
  dsimp only
  split <;> rfl

/-- A new skid overflow shows in WHISTLE.FAULT at once (R176). -/
theorem State.get_faultHeard_skid {was now : Nat} (hn : testBit now 0 = true) (hw : testBit was 0 = false) :
    (s.faultHeard was now).get ⟨0x14018, 9, 9, 0⟩ = 1 := by
  have hf := s.get_fault_bit (p := Slot.WHISTLE) (b := 9) (d := 0) (by decide) (by decide)
  unfold State.faultHeard
  rw [hn, hw]
  dsimp only
  split <;> exact hf

/-! #### What its senders see -/

theorem mem_insertHold {e x : HoldEdge} {l : List HoldEdge} : x ∈ insertHold e l ↔ x = e ∨ x ∈ l := by
  induction l with
  | nil => simp [insertHold]
  | cons y l ih =>
    unfold insertHold
    split
    · simp
    · simp [ih, or_left_comm]

/-- The signal of queue `q` of agent `b`: its sender is about to see the hold begin or end. -/
def State.holdSignalOne (s : State) (b : Nat) (on : Bool) (q : Nat) : State :=
  match queueSender b q with
  | none => s
  | some (a, l) => s.setAgent a { s.agent a with sched := insertHold ⟨s.fc + linkLatency b q, l, on⟩ (s.agent a).sched }

theorem State.holdSignal_eq_fold (b : Nat) (on : Bool) :
    s.holdSignal b on = (List.range (agentQueues b)).foldl (fun s q => s.holdSignalOne b on q) s := by
  unfold State.holdSignal
  congr

theorem State.holdSignalOne_eq (b : Nat) (on : Bool) (q : Nat) : ∃ l, s.holdSignalOne b on q = { s with agents := l } := by
  unfold State.holdSignalOne
  split <;> exact ⟨_, rfl⟩

/-- One signal leaves every agent but for the holds that it is about to see, and of these it takes none away. -/
theorem State.holdSignalOne_agent (b : Nat) (on : Bool) (q c : Nat) : ∃ l, (s.holdSignalOne b on q).agent c = { s.agent c with sched := l }
    ∧ ∀ e ∈ (s.agent c).sched, e ∈ l := by
  unfold State.holdSignalOne
  split
  · exact ⟨_, rfl, fun _ h => h⟩
  next a l hq =>
    by_cases hc : c = a
    · subst hc
      rw [State.agent_setAgent_same]
      exact ⟨_, rfl, fun _ h => mem_insertHold.2 (.inr h)⟩
    · rw [State.agent_setAgent_ne _ _ hc]
      exact ⟨_, rfl, fun _ h => h⟩

/-- The sender of the queue is about to see it. -/
theorem State.holdSignalOne_sent {b : Nat} (on : Bool) {q : Nat} {x : Nat × Nat} (hq : queueSender b q = some x) :
    ⟨s.fc + linkLatency b q, x.2, on⟩ ∈ ((s.holdSignalOne b on q).agent x.1).sched := by
  simp only [State.holdSignalOne, hq, State.agent_setAgent_same]
  exact mem_insertHold.2 (.inl rfl)

theorem State.holdSignal_eq (b : Nat) (on : Bool) : ∃ l, s.holdSignal b on = { s with agents := l } := by
  rw [State.holdSignal_eq_fold]
  generalize List.range (agentQueues b) = qs
  induction qs generalizing s with
  | nil => exact ⟨_, rfl⟩
  | cons q qs ih =>
    obtain ⟨l, h⟩ := s.holdSignalOne_eq b on q
    obtain ⟨l', h'⟩ := ih (s.holdSignalOne b on q)
    exact ⟨l', by rw [List.foldl_cons, h', h]⟩

theorem State.holdSignals_agent (b : Nat) (on : Bool) (c : Nat) (qs : List Nat) (s : State) :
    ∃ l, (qs.foldl (fun s q => s.holdSignalOne b on q) s).agent c = { s.agent c with sched := l } ∧ ∀ e ∈ (s.agent c).sched, e ∈ l := by
  induction qs generalizing s with
  | nil => exact ⟨_, rfl, fun _ h => h⟩
  | cons q qs ih =>
    obtain ⟨l, h, hl⟩ := s.holdSignalOne_agent b on q c
    obtain ⟨l', h', hl'⟩ := ih (s.holdSignalOne b on q)
    refine ⟨l', by rw [List.foldl_cons, h', h], fun e he => hl' e ?_⟩
    rw [h]
    exact hl e he

/-- Every agent but for the holds that it is about to see is as it was. -/
theorem State.holdSignal_agent (b : Nat) (on : Bool) (c : Nat) : ∃ l, (s.holdSignal b on).agent c = { s.agent c with sched := l } := by
  rw [State.holdSignal_eq_fold]
  obtain ⟨l, h, _⟩ := State.holdSignals_agent b on c (List.range (agentQueues b)) s
  exact ⟨l, h⟩

/-- Every sender is about to see the hold begin or end (R169). -/
theorem State.holdSent_holdSignal (b : Nat) (on : Bool) : s.holdSent (s.holdSignal b on) b on := by
  intro q hq x hx
  rw [State.holdSignal_eq_fold]
  have hmem : q ∈ List.range (agentQueues b) := List.mem_range.2 hq
  generalize List.range (agentQueues b) = qs at hmem ⊢
  have hfc : ∀ (t : State) p, (t.holdSignalOne b on p).fc = t.fc := fun t p => by
    obtain ⟨l, h⟩ := t.holdSignalOne_eq b on p
    rw [h]
  induction qs generalizing s with
  | nil => exact absurd hmem (by simp)
  | cons p qs ih =>
    rw [List.foldl_cons]
    rcases List.mem_cons.1 hmem with rfl | hmem
    · obtain ⟨l, h, hl⟩ := State.holdSignals_agent b on x.1 qs (s.holdSignalOne b on q)
      rw [h]
      exact hl _ (s.holdSignalOne_sent on hx)
    · rw [← hfc s p]
      exact ih _ hmem

/-! #### The change as a whole -/

/-- A change of an agent touches the agents, the watchdogs, and what the hub hears of the agent's faults. -/
theorem State.modAgent_eq (f : Agent → Agent) : ∃ ag h r w l p, s.modAgent n f
    = { s with agents := ag, hang := h, regs := r, hw := w, hwFault := l, whistle := { s.whistle with protocol := p } } := by
  unfold State.modAgent
  dsimp only
  obtain ⟨g', h, hst, _⟩ := s.storeAgent_eq n (s.agentNow n) (f (s.agentNow n)).recode
  rw [hst]
  obtain ⟨r, w, l, p, hf⟩ := ({ s.setAgent n g' with hang := h } : State).faultHeard_eq ((s.agentNow n).get AReg.A_FAULT)
    ((f (s.agentNow n)).recode.get AReg.A_FAULT)
  rw [hf]
  split
  · exact ⟨_, _, _, _, _, _, rfl⟩
  · obtain ⟨ag, hs⟩ := ({ s.setAgent n g' with hang := h, regs := r, hw := w, hwFault := l,
                                               whistle := { s.whistle with protocol := p } } : State).holdSignal_eq n
      (f (s.agentNow n)).recode.frozen
    exact ⟨_, _, _, _, _, _, hs⟩

/-- The state after a change of an agent, before its senders hear of its hold. -/
def State.stored (s : State) (n : Nat) (f : Agent → Agent) : State :=
  (s.storeAgent n (s.agentNow n) (f (s.agentNow n)).recode).faultHeard ((s.agent n).get AReg.A_FAULT)
    ((f (s.agentNow n)).get AReg.A_FAULT)

theorem State.modAgent_stored (f : Agent → Agent) : s.modAgent n f =
    if (f (s.agentNow n)).frozen = (s.agent n).frozen then s.stored n f else (s.stored n f).holdSignal n (f (s.agentNow n)).frozen := by
  simp only [State.modAgent, State.stored, Agent.recode_get, Agent.recode_frozen, State.agentNow_fault, State.agentNow_frozen]

/-- Storing has stored the changed agent and nothing else among the agents. -/
theorem State.stored_agent (f : Agent → Agent) : ∃ g', (∀ b, (s.stored n f).agent b = if b = n then g' else s.agent b)
    ∧ g'.lasting = (f (s.agentNow n)).lasting
    ∧ (∃ d : Int, g'.edges = (f (s.agentNow n)).edges.map (fun e => { e with notch := e.notch + d }))
    ∧ ((f (s.agentNow n)).heldNotch = none → g'.edges = (f (s.agentNow n)).edges) := by
  obtain ⟨g', h, hst, hl, he, hn⟩ := s.storeAgent_eq n (s.agentNow n) (f (s.agentNow n)).recode
  simp only [Agent.recode_edges, Agent.recode_heldNotch, Agent.recode_lasting] at hl he hn
  refine ⟨g', fun b => ?_, hl, he, hn⟩
  obtain ⟨r, w, l, p, hf⟩ := (s.storeAgent n (s.agentNow n) (f (s.agentNow n)).recode).faultHeard_eq
    ((s.agent n).get AReg.A_FAULT) ((f (s.agentNow n)).get AReg.A_FAULT)
  rw [State.stored, hf, hst]
  split
  next hb => rw [hb]; exact s.agent_setAgent_same n g'
  next hb => exact s.agent_setAgent_ne g' hb

theorem State.get_storeAgent (g0 g : Agent) (k : Fld) : (s.storeAgent n g0 g).get k = s.get k := by
  obtain ⟨g', h, hst, _⟩ := s.storeAgent_eq n g0 g
  rw [hst]
  rfl

@[simp] theorem State.get_holdSignal (on : Bool) (k : Fld) : (s.holdSignal n on).get k = s.get k := by
  obtain ⟨l, h⟩ := s.holdSignal_eq n on
  rw [h]
  rfl

theorem State.get_modAgent_stored (f : Agent → Agent) (k : Fld) : (s.modAgent n f).get k = (s.stored n f).get k := by
  rw [State.modAgent_stored]
  split
  · rfl
  · rw [State.get_holdSignal]

/-- The changed agent is as `f` made it, but for its stall code and what is noted of its hold. -/
theorem State.modAgent_lasting (f : Agent → Agent) : ((s.modAgent n f).agent n).lasting = (f (s.agentNow n)).lasting := by
  obtain ⟨g', ha, hl, _⟩ := s.stored_agent n f
  rw [State.modAgent_stored]
  split
  · rw [ha, if_pos rfl, hl]
  · obtain ⟨l, h⟩ := (s.stored n f).holdSignal_agent n (f (s.agentNow n)).frozen n
    rw [h, ha, if_pos rfl]
    exact hl

/-- What storing does not work out anew is as `f` made it. -/
theorem State.modAgent_proj (f : Agent → Agent) {α : Type} (p : Agent → α) (hp : ∀ x : Agent, p x.lasting = p x) :
    p ((s.modAgent n f).agent n) = p (f (s.agentNow n)) := by
  rw [← hp ((s.modAgent n f).agent n), State.modAgent_lasting, hp]

/-- The end of a hold moves the edges' notches (R488), and nothing else touches the edges. -/
theorem State.modAgent_edges (f : Agent → Agent) : (∃ d : Int,
      ((s.modAgent n f).agent n).edges = (f (s.agentNow n)).edges.map (fun e => { e with notch := e.notch + d }))
    ∧ ((f (s.agentNow n)).heldNotch = none → ((s.modAgent n f).agent n).edges = (f (s.agentNow n)).edges) := by
  obtain ⟨g', ha, _, he⟩ := s.stored_agent n f
  rw [State.modAgent_stored]
  split
  · rw [ha, if_pos rfl]
    exact he
  · obtain ⟨l, h⟩ := (s.stored n f).holdSignal_agent n (f (s.agentNow n)).frozen n
    rw [h, ha, if_pos rfl]
    exact he

/-- Other agents only see the hold (R169). -/
theorem State.modAgent_others (f : Agent → Agent) : s.others (s.modAgent n f) n := by
  intro b hb
  obtain ⟨g', ha, _⟩ := s.stored_agent n f
  rw [State.modAgent_stored]
  split
  · rw [ha, if_neg hb]
  · obtain ⟨l, h⟩ := (s.stored n f).holdSignal_agent n (f (s.agentNow n)).frozen b
    rw [h, ha, if_neg hb]

/-- A change that freezes or releases nothing leaves the other agents alone. -/
theorem State.modAgent_agent_ne {f : Agent → Agent} (hf : (f (s.agentNow n)).frozen = (s.agent n).frozen) {b : Nat} (hb : b ≠ n) :
    (s.modAgent n f).agent b = s.agent b := by
  obtain ⟨g', ha, _⟩ := s.stored_agent n f
  rw [State.modAgent_stored, if_pos hf, ha, if_neg hb]

/-- The senders of an agent that freezes or is released are about to see it (R169). -/
theorem State.modAgent_holdSent {f : Agent → Agent} (hf : (f (s.agentNow n)).frozen ≠ (s.agent n).frozen) :
    s.holdSent (s.modAgent n f) n (f (s.agentNow n)).frozen := by
  have hfc : (s.stored n f).fc = s.fc := by
    obtain ⟨g', h, hst, _⟩ := s.storeAgent_eq n (s.agentNow n) (f (s.agentNow n)).recode
    obtain ⟨r, w, l, p, hh⟩ := (s.storeAgent n (s.agentNow n) (f (s.agentNow n)).recode).faultHeard_eq
      ((s.agent n).get AReg.A_FAULT) ((f (s.agentNow n)).get AReg.A_FAULT)
    rw [State.stored, hh, hst]
    rfl
  rw [State.modAgent_stored, if_neg hf]
  have h := (s.stored n f).holdSent_holdSignal n (f (s.agentNow n)).frozen
  rwa [State.holdSent, hfc] at h

/-- Without a new skid overflow no hub register changes. -/
theorem State.modAgent_sameRegs {f : Agent → Agent}
    (h : testBit ((f (s.agentNow n)).get AReg.A_FAULT) 0 = true → testBit ((s.agent n).get AReg.A_FAULT) 0 = true) :
    s.sameRegs (s.modAgent n f) := by
  intro k
  rw [State.get_modAgent_stored, State.stored, State.get_faultHeard _ h, State.get_storeAgent]

/-- A change that leaves A_FAULT alone and freezes or releases nothing touches this agent only. -/
theorem State.modAgent_onlyAgent {f : Agent → Agent} (hf : (f (s.agentNow n)).frozen = (s.agent n).frozen)
    (h : testBit ((f (s.agentNow n)).get AReg.A_FAULT) 0 = true → testBit ((s.agent n).get AReg.A_FAULT) 0 = true) :
    s.onlyAgent (s.modAgent n f) n :=
  ⟨fun _ hb => s.modAgent_agent_ne n hf hb, s.modAgent_sameRegs n h⟩

/-- A new skid overflow shows in WHISTLE.FAULT (R176). -/
theorem State.modAgent_skidOvf {f : Agent → Agent} (hn : testBit ((f (s.agentNow n)).get AReg.A_FAULT) 0 = true)
    (hw : testBit ((s.agent n).get AReg.A_FAULT) 0 = false) : (s.modAgent n f).get ⟨0x14018, 9, 9, 0⟩ = 1 := by
  rw [State.get_modAgent_stored, State.stored, State.get_faultHeard_skid _ hn hw]

@[simp] theorem State.modAgent_fc (f : Agent → Agent) : (s.modAgent n f).fc = s.fc := by
  obtain ⟨_, _, _, _, _, _, h⟩ := s.modAgent_eq n f
  rw [h]
@[simp] theorem State.modAgent_brk (f : Agent → Agent) : (s.modAgent n f).brk = s.brk := by
  obtain ⟨_, _, _, _, _, _, h⟩ := s.modAgent_eq n f
  rw [h]
@[simp] theorem State.modAgent_cut (f : Agent → Agent) : (s.modAgent n f).cut = s.cut := by
  obtain ⟨_, _, _, _, _, _, h⟩ := s.modAgent_eq n f
  rw [h]

end ModAgent
end Sys2Proof.Machine

namespace Sys2Proof

/-! ### Bits of a number -/

theorem testBit_eq (n i : Nat) : testBit n i = n.testBit i := by
  rw [Nat.testBit_eq_decide_div_mod_eq, testBit]
  rfl

/-- A bit that has been set is set, also after a cut to a width that holds it. -/
theorem testBit_setBit_mod {n i w : Nat} (h : i < w) : testBit (setBit n i true % 2 ^ w) i = true := by
  rw [testBit_eq, Nat.testBit_mod_two_pow, decide_eq_true h, Bool.true_and, ← testBit_eq, setBit]
  split
  · assumption
  next hn => rw [if_pos rfl, testBit_eq, Nat.add_comm, Nat.testBit_two_pow_add_eq, ← testBit_eq, Bool.not_eq_true' ]; simpa using hn

/-- Setting a bit leaves the lower ones alone. -/
theorem testBit_setBit_mod_lt {n i j w : Nat} (h : j < i) (hw : j < w) : testBit (setBit n i true % 2 ^ w) j = testBit n j := by
  rw [testBit_eq, Nat.testBit_mod_two_pow, decide_eq_true hw, Bool.true_and, ← testBit_eq, setBit]
  split
  · rfl
  · rw [if_pos rfl, testBit_eq, Nat.add_comm, Nat.testBit_two_pow_add_gt h, ← testBit_eq]

end Sys2Proof

namespace Sys2Proof.Machine

/-! ### A fault of an agent (R56) -/

section AgentFault

variable (g : Agent) (fc b d : Nat)

/-- A fault touches A_FAULT, A_FAULT_INFO and the faults of the fc. -/
theorem Agent.fault_proj {α : Type} (p : Agent → α)
    (hp : ∀ (x : Agent) r l c w, p { x with regs := r, faultNow := l, faultFc := c, faultWas := w } = p x) : p (g.fault fc b d) = p g := by
  unfold Agent.fault
  dsimp only
  split
  · exact hp g _ _ _ _
  · exact hp g _ _ _ _

@[simp] theorem Agent.fault_frozen : (g.fault fc b d).frozen = g.frozen := g.fault_proj fc b d Agent.frozen fun _ _ _ _ _ => rfl
@[simp] theorem Agent.fault_shadow : (g.fault fc b d).shadow = g.shadow := g.fault_proj fc b d Agent.shadow fun _ _ _ _ _ => rfl
@[simp] theorem Agent.fault_queues : (g.fault fc b d).queues = g.queues := g.fault_proj fc b d Agent.queues fun _ _ _ _ _ => rfl
@[simp] theorem Agent.fault_skids : (g.fault fc b d).skids = g.skids := g.fault_proj fc b d Agent.skids fun _ _ _ _ _ => rfl
@[simp] theorem Agent.fault_credits : (g.fault fc b d).credits = g.credits := g.fault_proj fc b d Agent.credits fun _ _ _ _ _ => rfl
@[simp] theorem Agent.fault_skid (q : Nat) : (g.fault fc b d).skid q = g.skid q := by rw [Agent.skid, Agent.fault_skids, Agent.skid]

theorem Agent.get_fault : (g.fault fc b d).get AReg.A_FAULT = setBit (g.get AReg.A_FAULT) b true % 2 ^ 9 := by
  unfold Agent.fault
  dsimp only
  split
  · rw [Agent.get_put_ne _ _ (by decide), Agent.get_put_ne _ _ (by decide), Agent.get_put_ne _ _ (by decide)]
    exact g.get_put_same AReg.A_FAULT _
  · exact g.get_put_same AReg.A_FAULT _

/-- The fault's bit reads 1. -/
theorem Agent.fault_bit (h : b < 9) : testBit ((g.fault fc b d).get AReg.A_FAULT) b = true := by
  rw [Agent.get_fault, testBit_setBit_mod h]

/-- Only fault 0 is a skid overflow. -/
theorem Agent.fault_bit_zero (h : 0 < b) : testBit ((g.fault fc b d).get AReg.A_FAULT) 0 = testBit (g.get AReg.A_FAULT) 0 := by
  rw [Agent.get_fault, testBit_setBit_mod_lt h (by omega)]

end AgentFault

/-! ### Programmable counters (R436) -/

section AgentCount

variable (g : Agent) (fc ev n : Nat)

/-- Programmable events touch the programmable counters. -/
theorem Agent.count_proj {α : Type} (p : Agent → α)
    (hp : ∀ (x : Agent) r c i j k l, p { x with regs := r, pcntFc := c, pcntInc0 := i, pcntInc1 := j, carry0 := k, carry1 := l } = p x) :
    p (g.count fc ev n) = p g := by
  have add : ∀ (g : Agent) k, p (g.pcntAdd fc k n) = p g := by
    intro g k
    unfold Agent.pcntAdd
    dsimp only
    repeat' split
    all_goals exact hp g _ _ _ _ _ _
  unfold Agent.count
  dsimp only
  split
  · split
    · rw [add, add]
    · exact add _ _
  · split
    · exact add _ _
    · rfl

theorem Agent.get_count {f : Fld} (hf : notPcnt f) : (g.count fc ev n).get f = g.get f := by
  have add : ∀ (g : Agent) k, k = 0 ∨ k = 1 → (g.pcntAdd fc k n).get f = g.get f := by
    intro g k hk
    have h := (g.aged_put_pcnt k (g.get (AReg.A_PCNT k) + n) hk).get f hf
    unfold Agent.pcntAdd
    dsimp only
    repeat' split
    all_goals exact h
  unfold Agent.count
  dsimp only
  split
  · split
    · rw [add _ _ (.inr rfl), add _ _ (.inl rfl)]
    · exact add _ _ (.inl rfl)
  · split
    · exact add _ _ (.inr rfl)
    · rfl

@[simp] theorem Agent.count_frozen : (g.count fc ev n).frozen = g.frozen := g.count_proj fc ev n Agent.frozen fun _ _ _ _ _ _ _ => rfl
@[simp] theorem Agent.count_skids : (g.count fc ev n).skids = g.skids := g.count_proj fc ev n Agent.skids fun _ _ _ _ _ _ _ => rfl
@[simp] theorem Agent.count_queues : (g.count fc ev n).queues = g.queues := g.count_proj fc ev n Agent.queues fun _ _ _ _ _ _ _ => rfl
@[simp] theorem Agent.count_skidHigh : (g.count fc ev n).skidHigh = g.skidHigh := g.count_proj fc ev n Agent.skidHigh fun _ _ _ _ _ _ _ => rfl
@[simp] theorem Agent.count_fault : (g.count fc ev n).get AReg.A_FAULT = g.get AReg.A_FAULT := g.get_count fc ev n notPcnt_fault
@[simp] theorem Agent.count_skid (q : Nat) : (g.count fc ev n).skid q = g.skid q := by rw [Agent.skid, Agent.count_skids, Agent.skid]

end AgentCount
end Sys2Proof.Machine

namespace Sys2Proof.Machine

/-! ### Tokens and credits that arrive (R30, R31, R170, R178, R198) -/

section Arrivals

/-- A token joins input queue `k`. -/
def Agent.enqueue (g : Agent) (k : Nat) (tok : Token) : Agent :=
  { g with queues := Sparse.ins g.queues k (Sparse.get g.queues k [] ++ [tok]) }

/-- A token joins the skid of queue `k`, or where that is full the queue itself (R30, R31). -/
def Agent.skidToken (g : Agent) (fc k : Nat) (tok : Token) : Agent :=
  if g.skid k < 8 then
    let g := { g with skids := Sparse.ins g.skids k (Sparse.get g.skids k [] ++ [tok]) }
    { g with skidHigh := max g.skidHigh (g.skid k) }
  else { (g.enqueue k tok).fault fc 0 k with skidOver := insertSorted k g.skidOver }

/-- What a token that arrives on queue `k` of agent `n` does to it. -/
def Agent.tokenArrives (g : Agent) (n fc k : Nat) (tok : Token) : Agent :=
  if g.frozen || g.skid k != 0 then
    ((if (queueSender n k).isNone then g.fault fc 5 0 else g).count fc 0x0A 1).skidToken fc k tok
  else if g.halted && decide (g.occ k < 16) then g.enqueue k tok
  else g

/-- What a credit that arrives on link `l` of agent `n` does to it. -/
def Agent.creditArrives (g : Agent) (n fc l : Nat) : Agent :=
  if g.frozen && (linkReceiver n l).isSome then
    let h := { g with credits := Sparse.ins g.credits l (g.credit n l + 1) }
    if 16 < g.credit n l + 1 then h.fault fc 2 l else h
  else g

theorem exec_skidTokenArrival {a : AgentId} {q : QueueNo} (tok : Token) (s : State) (h : q.toNat < agentQueues a.toNat) :
    exec (.skidTokenArrival a q tok) s = .next (s.modAgent a.toNat (fun g => g.tokenArrives a.toNat s.fc q.toNat tok)) :=
  if_neg (Nat.not_le.2 h)

theorem exec_frozenCreditArrival {a : AgentId} {q : QueueNo} (s : State) (h : q.toNat < agentQueues a.toNat) :
    exec (.frozenCreditArrival a q) s = .next (s.modAgent a.toNat (fun g => g.creditArrives a.toNat s.fc q.toNat)) :=
  if_neg (Nat.not_le.2 h)

section Skid

variable (g : Agent) (fc k : Nat) (tok : Token)

@[simp] theorem Agent.skidToken_frozen : (g.skidToken fc k tok).frozen = g.frozen := by
  unfold Agent.skidToken
  split
  · rfl
  · exact Agent.fault_frozen _ _ _ _

theorem Agent.skidToken_room (h : g.skid k < 8) :
    Sparse.get (g.skidToken fc k tok).skids k [] = Sparse.get g.skids k [] ++ [tok] ∧ (g.skidToken fc k tok).queues = g.queues
      ∧ (g.skidToken fc k tok).skidHigh = max g.skidHigh (g.skid k + 1) ∧ ∀ f, (g.skidToken fc k tok).get f = g.get f := by
  have hs : (Sparse.get (Sparse.ins g.skids k (Sparse.get g.skids k [] ++ [tok])) k []).length = g.skid k + 1 := by
    rw [Sparse.get_ins_same]
    simp [Agent.skid]
  rw [Agent.skidToken, if_pos h]
  exact ⟨Sparse.get_ins_same _ _ _ _, rfl, congrArg (max g.skidHigh) hs, fun _ => rfl⟩

theorem Agent.skidToken_full (h : 8 ≤ g.skid k) :
    Sparse.get (g.skidToken fc k tok).queues k [] = Sparse.get g.queues k [] ++ [tok] ∧ (g.skidToken fc k tok).skids = g.skids
      ∧ testBit ((g.skidToken fc k tok).get AReg.A_FAULT) 0 = true := by
  rw [Agent.skidToken, if_neg (Nat.not_lt.2 h)]
  refine ⟨?_, Agent.fault_skids _ _ _ _, Agent.fault_bit _ _ _ _ (by decide)⟩
  show Sparse.get ((g.enqueue k tok).fault fc 0 k).queues k [] = _
  rw [Agent.fault_queues]
  exact Sparse.get_ins_same _ _ _ _

end Skid

section Token

variable (g : Agent) (n fc k : Nat) (tok : Token)

@[simp] theorem Agent.tokenArrives_frozen : (g.tokenArrives n fc k tok).frozen = g.frozen := by
  unfold Agent.tokenArrives
  repeat' split
  all_goals simp [Agent.enqueue]

/-- At a frozen agent a token on a queue with a sender goes to the skid. -/
theorem Agent.tokenArrives_held (hf : g.frozen = true) (hq : (queueSender n k).isSome = true) :
    g.tokenArrives n fc k tok = (g.count fc 0x0A 1).skidToken fc k tok := by
  have hn : (queueSender n k).isNone = false := by simpa using hq
  simp [Agent.tokenArrives, hf, hn]

/-- A skid that is not empty takes the token before the queue does (R178). -/
theorem Agent.tokenArrives_skid (h0 : 0 < g.skid k) (h8 : g.skid k < 8) :
    Sparse.get (g.tokenArrives n fc k tok).skids k [] = Sparse.get g.skids k [] ++ [tok] := by
  have hne : (g.frozen || g.skid k != 0) = true := by simp; omega
  rw [Agent.tokenArrives, if_pos hne]
  split
  · rw [(Agent.skidToken_room _ fc k tok (by simpa using h8)).1]; simp
  · rw [(Agent.skidToken_room _ fc k tok (by simpa using h8)).1]; simp

/-- With an empty skid, at an agent that is not frozen, the queue of a halted unit takes the token while it has room (R198). -/
theorem Agent.tokenArrives_free (hf : g.frozen = false) (h0 : g.skid k = 0) :
    g.tokenArrives n fc k tok = if g.halted && decide (g.occ k < 16) then g.enqueue k tok else g := by
  rw [Agent.tokenArrives, if_neg (by simp [hf, h0])]

@[simp] theorem Agent.creditArrives_frozen : (g.creditArrives n fc k).frozen = g.frozen := by
  unfold Agent.creditArrives
  repeat' split
  all_goals simp

theorem Agent.creditArrives_held (hf : g.frozen = true) (hr : (linkReceiver n k).isSome = true) :
    Sparse.get (g.creditArrives n fc k).credits k 16 = g.credit n k + 1
      ∧ (16 < g.credit n k + 1 → testBit ((g.creditArrives n fc k).get AReg.A_FAULT) 2 = true) := by
  rw [Agent.creditArrives, if_pos (by simp [hf, hr])]
  dsimp only
  split
  · exact ⟨by rw [Agent.fault_credits]; exact Sparse.get_ins_same _ _ _ _, fun _ => Agent.fault_bit _ _ _ _ (by decide)⟩
  next h => exact ⟨Sparse.get_ins_same _ _ _ _, fun h' => absurd h' h⟩

theorem Agent.creditArrives_idle (h : g.frozen = false ∨ linkReceiver n k = none) : g.creditArrives n fc k = g := by
  rw [Agent.creditArrives, if_neg]
  rcases h with h | h <;> simp [h]

/-- A credit is never a skid overflow. -/
theorem Agent.creditArrives_fault : testBit ((g.creditArrives n fc k).get AReg.A_FAULT) 0 = testBit (g.get AReg.A_FAULT) 0 := by
  unfold Agent.creditArrives
  split
  · dsimp only
    split
    · exact Agent.fault_bit_zero _ _ _ _ (by decide)
    · rfl
  · rfl

end Token

@[simp] theorem State.agentNow_credit (s : State) (n l : Nat) : (s.agentNow n).credit n l = (s.agent n).credit n l := by
  rw [Agent.credit, State.agentNow_credits, Agent.credit]

theorem State.agentNow_skid (s : State) {n : Nat} (hf : (s.agent n).frozen = true) (k : Nat) :
    (s.agentNow n).skid k = (s.agent n).skid k := by
  rw [Agent.skid, s.agentNow_skids n hf, Agent.skid]

end Arrivals

/-- Settles O20: a token and a credit change their agent as `Agent.tokenArrives` and `Agent.creditArrives` say. -/
theorem frozenAgentsKeepWhatArrives : Obligations.FrozenAgentsKeepWhatArrives := by
  intro a q tok s hq n k
  have hfrozen := fun g : Agent => g.tokenArrives_frozen n s.fc k tok
  have hcredit := fun g : Agent => g.creditArrives_frozen n s.fc k
  have conly : s.onlyAgent (s.modAgent n (fun g => g.creditArrives n s.fc k)) n :=
    s.modAgent_onlyAgent n (by rw [hcredit, State.agentNow_frozen])
      (by rw [Agent.creditArrives_fault, State.agentNow_fault]; exact id)
  have tothers : ∀ b, b ≠ n → (s.modAgent n (fun g => g.tokenArrives n s.fc k tok)).agent b = s.agent b :=
    fun b hb => s.modAgent_agent_ne n (by rw [hfrozen, State.agentNow_frozen]) hb
  refine ⟨fun hf hsend => ⟨fun hroom => ?room, fun hfull => ?full⟩, fun hf hr => ?credit, fun hi => ?tied, fun hf => ?running⟩
  case room =>
    have heq := (s.agentNow n).tokenArrives_held n s.fc k tok (by rw [State.agentNow_frozen, hf]) hsend
    have hskid := s.agentNow_skid hf k
    obtain ⟨h1, h2, h3, h4⟩ := ((s.agentNow n).count s.fc 0x0A 1).skidToken_room s.fc k tok (by rw [Agent.count_skid, hskid]; exact hroom)
    refine ⟨_, exec_skidTokenArrival tok s hq, ?_, ?_, ?_, tothers, s.modAgent_sameRegs n ?_⟩
    · rw [s.modAgent_proj n _ Agent.skids fun _ => rfl, heq, h1, Agent.count_skids, s.agentNow_skids n hf]
    · rw [s.modAgent_proj n _ Agent.queues fun _ => rfl, heq, h2, Agent.count_queues, s.agentNow_queues n hf]
    · rw [s.modAgent_proj n _ Agent.skidHigh fun _ => rfl, heq, h3, Agent.count_skidHigh, Agent.count_skid, State.agentNow_skidHigh, hskid]
    · rw [heq, h4, Agent.count_fault, State.agentNow_fault]
      exact id
  case full =>
    have heq := (s.agentNow n).tokenArrives_held n s.fc k tok (by rw [State.agentNow_frozen, hf]) hsend
    obtain ⟨h1, h2, h3⟩ := ((s.agentNow n).count s.fc 0x0A 1).skidToken_full s.fc k tok
      (by rw [Agent.count_skid, s.agentNow_skid hf]; exact hfull)
    refine ⟨_, exec_skidTokenArrival tok s hq, ?_, ?_, ?_, fun hw => s.modAgent_skidOvf n (by rw [heq]; exact h3) hw, tothers⟩
    · rw [s.modAgent_proj n _ Agent.queues fun _ => rfl, heq, h1, Agent.count_queues, s.agentNow_queues n hf]
    · rw [s.modAgent_proj n _ Agent.skids fun _ => rfl, heq, h2, Agent.count_skids, s.agentNow_skids n hf]
    · rw [s.modAgent_proj n _ (fun x => x.get AReg.A_FAULT) fun _ => rfl, heq, h3]
  case credit =>
    obtain ⟨h1, h2⟩ := (s.agentNow n).creditArrives_held n s.fc k (by rw [State.agentNow_frozen, hf]) hr
    rw [State.agentNow_credit] at h1 h2
    refine ⟨_, exec_frozenCreditArrival s hq, ?_, fun h16 => ?_, conly⟩
    · rw [s.modAgent_proj n _ Agent.credits fun _ => rfl, h1]
    · rw [s.modAgent_proj n _ (fun x => x.get AReg.A_FAULT) fun _ => rfl, h2 h16]
  case tied =>
    have heq := (s.agentNow n).creditArrives_idle n s.fc k (by rwa [State.agentNow_frozen])
    refine ⟨_, exec_frozenCreditArrival s hq, ?_, ?_, conly⟩
    · rw [s.modAgent_proj n _ Agent.credits fun _ => rfl, heq, State.agentNow_credits]
    · rw [s.modAgent_proj n _ (fun x => x.get AReg.A_FAULT) fun _ => rfl, heq, State.agentNow_fault]
  case running =>
    intro g
    have hgf : g.frozen = false := by rw [State.agentNow_frozen, hf]
    have heq := fun h0 => g.tokenArrives_free n s.fc k tok hgf h0
    refine ⟨_, exec_skidTokenArrival tok s hq, tothers, fun h0 => ⟨?_, ?_⟩, fun h0 hh => ?_, fun h0 hh hroom => ?_, fun h0 h8 => ?_⟩
    · rw [s.modAgent_proj n _ Agent.skids fun _ => rfl, heq h0]
      split <;> rfl
    · rw [s.modAgent_proj n _ (fun x => x.get AReg.A_FAULT) fun _ => rfl, heq h0, ← State.agentNow_fault]
      split <;> rfl
    · rw [s.modAgent_proj n _ Agent.queues fun _ => rfl, heq h0, if_neg (by simp [hh])]
    · rw [s.modAgent_proj n _ Agent.queues fun _ => rfl, heq h0, if_pos (by simp [hh, hroom])]
      exact Sparse.get_ins_same _ _ _ _
    · rw [s.modAgent_proj n _ Agent.skids fun _ => rfl]
      exact g.tokenArrives_skid n s.fc k tok h0 h8

end Sys2Proof.Machine

namespace Sys2Proof.Machine

/-! ### What touches one agent only -/

section OnlyAgent

theorem State.onlyAgent_trans {s t u : State} {n : Nat} (h : s.onlyAgent t n) (k : t.onlyAgent u n) : s.onlyAgent u n :=
  ⟨fun b hb => (k.1 b hb).trans (h.1 b hb), fun g => (k.2 g).trans (h.2 g)⟩

theorem State.onlyAgent_rfl (s : State) (n : Nat) : s.onlyAgent s n := ⟨fun _ _ => rfl, fun _ => rfl⟩

theorem State.onlyAgent_setAgent (s : State) (n : Nat) (g : Agent) : s.onlyAgent (s.setAgent n g) n :=
  ⟨fun _ hb => s.agent_setAgent_ne g hb, fun _ => rfl⟩

end OnlyAgent

/-! ### Events of an agent (R52) -/

section RaiseEvent

variable (s : State) (n code : Nat)

theorem mem_insertEvent {e x : BusEvent} {l : List BusEvent} : x ∈ insertEvent e l ↔ x = e ∨ x ∈ l := by
  induction l with
  | nil => simp [insertEvent]
  | cons y l ih =>
    unfold insertEvent
    split
    · simp [ih, or_left_comm]
    · simp

@[simp] theorem State.bus_setBus (h : Nat) (l : List BusEvent) : (s.setBus h l).bus h = l := by
  unfold State.setBus State.bus
  split <;> rfl

theorem State.setBus_eq (h : Nat) (l : List BusEvent) : ∃ b, s.setBus h l = { s with brk := b } := by
  unfold State.setBus
  split <;> exact ⟨_, rfl⟩

/-- An event touches the bus queue, or the count of lost events of the agent that raises it. -/
theorem State.raiseEvent_eq : ∃ l b k, s.raiseEvent n code = { s with agents := l, brk := b }
    ∧ (s.raiseEvent n code).agent n = { s.agent n with evtLost := k } ∧ ∀ c, c ≠ n → (s.raiseEvent n code).agent c = s.agent c := by
  unfold State.raiseEvent
  dsimp only
  split
  · exact ⟨_, _, _, rfl, s.agent_setAgent_same _ _, fun c hc => s.agent_setAgent_ne _ hc⟩
  · obtain ⟨b, h⟩ := s.setBus_eq (agentHalf n) (insertEvent ⟨n, code, (s.agent n).ctxAt s.fc, s.fc⟩ (s.bus (agentHalf n)))
    rw [h]
    exact ⟨_, _, _, rfl, rfl, fun _ _ => rfl⟩

theorem State.raiseEvent_onlyAgent : s.onlyAgent (s.raiseEvent n code) n := by
  obtain ⟨l, b, k, h, _, hc⟩ := s.raiseEvent_eq n code
  refine ⟨hc, fun g => ?_⟩
  rw [h]
  rfl

/-- What an event does not count is as it was. -/
theorem State.raiseEvent_proj {α : Type} (p : Agent → α) (hp : ∀ (x : Agent) k, p { x with evtLost := k } = p x) :
    p ((s.raiseEvent n code).agent n) = p (s.agent n) := by
  obtain ⟨l, b, k, _, h, _⟩ := s.raiseEvent_eq n code
  rw [h, hp]

/-- The bus has room for one more event of agent `n` (R52). -/
def State.busRoom (s : State) (n : Nat) : Prop := ((s.bus (agentHalf n)).filter (fun e => e.agent == n)).length < 4

theorem State.raiseEvent_queued (hr : s.busRoom n) :
    ∃ e ∈ (s.raiseEvent n code).bus (agentHalf n), e.agent = n ∧ e.code = code ∧ e.fc = s.fc := by
  rw [State.raiseEvent, if_neg (Nat.not_le.2 hr), State.bus_setBus]
  exact ⟨_, mem_insertEvent.2 (.inl rfl), rfl, rfl, rfl⟩

/-- A change of the agent and then its event touch this agent only. -/
theorem State.modAgent_raiseEvent_onlyAgent {f : Agent → Agent} (h : s.onlyAgent (s.modAgent n f) n) :
    s.onlyAgent ((s.modAgent n f).raiseEvent n code) n := State.onlyAgent_trans h (State.raiseEvent_onlyAgent _ n code)

theorem State.modAgent_raiseEvent_queued {f : Agent → Agent} (hr : s.busRoom n) :
    ∃ e ∈ ((s.modAgent n f).raiseEvent n code).bus (agentHalf n), e.agent = n ∧ e.code = code ∧ e.fc = s.fc := by
  have h := (s.modAgent n f).raiseEvent_queued n code (by rwa [State.busRoom, State.bus, State.modAgent_brk])
  rwa [State.modAgent_fc] at h

/-- What neither the storing nor the event works out anew is as `f` made it. -/
theorem State.modAgent_raiseEvent_proj (f : Agent → Agent) {α : Type} (p : Agent → α) (hp : ∀ x : Agent, p x.lasting = p x)
    (hk : ∀ (x : Agent) k, p { x with evtLost := k } = p x) : p (((s.modAgent n f).raiseEvent n code).agent n) = p (f (s.agentNow n)) :=
  (State.raiseEvent_proj _ n code p hk).trans (s.modAgent_proj n f p hp)

end RaiseEvent

/-! ### Waits and their edges (R40 to R42) -/

section Waits

theorem Agent.unheld_iff {g : Agent} : g.unheld = true ↔ g.frozen = false ∧ g.halted = false ∧ g.heldNotch = none := by
  simp [Agent.unheld, and_assoc]

/-- A wait's edge is recorded. -/
def Agent.markWait (g : Agent) (w : Wait) : Agent :=
  { g with waits := g.waits.map (fun v => if v.same w then { v with recorded := true } else v) }

/-- A wait of 64 cycles joins the edges (R40). -/
def Agent.addEdge (g : Agent) (fc notch : Nat) (w : Wait) : Agent :=
  ({ g.markWait w with edges := g.edges ++ [(⟨w.peer, w.link, w.kind, notch⟩ : Edge)] } : Agent).count fc 0x0D 1

/-- A wait of 64 cycles finds 8 edges held (R41). -/
def Agent.dropEdge (g : Agent) (w : Wait) : Agent := { g.markWait w with edgeOvf := true }

theorem Agent.dropEdge_heldNotch (g : Agent) (w : Wait) : (g.dropEdge w).heldNotch = g.heldNotch := rfl

theorem Agent.dropEdge_edges (g : Agent) (w : Wait) : (g.dropEdge w).edges = g.edges := rfl

theorem exec_edgeRecord {a : AgentId} {w : WaitId} (s : State) (ha : agentType a.toNat ≠ 0) (hw : waitOk w (agentType a.toNat) = true) :
    exec (.edgeRecord a w) s = .next (s.edgeRecord a.toNat ((s.agentNow a.toNat).waitOf a.toNat w)) := if_pos ⟨ha, hw⟩

theorem exec_waitEnd {a : AgentId} {w : WaitId} (s : State) (ha : agentType a.toNat ≠ 0) (hw : waitOk w (agentType a.toNat) = true) :
    exec (.waitEnd a w) s
      = .next (s.modAgent a.toNat (fun g => g.endWaits (fun x => !x.hold && x.same (g.waitOf a.toNat w)))) := if_pos ⟨ha, hw⟩

variable (s : State) (n : Nat) (v : Wait)

theorem State.edgeRecord_held (h : (s.agent n).frozen = true ∨ (s.agent n).halted = true) : s.edgeRecord n v = s := by
  rw [State.edgeRecord]
  exact if_pos (by simpa using h)

section Running

variable {s n v} (hf : (s.agent n).frozen = false) (hh : (s.agent n).halted = false)
include hf hh

theorem State.edgeRecord_new (hv : (s.agentNow n).waits.find? (fun x => x.same v) = none) :
    s.edgeRecord n v = s.modAgent n (fun g => g.waitStarts v) := by
  simp [State.edgeRecord, hf, hh, hv]

theorem State.edgeRecord_short {x : Wait} (hv : (s.agentNow n).waits.find? (fun x => x.same v) = some x)
    (hx : x.recorded = true ∨ x.len < 64) : s.edgeRecord n v = s := by
  simp [State.edgeRecord, hf, hh, hv, hx]

theorem State.edgeRecord_adds {x : Wait} (hv : (s.agentNow n).waits.find? (fun x => x.same v) = some x) (hr : x.recorded = false)
    (hl : 64 ≤ x.len) (he : (s.agentNow n).edges.length < 8) :
    s.edgeRecord n v = s.modAgent n (fun g => g.addEdge s.fc s.wheel.notchCount v) := by
  simp [State.edgeRecord, hf, hh, hv, hr, Nat.not_lt.2 hl, he]
  rfl

theorem State.edgeRecord_overflows {x : Wait} (hv : (s.agentNow n).waits.find? (fun x => x.same v) = some x)
    (hr : x.recorded = false) (hl : 64 ≤ x.len) (he : 8 ≤ (s.agentNow n).edges.length) :
    s.edgeRecord n v = if (s.agent n).edgeOvf = true then s.modAgent n (fun g => g.dropEdge v)
      else (s.modAgent n (fun g => g.dropEdge v)).raiseEvent n 7 := by
  simp [State.edgeRecord, hf, hh, hv, hr, Nat.not_lt.2 hl, Nat.not_lt.2 he]
  rfl

end Running

section Fields

variable (g : Agent)

/-- Waits and edges are no part of what `p` speaks of. -/
theorem Agent.waitStarts_proj {α : Type} (p : Agent → α)
    (hp : ∀ (x : Agent) a e k t w, p { x with asleep := a, executed := e, known := k, tiles := t, waits := w } = p x) :
    p (g.waitStarts v) = p g := by
  have h : ∃ a e k t w, g.waitStarts v = { g with asleep := a, executed := e, known := k, tiles := t, waits := w } := by
    unfold Agent.waitStarts Agent.beginWait
    repeat' split
    all_goals exact ⟨_, _, _, _, _, rfl⟩
  obtain ⟨_, _, _, _, _, h⟩ := h
  rw [h, hp]

/-- A wait that is not in force comes in force. -/
theorem Agent.mem_waitStarts (hv : g.waits.find? (fun x => x.same v) = none) : v ∈ (g.waitStarts v).waits := by
  have hany : g.waits.any (fun x => x.same v) = false := by simpa using hv
  by_cases hk : v.kind = 4
  · simp [Agent.waitStarts, Agent.beginWait, hk, hany]
  · simp [Agent.waitStarts, Agent.beginWait, hk, hany]

theorem Agent.addEdge_edges (fc notch : Nat) : (g.addEdge fc notch v).edges = g.edges ++ [⟨v.peer, v.link, v.kind, notch⟩] :=
  Agent.count_proj _ _ _ _ Agent.edges fun _ _ _ _ _ _ _ => rfl

theorem Agent.addEdge_proj (fc notch : Nat) {α : Type} (p : Agent → α) (hw : ∀ (x : Agent) w e, p { x with waits := w, edges := e } = p x)
    (hp : ∀ (x : Agent) r c i j k l, p { x with regs := r, pcntFc := c, pcntInc0 := i, pcntInc1 := j, carry0 := k, carry1 := l } = p x) :
    p (g.addEdge fc notch v) = p g := (Agent.count_proj _ _ _ _ p hp).trans (hw g _ _)

theorem Agent.addEdge_fault (fc notch : Nat) : (g.addEdge fc notch v).get AReg.A_FAULT = g.get AReg.A_FAULT :=
  Agent.count_fault _ _ _ _

/-- A wait that has ended is not in force, and its edge is gone (R40). -/
theorem Agent.endWaits_same : ((g.endWaits (fun x => !x.hold && x.same v)).waits.any (fun x => !x.hold && x.same v) = false)
    ∧ (g.waits.any (fun x => !x.hold && x.same v) = true →
        (g.endWaits (fun x => !x.hold && x.same v)).edges.any (fun e => e.of v) = false) := by
  refine ⟨?_, fun h => ?_⟩
  · simp only [Agent.endWaits, List.any_filter, Bool.not_and_self, List.any_eq_false, Bool.false_eq_true, not_false_eq_true, implies_true]
  obtain ⟨x, hx, hp⟩ := List.any_eq_true.1 h
  have hof : ∀ e : Edge, e.of x = e.of v := fun e => by
    simp only [Wait.same, Bool.and_eq_true, beq_iff_eq, Bool.not_eq_true'] at hp
    obtain ⟨_, ⟨hk, hl⟩, hpe⟩ := hp
    simp only [Edge.of, hk, hl, hpe]
  simp only [Agent.endWaits, List.any_eq_false, List.mem_filter, Bool.not_eq_true', List.any_eq_false]
  rintro e ⟨_, he⟩ hv
  exact he x hx (by rw [hp, hof, hv]; rfl)

/-- The notch of an edge says nothing of its wait. -/
theorem edges_any_of_shift (l : List Edge) (d : Int) :
    (l.map (fun e => { e with notch := e.notch + d })).any (fun e => e.of v) = l.any (fun e => e.of v) := by
  rw [List.any_map]
  rfl

end Fields

end Waits

/-! ### Faults, overflows and arm pulses of a unit (R268, R371, R372) -/

section UnitEvents

/-- The unit faults with its own code (R268). -/
def Agent.unitFaults (g : Agent) (fc code : Nat) : Agent := { g.fault fc 6 code with faulted := true }

/-- A programmable counter carries out of bit 31 (R371). -/
def Agent.overflows (g : Agent) (k : BitVec 1) : Agent :=
  if k = 0 then { g with carry0 := false, ovfLatch := true } else { g with carry1 := false }

/-- The arm pulse that is due at agent `n` has reached it. -/
def State.pulseReached (s : State) (n : Nat) : State :=
  { s with cams := { s.cams with pulses := updateFirst (fun p => p.due n s.fc) (fun p => { p with reached := p.reached ++ [n] }) s.cams.pulses } }

variable {a : AgentId} (s : State) (ha : agentType a.toNat ≠ 0)
include ha

theorem exec_unitFault (code : Byte) : exec (.unitFault a code) s
    = .next ((s.modAgent a.toNat (fun g => g.unitFaults s.fc code.toNat)).raiseEvent a.toNat 6) := if_pos ⟨ha, rfl⟩

theorem exec_pcntOverflow (k : BitVec 1) : exec (.pcntOverflow a k) s
    = .next ((s.modAgent a.toNat (fun g => g.overflows k)).raiseEvent a.toNat (4 + k.toNat)) := if_pos ⟨ha, rfl⟩

theorem exec_armPulse : exec (.armPulse a) s = .next (if s.cams.pulses.any (fun p => p.due a.toNat s.fc) then
    (s.pulseReached a.toNat).modAgent a.toNat (fun g => { g with armLatch := true }) else s) := if_pos ⟨ha, rfl⟩

end UnitEvents

/-! ### What the rows of a wait and of a unit's own event change -/

section EdgeSpecs

variable {s : State} {n : Nat} {v : Wait}

/-- A change that leaves the frozen flag and A_FAULT alone touches this agent only. -/
theorem State.modAgent_onlyAgent_of_eq {f : Agent → Agent} (hf : ∀ g : Agent, (f g).frozen = g.frozen)
    (ha : ∀ g : Agent, (f g).get AReg.A_FAULT = g.get AReg.A_FAULT) : s.onlyAgent (s.modAgent n f) n :=
  s.modAgent_onlyAgent n ((hf _).trans (s.agentNow_frozen n)) (by rw [ha, State.agentNow_fault]; exact id)

theorem State.edgeRecord_new_spec (hu : (s.agent n).unheld = true)
    (hv : (s.agentNow n).waits.find? (fun x => x.same v) = none) : let t := s.edgeRecord n v
    v ∈ (t.agent n).waits ∧ (t.agent n).edges = (s.agentNow n).edges ∧ s.onlyAgent t n := by
  obtain ⟨hf, hh, hn⟩ := Agent.unheld_iff.1 hu
  rw [State.edgeRecord_new hf hh hv]
  refine ⟨?_, ?_, State.modAgent_onlyAgent_of_eq (fun g => ?_) fun g => ?_⟩
  · rw [s.modAgent_proj n _ Agent.waits fun _ => rfl]
    exact (s.agentNow n).mem_waitStarts v hv
  · rw [(s.modAgent_edges n _).2]
    · exact Agent.waitStarts_proj v _ Agent.edges fun _ _ _ _ _ _ => rfl
    · rw [Agent.waitStarts_proj v _ Agent.heldNotch fun _ _ _ _ _ _ => rfl, State.agentNow_heldNotch, hn]
  · exact g.waitStarts_proj v Agent.frozen fun _ _ _ _ _ _ => rfl
  · exact g.waitStarts_proj v (fun x => x.get AReg.A_FAULT) fun _ _ _ _ _ _ => rfl

theorem State.edgeRecord_adds_spec {x : Wait} (hu : (s.agent n).unheld = true)
    (hv : (s.agentNow n).waits.find? (fun x => x.same v) = some x) (hr : x.recorded = false) (hl : 64 ≤ x.len)
    (he : (s.agentNow n).edges.length < 8) : let t := s.edgeRecord n v
    (t.agent n).edges = (s.agentNow n).edges ++ [⟨v.peer, v.link, v.kind, s.wheel.notchCount⟩]
      ∧ (t.agent n).edgeOvf = (s.agent n).edgeOvf ∧ s.onlyAgent t n := by
  obtain ⟨hf, hh, hn⟩ := Agent.unheld_iff.1 hu
  rw [State.edgeRecord_adds hf hh hv hr hl he]
  refine ⟨?_, ?_, State.modAgent_onlyAgent_of_eq (fun g => ?_) fun g => g.addEdge_fault v _ _⟩
  · rw [(s.modAgent_edges n _).2, Agent.addEdge_edges]
    rw [Agent.addEdge_proj v _ _ _ Agent.heldNotch (fun _ _ _ => rfl) fun _ _ _ _ _ _ _ => rfl, State.agentNow_heldNotch, hn]
  · rw [s.modAgent_proj n _ Agent.edgeOvf fun _ => rfl,
      Agent.addEdge_proj v _ _ _ Agent.edgeOvf (fun _ _ _ => rfl) fun _ _ _ _ _ _ _ => rfl, State.agentNow_edgeOvf]
  · exact g.addEdge_proj v _ _ Agent.frozen (fun _ _ _ => rfl) fun _ _ _ _ _ _ _ => rfl

theorem State.edgeRecord_drops_spec {x : Wait} (hu : (s.agent n).unheld = true)
    (hv : (s.agentNow n).waits.find? (fun x => x.same v) = some x) (hr : x.recorded = false) (hl : 64 ≤ x.len)
    (he : 8 ≤ (s.agentNow n).edges.length) : let t := s.edgeRecord n v
    (t.agent n).edges = (s.agentNow n).edges ∧ (t.agent n).edgeOvf = true ∧ s.onlyAgent t n := by
  obtain ⟨hf, hh, hn⟩ := Agent.unheld_iff.1 hu
  have hedges : ((s.modAgent n (fun g => g.dropEdge v)).agent n).edges = (s.agentNow n).edges :=
    ((s.modAgent_edges n _).2 (by rw [Agent.dropEdge_heldNotch, State.agentNow_heldNotch, hn])).trans (Agent.dropEdge_edges _ v)
  have hovf : ((s.modAgent n (fun g => g.dropEdge v)).agent n).edgeOvf = true := s.modAgent_proj n _ Agent.edgeOvf fun _ => rfl
  have honly : s.onlyAgent (s.modAgent n (fun g => g.dropEdge v)) n := State.modAgent_onlyAgent_of_eq (fun _ => rfl) fun _ => rfl
  rw [State.edgeRecord_overflows hf hh hv hr hl he]
  split
  · exact ⟨hedges, hovf, honly⟩
  · exact ⟨(State.raiseEvent_proj _ n 7 Agent.edges fun _ _ => rfl).trans hedges,
      (State.raiseEvent_proj _ n 7 Agent.edgeOvf fun _ _ => rfl).trans hovf, s.modAgent_raiseEvent_onlyAgent n 7 honly⟩

/-- A wait that ends leaves with its edge. -/
theorem State.waitEnd_spec (s : State) (n : Nat) (w : WaitId) : let g := s.agentNow n
    let v := g.waitOf n w
    let t := s.modAgent n (fun g => g.endWaits (fun x => !x.hold && x.same (g.waitOf n w)))
    (t.agent n).waits.any (fun x => !x.hold && x.same v) = false
      ∧ (g.waits.any (fun x => !x.hold && x.same v) = true → (t.agent n).edges.any (fun e => e.of v) = false) ∧ s.onlyAgent t n := by
  intro g v
  obtain ⟨hwaits, hedges⟩ := Agent.endWaits_same v g
  refine ⟨?_, fun h => ?_, State.modAgent_onlyAgent_of_eq (fun _ => rfl) fun _ => rfl⟩
  · rw [s.modAgent_proj n _ Agent.waits fun _ => rfl]
    exact hwaits
  · obtain ⟨d, hd⟩ := (s.modAgent_edges n (fun g => g.endWaits (fun x => !x.hold && x.same (g.waitOf n w)))).1
    rw [hd, edges_any_of_shift]
    exact hedges h

theorem State.unitFault_spec (s : State) (n code : Nat) : let t := (s.modAgent n (fun g => g.unitFaults s.fc code)).raiseEvent n 6
    (t.agent n).faulted = true ∧ testBit ((t.agent n).get AReg.A_FAULT) 6 = true ∧ s.onlyAgent t n := by
  refine ⟨s.modAgent_raiseEvent_proj n 6 _ Agent.faulted (fun _ => rfl) fun _ _ => rfl, ?_,
    s.modAgent_raiseEvent_onlyAgent n 6 (s.modAgent_onlyAgent n ?_ ?_)⟩
  · rw [s.modAgent_raiseEvent_proj n 6 _ (fun x => x.get AReg.A_FAULT) (fun _ => rfl) fun _ _ => rfl]
    exact Agent.fault_bit _ _ _ _ (by decide)
  · exact (Agent.fault_frozen _ _ _ _).trans (s.agentNow_frozen n)
  · rw [← s.agentNow_fault n, ← (s.agentNow n).fault_bit_zero s.fc 6 code (by decide)]
    exact id

theorem State.overflow_spec (s : State) (n : Nat) (k : BitVec 1) (code : Nat) :
    let t := (s.modAgent n (fun g => g.overflows k)).raiseEvent n code
    (k = 0 → (t.agent n).ovfLatch = true) ∧ s.onlyAgent t n := by
  refine ⟨fun hk => ?_, s.modAgent_raiseEvent_onlyAgent n _ (State.modAgent_onlyAgent_of_eq (fun g => ?_) fun g => ?_)⟩
  · rw [s.modAgent_raiseEvent_proj n _ _ Agent.ovfLatch (fun _ => rfl) fun _ _ => rfl, Agent.overflows, if_pos hk]
  · rw [Agent.overflows]
    split <;> rfl
  · rw [Agent.overflows]
    split <;> rfl

theorem State.armPulse_spec (s : State) (n : Nat) : let t := (s.pulseReached n).modAgent n (fun g => { g with armLatch := true })
    (t.agent n).armLatch = true ∧ s.onlyAgent t n :=
  ⟨(s.pulseReached n).modAgent_proj n _ Agent.armLatch fun _ => rfl,
    State.onlyAgent_trans (t := s.pulseReached n) ⟨fun _ _ => rfl, fun _ => rfl⟩
      (State.modAgent_onlyAgent_of_eq (fun _ => rfl) fun _ => rfl)⟩

end EdgeSpecs

/-- Settles O21: each row changes its one agent, and its event joins the queue of the agent's half. -/
theorem waitsAreRecordedAsEdges : Obligations.WaitsAreRecordedAsEdges := by
  intro a s ha n room
  refine ⟨fun w hw => ⟨fun hu => ⟨fun hv => ?_, fun x hv => ⟨fun hr hl he => ?_, fun hr hl he => ?_, fun hx => ?_⟩⟩, fun hheld => ?_, ?_⟩,
    fun code => ?_, fun k => ?_, fun hp => ?_, fun hp => ?_⟩
  case refine_1 => exact ⟨_, exec_edgeRecord s ha hw, State.edgeRecord_new_spec hu hv⟩
  case refine_2 => exact ⟨_, exec_edgeRecord s ha hw, State.edgeRecord_adds_spec hu hv hr hl he⟩
  case refine_3 => exact ⟨_, exec_edgeRecord s ha hw, State.edgeRecord_drops_spec hu hv hr hl he⟩
  case refine_4 =>
    obtain ⟨hf, hh, _⟩ := Agent.unheld_iff.1 hu
    exact (exec_edgeRecord s ha hw).trans (congrArg _ (State.edgeRecord_short hf hh hv hx))
  case refine_5 => exact (exec_edgeRecord s ha hw).trans (congrArg _ (s.edgeRecord_held n _ hheld))
  case refine_6 => exact ⟨_, exec_waitEnd s ha hw, s.waitEnd_spec n w⟩
  case refine_7 =>
    obtain ⟨h1, h2, h3⟩ := s.unitFault_spec n code.toNat
    exact ⟨_, exec_unitFault s ha code, h1, h2, s.modAgent_raiseEvent_queued n 6, h3⟩
  case refine_8 =>
    obtain ⟨h1, h2⟩ := s.overflow_spec n k (4 + k.toNat)
    exact ⟨_, exec_pcntOverflow s ha k, h1, s.modAgent_raiseEvent_queued n _, h2⟩
  case refine_9 => exact ⟨_, (exec_armPulse s ha).trans (congrArg _ (if_pos hp)), s.armPulse_spec n⟩
  case refine_10 => exact (exec_armPulse s ha).trans (congrArg _ (if_neg (by rw [hp]; decide)))

end Sys2Proof.Machine

namespace Sys2Proof.Machine

/-! ### Changes of an encoder only -/

section EncOnly

/-- From `s` to `t` only the flow encoder of agent `n` may have changed. -/
def State.encOnly (s t : State) (n : Nat) : Prop :=
  (∃ l, t = { s with agents := l }) ∧ (∃ e, t.agent n = { s.agent n with enc := e }) ∧ ∀ b, b ≠ n → t.agent b = s.agent b

theorem State.encOnly_rfl (s : State) (n : Nat) : s.encOnly s n := ⟨⟨_, rfl⟩, ⟨_, rfl⟩, fun _ _ => rfl⟩

theorem State.encOnly_trans {s t u : State} {n : Nat} (h : s.encOnly t n) (k : t.encOnly u n) : s.encOnly u n := by
  obtain ⟨⟨l, hl⟩, ⟨e, he⟩, hb⟩ := h
  obtain ⟨⟨l', hl'⟩, ⟨e', he'⟩, hb'⟩ := k
  exact ⟨⟨l', by rw [hl', hl]⟩, ⟨e', by rw [he', he]⟩, fun b h => (hb' b h).trans (hb b h)⟩

theorem State.encOnly_setAgent (s : State) (n : Nat) (e : Encoder) : s.encOnly (s.setAgent n { s.agent n with enc := e }) n :=
  ⟨⟨_, rfl⟩, ⟨e, s.agent_setAgent_same n _⟩, fun _ hb => s.agent_setAgent_ne _ hb⟩

theorem State.encOnly_modEnc (s : State) (n : Nat) (f : Encoder → Encoder) : s.encOnly (s.modEnc n f) n := s.encOnly_setAgent n _

theorem State.encOnly_produce (s : State) (n type payload : Nat) : s.encOnly (s.produce n type payload) n := s.encOnly_setAgent n _

theorem State.encOnly_encFlush (s : State) (n : Nat) : s.encOnly (s.encFlush n) n := by
  unfold State.encFlush
  dsimp only
  repeat' split
  · exact State.encOnly_trans (s.encOnly_produce n _ _) (State.encOnly_modEnc _ n _)
  · exact s.encOnly_rfl n
  · exact State.encOnly_trans (s.encOnly_produce n _ _) (State.encOnly_modEnc _ n _)

theorem State.encOnly_encHold (s : State) (n : Nat) : s.encOnly (s.encHold n) n := by
  unfold State.encHold
  split
  · exact State.encOnly_trans (s.encOnly_encFlush n) (State.encOnly_modEnc _ n _)
  · exact s.encOnly_rfl n

theorem State.encOnly_encUnhold (s : State) (n : Nat) : s.encOnly (s.encUnhold n) n := by
  unfold State.encUnhold
  dsimp only
  repeat' split
  · exact s.encOnly_modEnc n _
  · exact s.encOnly_modEnc n _
  · exact s.encOnly_rfl n

variable {s t : State} {n : Nat} (h : s.encOnly t n)
include h

/-- What says nothing of the encoder is as it was. -/
theorem State.encOnly_proj {α : Type} (p : Agent → α) (hp : ∀ (x : Agent) e, p { x with enc := e } = p x) :
    p (t.agent n) = p (s.agent n) := by
  obtain ⟨_, ⟨e, he⟩, _⟩ := h
  rw [he, hp]

theorem State.encOnly_get (g : Fld) : t.get g = s.get g := by
  obtain ⟨⟨l, hl⟩, _⟩ := h
  rw [hl]
  rfl

theorem State.encOnly_onlyAgent : s.onlyAgent t n := ⟨h.2.2, State.encOnly_get h⟩

end EncOnly

/-! ### A command on the tree reaches an agent (R47, R48, R156, R161) -/

section Hear

variable (s : State) (n : Nat) (c : TreeCmd)

/-- A command that the agent does not hear changes nothing. -/
theorem State.hear_none {wire : Nat} (ht : s.whistle.tree = [c])
    (h : testBit c.branches (agentBranch n) = false ∨ c.fc < (s.agentNow n).heard
      ∨ ((s.agentNow n).acts n s.fc c = true ∧ (s.fc < performFrom (s.clockOf n) (c.fc + 7 + (s.agentNow n).offset.getD 0) ∨ c.wire ≠ wire))) :
    s.hear n wire = (s, none) := by
  have hn : (s.agentNow n).nextCmd n s.fc (s.clockOf n) wire [c] = (s.agentNow n, none) := by
    simp only [Agent.nextCmd]
    split
    · rfl
    next hreach =>
      rw [not_or, not_not] at hreach
      obtain ⟨hheard, hbranch⟩ := hreach
      rcases h with h | h | ⟨hacts, h⟩
      · simp [h] at hbranch
      · exact absurd h hheard
      · rw [if_pos hacts, if_neg]
        rintro ⟨hw, hlate⟩
        rcases h with h | h
        · omega
        · exact h hw
  simp only [State.hear, ht, hn, State.agentNow_heard, if_true]

/-- From `s` to `u` agent `n` has been brought up to date and has heard a command; its encoder may have changed with it. -/
def State.heardBy (s u : State) (n : Nat) : Prop :=
  (∃ l, u = { s with agents := l }) ∧ (∃ h o e, u.agent n = { s.agentNow n with heard := h, offset := o, enc := e })
    ∧ ∀ b, b ≠ n → u.agent b = s.agent b

/-- An agent that performs a command has heard it. -/
theorem State.hear_performs (h : s.performs n c = true) : ∃ u, s.hear n c.wire = (u, some c) ∧ s.heardBy u n := by
  simp only [State.performs, Bool.and_eq_true, beq_iff_eq, decide_eq_true_eq] at h
  obtain ⟨⟨⟨⟨ht, hheard⟩, hbranch⟩, hacts⟩, htime⟩ := h
  have hn : ∃ o, (s.agentNow n).nextCmd n s.fc (s.clockOf n) c.wire [c] = ({ s.agentNow n with heard := c.fc + 1, offset := o }, some c) := by
    simp only [Agent.nextCmd]
    rw [if_neg (by rw [not_or, not_not]; exact ⟨Nat.not_lt.2 hheard, hbranch⟩), if_pos hacts, if_pos ⟨trivial, htime⟩]
    exact ⟨_, rfl⟩
  obtain ⟨o, hn⟩ := hn
  have hne : c.fc + 1 ≠ (s.agent n).heard := by
    rw [State.agentNow_heard] at hheard
    omega
  refine ⟨s.setAgent n { s.agentNow n with heard := c.fc + 1, offset := o }, ?_, ⟨_, rfl⟩, ⟨_, o, _, s.agent_setAgent_same n _⟩,
    fun _ hb => s.agent_setAgent_ne _ hb⟩
  simp only [State.hear, ht, hn, hne, if_false]

theorem State.heardBy_encOnly {s u v : State} {n : Nat} (h : s.heardBy u n) (k : u.encOnly v n) : s.heardBy v n := by
  obtain ⟨⟨l, hl⟩, ⟨d, o, e, he⟩, hb⟩ := h
  obtain ⟨⟨l', hl'⟩, ⟨e', he'⟩, hb'⟩ := k
  exact ⟨⟨l', by rw [hl', hl]⟩, ⟨d, o, e', by rw [he', he]⟩, fun b h => (hb' b h).trans (hb b h)⟩

variable {s n} {u : State} (h : s.heardBy u n)
include h

theorem State.heardBy_agentNow : ∃ d o e, u.agentNow n = { s.agentNow n with heard := d, offset := o, enc := e } := by
  obtain ⟨⟨l, hl⟩, ⟨d, o, e, he⟩, _⟩ := h
  have hclk : u.clockOf n = s.clockOf n := by
    rw [hl]
    rfl
  have hfc : u.fc = s.fc := by rw [hl]
  refine ⟨d, o, e, ?_⟩
  rw [State.agentNow, he, hclk, hfc]
  exact Agent.advance_current n (s.agentNow_current n)

/-- What hearing a command does not change is as it is now. -/
theorem State.heardBy_proj {α : Type} (p : Agent → α) (hp : ∀ (x : Agent) d o e, p { x with heard := d, offset := o, enc := e } = p x) :
    p (u.agentNow n) = p (s.agentNow n) := by
  obtain ⟨d, o, e, he⟩ := State.heardBy_agentNow h
  rw [he, hp]

theorem State.heardBy_fc : u.fc = s.fc := by
  obtain ⟨⟨l, hl⟩, _⟩ := h
  rw [hl]

theorem State.heardBy_cut : u.cut = s.cut := by
  obtain ⟨⟨l, hl⟩, _⟩ := h
  rw [hl]

theorem State.heardBy_get (g : Fld) : u.get g = s.get g := by
  obtain ⟨⟨l, hl⟩, _⟩ := h
  rw [hl]
  rfl

theorem State.heardBy_frozen : (u.agent n).frozen = (s.agent n).frozen := by
  rw [← State.agentNow_frozen, State.heardBy_proj h Agent.frozen fun _ _ _ _ => rfl, State.agentNow_frozen]

theorem State.heardBy_others {t : State} (k : u.others t n) : s.others t n := by
  obtain ⟨_, _, hb⟩ := h
  intro b hne
  rw [← hb b hne]
  exact k b hne

theorem State.heardBy_sameRegs {t : State} (k : u.sameRegs t) : s.sameRegs t := fun g => (k g).trans (State.heardBy_get h g)

theorem State.heardBy_holdSent {t : State} {on : Bool} (k : u.holdSent t n on) : s.holdSent t n on := by
  rw [State.holdSent, State.heardBy_fc h] at k
  exact k

end Hear

end Sys2Proof.Machine

namespace Sys2Proof

/-! ### Maps of lists -/

section SparseLists

variable {α : Type}

/-- A key below every listed key is not listed. -/
theorem Sparse.get_of_lt {m : Sparse α} {i : Nat} (d : α) (h : ∀ e ∈ m, i < e.1) : Sparse.get m i d = d := by
  induction m with
  | nil => rfl
  | cons e m ih =>
    have hi : e.1 ≠ i := Nat.ne_of_gt (h e List.mem_cons_self)
    simp only [Sparse.get, hi, if_false]
    exact ih fun x hx => h x (List.mem_cons_of_mem e hx)

/-- The first `k` elements of each list of `m` join the list of the same key. -/
theorem Sparse.get_foldl_append (m : Sparse (List α)) (k i : Nat) (qs : Sparse (List α)) (hm : Sparse.wf m) :
    Sparse.get (m.foldl (fun qs e => Sparse.ins qs e.1 (Sparse.get qs e.1 [] ++ e.2.take k)) qs) i []
      = Sparse.get qs i [] ++ (Sparse.get m i []).take k := by
  induction m generalizing qs with
  | nil => simp [Sparse.get]
  | cons e m ih =>
    obtain ⟨hlt, hm⟩ := List.pairwise_cons.1 hm
    rw [List.foldl_cons, ih _ hm]
    by_cases hi : e.1 = i
    · subst hi
      rw [Sparse.get_ins_same, Sparse.get_of_lt _ hlt]
      simp [Sparse.get]
    · rw [Sparse.get_ins_ne _ _ _ (Ne.symm hi)]
      simp [Sparse.get, hi]

/-- What is left of each list of `m` without its first `k` elements; empty lists are not listed. -/
theorem Sparse.get_filter_drop [DecidableEq α] (m : Sparse (List α)) (k i : Nat) (hm : Sparse.wf m) :
    Sparse.get ((m.map (fun e => (e.1, e.2.drop k))).filter (fun e => e.2 != [])) i [] = (Sparse.get m i []).drop k := by
  induction m with
  | nil => simp [Sparse.get]
  | cons e m ih =>
    obtain ⟨hlt, hm⟩ := List.pairwise_cons.1 hm
    have hrest := ih hm
    rw [List.map_cons, List.filter_cons]
    by_cases hi : e.1 = i
    · subst hi
      rw [Sparse.get_of_lt _ hlt] at hrest
      by_cases hd : e.2.drop k = []
      · simp [hd, hrest, Sparse.get]
      · simp [hd, Sparse.get]
    · split <;> simp [Sparse.get, hi, hrest]

end SparseLists

end Sys2Proof

namespace Sys2Proof.Machine

/-! ### Freezing, resuming and the shadow at an agent (R29 to R36, R49) -/

section Freeze

variable (g : Agent) (n fc : Nat) (u : UnitState) (byStop : Bool)

/-- Freezing touches the freeze flags, the unit's own state, the stall code and, over a tied-off queue, A_FAULT. -/
theorem Agent.freezeWith_proj {α : Type} (p : Agent → α)
    (hp : ∀ (x : Agent) fr b ub q cr c d e r l f w,
      p { x with frozen := fr, byStop := b, unitBody := ub, queues := q, credits := cr, code := c, prev := d, dur := e, regs := r
                 faultNow := l, faultFc := f, faultWas := w } = p x) : p (g.freezeWith n fc u byStop) = p g := by
  have hfault : ∀ (x : Agent) b d, p (x.fault fc b d) = p x := fun x b d => x.fault_proj fc b d p fun _ _ _ _ _ => hp _ _ _ _ _ _ _ _ _ _ _ _ _
  have hcode : ∀ x : Agent, p x.recode = p x := fun x => x.recode_proj p fun _ _ _ _ => hp _ _ _ _ _ _ _ _ _ _ _ _ _
  unfold Agent.freezeWith Agent.tiedOff
  split
  · exact hp _ _ _ _ _ _ _ _ _ _ _ _ _
  · split
    · rw [hfault, hcode]
      exact hp g _ _ _ _ _ _ _ _ _ _ _ _
    · rw [hcode]
      exact hp g _ _ _ _ _ _ _ _ _ _ _ _

@[simp] theorem Agent.freezeWith_frozen : (g.freezeWith n fc u byStop).frozen = true := by
  unfold Agent.freezeWith Agent.tiedOff
  split
  · assumption
  · split <;> simp [Agent.freeze]

/-- A running unit freezes with its queues as they stand. -/
theorem Agent.freezeWith_running (hf : g.frozen = false) : (g.freezeWith n fc u byStop).byStop = byStop
    ∧ (g.freezeWith n fc u byStop).queues = keyed 0 (u.queues.take (agentQueues n)) ∧ (g.freezeWith n fc u byStop).unitBody = u.body := by
  have hcode := fun {α : Type} (p : Agent → α) hp => ((g.takeUnit n u).freeze byStop).recode_proj p hp
  have hfault := fun {α : Type} (p : Agent → α) hp => ((g.takeUnit n u).freeze byStop).recode.fault_proj fc 5 0 p hp
  rw [Agent.freezeWith, if_neg (by simp [hf]), Agent.tiedOff]
  split
  · rw [hfault Agent.byStop fun _ _ _ _ _ => rfl, hfault Agent.queues fun _ _ _ _ _ => rfl, hfault Agent.unitBody fun _ _ _ _ _ => rfl,
      hcode Agent.byStop fun _ _ _ _ => rfl, hcode Agent.queues fun _ _ _ _ => rfl, hcode Agent.unitBody fun _ _ _ _ => rfl]
    exact ⟨rfl, rfl, rfl⟩
  · rw [hcode Agent.byStop fun _ _ _ _ => rfl, hcode Agent.queues fun _ _ _ _ => rfl, hcode Agent.unitBody fun _ _ _ _ => rfl]
    exact ⟨rfl, rfl, rfl⟩

/-- Freezing is no skid overflow. -/
theorem Agent.freezeWith_skidOvf : testBit ((g.freezeWith n fc u byStop).get AReg.A_FAULT) 0 = testBit (g.get AReg.A_FAULT) 0 := by
  unfold Agent.freezeWith Agent.tiedOff
  split
  · rfl
  · split
    · rw [Agent.fault_bit_zero _ _ _ _ (by decide), Agent.recode_get]
      rfl
    · rw [Agent.recode_get]
      rfl

/-- Arming touches the granules and pages that the request names. -/
theorem Agent.armAct_proj (cow : Bool) {α : Type} (p : Agent → α)
    (hp : ∀ (x : Agent) a pg c l d lp dp,
      p { x with armReq := a, protectedG := pg, cowArmed := c, latchedG := l, dirty := d, latchedP := lp, dirtyPages := dp } = p x) : p (g.armAct n cow) = p g := by
  have h : ∃ a pg c l d lp dp, g.armAct n cow =
      { g with armReq := a, protectedG := pg, cowArmed := c, latchedG := l, dirty := d, latchedP := lp, dirtyPages := dp } := by
    unfold Agent.armAct
    dsimp only
    repeat' split
    all_goals exact ⟨_, _, _, _, _, _, _, rfl⟩
  obtain ⟨_, _, _, _, _, _, _, h⟩ := h
  rw [h, hp]

/-- The capture of a shadow touches the shadow and the marks of R31. -/
theorem Agent.capture_eq (channels : Bool) : ∃ h m, g.capture n fc channels = { g with shadow := some h, skidOver := m } ∧ h.fc = fc
    ∧ h.ctx = g.ctx := by
  unfold Agent.capture
  dsimp only
  split
  · exact ⟨_, _, rfl, rfl, rfl⟩
  · exact ⟨_, _, rfl, rfl, rfl⟩

/-- A SNAP at an agent without a shadow leaves it frozen with one of this fc (R33). -/
theorem Agent.snap_free (hs : g.shadow = none) : (g.snap n fc u).frozen = true
    ∧ (∃ h, (g.snap n fc u).shadow = some h ∧ h.fc = fc ∧ h.ctx = g.ctx)
    ∧ testBit ((g.snap n fc u).get AReg.A_FAULT) 0 = testBit (g.get AReg.A_FAULT) 0 := by
  have hshadow := g.freezeWith_proj n fc u false Agent.shadow fun _ _ _ _ _ _ _ _ _ _ _ _ _ => rfl
  have hctx := g.freezeWith_proj n fc u false Agent.ctx fun _ _ _ _ _ _ _ _ _ _ _ _ _ => rfl
  obtain ⟨h, m, hc, hfc, hhctx⟩ := (g.freezeWith n fc u false).capture_eq n fc g.frozen
  have harm := fun {α : Type} (p : Agent → α) hp => ((g.freezeWith n fc u false).capture n fc g.frozen).armAct_proj n true p hp
  have heq : g.snap n fc u = ((g.freezeWith n fc u false).capture n fc g.frozen).armAct n true := by
    rw [Agent.snap, if_neg (by rw [hshadow, hs]; decide)]
  rw [heq, harm Agent.frozen fun _ _ _ _ _ _ _ _ => rfl, harm Agent.shadow fun _ _ _ _ _ _ _ _ => rfl,
    harm (fun x => x.get AReg.A_FAULT) fun _ _ _ _ _ _ _ _ => rfl, hc]
  exact ⟨g.freezeWith_frozen n fc u false, ⟨h, rfl, hfc, hhctx.trans hctx⟩, g.freezeWith_skidOvf n fc u false⟩

/-- A SNAP at an agent with a shadow leaves that one and sets SNAP_OVERRUN (R35). -/
theorem Agent.snap_overrun {h : Shadow} (hs : g.shadow = some h) : (g.snap n fc u).frozen = true ∧ (g.snap n fc u).shadow = some h
    ∧ testBit ((g.snap n fc u).get AReg.A_FAULT) 8 = true
    ∧ testBit ((g.snap n fc u).get AReg.A_FAULT) 0 = testBit (g.get AReg.A_FAULT) 0 := by
  have hshadow := (g.freezeWith_proj n fc u false Agent.shadow fun _ _ _ _ _ _ _ _ _ _ _ _ _ => rfl).trans hs
  have heq : g.snap n fc u = (g.freezeWith n fc u false).fault fc 8 0 := by
    rw [Agent.snap, if_pos (by rw [hshadow]; rfl)]
  rw [heq, Agent.fault_frozen, Agent.fault_shadow, Agent.fault_bit_zero _ _ _ _ (by decide)]
  exact ⟨g.freezeWith_frozen n fc u false, hshadow, Agent.fault_bit _ _ _ _ (by decide), g.freezeWith_skidOvf n fc u false⟩

/-- RESUME or STEP at an agent (R32, R49). -/
def Agent.runs (g : Agent) (n fc : Nat) (step : Bool) : Agent :=
  if g.frozen then (g.channelCapture n).resume step else g.fault fc 5 0

/-- A frozen agent that owes no channel capture is released as it stands. -/
theorem Agent.runs_frozen (step : Bool) (hf : g.frozen = true) (hs : ∀ h, g.shadow = some h → h.channels = true) :
    g.runs n fc step = g.resume step := by
  rw [Agent.runs, if_pos hf, Agent.channelCapture]
  split
  next h hg => rw [if_pos (hs h hg)]
  · rfl

@[simp] theorem Agent.resume_frozen (step : Bool) : (g.resume step).frozen = false := rfl
@[simp] theorem Agent.resume_skids (step : Bool) : (g.resume step).skids = g.skids := rfl
@[simp] theorem Agent.resume_queues (step : Bool) : (g.resume step).queues = g.queues := rfl
@[simp] theorem Agent.resume_stepFlag (step : Bool) : (g.resume step).stepFlag = step := rfl
@[simp] theorem Agent.resume_get (step : Bool) (f : Fld) : (g.resume step).get f = g.get f := rfl

theorem Agent.runs_running (step : Bool) (hf : g.frozen = false) : g.runs n fc step = g.fault fc 5 0 := by
  rw [Agent.runs, hf]
  rfl

end Freeze

/-- A change of the encoder takes no hold from what is about to be seen. -/
theorem State.encOnly_holdSent {s t u : State} {n m : Nat} {on : Bool} (h : t.encOnly u n) (k : s.holdSent t m on) :
    s.holdSent u m on := by
  intro q hq x hx
  have hk := k q hq x hx
  by_cases hn : x.1 = n
  · rw [hn] at hk ⊢
    rwa [State.encOnly_proj h Agent.sched fun _ _ => rfl]
  · rwa [h.2.2 _ hn]

/-! ### The four commands at an agent -/

section Commands

variable {s s' : State} {a : AgentId} {c : TreeCmd}

theorem exec_agentCmd_none (ha : agentType a.toNat ≠ 0) (u : UnitState) :
    (s.hear a.toNat wireStop = (s, none) → exec (.agentStop a u) s = .next s)
    ∧ (s.hear a.toNat wireResume = (s, none) → exec (.agentResume a) s = .next s)
    ∧ (s.hear a.toNat wireStep = (s, none) → exec (.agentStep a) s = .next s)
    ∧ (s.hear a.toNat wireSnap = (s, none) → exec (.agentSnap a u) s = .next s) := by
  refine ⟨fun h => ?_, fun h => ?_, fun h => ?_, fun h => ?_⟩
  all_goals exact (if_pos ⟨ha, rfl⟩).trans (by rw [h])

theorem exec_agentStop_some (ha : agentType a.toNat ≠ 0) (u : UnitState) (h : s.hear a.toNat wireStop = (s', some c)) :
    exec (.agentStop a u) s
      = .next (((s'.encHold a.toNat).modAgent a.toNat (fun g => g.freezeWith a.toNat s'.fc u true)).ackPerform c) :=
  (if_pos ⟨ha, rfl⟩).trans (by rw [h])

theorem exec_agentResume_some (ha : agentType a.toNat ≠ 0) (h : s.hear a.toNat wireResume = (s', some c)) :
    exec (.agentResume a) s = .next ((s'.modAgent a.toNat (fun g => g.runs a.toNat s'.fc false)).encUnhold a.toNat) :=
  (if_pos ⟨ha, rfl⟩).trans (by rw [h]; rfl)

theorem exec_agentStep_some (ha : agentType a.toNat ≠ 0) (h : s.hear a.toNat wireStep = (s', some c)) :
    exec (.agentStep a) s = .next ((s'.modAgent a.toNat (fun g => g.runs a.toNat s'.fc true)).encUnhold a.toNat) :=
  (if_pos ⟨ha, rfl⟩).trans (by rw [h]; rfl)

theorem exec_agentSnap_some (ha : agentType a.toNat ≠ 0) (u : UnitState) (h : s.hear a.toNat wireSnap = (s', some c)) :
    exec (.agentSnap a u) s = .next (
      let t := ((s'.encHold a.toNat).modAgent a.toNat (fun g => g.snap a.toNat s'.fc u)).ackPerform c
      if (s'.agentNow a.toNat).shadow.isSome then t.snapOverrun else t) :=
  (if_pos ⟨ha, rfl⟩).trans (by rw [h])

section Ack

variable (s t : State) (c : TreeCmd) (n : Nat)

@[simp] theorem State.agent_ackPerform : (t.ackPerform c).agent n = t.agent n := rfl
@[simp] theorem State.ackPerform_cut : (t.ackPerform c).cut = t.cut := rfl
@[simp] theorem State.others_ackPerform : s.others (t.ackPerform c) n ↔ s.others t n := Iff.rfl
@[simp] theorem State.sameRegs_ackPerform : s.sameRegs (t.ackPerform c) ↔ s.sameRegs t := Iff.rfl
@[simp] theorem State.holdSent_ackPerform (on : Bool) : s.holdSent (t.ackPerform c) n on ↔ s.holdSent t n on := Iff.rfl

end Ack

section Heard

variable {n : Nat} {u : State} (h : s.heardBy u n)
include h

/-- An agent that runs freezes by a STOP (R29). -/
theorem State.stop_spec (x : UnitState) (hf : (s.agent n).frozen = false) :
    let t := u.modAgent n (fun g => g.freezeWith n s.fc x true)
    (t.agent n).frozen = true ∧ (t.agent n).byStop = true ∧ (t.agent n).queues = keyed 0 (x.queues.take (agentQueues n))
      ∧ (t.agent n).unitBody = x.body ∧ s.holdSent t n true ∧ s.others t n ∧ s.sameRegs t := by
  intro t
  have hu : (u.agentNow n).frozen = false := by rw [State.agentNow_frozen, State.heardBy_frozen h, hf]
  have hfreeze := (u.agentNow n).freezeWith_frozen n s.fc x true
  obtain ⟨hstop, hq, hbody⟩ := (u.agentNow n).freezeWith_running n s.fc x true hu
  have hsent := u.modAgent_holdSent n (f := fun g => g.freezeWith n s.fc x true)
    (by rw [hfreeze, State.heardBy_frozen h, hf]; decide)
  rw [hfreeze] at hsent
  refine ⟨(u.modAgent_proj n _ Agent.frozen fun _ => rfl).trans hfreeze, (u.modAgent_proj n _ Agent.byStop fun _ => rfl).trans hstop,
    (u.modAgent_proj n _ Agent.queues fun _ => rfl).trans hq, (u.modAgent_proj n _ Agent.unitBody fun _ => rfl).trans hbody,
    State.heardBy_holdSent h hsent, State.heardBy_others h (u.modAgent_others n _), State.heardBy_sameRegs h (u.modAgent_sameRegs n ?_)⟩
  rw [Agent.freezeWith_skidOvf, State.agentNow_fault]
  exact id

/-- A frozen agent that owes no channel capture is released (R32, R49). -/
theorem State.run_frozen_spec (step : Bool) (hf : (s.agent n).frozen = true)
    (hs : ∀ h, (s.agent n).shadow = some h → h.channels = true) :
    let t := (u.modAgent n (fun g => g.runs n s.fc step)).encUnhold n
    (t.agent n).frozen = false ∧ (t.agent n).skids = (s.agent n).skids ∧ (t.agent n).queues = (s.agent n).queues
      ∧ (t.agent n).stepFlag = step ∧ s.holdSent t n false ∧ s.others t n ∧ s.sameRegs t := by
  intro t
  have hu : (u.agent n).frozen = true := by rw [State.heardBy_frozen h, hf]
  have hru := (u.agentNow n).runs_frozen n s.fc step (by rw [State.agentNow_frozen, hu])
    (by rw [State.heardBy_proj h Agent.shadow fun _ _ _ _ => rfl, State.agentNow_shadow]; exact hs)
  have henc := (u.modAgent n (fun g => g.runs n s.fc step)).encOnly_encUnhold n
  have hproj := fun {α : Type} (p : Agent → α) (hl : ∀ x : Agent, p x.lasting = p x) (he : ∀ (x : Agent) e, p { x with enc := e } = p x) =>
    (State.encOnly_proj henc p he).trans ((u.modAgent_proj n _ p hl).trans (congrArg p hru))
  have hnow : (u.agentNow n).skids = (s.agent n).skids ∧ (u.agentNow n).queues = (s.agent n).queues :=
    ⟨(State.heardBy_proj h Agent.skids fun _ _ _ _ => rfl).trans (s.agentNow_skids n hf),
      (State.heardBy_proj h Agent.queues fun _ _ _ _ => rfl).trans (s.agentNow_queues n hf)⟩
  have hsent := u.modAgent_holdSent n (f := fun g => g.runs n s.fc step) (by rw [hru, hu, Agent.resume_frozen]; decide)
  rw [hru, Agent.resume_frozen] at hsent
  have hregs : u.sameRegs (u.modAgent n (fun g => g.runs n s.fc step)) :=
    u.modAgent_sameRegs n (by rw [hru, Agent.resume_get, State.agentNow_fault]; exact id)
  obtain ⟨hothers, hkeep⟩ := State.encOnly_onlyAgent henc
  refine ⟨(hproj Agent.frozen (fun _ => rfl) fun _ _ => rfl).trans (Agent.resume_frozen _ _),
    (hproj Agent.skids (fun _ => rfl) fun _ _ => rfl).trans ((Agent.resume_skids _ _).trans hnow.1),
    (hproj Agent.queues (fun _ => rfl) fun _ _ => rfl).trans ((Agent.resume_queues _ _).trans hnow.2),
    (hproj Agent.stepFlag (fun _ => rfl) fun _ _ => rfl).trans (Agent.resume_stepFlag _ _), ?_,
    State.heardBy_others h fun b hb => ?_, State.heardBy_sameRegs h fun g => (hkeep g).trans (hregs g)⟩
  · exact State.heardBy_holdSent h (State.encOnly_holdSent henc hsent)
  · rw [hothers b hb]
    exact u.modAgent_others n _ b hb

/-- A RESUME or STEP at an agent that is not frozen is a protocol fault. -/
theorem State.run_running_spec (step : Bool) (hf : (s.agent n).frozen = false) :
    testBit ((((u.modAgent n (fun g => g.runs n s.fc step)).encUnhold n).agent n).get AReg.A_FAULT) 5 = true := by
  rw [State.encOnly_proj ((u.modAgent n (fun g => g.runs n s.fc step)).encOnly_encUnhold n) (fun x => x.get AReg.A_FAULT) fun _ _ => rfl,
    u.modAgent_proj n _ (fun x => x.get AReg.A_FAULT) fun _ => rfl,
    (u.agentNow n).runs_running n s.fc step (by rw [State.agentNow_frozen, State.heardBy_frozen h, hf])]
  exact Agent.fault_bit _ _ _ _ (by decide)

/-- A SNAP at an agent without a shadow (R33). -/
theorem State.snap_free_spec (x : UnitState) (hs : (s.agent n).shadow = none) :
    let t := u.modAgent n (fun g => g.snap n s.fc x)
    (t.agent n).frozen = true ∧ (∃ h, (t.agent n).shadow = some h ∧ h.fc = s.fc ∧ h.ctx = (s.agent n).ctx) ∧ s.others t n ∧ s.sameRegs t := by
  have hshadow : (u.agentNow n).shadow = none := by rw [State.heardBy_proj h Agent.shadow fun _ _ _ _ => rfl, State.agentNow_shadow, hs]
  have hctx : (u.agentNow n).ctx = (s.agent n).ctx := by rw [State.heardBy_proj h Agent.ctx fun _ _ _ _ => rfl, State.agentNow_ctx]
  obtain ⟨hfr, ⟨w, hw, hfc, hc⟩, hov⟩ := (u.agentNow n).snap_free n s.fc x hshadow
  refine ⟨(u.modAgent_proj n _ Agent.frozen fun _ => rfl).trans hfr,
    ⟨w, (u.modAgent_proj n _ Agent.shadow fun _ => rfl).trans hw, hfc, hc.trans hctx⟩,
    State.heardBy_others h (u.modAgent_others n _), State.heardBy_sameRegs h (u.modAgent_sameRegs n ?_)⟩
  rw [hov, State.agentNow_fault]
  exact id

/-- A SNAP at an agent that holds a shadow (R35). -/
theorem State.snap_overrun_spec (x : UnitState) {w : Shadow} (hs : (s.agent n).shadow = some w) :
    let t := u.modAgent n (fun g => g.snap n s.fc x)
    (t.agent n).frozen = true ∧ (t.agent n).shadow = some w ∧ testBit ((t.agent n).get AReg.A_FAULT) 8 = true ∧ s.others t n
      ∧ s.sameRegs t ∧ t.cut = s.cut := by
  have hshadow : (u.agentNow n).shadow = some w := by rw [State.heardBy_proj h Agent.shadow fun _ _ _ _ => rfl, State.agentNow_shadow, hs]
  obtain ⟨hfr, hw, h8, hov⟩ := (u.agentNow n).snap_overrun n s.fc x hshadow
  refine ⟨(u.modAgent_proj n _ Agent.frozen fun _ => rfl).trans hfr, (u.modAgent_proj n _ Agent.shadow fun _ => rfl).trans hw, ?_,
    State.heardBy_others h (u.modAgent_others n _), State.heardBy_sameRegs h (u.modAgent_sameRegs n ?_),
    (u.modAgent_cut n _).trans (State.heardBy_cut h)⟩
  · exact (congrArg (testBit · 8) (u.modAgent_proj n _ (fun x => x.get AReg.A_FAULT) fun _ => rfl)).trans h8
  · rw [hov, State.agentNow_fault]
    exact id

end Heard

/-- A skipped cut is counted once (R35). -/
theorem State.snapOverrun_none (s : State) (hj : s.cut.job = none) : s.snapOverrun = s := by
  simp only [State.snapOverrun, hj]

theorem State.agent_snapOverrun (s : State) (b : Nat) : s.snapOverrun.agent b = s.agent b := by
  unfold State.snapOverrun
  split
  · rfl
  · split <;> rfl

theorem State.snapOverrun_some {s : State} {j : CutJob} (hj : s.cut.job = some j) (ho : j.overrun = false) :
    s.counted s.snapOverrun Reg.CUT.STATUS.SKIPPED 1 ∧ s.snapOverrun.get Reg.CUT.EVENT.SKIPPED = 1
      ∧ s.keeps s.snapOverrun [Reg.CUT.STATUS.SKIPPED, Reg.CUT.EVENT.SKIPPED] := by
  simp only [State.snapOverrun, hj, ho, Bool.false_eq_true, if_false]
  refine ⟨?_, State.get_raise_same _ rfl, fun g _ hk => ?_⟩
  · rw [State.counted, State.get_raise_ne _ (by decide), State.bump, State.get_bumpBy_same]
    rfl
  · simp only [List.map_cons, List.map_nil, List.mem_cons, List.not_mem_nil, or_false, not_or] at hk
    rw [State.get_raise_ne _ hk.2, State.get_bump_ne _ hk.1]
    rfl

end Commands

/-! ### O19 -/

/-- Two tokens a cycle leave each skid for its queue, in arrival order (R178). -/
theorem Agent.replay_spec (g : Agent) (k q : Nat) (hf : g.frozen = false) (hw : Sparse.wf g.skids) :
    Sparse.get (g.replay k).queues q [] = Sparse.get g.queues q [] ++ (Sparse.get g.skids q []).take (2 * k)
      ∧ Sparse.get (g.replay k).skids q [] = (Sparse.get g.skids q []).drop (2 * k) := by
  by_cases he : g.skids = []
  · simp [Agent.replay, he, Sparse.get]
  · simp only [Agent.replay, hf, Bool.false_or, List.isEmpty_iff, he, if_false]
    exact ⟨Sparse.get_foldl_append _ (2 * k) q g.queues hw, Sparse.get_filter_drop _ (2 * k) q hw⟩

/-- Settles O19: a command that does not reach the agent leaves it, one that does freezes, releases or captures it. -/
theorem agentsFreezeResumeAndSnap : Obligations.AgentsFreezeResumeAndSnap := by
  refine ⟨fun a u c s ha ht => ⟨fun hno => ?none, fun hacts => ?wire, fun hp => ?performs⟩, Agent.replay_spec⟩
  case none =>
    have hn : ∀ wire, s.hear a.toNat wire = (s, none) := fun wire => s.hear_none _ c ht (by tauto)
    obtain ⟨h1, h2, h3, h4⟩ := exec_agentCmd_none (s := s) ha u
    exact ⟨h1 (hn _), h2 (hn _), h3 (hn _), h4 (hn _)⟩
  case wire =>
    have hn : ∀ wire, c.wire ≠ wire → s.hear a.toNat wire = (s, none) := fun wire hw => s.hear_none _ c ht (.inr (.inr ⟨hacts, .inr hw⟩))
    obtain ⟨h1, h2, h3, h4⟩ := exec_agentCmd_none (s := s) ha u
    exact ⟨fun hw => h1 (hn _ hw), fun hw => h2 (hn _ hw), fun hw => h3 (hn _ hw), fun hw => h4 (hn _ hw)⟩
  case performs =>
    obtain ⟨v, hv, hheard⟩ := s.hear_performs a.toNat c hp
    have hhold := State.heardBy_encOnly hheard (v.encOnly_encHold a.toNat)
    have hfc := State.heardBy_fc hheard
    refine ⟨fun hw hf => ?stop, fun hf hs => ⟨fun hw => ?resume, fun hw => ?step⟩, fun hf => ⟨fun hw => ?noResume, fun hw => ?noStep⟩,
      fun hw hs => ?snap, fun h hw hs => ?overrun⟩
    all_goals rw [hw] at hv
    case stop =>
      refine ⟨_, exec_agentStop_some ha u hv, ?_⟩
      rw [hfc]
      simpa using State.stop_spec hhold u hf
    case resume =>
      refine ⟨_, exec_agentResume_some ha hv, ?_⟩
      rw [hfc]
      exact State.run_frozen_spec hheard false hf hs
    case step =>
      refine ⟨_, exec_agentStep_some ha hv, ?_⟩
      rw [hfc]
      exact State.run_frozen_spec hheard true hf hs
    case noResume =>
      refine ⟨_, exec_agentResume_some ha hv, ?_⟩
      rw [hfc]
      exact State.run_running_spec hheard false hf
    case noStep =>
      refine ⟨_, exec_agentStep_some ha hv, ?_⟩
      rw [hfc]
      exact State.run_running_spec hheard true hf
    case snap =>
      have hnow : (v.agentNow a.toNat).shadow.isSome = false := by
        rw [State.heardBy_proj hheard Agent.shadow fun _ _ _ _ => rfl, State.agentNow_shadow, hs]
        rfl
      refine ⟨_, exec_agentSnap_some ha u hv, ?_⟩
      rw [hfc, hnow]
      simpa using State.snap_free_spec hhold u hs
    case overrun =>
      have hnow : (v.agentNow a.toNat).shadow.isSome = true := by
        rw [State.heardBy_proj hheard Agent.shadow fun _ _ _ _ => rfl, State.agentNow_shadow, hs]
        rfl
      refine ⟨_, exec_agentSnap_some ha u hv, ?_⟩
      rw [hfc, hnow]
      obtain ⟨h1, h2, h3, h4, h5, h6⟩ := State.snap_overrun_spec hhold u hs
      dsimp only
      rw [if_pos rfl]
      have hcut := (State.ackPerform_cut (State.modAgent _ a.toNat _) c).trans h6
      refine ⟨?_, ?_, ?_, fun b hb => ?_, fun hj => ?_, fun j hj ho => ?_⟩
      · rw [State.agent_snapOverrun, State.agent_ackPerform]
        exact h1
      · rw [State.agent_snapOverrun, State.agent_ackPerform]
        exact h2
      · rw [State.agent_snapOverrun, State.agent_ackPerform]
        exact h3
      · rw [State.agent_snapOverrun, State.agent_ackPerform]
        exact h4 b hb
      · rw [State.snapOverrun_none _ (by rw [hcut, hj]), State.sameRegs_ackPerform]
        exact h5
      · obtain ⟨k1, k2, k3⟩ := State.snapOverrun_some (by rw [hcut, hj]) ho
        have hregs := (s.sameRegs_ackPerform _ c).2 h5
        exact ⟨by rwa [State.counted, hregs] at k1, k2, fun g hc hk => (k3 g hc hk).trans (hregs g)⟩

end Sys2Proof.Machine

namespace Sys2Proof.Machine

/-! ### Units that are active (R38) -/

section Active

variable {s : State} {n : Nat}

theorem State.agentActive_iff : s.agentActive n = true ↔ agentType n ≠ 0 ∧ s.gatedNow n = false ∧ (s.agent n).frozen = false
    ∧ (s.agent n).halted = false ∧ (s.agent n).faulted = false ∧ ((s.agent n).asleep && (s.agent n).enc.state == 3) = false := by
  simp only [State.agentActive, Bool.and_eq_true, Bool.not_eq_true', bne_iff_ne, and_assoc]

/-- The unit is awake and has executed. -/
def Agent.wake (g : Agent) : Agent := { g with asleep := false, executed := true, known := [], tiles := [] }

/-- Agent `n` has been brought up to date, and its unit is awake. -/
def State.woken (s : State) (n : Nat) : State := s.setAgent n (s.agentNow n).wake.recode

/-- Agent `n` has been brought up to date. -/
def State.updated (s : State) (n : Nat) : State := s.setAgent n (s.agentNow n)

@[simp] theorem State.agent_updated (s : State) (n : Nat) : (s.updated n).agent n = s.agentNow n := s.agent_setAgent_same n _

@[simp] theorem State.agent_woken (s : State) (n : Nat) : (s.woken n).agent n = (s.agentNow n).wake.recode := s.agent_setAgent_same n _

@[simp] theorem State.updated_fc (s : State) (n : Nat) : (s.updated n).fc = s.fc := rfl
@[simp] theorem State.woken_fc (s : State) (n : Nat) : (s.woken n).fc = s.fc := rfl

theorem State.woken_onlyAgent (s : State) (n : Nat) : s.onlyAgent (s.woken n) n := s.onlyAgent_setAgent n _
theorem State.updated_onlyAgent (s : State) (n : Nat) : s.onlyAgent (s.updated n) n := s.onlyAgent_setAgent n _

theorem State.agentNow_enc (s : State) (n : Nat) : (s.agentNow n).enc = (s.agent n).enc :=
  s.agentNow_proj n Agent.enc (fun _ => rfl) fun _ _ => rfl

/-- An activity of an active unit is performed on it. -/
theorem State.whenActive_eq (f : State → State) (h : s.agentActive n = true) : s.whenActive n f = f (s.woken n) := by
  obtain ⟨_, hg, hf, hh, hft, hs⟩ := State.agentActive_iff.1 h
  have hact : (s.agentNow n).active = some (s.agentNow n).wake := by
    simp only [Agent.active, Agent.awake, State.agentNow_asleep, State.agentNow_enc, State.agentNow_frozen, State.agentNow_halted,
      State.agentNow_faulted, hf, hh, hft, hs, Agent.wake]
    rfl
  simp only [State.whenActive, hg, hact, Bool.false_eq_true, if_false]
  rfl

/-- A frozen unit does nothing. -/
theorem State.whenActive_frozen (f : State → State) (h : (s.agent n).frozen = true) : s.whenActive n f = s := by
  have hact : (s.agentNow n).active = none := by simp [Agent.active, Agent.awake, h]
  simp [State.whenActive, hact]

theorem State.whenFree_eq (f : State → State) (h : s.agentActive n = true) : s.whenFree n f = f (s.updated n) := by
  obtain ⟨_, hg, hf, hh, hft, _⟩ := State.agentActive_iff.1 h
  simp [State.whenFree, hg, hf, hh, hft, State.updated]

theorem State.whenExecutes_eq (f : State → State) (h : s.agentActive n = true) (ha : (s.agent n).asleep = false) :
    s.whenExecutes n f = f (s.updated n) := by
  obtain ⟨_, hg, hf, hh, hft, _⟩ := State.agentActive_iff.1 h
  simp [State.whenExecutes, Agent.executes, hg, hf, hh, hft, ha, State.updated]

/-- A sleeping unit has no executing cycle. -/
theorem State.whenExecutes_asleep (f : State → State) (ha : (s.agent n).asleep = true) : s.whenExecutes n f = s := by
  simp [State.whenExecutes, Agent.executes, ha]

/-- What neither time nor waking changes is in the woken agent as it was. -/
theorem State.woken_proj (s : State) (n : Nat) {α : Type} (p : Agent → α) (hp : ∀ x : Agent, p x.timeless = p x)
    (hs : ∀ (x : Agent) t, p (x.dropSeen t) = p x) (hw : ∀ x : Agent, p x.wake = p x) : p ((s.woken n).agent n) = p (s.agent n) := by
  rw [State.agent_woken, ((s.agentNow n).wake.aged_recode).proj p hp, hw, s.agentNow_proj n p hp hs]

theorem State.woken_get (s : State) (n : Nat) {f : Fld} (hf : notPcnt f) : ((s.woken n).agent n).get f = (s.agent n).get f := by
  rw [State.agent_woken, Agent.recode_get]
  exact s.agentNow_get n hf

/-- The woken agent is up to date. -/
theorem State.woken_agentNow (s : State) (n : Nat) : (s.woken n).agentNow n = (s.woken n).agent n := by
  refine Agent.advance_current n ?_
  have hc := s.agentNow_current n
  rw [State.agent_woken]
  rw [Agent.current, Agent.recode_proj _ Agent.settled fun _ _ _ _ => rfl, Agent.recode_proj _ Agent.sched fun _ _ _ _ => rfl]
  exact hc

end Active

/-! ### Scratchpad writes (R43 to R45) -/

section Cells

/-- A byte after a write of a list of bytes. -/
theorem writeCells_get (m : Sparse Byte) (a : Nat) (l : List Byte) (j : Nat) :
    Sparse.get (writeCells m a l) j 0 = if a ≤ j ∧ j < a + l.length then l.getD (j - a) 0 else Sparse.get m j 0 := by
  induction l generalizing m a with
  | nil =>
    rw [if_neg (by simp)]
    rfl
  | cons b bs ih =>
    rw [writeCells, ih]
    rcases Nat.lt_trichotomy j a with h | h | h
    · rw [if_neg (by omega), if_neg (by omega), Sparse.get_set_ne _ _ _ _ (by omega)]
    · subst h
      rw [if_neg (by omega), if_pos (by simp), Sparse.get_set_same]
      simp
    · have hd : (b :: bs).getD (j - a) 0 = bs.getD (j - (a + 1)) 0 := by
        rw [show j - a = (j - (a + 1)) + 1 by omega]
        simp
      rw [hd, Sparse.get_set_ne _ _ _ _ (by omega)]
      simp only [List.length_cons]
      congr 1
      simp only [eq_iff_iff]
      omega

theorem mem_insertSorted {k x : Nat} {l : List Nat} : x ∈ insertSorted k l ↔ x = k ∨ x ∈ l := by
  induction l with
  | nil => simp [insertSorted]
  | cons y l ih =>
    unfold insertSorted
    repeat' split
    · simp
    next h => simp [h]
    · simp [ih, or_left_comm]

theorem mem_foldl_insertSorted {x : Nat} {ks l : List Nat} : x ∈ ks.foldl (fun l k => insertSorted k l) l ↔ x ∈ ks ∨ x ∈ l := by
  induction ks generalizing l with
  | nil => simp
  | cons k ks ih => simp [ih, mem_insertSorted, or_left_comm, or_assoc]

end Cells

section Writes

variable (g : Agent) (addr : Nat) (data : List Byte) (masked : Bool) (fc : Nat)

/-- A write touches the scratchpad, its dirty marks and the programmable counters. -/
theorem Agent.doWrite_proj {α : Type} (p : Agent → α) (hc : ∀ (x : Agent) c v d, p { x with cells := c, valid := v, dirty := d } = p x)
    (hp : ∀ (x : Agent) r c i j k l, p { x with regs := r, pcntFc := c, pcntInc0 := i, pcntInc1 := j, carry0 := k, carry1 := l } = p x) :
    p (g.doWrite addr data masked fc) = p g := by
  have hcount := fun (x : Agent) ev k => x.count_proj fc ev k p hp
  have hset := fun (x : Agent) c v => hc x c v x.dirty
  unfold Agent.doWrite Agent.setValid
  dsimp only
  split
  · rw [hcount, hc _ _ _ _, hcount]
  · rw [hset, hcount]

theorem Agent.doWrite_get {f : Fld} (hf : notPcnt f) : (g.doWrite addr data masked fc).get f = g.get f := by
  unfold Agent.doWrite Agent.setValid
  dsimp only
  split
  · rw [Agent.get_count _ _ _ _ hf]
    exact Agent.get_count _ _ _ _ hf
  · exact Agent.get_count _ _ _ _ hf

theorem Agent.doWrite_cells : (g.doWrite addr data masked fc).cells = writeCells g.cells addr data := by
  have hcount := fun (x : Agent) ev k => x.count_proj fc ev k Agent.cells fun _ _ _ _ _ _ _ => rfl
  unfold Agent.doWrite Agent.setValid
  dsimp only
  split
  · rw [hcount]
    exact congrArg (writeCells · addr data) (hcount _ _ _)
  · exact congrArg (writeCells · addr data) (hcount _ _ _)

/-- While dirty tracking is enabled every granule that a write touches is dirty (R43). -/
theorem Agent.doWrite_dirty (he : g.get AReg.A_DIRTY_CTRL.DIRTY_EN = 1) {k : Nat} (hk : k ∈ granulesOf addr data.length) :
    k ∈ (g.doWrite addr data masked fc).dirty := by
  have hcount := fun (x : Agent) ev k => x.count_proj fc ev k Agent.dirty fun _ _ _ _ _ _ _ => rfl
  unfold Agent.doWrite Agent.setValid
  dsimp only
  rw [if_pos (by simp [he]), hcount]
  refine mem_foldl_insertSorted.2 ?_
  rw [hcount, List.mem_filter]
  by_cases hd : k ∈ g.dirty
  · exact .inr hd
  · exact .inl ⟨hk, by simpa using hd⟩

/-- The wait for the writes touches the waits and their edges. -/
theorem Agent.writeWait_proj (n : Nat) {α : Type} (p : Agent → α) (hp : ∀ (x : Agent) w e, p { x with waits := w, edges := e } = p x) :
    p (g.writeWait n) = p g := by
  have h : ∃ w e, g.writeWait n = { g with waits := w, edges := e } := by
    unfold Agent.writeWait Agent.beginWait
    dsimp only
    repeat' split
    all_goals exact ⟨_, _, rfl⟩
  obtain ⟨w, e, h⟩ := h
  rw [h, hp]

end Writes

section StoreWriter

variable (s : State) (n : Nat) (g : Agent)

/-- A Memory Unit is stored as it is, but for its wait. -/
theorem State.storeWriter_proj {α : Type} (p : Agent → α) (hp : ∀ x : Agent, p x.lasting = p x)
    (hw : ∀ (x : Agent) w e, p { x with waits := w, edges := e } = p x) : p ((s.storeWriter n g).agent n) = p g :=
  (State.modAgent_proj _ n _ p hp).trans (g.writeWait_proj n p hw)

theorem State.storeWriter_onlyAgent (hf : g.frozen = (s.agent n).frozen) (ha : g.get AReg.A_FAULT = (s.agent n).get AReg.A_FAULT) :
    s.onlyAgent (s.storeWriter n g) n := by
  refine State.modAgent_onlyAgent _ n ?_ ?_
  · exact (g.writeWait_proj n Agent.frozen fun _ _ _ => rfl).trans hf
  · rw [g.writeWait_proj n (fun x => x.get AReg.A_FAULT) fun _ _ _ => rfl, ha]
    exact id

end StoreWriter

section TryWrite

variable {s : State} {n : Nat} {w : WaitingWrite}

/-- The granules that must be copied before the write. -/
def Agent.mustPreserve (g : Agent) (w : WaitingWrite) : List Nat := (granulesOf w.addr w.data.length).filter g.needsPreserve

/-- The write with its stall counted, as the first of the writes that wait (R45). -/
def Agent.stallWrite (g : Agent) (w : WaitingWrite) : Agent :=
  { g with waitingWrites := { w with stalled := true } :: g.waitingWrites
           cowStalls := if w.stalled then g.cowStalls else satAdd g.cowStalls 1 65535 }

/-- The write waits for the copies of the granules `ks` until fc `due` (R44). -/
def Agent.copyFor (g : Agent) (w : WaitingWrite) (ks : List Nat) (due : Nat) : Agent :=
  { g with preserved := g.preserved ++ ks.map (fun k => (k, g.validMask k, g.granule k))
           waitingWrites := { w with due := some due } :: g.waitingWrites }

theorem State.tryWrite_done (h : (s.agentNow n).mustPreserve w = []) :
    s.tryWrite n w = s.storeWriter n ((s.agentNow n).doWrite w.addr w.data w.masked s.fc) := if_pos h

theorem State.tryWrite_copies (h : (s.agentNow n).mustPreserve w ≠ [])
    (hl : (s.agentNow n).preserved.length + ((s.agentNow n).mustPreserve w).length ≤ 64) : s.tryWrite n w
      = s.storeWriter n (((s.agentNow n).copyFor w ((s.agentNow n).mustPreserve w) (s.fc + 4)).count s.fc 0x42
          ((s.agentNow n).mustPreserve w).length) :=
  (if_neg h).trans (if_neg (Nat.not_lt.2 hl))

theorem State.tryWrite_stalls (h : (s.agentNow n).mustPreserve w ≠ [])
    (hl : 64 < (s.agentNow n).preserved.length + ((s.agentNow n).mustPreserve w).length) (hs : w.stalled = false) :
    s.tryWrite n w = ((s.storeWriter n ((s.agentNow n).stallWrite w)).hubEvent 15 1).bumpBy Reg.CUT.COW_STALLS.COUNT 1 :=
  (if_neg h).trans ((if_pos hl).trans (if_neg (by simp [hs])))

end TryWrite

end Sys2Proof.Machine

namespace Sys2Proof.Machine

section GranuleRow

variable {a : AgentId} {addr : BitVec 19} {data : List Byte} {masked : Bool} {s : State}

/-- The write of the row as the agent tries it. -/
def rowWrite (addr : BitVec 19) (data : List Byte) (masked : Bool) : WaitingWrite := ⟨addr.toNat, data, masked, none, false⟩

theorem exec_granuleWrite_frozen (ht : agentType a.toNat = 2) (hf : (s.agent a.toNat).frozen = true) :
    exec (.granuleWrite a addr data masked) s = .next s :=
  (if_pos ⟨by rw [ht]; decide, by rw [ht]; rfl⟩).trans (congrArg _ (State.whenActive_frozen _ hf))

/-- With no write waiting the row's write is tried on the woken unit. -/
theorem exec_granuleWrite_first (ht : agentType a.toNat = 2) (hl : addr.toNat + data.length ≤ 2 ^ 19)
    (ha : s.agentActive a.toNat = true) (hw : (s.agent a.toNat).waitingWrites = []) :
    exec (.granuleWrite a addr data masked) s = .next ((s.woken a.toNat).tryWrite a.toNat (rowWrite addr data masked)) := by
  have hwait : ((s.woken a.toNat).agentNow a.toNat).waitingWrites = [] := by
    rw [State.woken_agentNow, s.woken_proj _ Agent.waitingWrites (fun _ => rfl) (fun _ _ => rfl) fun _ => rfl, hw]
  refine (if_pos ⟨by rw [ht]; decide, by rw [ht]; rfl⟩).trans (congrArg _ ?_)
  rw [State.whenActive_eq _ ha, List.take_of_length_le (by omega)]
  exact if_pos hwait

variable {n : Nat} {w : WaitingWrite}

/-- What the write must copy first is seen on the agent as it was. -/
theorem State.woken_mustPreserve (s : State) (n : Nat) (w : WaitingWrite) :
    ((s.woken n).agentNow n).mustPreserve w = (granulesOf w.addr w.data.length).filter (s.agent n).needsPreserve := by
  rw [State.woken_agentNow, Agent.mustPreserve,
    s.woken_proj n Agent.needsPreserve (fun _ => rfl) (fun _ _ => rfl) fun _ => rfl]

theorem State.woken_preserved (s : State) (n : Nat) : ((s.woken n).agent n).preserved = (s.agent n).preserved :=
  s.woken_proj n Agent.preserved (fun _ => rfl) (fun _ _ => rfl) fun _ => rfl

theorem State.woken_cells (s : State) (n : Nat) : ((s.woken n).agent n).cells = (s.agent n).cells :=
  s.woken_proj n Agent.cells (fun _ => rfl) (fun _ _ => rfl) fun _ => rfl

/-- A write that copies nothing first is done at once (R43). -/
theorem State.write_done_spec (h : (granulesOf w.addr w.data.length).filter (s.agent n).needsPreserve = []) :
    let t := (s.woken n).tryWrite n w
    (t.agent n).cells = writeCells (s.agent n).cells w.addr w.data
      ∧ ((s.agent n).get AReg.A_DIRTY_CTRL.DIRTY_EN = 1 → ∀ k ∈ granulesOf w.addr w.data.length, k ∈ (t.agent n).dirty)
      ∧ s.onlyAgent t n := by
  have hnow := s.woken_agentNow n
  have hfault := (s.woken n).agentNow_fault n
  rw [State.tryWrite_done ((s.woken_mustPreserve n w).trans h), hnow]
  have hstore := fun {α : Type} (p : Agent → α) hp hw =>
    (s.woken n).storeWriter_proj n (((s.woken n).agent n).doWrite w.addr w.data w.masked (s.woken n).fc) p hp hw
  refine ⟨?_, fun he k hk => ?_, State.onlyAgent_trans (s.woken_onlyAgent n) (State.storeWriter_onlyAgent _ n _ ?_ ?_)⟩
  · rw [hstore Agent.cells (fun _ => rfl) fun _ _ _ => rfl, Agent.doWrite_cells, State.woken_cells]
  · rw [hstore Agent.dirty (fun _ => rfl) fun _ _ _ => rfl]
    exact Agent.doWrite_dirty _ _ _ _ _ ((s.woken_get n ⟨by decide, by decide⟩).trans he) hk
  · exact Agent.doWrite_proj _ _ _ _ _ Agent.frozen (fun _ _ _ _ => rfl) fun _ _ _ _ _ _ _ => rfl
  · exact Agent.doWrite_get _ _ _ _ _ notPcnt_fault

/-- A write into one protected granule, with a slot free, waits for its copy (R44). -/
theorem State.write_copies_spec {k : Nat} (h : (granulesOf w.addr w.data.length).filter (s.agent n).needsPreserve = [k])
    (hl : (s.agent n).preserved.length < 64) (hw : (s.agent n).waitingWrites = []) : let t := (s.woken n).tryWrite n w
    (t.agent n).preserved = (s.agent n).preserved ++ [(k, (s.agent n).validMask k, (s.agent n).granule k)]
      ∧ (t.agent n).waitingWrites = [{ w with due := some (s.fc + 4) }] ∧ (t.agent n).cells = (s.agent n).cells ∧ s.onlyAgent t n := by
  have hk := (s.woken_mustPreserve n w).trans h
  have hnow := s.woken_agentNow n
  rw [State.tryWrite_copies (by rw [hk]; simp) (by rw [hk, hnow, State.woken_preserved]; exact hl), hk, hnow]
  have hstore := fun {α : Type} (p : Agent → α) hp hw => (s.woken n).storeWriter_proj n
    ((((s.woken n).agent n).copyFor w [k] ((s.woken n).fc + 4)).count (s.woken n).fc 0x42 [k].length) p hp hw
  have hcount := fun {α : Type} (p : Agent → α) hp =>
    (((s.woken n).agent n).copyFor w [k] ((s.woken n).fc + 4)).count_proj (s.woken n).fc 0x42 [k].length p hp
  refine ⟨?_, ?_, ?_, State.onlyAgent_trans (s.woken_onlyAgent n) (State.storeWriter_onlyAgent _ n _ ?_ ?_)⟩
  · rw [hstore Agent.preserved (fun _ => rfl) fun _ _ _ => rfl, hcount Agent.preserved fun _ _ _ _ _ _ _ => rfl]
    simp only [Agent.copyFor, List.map_cons, List.map_nil, State.woken_preserved,
      s.woken_proj n (fun x => x.validMask k) (fun _ => rfl) (fun _ _ => rfl) fun _ => rfl,
      s.woken_proj n (fun x => x.granule k) (fun _ => rfl) (fun _ _ => rfl) fun _ => rfl]
  · rw [hstore Agent.waitingWrites (fun _ => rfl) fun _ _ _ => rfl, hcount Agent.waitingWrites fun _ _ _ _ _ _ _ => rfl]
    simp only [Agent.copyFor, s.woken_proj n Agent.waitingWrites (fun _ => rfl) (fun _ _ => rfl) fun _ => rfl, hw, State.woken_fc]
  · rw [hstore Agent.cells (fun _ => rfl) fun _ _ _ => rfl, hcount Agent.cells fun _ _ _ _ _ _ _ => rfl]
    exact s.woken_cells n
  · exact hcount Agent.frozen fun _ _ _ _ _ _ _ => rfl
  · exact Agent.count_fault _ _ _ _

/-- With all slots in use the write stalls, and the stall is counted (R45). -/
theorem State.write_stalls_spec {k : Nat} (h : (granulesOf w.addr w.data.length).filter (s.agent n).needsPreserve = [k])
    (hl : 64 ≤ (s.agent n).preserved.length) (hw : (s.agent n).waitingWrites = []) (hs : w.stalled = false) :
    let t := (s.woken n).tryWrite n w
    (t.agent n).waitingWrites = [{ w with stalled := true }] ∧ (t.agent n).cells = (s.agent n).cells
      ∧ (t.agent n).cowStalls = satAdd (s.agent n).cowStalls 1 65535
      ∧ s.counted t Reg.CUT.COW_STALLS.COUNT 1 ∧ s.keeps t [Reg.CUT.COW_STALLS.COUNT] := by
  have hk := (s.woken_mustPreserve n w).trans h
  have hnow := s.woken_agentNow n
  rw [State.tryWrite_stalls (by rw [hk]; simp) (by rw [hk, hnow, State.woken_preserved]; exact Nat.lt_succ_of_le hl) hs, hnow]
  have honly : s.onlyAgent ((s.woken n).storeWriter n (((s.woken n).agent n).stallWrite w)) n :=
    State.onlyAgent_trans (s.woken_onlyAgent n) (State.storeWriter_onlyAgent _ n _ rfl rfl)
  obtain ⟨_, hregs⟩ := honly
  have hstore := fun {α : Type} (p : Agent → α) hp hw => (s.woken n).storeWriter_proj n (((s.woken n).agent n).stallWrite w) p hp hw
  generalize (s.woken n).storeWriter n (((s.woken n).agent n).stallWrite w) = t at *
  have hagent : ((t.hubEvent 15 1).bumpBy Reg.CUT.COW_STALLS.COUNT 1).agent n = t.agent n := rfl
  dsimp only
  rw [hagent, hstore Agent.waitingWrites (fun _ => rfl) fun _ _ _ => rfl, hstore Agent.cells (fun _ => rfl) fun _ _ _ => rfl,
    hstore Agent.cowStalls (fun _ => rfl) fun _ _ _ => rfl]
  refine ⟨?_, s.woken_cells n, ?_, ?_, fun g _ hg => ?_⟩
  · simp only [Agent.stallWrite, s.woken_proj n Agent.waitingWrites (fun _ => rfl) (fun _ _ => rfl) fun _ => rfl, hw]
  · simp only [Agent.stallWrite, s.woken_proj n Agent.cowStalls (fun _ => rfl) (fun _ _ => rfl) fun _ => rfl, hs, Bool.false_eq_true, if_false]
  · rw [State.counted, State.get_bumpBy_same, State.get_hubEvent, hregs]
  · rw [State.get_bumpBy_ne _ _ (by simpa using hg), State.get_hubEvent, hregs]

end GranuleRow

/-! ### Spills of accumulators and switches of context (R46, R432) -/

section SpillSwitch

/-- A tile request finds every tile live (R46). -/
def Agent.spills (g : Agent) (n fc : Nat) : Agent :=
  let g := (g.endWaits (·.kind == 5)).beginWait ⟨5, 0, n, 0, false, false⟩
  ((g.put AReg.CU_ACC_SPILLS (satAdd (g.get AReg.CU_ACC_SPILLS) 1 65535)).count fc 0x24 1).recode

theorem Agent.beginWait_get (g : Agent) (w : Wait) (f : Fld) : (g.beginWait w).get f = g.get f := by
  unfold Agent.beginWait
  split <;> rfl

theorem Agent.any_beginWait (g : Agent) (w : Wait) : (g.beginWait w).waits.any (fun v => v.kind == w.kind) = true := by
  unfold Agent.beginWait
  split
  next h =>
    obtain ⟨v, hv, hs⟩ := List.any_eq_true.1 h
    simp only [Wait.same, Bool.and_eq_true] at hs
    exact List.any_eq_true.2 ⟨v, hv, hs.1.1⟩
  · simp

theorem Agent.spills_spec (g : Agent) (n fc : Nat) :
    (g.spills n fc).get AReg.CU_ACC_SPILLS = satAdd (g.get AReg.CU_ACC_SPILLS) 1 65535 % 65536
      ∧ (g.spills n fc).waits.any (fun w => w.kind == 5) = true := by
  constructor
  · rw [Agent.spills, Agent.recode_get, Agent.get_count _ _ _ _ ⟨by decide, by decide⟩, Agent.get_put_same, Agent.beginWait_get]
    rfl
  · rw [Agent.spills, Agent.recode_proj _ Agent.waits fun _ _ _ _ => rfl, Agent.count_proj _ _ _ _ Agent.waits fun _ _ _ _ _ _ _ => rfl]
    exact Agent.any_beginWait _ ⟨5, 0, n, 0, false, false⟩

theorem exec_accumulatorSpill {a : AgentId} {s : State} (ht : agentType a.toNat = 1) (ha : s.agentActive a.toNat = true) :
    ∃ t, exec (.accumulatorSpill a) s = .next t ∧ (t = (s.woken a.toNat).setAgent a.toNat (((s.woken a.toNat).agent a.toNat).spills a.toNat s.fc)
      ∨ t = ((s.woken a.toNat).setAgent a.toNat (((s.woken a.toNat).agent a.toNat).spills a.toNat s.fc)).raiseEvent a.toNat 3) := by
  refine ⟨_, (if_pos ⟨by rw [ht]; decide, by rw [ht]; rfl⟩).trans (congrArg _ (State.whenActive_eq _ ha)), ?_⟩
  dsimp only
  split
  · exact .inr rfl
  · exact .inl rfl

theorem State.spill_spec (s : State) (n : Nat) {t : State} (ht : t = (s.woken n).setAgent n (((s.woken n).agent n).spills n s.fc)
      ∨ t = ((s.woken n).setAgent n (((s.woken n).agent n).spills n s.fc)).raiseEvent n 3) :
    (t.agent n).get AReg.CU_ACC_SPILLS = satAdd ((s.agent n).get AReg.CU_ACC_SPILLS) 1 65535 % 65536
      ∧ (t.agent n).waits.any (fun w => w.kind == 5) = true ∧ s.onlyAgent t n := by
  obtain ⟨h1, h2⟩ := ((s.woken n).agent n).spills_spec n s.fc
  rw [s.woken_get n ⟨by decide, by decide⟩] at h1
  have honly := State.onlyAgent_trans (s.woken_onlyAgent n) ((s.woken n).onlyAgent_setAgent n (((s.woken n).agent n).spills n s.fc))
  rcases ht with rfl | rfl
  · rw [State.agent_setAgent_same]
    exact ⟨h1, h2, honly⟩
  · rw [State.raiseEvent_proj _ n 3 (fun x => x.get AReg.CU_ACC_SPILLS) fun _ _ => rfl,
      State.raiseEvent_proj _ n 3 Agent.waits fun _ _ => rfl, State.agent_setAgent_same]
    exact ⟨h1, h2, State.onlyAgent_trans honly (State.raiseEvent_onlyAgent _ n 3)⟩

/-- The agent has judged the commands whose time has come and goes on with context `ctx` (R27, R167, R432). -/
def Agent.switchTo (g : Agent) (n fc : Nat) (clk : Nat × Nat) (tree : List TreeCmd) (ctx : Nat) : Agent :=
  let g := (g.nextCmd n fc clk 0 tree).1.switchRecord
  { g with ctxOld := g.ctxAt fc, ctxFc := fc, ctxCycle := some g.settled, ctx := ctx }

/-- Agent `n`, up to date, switches to another context; an encoder that is ON owes a SYNC. -/
def State.switchTo (s : State) (n ctx : Nat) : State :=
  let t := s.setAgent n ((s.agent n).switchTo n s.fc (s.clockOf n) s.whistle.tree ctx)
  if t.encIsOn n then t.modEnc n (·.need srContext) else t

theorem exec_contextSwitch {a : AgentId} {ctx : BitVec 16} {s : State} (ha : s.agentActive a.toNat = true) :
    exec (.contextSwitch a ctx) s = .next (let u := s.updated a.toNat
      if (u.agent a.toNat).ctx = ctx.toNat then u else u.switchTo a.toNat ctx.toNat) :=
  (if_pos ⟨(State.agentActive_iff.1 ha).1, rfl⟩).trans (congrArg _ (State.whenFree_eq _ ha))

theorem State.switchTo_spec (s : State) (n ctx : Nat) : ((s.switchTo n ctx).agent n).ctx = ctx ∧ s.onlyAgent (s.switchTo n ctx) n := by
  have hset : ((s.setAgent n ((s.agent n).switchTo n s.fc (s.clockOf n) s.whistle.tree ctx)).agent n).ctx = ctx := by
    rw [State.agent_setAgent_same]
    rfl
  have honly := s.onlyAgent_setAgent n ((s.agent n).switchTo n s.fc (s.clockOf n) s.whistle.tree ctx)
  unfold State.switchTo
  dsimp only
  split
  · have henc := (s.setAgent n ((s.agent n).switchTo n s.fc (s.clockOf n) s.whistle.tree ctx)).encOnly_modEnc n (·.need srContext)
    exact ⟨(State.encOnly_proj henc Agent.ctx fun _ _ => rfl).trans hset, State.onlyAgent_trans honly (State.encOnly_onlyAgent henc)⟩
  · exact ⟨hset, honly⟩

/-- After the row the agent has the context. -/
theorem State.contextSwitch_spec (s : State) (n ctx : Nat) :
    let t := let u := s.updated n
      if (u.agent n).ctx = ctx then u else u.switchTo n ctx
    (t.agent n).ctx = ctx ∧ s.onlyAgent t n := by
  dsimp only
  split
  next h => exact ⟨h, s.updated_onlyAgent n⟩
  · obtain ⟨h1, h2⟩ := (s.updated n).switchTo_spec n ctx
    exact ⟨h1, State.onlyAgent_trans (s.updated_onlyAgent n) h2⟩

end SpillSwitch

end Sys2Proof.Machine

namespace Sys2Proof.Machine

/-! ### Comparators (R37, R196, R197, R201) -/

section Comparators

/-- The agent after comparator `k` has matched: `may` says that its halt is not suppressed. -/
def Agent.comparatorHit (g : Agent) (m fc k : Nat) (kind : AccessKind) (addr count : Nat) (locked first : Bool) : Agent :=
  let g := (if k = 0 then { g with cmp0Fc := some fc } else { g with cmp1Fc := some fc } : Agent).count fc (0x0B + k) 1
  if g.get (AReg.A_CMP_CTRL.HALT k) == 1 && agentHaltable m then
    if g.suppress && first then g
    else
      let g := ({ g with suppress := false }).haltRequest (2 + k) count locked
      if kind == .fetch && g.deferLeft.isNone then { g with haltAt := some addr } else g
  else g

/-- Agent `m`, up to date, makes an access that comparator `k` may select. -/
def State.compares (s : State) (m k : Nat) (kind : AccessKind) (addr : Nat) (locked first : Bool) : State :=
  let g := s.agent m
  if g.cmpMatches s.fc k kind addr && (g.haltAt.isNone || kind != .fetch) then
    let g := g.comparatorHit m s.fc k kind addr (s.cfg Reg.RUNCTL.LOCK_DEFER.COUNT) locked first
    let t := s.setAgent m g
    if g.get AReg.A_CTRL.CMP_EVT = 1 ∧ g.get (AReg.A_CMP_CTRL.EVT k) = 1 then t.raiseEvent m k else t
  else s

variable {a : AgentId} {k : BitVec 1} {kind : AccessKind} {addr : Word} {locked first : Bool} {s : State}

theorem exec_comparatorMatch (ha : s.agentActive a.toNat = true) (hs : (s.agent a.toNat).asleep = false) :
    exec (.comparatorMatch a k kind addr locked first) s
      = .next ((s.updated a.toNat).compares a.toNat k.toNat kind addr.toNat locked first) :=
  (if_pos ⟨(State.agentActive_iff.1 ha).1, rfl⟩).trans (congrArg _ (State.whenExecutes_eq _ ha hs))

theorem exec_comparatorMatch_asleep (ht : agentType a.toNat ≠ 0) (hs : (s.agent a.toNat).asleep = true) :
    exec (.comparatorMatch a k kind addr locked first) s = .next s :=
  (if_pos ⟨ht, rfl⟩).trans (congrArg _ (State.whenExecutes_asleep _ hs))

/-- The registers from A_CMP_LO on are no programmable counters. -/
theorem notPcnt_of_off {f : Fld} (h : 0x430 ≤ f.off) : notPcnt f := by
  simp only [notPcnt, Fld.key, AReg.A_PCNT]
  omega

/-- What a comparator selects depends on registers other than the counters and on the context. -/
theorem State.agentNow_cmpMatches (s : State) (n fc k : Nat) (kind : AccessKind) (addr : Nat) :
    (s.agentNow n).cmpMatches fc k kind addr = (s.agent n).cmpMatches fc k kind addr := by
  have hget : ∀ f : Fld, 0x430 ≤ f.off → (s.agentNow n).get f = (s.agent n).get f := fun f hf => s.agentNow_get n (notPcnt_of_off hf)
  have hctx : (s.agentNow n).ctxAt fc = (s.agent n).ctxAt fc := s.agentNow_proj n (fun x => x.ctxAt fc) (fun _ => rfl) fun _ _ => rfl
  have hoff : ∀ c, 0x430 ≤ c → 0x430 ≤ c + 16 * k := fun c hc => Nat.le_trans hc (Nat.le_add_right _ _)
  unfold Agent.cmpMatches
  rw [hget (AReg.A_CMP_LO k) (hoff _ (by decide)), hget (AReg.A_CMP_HI k) (hoff _ (by decide)), hget (AReg.A_CMP_CTRL.EN k) (hoff _ (by decide)),
    hget (AReg.A_CMP_CTRL.KIND k) (hoff _ (by decide)), hget (AReg.A_CMP_CTRL.INVERT k) (hoff _ (by decide)),
    hget (AReg.A_CMP_CTRL.CTX_EN k) (hoff _ (by decide)), hget (AReg.A_CMP_CTX.CTX k) (hoff _ (by decide)),
    hget (AReg.A_CMP_CTX.CTX_MASK k) (hoff _ (by decide)), hctx]

section Hit

variable (g : Agent) (m fc k : Nat) (kind : AccessKind) (addr count : Nat) (locked first : Bool)

/-- A halt request is pending, and outside a locked sequence nothing defers it (R196, R202). -/
theorem Agent.haltRequest_spec (c : Nat) : c ∈ (g.haltRequest c count locked).haltPend ∧ (g.haltRequest c count locked).haltAt = g.haltAt
    ∧ (locked = false → g.locked = false → (g.haltRequest c count locked).deferLeft = g.deferLeft) := by
  unfold Agent.haltRequest
  dsimp only
  split
  next h => exact ⟨mem_insertSorted.2 (.inl rfl), rfl, fun h1 h2 => by simp [h1, h2] at h⟩
  · exact ⟨mem_insertSorted.2 (.inl rfl), rfl, fun _ _ => rfl⟩

/-- The comparator's match is noted and counted. -/
def Agent.noteMatch (g : Agent) (fc k : Nat) : Agent :=
  (if k = 0 then { g with cmp0Fc := some fc } else { g with cmp1Fc := some fc } : Agent).count fc (0x0B + k) 1

theorem Agent.noteMatch_proj {α : Type} (p : Agent → α) (hm : ∀ (x : Agent) c d, p { x with cmp0Fc := c, cmp1Fc := d } = p x)
    (hp : ∀ (x : Agent) r c i j k l, p { x with regs := r, pcntFc := c, pcntInc0 := i, pcntInc1 := j, carry0 := k, carry1 := l } = p x) :
    p (g.noteMatch fc k) = p g := by
  rw [Agent.noteMatch, Agent.count_proj _ _ _ _ p hp]
  split
  · exact hm g _ g.cmp1Fc
  · exact hm g g.cmp0Fc _

theorem Agent.noteMatch_get {f : Fld} (hf : notPcnt f) : (g.noteMatch fc k).get f = g.get f := by
  rw [Agent.noteMatch, Agent.get_count _ _ _ _ hf]
  split <;> rfl

/-- The cause that a comparator brings is pending; outside a locked sequence one of KIND 0 stops the core at its address. -/
theorem Agent.comparatorHit_halts (hh : agentHaltable m = true) (hc : g.get (AReg.A_CMP_CTRL.HALT k) = 1)
    (hs : (g.suppress && first) = false) :
    2 + k ∈ (g.comparatorHit m fc k kind addr count locked first).haltPend
      ∧ (locked = false → g.locked = false → g.deferLeft = none → g.haltAt = none →
          (g.comparatorHit m fc k kind addr count locked first).haltAt = if kind = .fetch then some addr else none) := by
  have hctrl : (g.noteMatch fc k).get (AReg.A_CMP_CTRL.HALT k) = 1 :=
    (g.noteMatch_get fc k (notPcnt_of_off (Nat.le_trans (by decide) (Nat.le_add_right _ _)))).trans hc
  have hnote := fun {α : Type} (p : Agent → α) hm hp => g.noteMatch_proj fc k p hm hp
  have heq : g.comparatorHit m fc k kind addr count locked first =
      let h := ({ g.noteMatch fc k with suppress := false } : Agent).haltRequest (2 + k) count locked
      if kind == .fetch && h.deferLeft.isNone then { h with haltAt := some addr } else h := by
    unfold Agent.comparatorHit
    refine (if_pos (by simp [hh]; exact hctrl)).trans (if_neg ?_)
    have := hnote Agent.suppress (fun _ _ _ => rfl) fun _ _ _ _ _ _ _ => rfl
    rw [Agent.noteMatch] at this
    rw [this, hs]
    decide
  obtain ⟨h1, h2, h3⟩ := ({ g.noteMatch fc k with suppress := false } : Agent).haltRequest_spec count locked (2 + k)
  rw [heq]
  dsimp only
  split
  next hk =>
    simp only [Bool.and_eq_true, beq_iff_eq] at hk
    exact ⟨h1, fun _ _ _ _ => by rw [if_pos hk.1]⟩
  next hk =>
    refine ⟨h1, fun hl hg hd ha => ?_⟩
    have hdefer := (h3 hl ((hnote Agent.locked (fun _ _ _ => rfl) fun _ _ _ _ _ _ _ => rfl).trans hg)).trans
      ((hnote Agent.deferLeft (fun _ _ _ => rfl) fun _ _ _ _ _ _ _ => rfl).trans hd)
    rw [hdefer] at hk
    rw [h2, if_neg (by simpa using hk)]
    exact (hnote Agent.haltAt (fun _ _ _ => rfl) fun _ _ _ _ _ _ _ => rfl).trans ha

end Hit

/-- A match changes its agent as `Agent.comparatorHit` says, and may raise its event. -/
theorem State.compares_match (s : State) (m k : Nat) (kind : AccessKind) (addr : Nat) (locked first : Bool)
    (hm : (s.agent m).cmpMatches s.fc k kind addr = true) (ha : (s.agent m).haltAt = none) :
    let t := s.compares m k kind addr locked first
    let g := (s.agent m).comparatorHit m s.fc k kind addr (s.cfg Reg.RUNCTL.LOCK_DEFER.COUNT) locked first
    (t.agent m).haltPend = g.haltPend ∧ (t.agent m).haltAt = g.haltAt ∧ s.onlyAgent t m := by
  rw [State.compares]
  dsimp only
  rw [if_pos (by simp [hm, ha])]
  have honly := s.onlyAgent_setAgent m ((s.agent m).comparatorHit m s.fc k kind addr (s.cfg Reg.RUNCTL.LOCK_DEFER.COUNT) locked first)
  split
  · rw [State.raiseEvent_proj _ m k Agent.haltPend fun _ _ => rfl, State.raiseEvent_proj _ m k Agent.haltAt fun _ _ => rfl,
      State.agent_setAgent_same]
    exact ⟨rfl, rfl, State.onlyAgent_trans honly (State.raiseEvent_onlyAgent _ m k)⟩
  · rw [State.agent_setAgent_same]
    exact ⟨rfl, rfl, honly⟩

theorem State.compares_none (s : State) (m k : Nat) (kind : AccessKind) (addr : Nat) (locked first : Bool)
    (hm : (s.agent m).cmpMatches s.fc k kind addr = false) : s.compares m k kind addr locked first = s := by
  rw [State.compares]
  dsimp only
  rw [if_neg (by simp [hm])]

/-- A match of a comparator with HALT at an agent that can halt, as the row makes it. -/
theorem State.comparatorMatch_spec (s : State) {n : Nat} (k : Nat) (kind : AccessKind) (addr : Nat) (locked first : Bool)
    (hat : (s.agent n).haltAt = none) (hm : (s.agent n).cmpMatches s.fc k kind addr = true) (hh : agentHaltable n = true)
    (hc : (s.agent n).get (AReg.A_CMP_CTRL.HALT k) = 1) (hs : ((s.agent n).suppress && first) = false) :
    let t := (s.updated n).compares n k kind addr locked first
    2 + k ∈ (t.agent n).haltPend
      ∧ (locked = false → (s.agent n).locked = false → (s.agentNow n).deferLeft = none →
          (t.agent n).haltAt = if kind = .fetch then some addr else none) ∧ s.onlyAgent t n := by
  have hat' : (s.agentNow n).haltAt = none := (s.agentNow_proj n Agent.haltAt (fun _ => rfl) fun _ _ => rfl).trans hat
  have hlock := s.agentNow_proj n Agent.locked (fun _ => rfl) fun _ _ => rfl
  have hsup := s.agentNow_proj n Agent.suppress (fun _ => rfl) fun _ _ => rfl
  have hctrl : (s.agentNow n).get (AReg.A_CMP_CTRL.HALT k) = 1 :=
    (s.agentNow_get n (notPcnt_of_off (Nat.le_trans (by decide : 0x430 ≤ 0x438) (Nat.le_add_right _ _)))).trans hc
  obtain ⟨hpend, hstop, honly⟩ := (s.updated n).compares_match n k kind addr locked first
    (by rw [State.agent_updated, State.updated_fc, State.agentNow_cmpMatches, hm]) (by rw [State.agent_updated, hat'])
  rw [State.agent_updated] at hpend hstop
  obtain ⟨h1, h2⟩ := (s.agentNow n).comparatorHit_halts n s.fc k kind addr (s.cfg Reg.RUNCTL.LOCK_DEFER.COUNT) locked first hh hctrl
    (by rw [hsup, hs])
  exact ⟨by rw [hpend]; exact h1, fun hl hg hd => hstop.trans (h2 hl (hlock.trans hg) hd hat'),
    State.onlyAgent_trans (s.updated_onlyAgent n) honly⟩

/-- An access that the comparator does not select brings the agent up to date and nothing more. -/
theorem State.comparatorMiss_spec (s : State) {n : Nat} (k : Nat) (kind : AccessKind) (addr : Nat) (locked first : Bool)
    (hm : (s.agent n).cmpMatches s.fc k kind addr = false) : let t := (s.updated n).compares n k kind addr locked first
    (t.agent n).haltPend = (s.agent n).haltPend ∧ (t.agent n).cmp0Fc = (s.agent n).cmp0Fc ∧ t.brk = s.brk ∧ s.onlyAgent t n := by
  rw [(s.updated n).compares_none n k kind addr locked first (by rw [State.agent_updated, State.updated_fc, State.agentNow_cmpMatches, hm])]
  dsimp only
  rw [State.agent_updated]
  exact ⟨s.agentNow_proj n Agent.haltPend (fun _ => rfl) fun _ _ => rfl, s.agentNow_proj n Agent.cmp0Fc (fun _ => rfl) fun _ _ => rfl, rfl,
    s.updated_onlyAgent n⟩

end Comparators

/-! ### The trigger sequencer (R370, R373, R374) -/

section Trigger

/-- From `s` to `t` only agent `n` has changed, and its sequencer has not moved. -/
def State.sameTrig (s t : State) (n : Nat) : Prop :=
  s.onlyAgent t n ∧ (t.agent n).trig = (s.agent n).trig ∧ (t.agent n).trans = (s.agent n).trans

variable {s t u : State} {n : Nat}

theorem State.sameTrig_rfl (s : State) (n : Nat) : s.sameTrig s n := ⟨s.onlyAgent_rfl n, rfl, rfl⟩

theorem State.sameTrig_trans (h : s.sameTrig t n) (k : t.sameTrig u n) : s.sameTrig u n :=
  ⟨State.onlyAgent_trans h.1 k.1, k.2.1.trans h.2.1, k.2.2.trans h.2.2⟩

theorem State.sameTrig_encOnly (h : s.encOnly t n) : s.sameTrig t n :=
  ⟨State.encOnly_onlyAgent h, State.encOnly_proj h Agent.trig fun _ _ => rfl, State.encOnly_proj h Agent.trans fun _ _ => rfl⟩

theorem State.sameTrig_raiseEvent (s : State) (n code : Nat) : s.sameTrig (s.raiseEvent n code) n :=
  ⟨s.raiseEvent_onlyAgent n code, s.raiseEvent_proj n code Agent.trig fun _ _ => rfl, s.raiseEvent_proj n code Agent.trans fun _ _ => rfl⟩

theorem State.sameTrig_pcntAdd (s : State) (n fc k m : Nat) : s.sameTrig (s.setAgent n ((s.agent n).pcntAdd fc k m)) n := by
  refine ⟨s.onlyAgent_setAgent n _, ?_, ?_⟩
  all_goals
    rw [State.agent_setAgent_same]
    unfold Agent.pcntAdd
    dsimp only
    repeat' split
    all_goals rfl

theorem State.sameTrig_ite {c : Prop} [Decidable c] (h : s.sameTrig t n) (k : s.sameTrig u n) : s.sameTrig (if c then t else u) n := by
  split
  · exact h
  · exact k

/-- The entry actions of a trigger state leave the sequencer where it is. -/
theorem State.sameTrig_trigEntry (s : State) (n st : Nat) : s.sameTrig (s.trigEntry n st) n := by
  have hmod := fun (t : State) (f : Encoder → Encoder) => State.sameTrig_encOnly (t.encOnly_modEnc n f)
  have hflush : ∀ t : State, t.sameTrig (((t.encFlush n).gateEntry n 3).modEnc n (·.need srStart)) n := fun t =>
    State.sameTrig_trans (State.sameTrig_encOnly (t.encOnly_encFlush n))
      (State.sameTrig_trans (State.sameTrig_encOnly (State.encOnly_produce _ n _ _)) (hmod _ _))
  unfold State.trigEntry
  dsimp only
  generalize ht : (if (s.agent n).prog s.fc (AReg.A_TRIG_PROG.COUNT st) = 1 then s.setAgent n ((s.agent n).pcntAdd s.fc 1 1) else s) = t
  have hst : s.sameTrig t n := by
    rw [← ht]
    exact State.sameTrig_ite (s.sameTrig_pcntAdd n _ _ _) (s.sameTrig_rfl n)
  generalize hv : (if (s.agent n).prog t.fc (AReg.A_TRIG_PROG.EMIT st) = 1 then t.raiseEvent n 2 else t) = v
  have htv : t.sameTrig v n := by
    rw [← hv]
    exact State.sameTrig_ite (t.sameTrig_raiseEvent n 2) (t.sameTrig_rfl n)
  have hrfl := v.sameTrig_rfl n
  exact State.sameTrig_trans (State.sameTrig_trans hst htv) (State.sameTrig_ite hrfl
    (State.sameTrig_ite (State.sameTrig_ite (hflush v) (hmod v _))
      (State.sameTrig_ite (State.sameTrig_ite hrfl (hmod v _)) (State.sameTrig_ite (hmod v _) hrfl))))

/-- The sequencer moves to state `next`, and what its conditions latched is gone (R370, R371). -/
def Agent.moveTo (g : Agent) (next : Nat) : Agent :=
  { g with trig := next, trans := (g.trans + 1) % 65536, ovfLatch := false, armLatch := false, cmp0Fc := none, cmp1Fc := none }

/-- Agent `n`, up to date, moves to NEXT if the condition of its present trigger state holds. -/
def State.trigMove (s : State) (n : Nat) : State :=
  let g := s.agent n
  if g.condHolds s.fc then
    let next := g.prog s.fc (AReg.A_TRIG_PROG.NEXT g.trig)
    (s.setAgent n (g.moveTo next)).trigEntry n next
  else s

theorem exec_trigTransition {a : AgentId} (hc : (s.agentNow a.toNat).condHolds s.fc = true) (ha : s.agentActive a.toNat = true)
    (hs : (s.agent a.toNat).asleep = false) : exec (.trigTransition a) s = .next ((s.updated a.toNat).trigMove a.toNat) :=
  (if_pos ⟨(State.agentActive_iff.1 ha).1, rfl⟩).trans
    (congrArg _ ((if_neg (by simp [hc])).trans (State.whenExecutes_eq _ ha hs)))

theorem exec_trigTransition_idle {a : AgentId} (ht : agentType a.toNat ≠ 0)
    (h : (s.agentNow a.toNat).condHolds s.fc = false ∨ (s.agent a.toNat).asleep = true) : exec (.trigTransition a) s = .next s := by
  refine (if_pos ⟨ht, rfl⟩).trans (congrArg _ ?_)
  by_cases hc : (s.agentNow a.toNat).condHolds s.fc = true
  · rw [if_neg (by simp [hc])]
    exact State.whenExecutes_asleep _ (h.resolve_left (by simp [hc]))
  · rw [if_pos hc]

/-- The sequencer moves to NEXT of its state and counts the transition. -/
theorem State.trigMove_spec (hc : (s.agentNow n).condHolds s.fc = true) : let t := (s.updated n).trigMove n
    (t.agent n).trig = (s.agent n).prog s.fc (AReg.A_TRIG_PROG.NEXT (s.agent n).trig)
      ∧ (t.agent n).trans = ((s.agent n).trans + 1) % 65536 ∧ s.onlyAgent t n := by
  have htrig := s.agentNow_proj n Agent.trig (fun _ => rfl) fun _ _ => rfl
  have htrans := s.agentNow_proj n Agent.trans (fun _ => rfl) fun _ _ => rfl
  have hprog : (s.agentNow n).prog s.fc (AReg.A_TRIG_PROG.NEXT (s.agent n).trig)
      = (s.agent n).prog s.fc (AReg.A_TRIG_PROG.NEXT (s.agent n).trig) := by
    rw [Agent.prog, Agent.prog, s.agentNow_proj n Agent.progOld (fun _ => rfl) fun _ _ => rfl,
      s.agentNow_get n (f := AReg.A_TRIG_PROG.NEXT (s.agent n).trig) (notPcnt_of_off (by decide : 0x430 ≤ 0x450))]
  intro t
  have ht : t = ((s.updated n).setAgent n ((s.agentNow n).moveTo ((s.agent n).prog s.fc (AReg.A_TRIG_PROG.NEXT (s.agent n).trig)))).trigEntry n
      ((s.agent n).prog s.fc (AReg.A_TRIG_PROG.NEXT (s.agent n).trig)) := by
    simp only [t, State.trigMove, State.agent_updated, State.updated_fc, hc, if_true, htrig, hprog]
  obtain ⟨honly, h1, h2⟩ := State.sameTrig_trigEntry ((s.updated n).setAgent n
    ((s.agentNow n).moveTo ((s.agent n).prog s.fc (AReg.A_TRIG_PROG.NEXT (s.agent n).trig)))) n
    ((s.agent n).prog s.fc (AReg.A_TRIG_PROG.NEXT (s.agent n).trig))
  rw [State.agent_setAgent_same] at h1 h2
  rw [ht]
  exact ⟨h1, h2.trans (congrArg (fun k => (k + 1) % 65536) htrans),
    State.onlyAgent_trans (s.updated_onlyAgent n) (State.onlyAgent_trans (State.onlyAgent_setAgent _ n _) honly)⟩

end Trigger

/-- Settles O22: each row of an active unit is one change of its agent. -/
theorem unitsActWhileTheyExecute : Obligations.UnitsActWhileTheyExecute := by
  intro a s ht n
  refine ⟨fun addr data masked hmu _ hend => ⟨fun ha hw => ⟨fun hn => ?done, fun k hn hl => ?copies, fun k hn hl => ?stalls⟩, ?frozen⟩,
    fun hcu ha => ?spill, fun ctx ha => ?switch, fun k kind addr locked first ha => ⟨?hit, ?miss, ?asleep⟩, fun hc ha hs => ?move,
    exec_trigTransition_idle ht⟩
  case done =>
    obtain ⟨hcells, hdirty, honly⟩ := State.write_done_spec (w := rowWrite addr data masked) hn
    refine ⟨_, exec_granuleWrite_first hmu hend ha hw, fun i hi => ?_, fun j hj => ?_, hdirty, honly⟩
    · rw [hcells, writeCells_get, if_pos (by simp [rowWrite, hi])]
      simp [rowWrite]
    · rw [hcells, writeCells_get, if_neg (by simp only [rowWrite]; omega)]
  case copies => exact ⟨_, exec_granuleWrite_first hmu hend ha hw, State.write_copies_spec (w := rowWrite addr data masked) hn hl hw⟩
  case stalls => exact ⟨_, exec_granuleWrite_first hmu hend ha hw, State.write_stalls_spec (w := rowWrite addr data masked) hn hl hw rfl⟩
  case frozen => exact exec_granuleWrite_frozen hmu
  case spill =>
    obtain ⟨t, he, h⟩ := exec_accumulatorSpill hcu ha
    exact ⟨t, he, s.spill_spec n h⟩
  case switch => exact ⟨_, exec_contextSwitch ha, s.contextSwitch_spec n ctx.toNat⟩
  case hit =>
    intro hs hat hm hh hctrl hsup
    exact ⟨_, exec_comparatorMatch ha hs, s.comparatorMatch_spec k.toNat kind addr.toNat locked first hat hm hh hctrl hsup⟩
  case miss =>
    intro hm
    cases hs : (s.agent n).asleep
    · exact ⟨_, exec_comparatorMatch ha hs, s.comparatorMiss_spec k.toNat kind addr.toNat locked first hm⟩
    · exact ⟨s, exec_comparatorMatch_asleep ht hs, rfl, rfl, rfl, s.onlyAgent_rfl n⟩
  case asleep => exact exec_comparatorMatch_asleep ht
  case move => exact ⟨_, exec_trigTransition hc ha hs, State.trigMove_spec hc⟩

end Sys2Proof.Machine

namespace Sys2Proof.Machine

/-! ### An access of an agent's register through UNITWIN (R102 to R104) -/

section WindowAccess

variable {s t : State} {acc : Access} {n o r : Nat} {k : AccKind}

/-- The state in which the agent answers the access: the bank free again, nothing pending. -/
def State.windowTurn (s : State) (acc : Access) : State :=
  (((s.turn acc).setBusy acc).put Reg.UNITWIN.AGENT_STATE.PENDING 1).clearBusy.put Reg.UNITWIN.AGENT_STATE.PENDING 0

/-- The access has been sent to the agent. -/
def State.windowSent (s : State) (acc : Access) : State := ((s.turn acc).setBusy acc).put Reg.UNITWIN.AGENT_STATE.PENDING 1

/-- Source `x` has its answer, the bank is free, and no agent but `n` has changed. -/
def State.answered (s t : State) (x : Src) (n : Nat) : Prop :=
  (t.respOf x).isSome = true ∧ t.bank.busy = none ∧ ∀ b, b ≠ n → t.agent b = s.agent b

/-- From `s` to `t` agent `n` may change, and the bank serves nothing that it did not serve. -/
structure State.windowOnly (s t : State) (n : Nat) : Prop where
  busy : t.bank.busy = s.bank.busy
  held : t.bank.held = s.bank.held
  bsl : t.bsl = s.bsl
  others : ∀ b, b ≠ n → t.agent b = s.agent b

theorem State.windowOnly_rfl (s : State) (n : Nat) : s.windowOnly s n := ⟨rfl, rfl, rfl, fun _ _ => rfl⟩

theorem State.windowOnly.trans {u : State} (h : s.windowOnly t n) (g : t.windowOnly u n) : s.windowOnly u n :=
  ⟨g.busy.trans h.busy, g.held.trans h.held, g.bsl.trans h.bsl, fun b hb => (g.others b hb).trans (h.others b hb)⟩

theorem State.windowOnly_setAgent (s : State) (n : Nat) (g : Agent) : s.windowOnly (s.setAgent n g) n :=
  ⟨rfl, rfl, rfl, fun _ hb => s.agent_setAgent_ne g hb⟩

/-- A change of the agent that freezes or releases nothing. -/
theorem State.windowOnly_modAgent (s : State) (n : Nat) {f : Agent → Agent}
    (hf : (f (s.agentNow n)).frozen = (s.agentNow n).frozen) : s.windowOnly (s.modAgent n f) n := by
  have ho := fun b (hb : b ≠ n) => s.modAgent_agent_ne n (hf.trans (s.agentNow_frozen n)) hb
  obtain ⟨_, _, _, _, _, _, h⟩ := s.modAgent_eq n f
  refine ⟨?_, ?_, ?_, ho⟩ <;> rw [h]

@[simp] theorem State.windowTurn_agent (s : State) (acc : Access) (b : Nat) : (s.windowTurn acc).agent b = s.agent b := by
  obtain ⟨r, w, f, l, h, _⟩ := s.turn_eq acc
  rw [State.windowTurn, h]
  rfl

@[simp] theorem State.windowTurn_fc (s : State) (acc : Access) : (s.windowTurn acc).fc = s.fc := by
  obtain ⟨r, w, f, l, h, _⟩ := s.turn_eq acc
  rw [State.windowTurn, h]
  rfl

theorem State.windowTurn_bsl (s : State) (acc : Access) : (s.windowTurn acc).bsl = s.bsl := by
  obtain ⟨r, w, f, l, h, _⟩ := s.turn_eq acc
  rw [State.windowTurn, h]
  rfl

theorem State.windowTurn_bank (s : State) (acc : Access) : (s.windowTurn acc).bank.busy = none ∧ (s.windowTurn acc).bank.held = []
    ∧ (s.windowTurn acc).bank.stage = s.bank.stage := by
  simp only [State.windowTurn, State.turn, State.accessFc]
  split <;> exact ⟨rfl, rfl, rfl⟩

theorem State.windowTurn_stageOf (s : State) (acc : Access) (x : Src) (tag : Nat) :
    (s.windowTurn acc).stageOf x tag = s.stageOf x tag := by
  rw [State.stageOf, (s.windowTurn_bank acc).2.2, State.stageOf]

theorem State.turn_get (s : State) (acc : Access) (f : Fld) : (s.turn acc).get f = s.get f := by
  obtain ⟨_, _, _, _, h, _⟩ := s.turn_eq acc
  rw [h]
  rfl

theorem State.turn_power (s : State) (acc : Access) : (s.turn acc).power = s.power := by
  rw [State.power, State.turn_get, State.power]

/-- With nothing waiting nothing is served. -/
theorem State.serve_idle (hh : s.bank.held = []) (hq : s.bsl.reqs = []) : s.serve = s := by
  have hw : s.waiting = 0 := by simp [State.waiting, hh, hq]
  rw [State.serve, hw, State.serveN]

/-- The access is one of agent `n`'s register `r`, the agent answers it, and it is no _HI word of a pair (R102 to R104). -/
structure State.windowed (s : State) (acc : Access) (n r : Nat) (k : AccKind) : Prop where
  admits : s.admits acc = true
  agent : s.winAgent = n
  answers : s.agentAnswers = true
  reached : s.unreachable = false
  norm : acc.norm = (0x54000 + r, k)
  window : isWindow (0x54000 + r) = true
  pair : ∀ lo, agentPair (agentType n) r ≠ some (lo, true)
  via : acc.via = 0

/-- The access passes its checks and is sent to the agent. -/
theorem State.present_windowed (h : s.windowed acc n r k) :
    s.present acc = s.windowSent acc := by
  obtain ⟨had, hn, -, hu, hnorm, hwin, hpair, -⟩ := h
  simp only [State.admits, Bool.and_eq_true] at had
  obtain ⟨⟨hfree, hpow⟩, hpass⟩ := had
  rw [s.present_idle acc hfree hpow]
  simp only [State.passes, hnorm, Bool.and_eq_true] at hpass
  obtain ⟨⟨hoff, hlev⟩, hk⟩ := hpass
  have hu' : (s.turn acc).unreachable = false := by rw [State.unreachable, State.turn_power, ← State.unreachable, hu]
  have hty : agentPair (s.turn acc).winType (0x54000 + r - 0x54000) = agentPair (agentType n) r := by
    rw [State.winType, State.winAgent, State.turn_get, ← State.winAgent, hn, Nat.add_sub_cancel_left]
  have hsend : (s.turn acc).windowAccess acc (0x54000 + r) k = s.windowSent acc := by
    unfold State.windowAccess
    rw [hu', hty]
    rcases hp : agentPair (agentType n) r with _ | ⟨lo, _ | _⟩
    · rfl
    · rfl
    · exact absurd hp (hpair lo)
  rw [← hsend]
  unfold State.perform
  rw [hnorm]
  cases k with
  | rmw v d =>
    obtain ⟨hal, -⟩ := Bool.and_eq_true_iff.1 hk
    simp [hoff, hlev, hwin, hal]
  | _ => simp [hoff, hlev, hwin]

theorem State.windowSent_get (s : State) (acc : Access) {f : Fld} (hf : f.key ≠ Reg.UNITWIN.AGENT_STATE.PENDING.key) :
    (s.windowSent acc).get f = s.get f := by
  rw [State.windowSent, State.get_put_ne _ _ hf]
  exact s.turn_get acc f

theorem State.windowSent_winAgent (s : State) (acc : Access) : (s.windowSent acc).winAgent = s.winAgent :=
  s.windowSent_get acc (by decide)

theorem State.windowSent_answers (s : State) (acc : Access) : (s.windowSent acc).agentAnswers = s.agentAnswers := by
  unfold State.agentAnswers
  rw [State.windowSent_winAgent, s.windowSent_get acc (by decide), s.windowSent_get acc (by decide)]

/-- The access is answered by the agent at once (R103). -/
theorem State.winDo_windowed {x : Src} {k' : AccKind} (h : s.windowed { src := x, off := 0x54000 + o, kind := k } n r k') :
    s.winDo x n o k = ((s.windowSent { src := x, off := 0x54000 + o, kind := k }).windowAnswer
      { src := x, off := 0x54000 + o, kind := k } 0).serve := by
  have hb : (s.windowSent { src := x, off := 0x54000 + o, kind := k }).bank.busy = some { src := x, off := 0x54000 + o, kind := k } := rfl
  unfold State.winDo
  dsimp only
  rw [if_pos h.agent, State.present_windowed h, if_pos ⟨hb, by rw [State.windowSent_answers, h.answers]⟩]

/-- An ordinary read that is no pair's: what it shows, and its side effect. -/
theorem State.windowAnswer_read (h : s.windowed acc n r .read) (hp : agentPair (agentType n) r = none) :
    ∃ v, (s.windowSent acc).windowAnswer acc 0 = ((s.windowTurn acc).agentRead n r v false).answerOk acc v := by
  unfold State.windowAnswer
  rw [h.norm, State.windowSent_winAgent, h.agent]
  dsimp only
  rw [Nat.add_sub_cancel_left, hp]
  exact ⟨_, rfl⟩

/-- A write that is no pair's. -/
theorem State.windowAnswer_write {d : Word} (h : s.windowed acc n r (.write d)) (hp : agentPair (agentType n) r = none) :
    (s.windowSent acc).windowAnswer acc 0 = ((s.windowTurn acc).agentWrite n r d.toNat d.toNat).answerOk acc 0 := by
  unfold State.windowAnswer
  rw [h.norm, State.windowSent_winAgent, h.agent]
  dsimp only
  rw [Nat.add_sub_cancel_left, hp]
  rfl

/-- A write of a pair's _LO word, with the _HI word that the source has staged (R77). -/
theorem State.windowAnswer_writeLo {d : Word} {lo : Nat} (h : s.windowed acc n r (.write d))
    (hp : agentPair (agentType n) r = some (lo, false)) :
    (s.windowSent acc).windowAnswer acc 0 = (match s.stageOf acc.src (agentTag n lo) with
      | some hi => (((s.windowTurn acc).agentWrite n lo d.toNat 0).agentWrite n (lo + 4) hi 0).stageDrop acc.src
      | none => (s.windowTurn acc).agentWrite n lo d.toNat 0).answerOk acc 0 := by
  unfold State.windowAnswer
  rw [h.norm, State.windowSent_winAgent, h.agent, ← s.windowTurn_stageOf acc]
  dsimp only
  rw [Nat.add_sub_cancel_left, hp]
  rfl

/-- A write through the SET view (R61, R63). -/
theorem State.windowAnswer_set {d : Word} (h : s.windowed acc n r (.rmw .set d)) :
    ∃ v, (s.windowSent acc).windowAnswer acc 0 = ((s.windowTurn acc).agentWrite n r v d.toNat).answerOk acc 0 := by
  unfold State.windowAnswer
  rw [h.norm, State.windowSent_winAgent, h.agent]
  dsimp only
  rw [Nat.add_sub_cancel_left]
  exact ⟨_, rfl⟩

/-- An answered access of the window changes what the agent does with it, and nothing waits behind it. -/
theorem State.answered_serve (h : s.windowed acc n r k) {u : State} (ho : (s.windowTurn acc).windowOnly u n) (v : Nat) :
    s.answered (u.answerOk acc v).serve acc.src n ∧ ∀ b, (u.answerOk acc v).serve.agent b = u.agent b := by
  obtain ⟨hbusy, hheld, -⟩ := s.windowTurn_bank acc
  have hfree := h.admits
  simp only [State.admits, State.bankFree, Bool.and_eq_true, beq_iff_eq] at hfree
  have hserve : (u.answerOk acc v).serve = u.answerOk acc v := by
    refine State.serve_idle ?_ ?_ <;> simp only [State.answerOk, State.answer, h.via]
    · exact ho.held.trans hheld
    · exact (congrArg Bsl.reqs (ho.bsl.trans (s.windowTurn_bsl acc))).trans hfree.1.1.2
  rw [hserve]
  simp only [State.answered, State.answerOk, State.answer, h.via]
  refine ⟨⟨?_, ho.busy.trans hbusy, fun b hb => (ho.others b hb).trans (s.windowTurn_agent acc b)⟩, fun _ => rfl⟩
  simp [State.respOf, List.find?_append]

end WindowAccess
end Sys2Proof.Machine

namespace Sys2Proof.Machine

/-! ### The agent registers that the window reaches (R41, R43, R55, R74, R214, R369, R436, R454, R589) -/

section AgentRegisters

variable {s : State} {x : Src} {n o r v : Nat} {k k' : AccKind}

/-- An access of source `x` to the register at page offset `o`. -/
def agentAccess (x : Src) (o : Nat) (k : AccKind) : Access := { src := x, off := 0x54000 + o, kind := k }

/-- What the agent does with the access is what becomes of it. -/
theorem State.winDo_acts {u : State} (h : s.windowed (agentAccess x o k) n r k')
    (ha : (s.windowSent (agentAccess x o k)).windowAnswer (agentAccess x o k) 0 = u.answerOk (agentAccess x o k) v)
    (ho : (s.windowTurn (agentAccess x o k)).windowOnly u n) :
    s.answered (s.winDo x n o k) x n ∧ (s.winDo x n o k).agent n = u.agent n := by
  obtain ⟨hs, hu⟩ := State.answered_serve h ho v
  have hd : s.winDo x n o k = (u.answerOk (agentAccess x o k) v).serve := by
    rw [← ha]
    exact State.winDo_windowed h
  rw [hd]
  exact ⟨hs, hu n⟩

/-- The access changes agent `n` by `f`. -/
theorem State.winDo_modAgent {f : Agent → Agent} (h : s.windowed (agentAccess x o k) n r k')
    (hf : ∀ g : Agent, (f g).frozen = g.frozen)
    (ha : (s.windowSent (agentAccess x o k)).windowAnswer (agentAccess x o k) 0
      = ((s.windowTurn (agentAccess x o k)).modAgent n f).answerOk (agentAccess x o k) v) :
    s.answered (s.winDo x n o k) x n
      ∧ (s.winDo x n o k).agent n = ((s.windowTurn (agentAccess x o k)).modAgent n f).agent n :=
  State.winDo_acts h ha (State.windowOnly_modAgent _ n (hf _))

/-! #### Writing fields -/

@[simp] theorem Agent.putWord_frozen (g : Agent) (fs : List Fld) (v : Nat) : (g.putWord fs v).frozen = g.frozen := by
  unfold Agent.putWord
  induction fs generalizing g with
  | nil => rfl
  | cons f fs ih => exact (ih _).trans rfl

/-- Writing fields of a register touches the registers only. -/
theorem Agent.putWord_eq (g : Agent) (fs : List Fld) (v : Nat) : ∃ r, g.putWord fs v = { g with regs := r } := by
  unfold Agent.putWord
  induction fs generalizing g with
  | nil => exact ⟨_, rfl⟩
  | cons f fs ih =>
    obtain ⟨r, h⟩ := ih (g.put f (bits v f.hi f.lo))
    exact ⟨r, h⟩

theorem Agent.putWord_get_ne (g : Agent) {fs : List Fld} (v : Nat) {k : Fld} (h : k.key ∉ fs.map Fld.key) :
    (g.putWord fs v).get k = g.get k := by
  unfold Agent.putWord
  induction fs generalizing g with
  | nil => rfl
  | cons f fs ih =>
    simp only [List.map_cons, List.mem_cons, not_or] at h
    exact (ih _ h.2).trans (Agent.get_put_ne _ _ h.1)

theorem bits_mod_width (v : Nat) (f : Fld) : bits v f.hi f.lo % 2 ^ f.width = bits v f.hi f.lo :=
  Nat.mod_mod _ _

/-- Each field of the register reads its bits of the word written. -/
theorem Agent.putWord_get (g : Agent) {fs : List Fld} (v : Nat) (hd : (fs.map Fld.key).Nodup) {f : Fld} (hf : f ∈ fs) :
    (g.putWord fs v).get f = bits v f.hi f.lo := by
  induction fs generalizing g with
  | nil => exact absurd hf (by simp)
  | cons e fs ih =>
    simp only [List.map_cons, List.nodup_cons] at hd
    rcases List.mem_cons.1 hf with rfl | hf
    · refine (Agent.putWord_get_ne _ v hd.1).trans ((Agent.get_put_same _ _ _).trans ?_)
      exact bits_mod_width v f
    · exact ih _ hd.2 hf

/-! #### A_CTRL -/

/-- Writing the self-clearing bits `d` of A_CTRL through the SET view (R61). -/
theorem State.ctrlSet {d : Word} (h : s.windowed (agentAccess x o k) n 0x408 (.rmw .set d)) : ∃ v,
    s.answered (s.winDo x n o k) x n ∧ (s.winDo x n o k).agent n = ((s.windowTurn (agentAccess x o k)).modAgent n
      (fun g => (g.putWord (agentFields (agentType n) 0x408) v).ctrlBits s.fc d.toNat)).agent n := by
  obtain ⟨v, ha⟩ := State.windowAnswer_set h
  refine ⟨v, State.winDo_modAgent (v := 0) h ?_ ?_⟩
  · intro g
    unfold Agent.ctrlBits
    dsimp only
    repeat' split
    all_goals exact g.putWord_frozen _ v
  · rw [ha]
    exact congrArg (fun c => ((s.windowTurn (agentAccess x o k)).modAgent n
      (fun g => (g.putWord (agentFields (agentType n) 0x408) v).ctrlBits c d.toNat)).answerOk _ 0) (s.windowTurn_fc _)

/-- A register's access in the base view is the access itself. -/
theorem agentAccess_norm (x : Src) (k : AccKind) (h : o < 0x1000) : (agentAccess x o k).norm = (0x54000 + o, k) := by
  have hv : offView (0x54000 + o) = none := by
    have hz : (0x54000 + o) % 0x4000 / 0x1000 = 0 := by omega
    rw [offView, hz]
    rfl
  have hb : offBase (0x54000 + o) = 0x54000 + o := by
    unfold offBase
    omega
  simp [agentAccess, Access.norm, hv, hb]

/-- A write in the SET view is the read-modify-write of the register. -/
theorem agentAccess_norm_set (x : Src) (d : Word) (h : o < 0x1000) :
    (agentAccess x (0x1000 + o) (.write d)).norm = (0x54000 + o, .rmw .set d) := by
  have hv : offView (0x54000 + (0x1000 + o)) = some .set := by
    have hz : (0x54000 + (0x1000 + o)) % 0x4000 / 0x1000 = 1 := by omega
    rw [offView, hz]
    rfl
  have hb : offBase (0x54000 + (0x1000 + o)) = 0x54000 + o := by
    unfold offBase
    omega
  simp [agentAccess, Access.norm, hv, hb]

/-- The selected agent answers an access of its register. -/
theorem State.windowed_of (hadm : s.admits (agentAccess x o k) = true) (hn : s.winAgent = n) (ha : s.agentAnswers = true)
    (hu : s.unreachable = false) (hnorm : (agentAccess x o k).norm = (0x54000 + r, k'))
    (hw : isWindow (0x54000 + r) = true) (hp : ∀ lo, agentPair (agentType n) r ≠ some (lo, true)) :
    s.windowed (agentAccess x o k) n r k' :=
  ⟨hadm, hn, ha, hu, hnorm, hw, hp, rfl⟩

/-- A register below the unit's own is no word of a pair. -/
theorem agentPair_low (t : Nat) (h : r < 0x4A0) : agentPair t r = none := by
  unfold agentPair inRun
  rw [if_neg (by omega), if_neg (by omega), if_neg]
  simp
  omega

theorem Agent.ctrlBits_pcntReset (g : Agent) (fc : Nat) :
    g.ctrlBits fc (16 : Word).toNat = (g.put (AReg.A_PCNT 0) (g.pcntInc fc 0)).put (AReg.A_PCNT 1) (g.pcntInc fc 1) := rfl

theorem Agent.putWord_pcntInc (g : Agent) (fs : List Fld) (v fc i : Nat) : (g.putWord fs v).pcntInc fc i = g.pcntInc fc i := by
  obtain ⟨r, h⟩ := g.putWord_eq fs v
  rw [h]
  rfl

/-- What the agent of this fc has counted in it. -/
theorem State.agentNow_pcntInc (s : State) (n fc i : Nat) : (s.agentNow n).pcntInc fc i = (s.agent n).pcntInc fc i :=
  s.agentNow_proj n (fun g => g.pcntInc fc i) (fun _ => rfl) fun _ _ => rfl

theorem State.windowTurn_pcntInc (s : State) (acc : Access) (n fc i : Nat) :
    ((s.windowTurn acc).agentNow n).pcntInc fc i = (s.agentNow n).pcntInc fc i := by
  rw [State.agentNow_pcntInc, State.agentNow_pcntInc, State.windowTurn_agent]

/-- An MU's A_DIRTY_CTRL is written and all its granules are clean (R43). -/
def Agent.cleanWith (v : Nat) (g : Agent) : Agent := { g.putWord (agentFields 2 0x478) v with dirty := [] }

/-- A_SHADOW_SEL goes on to the shadow's next word (R55). -/
def Agent.nextShadowWord (n : Nat) (g : Agent) : Agent :=
  g.put AReg.A_SHADOW_SEL.WORD
    (if shadowBytes n / 4 ≤ g.get AReg.A_SHADOW_SEL.WORD + 1 then 0 else g.get AReg.A_SHADOW_SEL.WORD + 1)

/-- GW_DIRTY_SEL goes on to the next dirty page (R74). -/
def Agent.nextDirtyPage (g : Agent) : Agent := g.put AReg.GW_DIRTY_SEL (g.get AReg.GW_DIRTY_SEL + 1)

theorem State.agentRead_shadow (t : State) (n w : Nat) : t.agentRead n 0x484 w false = t.modAgent n (Agent.nextShadowWord n) := by
  unfold State.agentRead
  exact if_pos ⟨rfl, by decide⟩

theorem State.agentRead_dirty (t : State) (hg : gwType (agentType n) = true) (w : Nat) :
    t.agentRead n 0x4A8 w false = t.modAgent n Agent.nextDirtyPage := by
  unfold State.agentRead
  rw [if_neg (by simp)]
  exact if_pos ⟨rfl, hg, by decide⟩

section Control

variable (hn : s.winAgent = n) (ha : s.agentAnswers = true) (hu : s.unreachable = false)

include hn ha hu

/-- A write of A_CTRL's SET view reaches the agent. -/
theorem State.windowed_ctrl {d : Word} (hadm : s.admits (agentAccess x 0x1408 (.write d)) = true) :
    s.windowed (agentAccess x 0x1408 (.write d)) n 0x408 (.rmw .set d) :=
  State.windowed_of hadm hn ha hu (agentAccess_norm_set x d (o := 0x408) (by decide)) (by decide) (by simp [agentPair_low])

theorem State.clrEdges_spec (hadm : s.admits (agentAccess x 0x1408 (.write 8)) = true) :
    s.answered (s.winDo x n 0x1408 (.write 8)) x n ∧ ((s.winDo x n 0x1408 (.write 8)).agent n).edges = []
      ∧ ((s.winDo x n 0x1408 (.write 8)).agent n).edgeOvf = false := by
  obtain ⟨v, h1, h2⟩ := State.ctrlSet (State.windowed_ctrl hn ha hu hadm)
  rw [h2]
  refine ⟨h1, ?_, ?_⟩
  · obtain ⟨d, hd⟩ := (State.modAgent_edges _ _ _).1
    rw [hd]
    rfl
  · rw [State.modAgent_proj _ _ _ Agent.edgeOvf fun _ => rfl]
    rfl

theorem State.clrHigh_spec (hadm : s.admits (agentAccess x 0x1408 (.write 4)) = true) :
    s.answered (s.winDo x n 0x1408 (.write 4)) x n ∧ ((s.winDo x n 0x1408 (.write 4)).agent n).skidHigh = 0 := by
  obtain ⟨v, h1, h2⟩ := State.ctrlSet (State.windowed_ctrl hn ha hu hadm)
  rw [h2]
  refine ⟨h1, ?_⟩
  rw [State.modAgent_proj _ _ _ Agent.skidHigh fun _ => rfl]
  rfl

theorem State.trigReset_spec (hadm : s.admits (agentAccess x 0x1408 (.write 2)) = true) :
    s.answered (s.winDo x n 0x1408 (.write 2)) x n ∧ ((s.winDo x n 0x1408 (.write 2)).agent n).trig = 0
      ∧ ((s.winDo x n 0x1408 (.write 2)).agent n).trigResetFc = some s.fc := by
  obtain ⟨v, h1, h2⟩ := State.ctrlSet (State.windowed_ctrl hn ha hu hadm)
  rw [h2]
  refine ⟨h1, ?_, ?_⟩
  · rw [State.modAgent_proj _ _ _ Agent.trig fun _ => rfl]
    rfl
  · rw [State.modAgent_proj _ _ _ Agent.trigResetFc fun _ => rfl]
    rfl

theorem State.pcntReset_spec (hadm : s.admits (agentAccess x 0x1408 (.write 16)) = true) :
    s.answered (s.winDo x n 0x1408 (.write 16)) x n
      ∧ ((s.winDo x n 0x1408 (.write 16)).agent n).get (AReg.A_PCNT 0) = (s.agentNow n).pcntInc s.fc 0 % 2 ^ 32
      ∧ ((s.winDo x n 0x1408 (.write 16)).agent n).get (AReg.A_PCNT 1) = (s.agentNow n).pcntInc s.fc 1 % 2 ^ 32 := by
  obtain ⟨v, h1, h2⟩ := State.ctrlSet (State.windowed_ctrl hn ha hu hadm)
  rw [h2]
  have hinc := s.windowTurn_pcntInc (agentAccess x 0x1408 (.write 16)) n s.fc
  refine ⟨h1, ?_, ?_⟩
  · rw [State.modAgent_proj _ _ _ (fun g => g.get (AReg.A_PCNT 0)) fun _ => rfl, Agent.ctrlBits_pcntReset,
      Agent.get_put_ne _ _ (by decide), Agent.get_put_same, Agent.putWord_pcntInc, hinc]
    rfl
  · rw [State.modAgent_proj _ _ _ (fun g => g.get (AReg.A_PCNT 1)) fun _ => rfl, Agent.ctrlBits_pcntReset,
      Agent.get_put_same, Agent.putWord_pcntInc, hinc]
    rfl

/-- A write of A_DIRTY_CTRL's SET view with DIRTY_CLEAR at 1 reaches an MU (R43). -/
theorem State.dirtyClear_spec (ht : agentType n = 2) (hadm : s.admits (agentAccess x 0x1478 (.write 4)) = true) :
    s.answered (s.winDo x n 0x1478 (.write 4)) x n ∧ ((s.winDo x n 0x1478 (.write 4)).agent n).dirty = [] := by
  have hw : s.windowed (agentAccess x 0x1478 (.write 4)) n 0x478 (.rmw .set 4) :=
    State.windowed_of hadm hn ha hu (agentAccess_norm_set x 4 (o := 0x478) (by decide)) (by decide) (by simp [agentPair_low])
  obtain ⟨v, hv⟩ := State.windowAnswer_set hw
  have hwr : ∀ t : State, t.agentWrite n 0x478 v (BitVec.toNat (4 : Word)) = t.modAgent n (Agent.cleanWith v) := by
    intro t
    unfold State.agentWrite
    rw [ht]
    rfl
  rw [hwr] at hv
  obtain ⟨h1, h2⟩ := State.winDo_modAgent (f := Agent.cleanWith v) hw (fun g => g.putWord_frozen _ v) hv
  rw [h2, State.modAgent_proj _ _ _ Agent.dirty fun _ => rfl]
  exact ⟨h1, rfl⟩

/-- An ordinary read of a register that is no pair's and has an effect `f` on the agent (R55, R74). -/
theorem State.windowRead_spec {f : Agent → Agent} (hr : r < 0x800) (hr' : 0x400 ≤ r) (hp : agentPair (agentType n) r = none)
    (hf : ∀ g : Agent, (f g).frozen = g.frozen) (hact : ∀ (t : State) w, t.agentRead n r w false = t.modAgent n f)
    (hadm : s.admits (agentAccess x r .read) = true) : ∃ t : State, t.agent n = s.agent n ∧
    s.answered (s.winDo x n r .read) x n ∧ (s.winDo x n r .read).agent n = (t.modAgent n f).agent n := by
  have hw : s.windowed (agentAccess x r .read) n r .read :=
    State.windowed_of hadm hn ha hu (agentAccess_norm x _ (by omega)) (by simp [isWindow]; omega) (by simp [hp])
  obtain ⟨v, hv⟩ := State.windowAnswer_read hw hp
  rw [hact] at hv
  exact ⟨s.windowTurn (agentAccess x r .read), s.windowTurn_agent _ n, State.winDo_modAgent hw hf hv⟩

theorem State.shadowDataRead_spec (hadm : s.admits (agentAccess x 0x484 .read) = true) :
    s.answered (s.winDo x n 0x484 .read) x n ∧ ((s.winDo x n 0x484 .read).agent n).get AReg.A_SHADOW_SEL.WORD
      = (if shadowBytes n / 4 ≤ (s.agent n).get AReg.A_SHADOW_SEL.WORD + 1 then 0
          else ((s.agent n).get AReg.A_SHADOW_SEL.WORD + 1) % 2 ^ AReg.A_SHADOW_SEL.WORD.width) := by
  obtain ⟨t, ht, h1, h2⟩ := State.windowRead_spec (f := Agent.nextShadowWord n) hn ha hu (by decide) (by decide)
    (agentPair_low _ (by decide)) (fun _ => rfl) (fun t w => t.agentRead_shadow n w) hadm
  refine ⟨h1, ?_⟩
  rw [h2, State.modAgent_proj _ _ _ (fun g => g.get AReg.A_SHADOW_SEL.WORD) fun _ => rfl, Agent.nextShadowWord, Agent.get_put_same,
    t.agentNow_get n (notPcnt_of_off (by decide)), ht]
  split
  · exact Nat.zero_mod _
  · rfl

theorem State.gwDirtyDataRead_spec (hg : gwType (agentType n) = true) (hadm : s.admits (agentAccess x 0x4A8 .read) = true) :
    s.answered (s.winDo x n 0x4A8 .read) x n ∧ ((s.winDo x n 0x4A8 .read).agent n).get AReg.GW_DIRTY_SEL
      = ((s.agent n).get AReg.GW_DIRTY_SEL + 1) % 2 ^ AReg.GW_DIRTY_SEL.width := by
  have hp : agentPair (agentType n) 0x4A8 = none := by
    simp only [gwType, Bool.or_eq_true, beq_iff_eq] at hg
    rcases hg with h | h <;> rw [h] <;> rfl
  obtain ⟨t, ht, h1, h2⟩ := State.windowRead_spec (f := Agent.nextDirtyPage) hn ha hu (by decide) (by decide) hp (fun _ => rfl)
    (fun t w => t.agentRead_dirty hg w) hadm
  refine ⟨h1, ?_⟩
  rw [h2, State.modAgent_proj _ _ _ (fun g => g.get AReg.GW_DIRTY_SEL) fun _ => rfl, Agent.nextDirtyPage, Agent.get_put_same,
    t.agentNow_get n (notPcnt_of_off (by decide)), ht]

end Control

end AgentRegisters
end Sys2Proof.Machine

namespace Sys2Proof.Machine

/-! ### A CP's registers and a tap's configuration (R214, R454) -/

section CpRegisters

variable {s t : State} {x : Src} {n r : Nat} {k : AccKind}

/-- A register of a halted CP is written. -/
def Agent.cpSet (r v : Nat) (g : Agent) : Agent := { g.putWord [⟨r, 31, 0, 0⟩] v with known := insertSorted r g.known }

theorem Agent.cpSet_get (g : Agent) (r v : Nat) : (g.cpSet r v).get ⟨r, 31, 0, 0⟩ = v % 2 ^ 32 := by
  refine (Agent.putWord_get g v (by simp) List.mem_cons_self).trans ?_
  simp [bits]

theorem Agent.cpSet_get_ne (g : Agent) {r q : Nat} (v : Nat) (h : q ≠ r) : (g.cpSet r v).get ⟨q, 31, 0, 0⟩ = g.get ⟨q, 31, 0, 0⟩ := by
  refine Agent.putWord_get_ne g v ?_
  simp only [List.map_cons, List.map_nil, List.mem_singleton, Fld.key]
  omega

theorem agentFields_cp (h : inRun r 0x4B0 0x5B4 = true) : agentFields 6 r = [⟨r, 31, 0, 0⟩] := by
  have hb : 0x4B0 ≤ r ∧ r ≤ 0x5B4 := by simpa [inRun] using h
  have hlow : inRun r 0x430 0x44C = false := by simp [inRun]; omega
  unfold agentFields
  rw [hlow]
  simp only [if_neg (show ¬ r = 0x408 by omega), if_neg (show ¬ (r = 0x420 ∨ r = 0x424) by omega),
    if_neg (show ¬ (r = 0x428 ∨ r = 0x42C) by omega), if_neg (show ¬ r = 0x450 by omega), if_neg (show ¬ r = 0x458 by omega),
    if_neg (show ¬ r = 0x464 by omega), if_neg (show ¬ r = 0x480 by omega)]
  simp [h, show r ≠ 0x4A4 by omega]

/-- A CP's register is written only while the CP is halted and executes no feed (R214). -/
theorem State.agentWrite_cp (t : State) (h6 : agentType n = 6) (h : inRun r 0x4B0 0x5B4 = true) (v cmd : Nat) :
    t.agentWrite n r v cmd = if (t.agent n).halted = true ∧ ¬ (t.agent n).executing = true then t.modAgent n (Agent.cpSet r v) else t := by
  have hb : 0x4B0 ≤ r ∧ r ≤ 0x5B4 := by simpa [inRun] using h
  unfold State.agentWrite
  rw [h6]
  dsimp only
  rw [agentFields_cp h]
  rw [if_neg (show ¬ r = 0x408 by omega), if_neg (show ¬ (r = 0x428 ∨ r = 0x42C) by omega), if_neg (show ¬ r = 0x450 by omega),
    if_neg (by simp), if_neg (by simp), if_neg (show ¬ r = 0x490 by omega), if_pos ⟨rfl, h⟩]
  rfl

theorem State.windowOnly_cpSet (t : State) (n r v : Nat) : t.windowOnly (t.modAgent n (Agent.cpSet r v)) n :=
  t.windowOnly_modAgent n (Agent.putWord_frozen _ _ v)

theorem State.cpSet_get (t : State) (n r v : Nat) : ((t.modAgent n (Agent.cpSet r v)).agent n).get ⟨r, 31, 0, 0⟩ = v % 2 ^ 32 := by
  rw [State.modAgent_proj _ _ _ (fun g => g.get ⟨r, 31, 0, 0⟩) fun _ => rfl, Agent.cpSet_get]

theorem State.cpSet_get_ne (t : State) (n : Nat) {r q : Nat} (v : Nat) (h : q ≠ r) (hq : 0x430 ≤ q) :
    ((t.modAgent n (Agent.cpSet r v)).agent n).get ⟨q, 31, 0, 0⟩ = (t.agent n).get ⟨q, 31, 0, 0⟩ := by
  rw [State.modAgent_proj _ _ _ (fun g => g.get ⟨q, 31, 0, 0⟩) fun _ => rfl, Agent.cpSet_get_ne _ _ h, t.agentNow_get n (notPcnt_of_off hq)]

theorem State.cpSet_halted (t : State) (n r v : Nat) : ((t.modAgent n (Agent.cpSet r v)).agent n).halted = (t.agent n).halted := by
  rw [State.modAgent_proj _ _ _ Agent.halted fun _ => rfl, ← State.agentNow_halted]
  rfl

theorem State.cpSet_executing (t : State) (n r v : Nat) :
    ((t.modAgent n (Agent.cpSet r v)).agent n).executing = (t.agent n).executing := by
  rw [State.modAgent_proj _ _ _ Agent.executing fun _ => rfl, ← t.agentNow_proj n Agent.executing (fun _ => rfl) fun _ _ => rfl]
  rfl

/-- What a write of a pair's _LO word does to a CP, with the _HI word staged or not. -/
def State.cpWrite (t : State) (n r : Nat) (d : Word) (x : Src) (hi : Option Nat) : State :=
  match hi with
  | some hi => ((t.agentWrite n r d.toNat 0).agentWrite n (r + 4) hi 0).stageDrop x
  | none => t.agentWrite n r d.toNat 0

/-- A CP that runs keeps its registers (R214). -/
theorem State.cpWrite_running (t : State) (h6 : agentType n = 6) (h : inRun r 0x4B0 0x5B0 = true) (d : Word) (hi : Option Nat)
    (hh : (t.agent n).halted = false) : t.windowOnly (t.cpWrite n r d x hi) n ∧ (t.cpWrite n r d x hi).agent n = t.agent n := by
  have hb : 0x4B0 ≤ r ∧ r ≤ 0x5B0 := by simpa [inRun] using h
  have keep : ∀ q v, 0x4B0 ≤ q → q ≤ 0x5B4 → t.agentWrite n q v 0 = t := by
    intro q v h1 h2
    rw [t.agentWrite_cp h6 (by simp [inRun]; omega), if_neg (by simp [hh])]
  cases hi with
  | none =>
    rw [State.cpWrite, keep r _ hb.1 (by omega)]
    exact ⟨t.windowOnly_rfl n, rfl⟩
  | some hi =>
    rw [State.cpWrite, keep r _ hb.1 (by omega), keep (r + 4) _ (by omega) (by omega)]
    exact ⟨⟨rfl, rfl, rfl, fun _ _ => rfl⟩, rfl⟩

/-- A halted CP that executes no feed has its registers written (R214). -/
theorem State.cpWrite_halted (t : State) (h6 : agentType n = 6) (h : inRun r 0x4B0 0x5B0 = true) (d : Word) (hi : Option Nat)
    (hh : (t.agent n).halted = true) (he : (t.agent n).executing = false) : t.windowOnly (t.cpWrite n r d x hi) n
      ∧ ((t.cpWrite n r d x hi).agent n).get ⟨r, 31, 0, 0⟩ = d.toNat
      ∧ ∀ w, hi = some w → ((t.cpWrite n r d x hi).agent n).get ⟨r + 4, 31, 0, 0⟩ = w % 2 ^ 32 := by
  have hb : 0x4B0 ≤ r ∧ r ≤ 0x5B0 := by simpa [inRun] using h
  have hd : d.toNat % 2 ^ 32 = d.toNat := Nat.mod_eq_of_lt d.isLt
  have wr : ∀ (u : State) q v, 0x4B0 ≤ q → q ≤ 0x5B4 → (u.agent n).halted = true → (u.agent n).executing = false →
      u.agentWrite n q v 0 = u.modAgent n (Agent.cpSet q v) := by
    intro u q v h1 h2 hu hv
    rw [u.agentWrite_cp h6 (by simp [inRun]; omega), if_pos (by simp [hu, hv])]
  have hlo := wr t r d.toNat hb.1 (by omega) hh he
  cases hi with
  | none =>
    rw [State.cpWrite, hlo, State.cpSet_get, hd]
    exact ⟨t.windowOnly_cpSet n r _, rfl, by simp⟩
  | some hi =>
    have hhi := wr (t.modAgent n (Agent.cpSet r d.toNat)) (r + 4) hi (by omega) (by omega)
      (by rw [State.cpSet_halted, hh]) (by rw [State.cpSet_executing, he])
    rw [State.cpWrite, hlo, hhi]
    have hdrop : ∀ (u : State), (u.stageDrop x).agent n = u.agent n := fun _ => rfl
    have hdo : ∀ (u : State), u.windowOnly (u.stageDrop x) n := fun _ => ⟨rfl, rfl, rfl, fun _ _ => rfl⟩
    rw [hdrop, State.cpSet_get, State.cpSet_get_ne _ _ _ (by omega) (by omega), State.cpSet_get, hd]
    refine ⟨((t.windowOnly_cpSet n r _).trans (State.windowOnly_cpSet _ n (r + 4) hi)).trans (hdo _), rfl, fun w hw => ?_⟩
    rw [Option.some.inj hw]

variable (hn : s.winAgent = n) (ha : s.agentAnswers = true) (hu : s.unreachable = false)

include hn ha hu

/-- A write of a CP's register pair reaches the CP. -/
theorem State.cpRegister_spec {d : Word} (h6 : agentType n = 6) (hr : inRun r 0x4B0 0x5B0 = true) (h8 : r % 8 = 0)
    (hadm : s.admits (agentAccess x r (.write d)) = true) : ∃ t : State, t.agent n = s.agent n ∧
      (t.windowOnly (t.cpWrite n r d x (s.stageOf x (agentTag n r))) n →
        s.answered (s.winDo x n r (.write d)) x n
          ∧ (s.winDo x n r (.write d)).agent n = (t.cpWrite n r d x (s.stageOf x (agentTag n r))).agent n) := by
  have hb : 0x4B0 ≤ r ∧ r ≤ 0x5B0 := by simpa [inRun] using hr
  have hrun : inRun r 0x4B0 0x5C4 = true := by simp [inRun]; omega
  have hp : agentPair (agentType n) r = some (r, false) := by
    rw [h6]
    unfold agentPair
    rw [if_neg (by omega), if_neg (by omega), if_pos ⟨rfl, hrun⟩, h8]
    rfl
  have hw : s.windowed (agentAccess x r (.write d)) n r (.write d) :=
    State.windowed_of hadm hn ha hu (agentAccess_norm x _ (by omega)) (by simp [isWindow]; omega) (by simp [hp])
  have hv := State.windowAnswer_writeLo hw hp
  exact ⟨s.windowTurn (agentAccess x r (.write d)), s.windowTurn_agent _ n, State.winDo_acts hw hv⟩

end CpRegisters
section TapConfig

variable {s : State} {x : Src} {n : Nat}

theorem State.windowOnly_tapSums (s : State) (m : TapStats) (n : Nat) : s.windowOnly (s.tapSums m).2.2 n := by
  unfold State.tapSums
  dsimp only
  split <;> split <;> exact ⟨rfl, rfl, rfl, fun _ _ => rfl⟩

/-- A close changes the tap only. -/
theorem State.windowOnly_closeTap (s : State) (n cause tag : Nat) : s.windowOnly (s.closeTap n cause tag) n := by
  unfold State.closeTap
  dsimp only
  split
  · exact s.windowOnly_rfl n
  · split
    · exact s.windowOnly_setAgent n _
    · exact (s.windowOnly_tapSums _ n).trans (State.windowOnly_setAgent _ n _)

/-- A new configuration changes the agent only, and its registers are as `f` makes them (R454). -/
theorem State.tapReconfigure_spec (s : State) (n : Nat) (f : Agent → Agent) : s.windowOnly (s.tapReconfigure n f) n
    ∧ ∃ g, ((s.tapReconfigure n f).agent n).regs = (f g).regs := by
  unfold State.tapReconfigure
  dsimp only
  refine ⟨(s.windowOnly_closeTap n _ _).trans (State.windowOnly_setAgent _ n _),
    (s.closeTap n tcConfig (s.tapTag (s.agent n).tap tcConfig)).agent n, ?_⟩
  rw [State.agent_setAgent_same]

theorem agentFields_tap_nodup (fmt : Bool) : ((agentFields 2 (if fmt then 0x474 else 0x470)).map Fld.key).Nodup := by
  cases fmt <;> decide

/-- A_TAP_CTRL or A_TAP_FMT of an MU is written (R454). -/
theorem State.tapConfigWrite_spec {fmt : Bool} {d : Word} (hn : s.winAgent = n) (ha : s.agentAnswers = true)
    (hu : s.unreachable = false) (ht : agentType n = 2)
    (hadm : s.admits (agentAccess x (if fmt then 0x474 else 0x470) (.write d)) = true) :
    s.answered (s.winDo x n (if fmt then 0x474 else 0x470) (.write d)) x n
      ∧ ∀ f ∈ agentFields 2 (if fmt then 0x474 else 0x470),
        ((s.winDo x n (if fmt then 0x474 else 0x470) (.write d)).agent n).get f = bits d.toNat f.hi f.lo := by
  have hnodup := agentFields_tap_nodup fmt
  have hr : (if fmt then 0x474 else 0x470) = 0x470 ∨ (if fmt then 0x474 else 0x470) = 0x474 := by cases fmt <;> simp
  generalize (if fmt then 0x474 else 0x470) = r at hnodup hr hadm ⊢
  have hw : s.windowed (agentAccess x r (.write d)) n r (.write d) :=
    State.windowed_of hadm hn ha hu (agentAccess_norm x _ (by omega)) (by simp [isWindow]; omega) (by simp [agentPair_low, show r < 0x4A0 by omega])
  have hv := State.windowAnswer_write hw (agentPair_low _ (by omega))
  have hwr : ∀ t : State, t.agentWrite n r d.toNat d.toNat = t.tapReconfigure n (fun g => g.putWord (agentFields 2 r) d.toNat) := by
    intro t
    unfold State.agentWrite
    rw [ht]
    rcases hr with rfl | rfl <;> rfl
  rw [hwr] at hv
  obtain ⟨ho, g, hg⟩ := (s.windowTurn (agentAccess x r (.write d))).tapReconfigure_spec n (fun g => g.putWord (agentFields 2 r) d.toNat)
  obtain ⟨h1, h2⟩ := State.winDo_acts hw hv ho
  refine ⟨h1, fun f hf => ?_⟩
  rw [h2, Agent.get, hg]
  exact Agent.putWord_get g d.toNat hnodup hf

end TapConfig

/-- Settles O23: with the agent selected and the access admitted, the agent answers in the same step. -/
theorem agentRegistersActThroughTheWindow : Obligations.AgentRegistersActThroughTheWindow := by
  unfold Obligations.AgentRegistersActThroughTheWindow
  intro x a s _ hn ha hu
  refine ⟨fun h => ⟨_, rfl, State.clrEdges_spec hn ha hu h⟩, fun h => ⟨_, rfl, State.clrHigh_spec hn ha hu h⟩,
    fun h => ⟨_, rfl, State.pcntReset_spec hn ha hu h⟩, fun h => ⟨_, rfl, State.trigReset_spec hn ha hu h⟩,
    fun ht h => ⟨_, rfl, State.dirtyClear_spec hn ha hu ht h⟩, fun h => ⟨_, rfl, State.shadowDataRead_spec hn ha hu h⟩,
    fun hg h => ⟨_, rfl, State.gwDirtyDataRead_spec hn ha hu hg h⟩, fun off d h6 hr h8 h => ?_,
    fun fmt d ht h => ⟨_, rfl, State.tapConfigWrite_spec hn ha hu ht h⟩⟩
  obtain ⟨t, ht, hact⟩ := State.cpRegister_spec hn ha hu h6 hr h8 h
  refine ⟨fun hh he => ?_, fun hh => ?_⟩
  · obtain ⟨ho, h1, h2⟩ := t.cpWrite_halted (x := x) h6 hr d (s.stageOf x (agentTag a.toNat off.toNat)) (by rw [ht, hh]) (by rw [ht, he])
    obtain ⟨hs, hag⟩ := hact ho
    exact ⟨_, rfl, hs, by rw [hag]; exact h1, by rw [hag]; exact h2⟩
  · obtain ⟨ho, h1⟩ := t.cpWrite_running (x := x) h6 hr d (s.stageOf x (agentTag a.toNat off.toNat)) (by rw [ht, hh])
    obtain ⟨hs, hag⟩ := hact ho
    exact ⟨_, rfl, hs, by rw [hag, h1, ht]⟩

end Sys2Proof.Machine

/-! PROOF. The Whistle arbiter (chapter 4): what a request can change, and the state after STOP_ALL has been driven. -/

namespace Sys2Proof.Machine

/-! ### What a request can change -/

section WhistleRequests

variable {s t u : State}

/-- The field is no register of the WHISTLE page. -/
def offWhistle (f : Fld) : Prop := f.key < 0x14000 * 8 ∨ 0x18000 * 8 ≤ f.key

/-- From `s` to `t` the arbiter has acted: its own state and page, the events counted, and the cut in progress may have
changed. -/
structure State.whistleOnly (s t : State) : Prop where
  eq : ∃ r w wh c sc, t = { s with regs := r, hw := w, whistle := wh, cut := c, score := sc }
  get : ∀ f, offWhistle f → t.get f = s.get f

/-- The arbiter has acted, and not on the cut. -/
structure State.treeOnly (s t : State) : Prop where
  acts : s.whistleOnly t
  cut : t.cut = s.cut

theorem State.whistleOnly.trans (h : s.whistleOnly t) (k : t.whistleOnly u) : s.whistleOnly u := by
  obtain ⟨⟨_, _, _, _, _, rfl⟩, hg⟩ := h
  obtain ⟨⟨r, w, wh, c, sc, rfl⟩, kg⟩ := k
  exact ⟨⟨r, w, wh, c, sc, rfl⟩, fun f hf => (kg f hf).trans (hg f hf)⟩

theorem State.treeOnly.trans (h : s.treeOnly t) (k : t.treeOnly u) : s.treeOnly u :=
  ⟨h.acts.trans k.acts, k.cut.trans h.cut⟩

theorem State.treeOnly_rfl (s : State) : s.treeOnly s := ⟨⟨⟨_, _, _, _, _, rfl⟩, fun _ _ => rfl⟩, rfl⟩

/-- A change of the arbiter's own state. -/
theorem State.treeOnly_whistle (s : State) (wh : Whistle) : s.treeOnly { s with whistle := wh } :=
  ⟨⟨⟨_, _, _, _, _, rfl⟩, fun _ _ => rfl⟩, rfl⟩

theorem State.treeOnly_hubEvent (s : State) (c k : Nat) : s.treeOnly (s.hubEvent c k) :=
  ⟨⟨⟨_, _, _, _, _, rfl⟩, fun _ _ => rfl⟩, rfl⟩

/-- The field is a register of the WHISTLE page. -/
def onWhistle (f : Fld) : Prop := 0x14000 * 8 ≤ f.key ∧ f.key < 0x18000 * 8

theorem key_ne_of_page {f g : Fld} (hf : onWhistle f) (hg : offWhistle g) : g.key ≠ f.key := by
  unfold onWhistle at hf
  unfold offWhistle at hg
  omega

theorem State.treeOnly_put (s : State) {f : Fld} (v : Nat) (hf : onWhistle f) : s.treeOnly (s.put f v) :=
  ⟨⟨⟨_, _, _, _, _, rfl⟩, fun _ hg => State.get_put_ne _ _ (key_ne_of_page hf hg)⟩, rfl⟩

theorem State.treeOnly_raise (s : State) {f : Fld} (hf : onWhistle f) : s.treeOnly (s.raise f) :=
  ⟨⟨⟨_, _, _, _, _, rfl⟩, fun _ hg => State.get_raise_ne _ (key_ne_of_page hf hg)⟩, rfl⟩

theorem State.treeOnly_bumpBy (s : State) {f : Fld} (n : Nat) (hf : onWhistle f) : s.treeOnly (s.bumpBy f n) :=
  ⟨⟨⟨_, _, _, _, _, rfl⟩, fun _ hg => State.get_bumpBy_ne _ _ (key_ne_of_page hf hg)⟩, rfl⟩

theorem State.treeOnly_put64 (s : State) {l h : Fld} (v : Nat) (hl : onWhistle l) (hh : onWhistle h) : s.treeOnly (s.put64 l h v) :=
  (s.treeOnly_put v hl).trans (State.treeOnly_put _ _ hh)

theorem State.treeOnly_ite {c : Prop} [Decidable c] (h : s.treeOnly t) (k : s.treeOnly u) : s.treeOnly (if c then t else u) := by
  split
  · exact h
  · exact k

/-! #### The arbiter's operations, in the order of their definitions -/

theorem State.treeOnly_setFrozenSet (s : State) (f : FrozenSet) : s.treeOnly (s.setFrozenSet f) :=
  (((s.treeOnly_whistle _).trans (State.treeOnly_put _ _ ⟨by decide, by decide⟩)).trans
    (State.treeOnly_put _ _ ⟨by decide, by decide⟩)).trans (State.treeOnly_put _ _ ⟨by decide, by decide⟩)

theorem State.treeOnly_drive (s : State) (w m f b : Nat) : s.treeOnly (s.drive w m f b) :=
  (s.treeOnly_whistle _).trans (State.treeOnly_hubEvent _ 3 1)

theorem State.treeOnly_writeCause (s : State) (r : WReq) : s.treeOnly (s.writeCause r) := by
  unfold State.writeCause
  exact (((((s.treeOnly_put _ ⟨by decide, by decide⟩).trans (State.treeOnly_put _ _ ⟨by decide, by decide⟩)).trans
    (State.treeOnly_put _ _ ⟨by decide, by decide⟩)).trans (State.treeOnly_put _ _ ⟨by decide, by decide⟩)).trans
    (State.treeOnly_whistle _ _)).trans (State.treeOnly_put64 _ _ ⟨by decide, by decide⟩ ⟨by decide, by decide⟩)

theorem State.treeOnly_awaitAck (s : State) : s.treeOnly s.awaitAck := by
  unfold State.awaitAck
  split
  · exact s.treeOnly_whistle _
  · exact s.treeOnly_rfl

theorem State.treeOnly_startFreeze (s : State) (snap : Bool) : s.treeOnly (s.startFreeze snap) :=
  (s.treeOnly_awaitAck.trans (State.treeOnly_whistle _ _)).trans (State.treeOnly_put _ _ ⟨by decide, by decide⟩)

theorem State.treeOnly_holdReq (s : State) (r : WReq) : s.treeOnly (s.holdReq r).1 :=
  (s.treeOnly_whistle _).trans (State.treeOnly_put _ _ ⟨by decide, by decide⟩)

theorem State.treeOnly_refuseReq (s : State) (c : Nat) : s.treeOnly (s.refuseReq c).1 := s.treeOnly_raise ⟨by decide, by decide⟩

theorem State.treeOnly_markMerged (s : State) : s.treeOnly s.markMerged :=
  (s.treeOnly_raise ⟨by decide, by decide⟩).trans (State.treeOnly_put _ _ ⟨by decide, by decide⟩)

theorem State.treeOnly_causeOf (s : State) (r : WReq) : s.treeOnly (s.causeOf r) :=
  State.treeOnly_ite (((s.treeOnly_put _ ⟨by decide, by decide⟩).trans (State.treeOnly_put _ _ ⟨by decide, by decide⟩)).trans
    (State.treeOnly_put _ _ ⟨by decide, by decide⟩)) s.treeOnly_rfl

theorem State.treeOnly_setAndDrive (s : State) (w : Nat) (f : FrozenSet) : s.treeOnly ((s.setFrozenSet f).driveSet w f) :=
  (s.treeOnly_setFrozenSet f).trans (State.treeOnly_drive _ _ _ _ _)

theorem State.treeOnly_stepStopReq (s : State) (r : WReq) : s.treeOnly (s.stepStopReq r).1 := by
  unfold State.stepStopReq
  dsimp only
  split
  · split
    · exact s.treeOnly_holdReq r
    · exact (((s.treeOnly_setAndDrive _ _).trans (State.treeOnly_writeCause _ r)).trans (State.treeOnly_whistle _ _)).trans
        (State.treeOnly_startFreeze _ _)
  · exact s.treeOnly_writeCause r

theorem State.treeOnly_stopReq (s : State) (r : WReq) : s.treeOnly (s.stopReq r).1 := by
  unfold State.stopReq
  dsimp only
  split
  · exact s.treeOnly_refuseReq _
  split
  · exact s.treeOnly_rfl
  split
  · exact s.treeOnly_stepStopReq r
  split
  · split
    · exact ((s.treeOnly_causeOf r).trans (State.treeOnly_markMerged _)).trans (State.treeOnly_whistle _ _)
    · exact (s.treeOnly_causeOf r).trans (State.treeOnly_holdReq _ r)
  split
  · exact ((s.treeOnly_setAndDrive _ _).trans (State.treeOnly_ite (State.treeOnly_writeCause _ r) (State.treeOnly_rfl _))).trans
      (State.treeOnly_startFreeze _ _)
  have hm : s.treeOnly { s.markMerged with whistle := { s.markMerged.whistle with snapDue := none, isSnap := false } } :=
    s.treeOnly_markMerged.trans (State.treeOnly_whistle _ _)
  split
  · exact (hm.trans (State.treeOnly_setAndDrive _ _ _)).trans (State.treeOnly_startFreeze _ _)
  · exact hm

theorem State.treeOnly_snapReq (s : State) (r : WReq) (b : Bool) : s.treeOnly (s.snapReq r b).1 := by
  unfold State.snapReq
  dsimp only
  split
  · exact s.treeOnly_refuseReq _
  split
  · exact s.treeOnly_refuseReq _
  split
  · exact s.treeOnly_holdReq r
  split
  · split
    · split
      · exact (s.treeOnly_drive _ _ _ _).trans (State.treeOnly_awaitAck _)
      · exact s.treeOnly_holdReq r
    · exact s.treeOnly_refuseReq _
  split
  · exact s.treeOnly_holdReq r
  · exact (((s.treeOnly_setFrozenSet _).trans (State.treeOnly_drive _ _ _ _ _)).trans
      (State.treeOnly_ite (State.treeOnly_writeCause _ r) (State.treeOnly_rfl _))).trans (State.treeOnly_startFreeze _ _)

theorem State.treeOnly_cancelReq (s : State) : s.treeOnly s.cancelReq.1 :=
  ((s.treeOnly_whistle _).trans (State.treeOnly_bumpBy _ _ ⟨by decide, by decide⟩)).trans
    (State.treeOnly_put _ _ ⟨by decide, by decide⟩)

theorem State.whistleOnly_modCut (s : State) (f : CutJob → CutJob) : s.whistleOnly (s.modCut f) :=
  ⟨⟨_, _, _, _, _, rfl⟩, fun _ _ => rfl⟩

theorem State.whistleOnly_startResume (s : State) : s.whistleOnly s.startResume :=
  ((s.whistleOnly_modCut _).trans (State.treeOnly_whistle _ _).acts).trans (State.treeOnly_put _ _ ⟨by decide, by decide⟩).acts

theorem State.whistleOnly_resumeReq (s : State) (r : WReq) : s.whistleOnly (s.resumeReq r).1 := by
  unfold State.resumeReq
  dsimp only
  split
  · exact (s.treeOnly_refuseReq _).acts
  split
  · exact s.treeOnly_rfl.acts
  split
  · exact (s.treeOnly_refuseReq _).acts
  split
  · exact (s.treeOnly_holdReq r).acts
  · exact (((s.treeOnly_drive _ _ _ _).acts.trans (State.whistleOnly_modCut _ _)).trans (State.treeOnly_setFrozenSet _ _).acts).trans
      (State.whistleOnly_startResume _)

theorem State.whistleOnly_stepReq (s : State) (r : WReq) : s.whistleOnly (s.stepReq r).1 := by
  unfold State.stepReq
  dsimp only
  split
  · exact (s.treeOnly_refuseReq _).acts
  split
  · split
    · exact (s.treeOnly_holdReq r).acts
    split
    all_goals
      split
      · exact s.treeOnly_rfl.acts
      · exact (((s.treeOnly_drive _ _ _ _).trans (State.treeOnly_whistle _ _)).trans
          (State.treeOnly_put _ _ ⟨by decide, by decide⟩)).acts.trans (State.whistleOnly_startResume _)
  · exact (s.treeOnly_refuseReq _).acts

/-- A request leaves every other block, and every register off the WHISTLE page, alone. -/
theorem State.whistleOnly_whistleReq (s : State) (r : WReq) : s.whistleOnly (s.whistleReq r).1 := by
  unfold State.whistleReq
  split
  · exact (s.treeOnly_refuseReq _).acts
  split
  · exact ((s.treeOnly_bumpBy _ ⟨by decide, by decide⟩).trans (State.treeOnly_refuseReq _ _)).acts
  unfold State.evalReq
  split
  · exact (s.treeOnly_stopReq r).acts
  split
  · exact s.whistleOnly_resumeReq r
  split
  · exact s.whistleOnly_stepReq r
  split
  · exact (s.treeOnly_snapReq r _).acts
  split
  · exact s.treeOnly_cancelReq.acts
  · exact s.treeOnly_rfl.acts

end WhistleRequests

/-! ### STOP_ALL that is driven from RUNNING -/

section StopAll

variable {s : State} {src detail : Nat}

/-- STOP_ALL as its source asks for it. -/
def stopAllReq (src detail : Nat) : WReq := ⟨1, src, detail, 0, 0⟩

/-- The state after STOP_ALL has been driven in RUNNING (R165, R195, Table 4-2). -/
def State.stoppedAll (s : State) (src detail : Nat) : State :=
  (((s.setFrozenSet ⟨1, allBranches, 0⟩).driveSet wireStop ⟨1, allBranches, 0⟩).writeCause (stopAllReq src detail)).startFreeze false

/-- STOP_ALL reaches an arbiter that is RUNNING and free: it is driven. -/
theorem State.whistleReq_stopAll (hp : s.parityOk Slot.WHISTLE = true) (hs : s.reqSuppressed (stopAllReq src detail) = false)
    (hst : s.get Reg.WHISTLE.STATE.STATE = wsRunning) (ha : s.get Reg.WHISTLE.STATE.STEP_ACTIVE = 0) (hf : s.treeFree = true) :
    s.whistleReq (stopAllReq src detail) = (s.stoppedAll src detail, wrDriven) := by
  have hset : (stopAllReq src detail).set = ⟨1, allBranches, 0⟩ := rfl
  unfold State.whistleReq
  rw [if_neg (by simp [hp]), if_neg (by simp [hs])]
  have hev : s.evalReq (stopAllReq src detail) = s.stopReq (stopAllReq src detail) := if_pos (Or.inl rfl)
  rw [hev]
  unfold State.stopReq
  dsimp only
  rw [hset, if_neg (by simp [stopAllReq]), if_neg (by decide), if_neg (by rw [ha]; decide), if_neg (by simp [hf]),
    if_pos (Or.inl hst), if_pos hst]
  rfl

theorem State.stoppedAll_state (s : State) (src detail : Nat) :
    (s.stoppedAll src detail).get Reg.WHISTLE.STATE.STATE = wsFreezing := by
  rw [State.stoppedAll, State.startFreeze, State.get_put_same]
  rfl

theorem State.get_awaitAck (s : State) (f : Fld) : s.awaitAck.get f = s.get f := by
  unfold State.awaitAck
  split <;> rfl

theorem State.get_startFreeze_ne (s : State) (snap : Bool) {f : Fld} (h : f.key ≠ Reg.WHISTLE.STATE.STATE.key) :
    (s.startFreeze snap).get f = s.get f :=
  (State.get_put_ne _ _ h).trans (s.get_awaitAck f)

theorem State.get_writeCause_source (s : State) (r : WReq) :
    (s.writeCause r).get Reg.WHISTLE.CAUSE.SOURCE = r.source % 2 ^ Reg.WHISTLE.CAUSE.SOURCE.width := by
  have h : ∀ (t : State) wh, ({ t with whistle := wh } : State).get = t.get := fun _ _ => rfl
  unfold State.writeCause
  dsimp only
  rw [State.get_put64_ne _ _ (by decide) (by decide), h, State.get_put_ne _ _ (by decide), State.get_put_ne _ _ (by decide),
    State.get_put_same]

theorem State.stoppedAll_source (s : State) (src detail : Nat) :
    (s.stoppedAll src detail).get Reg.WHISTLE.CAUSE.SOURCE = src % 2 ^ Reg.WHISTLE.CAUSE.SOURCE.width := by
  rw [State.stoppedAll, State.get_startFreeze_ne _ _ (by decide), State.get_writeCause_source, stopAllReq]

theorem State.startFreeze_branches (s : State) (snap : Bool) : (s.startFreeze snap).whistle.branches = s.whistle.branches := by
  have h : s.awaitAck.whistle.branches = s.whistle.branches := by
    unfold State.awaitAck
    split <;> rfl
  exact h

theorem State.writeCause_branches (s : State) (r : WReq) : (s.writeCause r).whistle.branches = s.whistle.branches := rfl
theorem State.driveSet_branches (s : State) (w : Nat) (f : FrozenSet) : (s.driveSet w f).whistle.branches = s.whistle.branches := rfl
theorem State.setFrozenSet_branches (s : State) (f : FrozenSet) : (s.setFrozenSet f).whistle.branches = f.branches := rfl

theorem State.stoppedAll_branches (s : State) (src detail : Nat) : (s.stoppedAll src detail).whistle.branches = allBranches := by
  rw [State.stoppedAll, State.startFreeze_branches, State.writeCause_branches, State.driveSet_branches, State.setFrozenSet_branches]

theorem State.treeOnly_stoppedAll (s : State) (src detail : Nat) : s.treeOnly (s.stoppedAll src detail) :=
  ((s.treeOnly_setAndDrive _ _).trans (State.treeOnly_writeCause _ _)).trans (State.treeOnly_startFreeze _ _)

end StopAll
end Sys2Proof.Machine

/-! PROOF. Fatal errors and the crash store (chapter 6, R268 to R271). -/

namespace Sys2Proof.Machine

/-! ### What the arbiter leaves to the other blocks -/

section ArbiterFrame

variable {s t : State}

theorem State.whistleOnly.crash (h : s.whistleOnly t) : t.crash = s.crash := by
  obtain ⟨⟨_, _, _, _, _, rfl⟩, _⟩ := h
  rfl
theorem State.whistleOnly.agents (h : s.whistleOnly t) : t.agents = s.agents := by
  obtain ⟨⟨_, _, _, _, _, rfl⟩, _⟩ := h
  rfl
theorem State.whistleOnly.fc (h : s.whistleOnly t) : t.fc = s.fc := by
  obtain ⟨⟨_, _, _, _, _, rfl⟩, _⟩ := h
  rfl
theorem State.whistleOnly.cfg (h : s.whistleOnly t) (f : Fld) : t.cfg f = s.cfg f := by
  obtain ⟨⟨_, _, _, _, _, rfl⟩, _⟩ := h
  rfl
theorem State.whistleOnly.posWord (h : s.whistleOnly t) : t.posWord = s.posWord := by
  obtain ⟨⟨_, _, _, _, _, rfl⟩, _⟩ := h
  rfl

@[simp] theorem State.get_wakeNote (s : State) (c : Nat) (f : Fld) : (s.wakeNote c).get f = s.get f := by
  rw [State.get, State.wakeNote_regs, State.get]
@[simp] theorem State.cfg_wakeNote (s : State) (c : Nat) (f : Fld) : (s.wakeNote c).cfg f = s.cfg f := by
  rw [State.cfg, State.wakeNote_regs0, State.cfg]
@[simp] theorem State.isReady_wakeNote (s : State) (c : Nat) : (s.wakeNote c).isReady = s.isReady := by
  rw [State.isReady, State.get_wakeNote, State.isReady]
@[simp] theorem State.power_wakeNote (s : State) (c : Nat) : (s.wakeNote c).power = s.power := by
  rw [State.power, State.get_wakeNote, State.power]
@[simp] theorem State.treeFree_wakeNote (s : State) (c : Nat) : (s.wakeNote c).treeFree = s.treeFree := by
  rw [State.treeFree, State.wakeNote_whistle, State.wakeNote_fc, State.treeFree]
@[simp] theorem State.parityOk_wakeNote (s : State) (c p : Nat) : (s.wakeNote c).parityOk p = s.parityOk p := by
  rw [State.parityOk, State.get_wakeNote, State.parityOk]

end ArbiterFrame

/-! ### The crash store (R270, R271) -/

section CrashStore

variable (s : State) (f : FatalSource)

/-- HUB_FAULT_N is asserted where the action asks for it (Table 6-14, R608). -/
def State.assertFault (act : Nat) (k : Option Nat) : State :=
  if act = faHold ∨ act = faNone then { s with crash := { s.crash with asserts := s.crash.asserts ++ [k] } } else s

/-- The record that the capture of a fatal error begins with. -/
def State.fatalRec (act : Nat) (own : Bool) : CrashRec :=
  ⟨(fatalCause f).1, act, (fatalCause f).2, s.posWord, s.fc, (s.faultCtx f).getD 0, act == faContext,
    if act = faRelease ∨ act = faContext then 1 else 0, own, !(s.cfg Reg.WHISTLE.AUTO_SOURCES.FATAL == 1), 0, false, [], [], [], [], [], 0, 0⟩

/-- The error holds the pins (R608). -/
def State.fatalHeld (act : Nat) : State := { s.fatalIrq f act with crash := { (s.fatalIrq f act).crash with hold := true } }

theorem State.fatalCapture_none (own : Bool) : s.fatalCapture f faNone own = (s.fatalHeld f faNone).assertFault faNone none := rfl

/-- What follows a capture of an action that releases the fabric or not: without a slot the fabric resumes at once. -/
def captureEnd (act : Nat) (own : Bool) (c : Option Nat × State) : State :=
  let after := if act = faRelease ∨ act = faContext then 1 else 0
  State.assertFault (match c.1 with
    | none => if after = 1 ∧ own then (c.2.whistleReq ⟨4, 5, 0, 0, 0⟩).1 else c.2
    | some _ => c.2) act c.1

theorem State.fatalCapture_eq (act : Nat) (own : Bool) (h : act ≠ faNone) : s.fatalCapture f act own =
    captureEnd act own ((s.fatalHeld f act).capture ((s.fatalHeld f act).fatalRec f act own)) := by
  unfold State.fatalCapture
  dsimp only
  rw [if_neg h]
  rfl

theorem captureEnd_hold (own : Bool) (c : Option Nat × State) : captureEnd faHold own c = c.2.assertFault faHold c.1 := by
  obtain ⟨_ | k, u⟩ := c <;> rfl

/-- A capture takes the slot that is free. -/
theorem State.capture_some {r : CrashRec} {k : Nat} (ha : s.cfg Reg.CRASH.ARM.ARMED = 1) (hk : s.emptySlot = some k) :
    s.capture r = (some k, { s.put (slotStateFld k) 1 with
      crash := { s.crash.setSlot k r with capturing := s.crash.capturing ++ [k] } }) := by
  unfold State.capture
  rw [if_pos ha, hk]
  rfl

/-- A capture of a disarmed store is dropped. -/
theorem State.capture_none {r : CrashRec} (ha : s.cfg Reg.CRASH.ARM.ARMED = 0) :
    s.capture r = (none, (s.bump Reg.CRASH.STATE.DROPPED).raise Reg.CRASH.EVENT.DROPPED) := by
  unfold State.capture
  rw [if_neg (by rw [ha]; decide)]

theorem Crash.slot_setSlot (c : Crash) {k : Nat} (r : CrashRec) (l : List Nat) (h : k ≤ 1) (a : List (Option Nat)) :
    Crash.slot { c.setSlot k r with capturing := l, asserts := a } k = some r := by
  interval_cases k <;> rfl

end CrashStore

/-! ### What a fatal error can change (R268, R584, R588) -/

section FatalFrame

variable {s t u : State} (f : FatalSource)

/-- The field is no register of the CRASH page. -/
def offCrash (f : Fld) : Prop := f.key < 0x50000 * 8 ∨ 0x54000 * 8 ≤ f.key

/-- From `s` to `t` no agent and no register off the WHISTLE and CRASH pages has changed, and an error that is held stays so. -/
structure State.fatalOnly (s t : State) : Prop where
  agents : t.agents = s.agents
  get : ∀ f, offWhistle f → offCrash f → t.get f = s.get f
  hold : s.crash.hold = true → t.crash.hold = true

theorem State.fatalOnly_rfl (s : State) : s.fatalOnly s := ⟨rfl, fun _ _ _ => rfl, id⟩

theorem State.fatalOnly.trans (h : s.fatalOnly t) (k : t.fatalOnly u) : s.fatalOnly u :=
  ⟨k.agents.trans h.agents, fun f hw hc => (k.get f hw hc).trans (h.get f hw hc), fun hh => k.hold (h.hold hh)⟩

theorem State.fatalOnly_ite {c : Prop} [Decidable c] (h : s.fatalOnly t) (k : s.fatalOnly u) : s.fatalOnly (if c then t else u) := by
  split
  · exact h
  · exact k

theorem State.whistleOnly.fatal (h : s.whistleOnly t) : s.fatalOnly t :=
  ⟨h.agents, fun f hw _ => h.get f hw, fun hh => by rw [h.crash]; exact hh⟩

theorem State.fatalOnly_wakeNote (s : State) (c : Nat) : s.fatalOnly (s.wakeNote c) :=
  ⟨s.wakeNote_agents c, fun f _ _ => s.get_wakeNote c f, fun h => by rw [State.wakeNote_crash]; exact h⟩

theorem State.fatalOnly_assertFault (s : State) (act : Nat) (k : Option Nat) : s.fatalOnly (s.assertFault act k) := by
  unfold State.assertFault
  split
  · exact ⟨rfl, fun _ _ _ => rfl, id⟩
  · exact s.fatalOnly_rfl

theorem Crash.setSlot_hold (c : Crash) (k : Nat) (r : CrashRec) : (c.setSlot k r).hold = c.hold := by
  unfold Crash.setSlot
  split <;> rfl

theorem slotStateFld_key (k : Nat) : (slotStateFld k).key = Reg.CRASH.STATE.SLOT0.key ∨ (slotStateFld k).key = Reg.CRASH.STATE.SLOT1.key := by
  unfold slotStateFld
  split
  · exact Or.inl rfl
  · exact Or.inr rfl

theorem slotStateFld_width (k : Nat) : (slotStateFld k).width = 2 := by
  unfold slotStateFld
  split <;> rfl

theorem offCrash_ne_slot {g : Fld} (h : offCrash g) (k : Nat) : g.key ≠ (slotStateFld k).key := by
  have h0 : Reg.CRASH.STATE.SLOT0.key = 0x50040 * 8 := rfl
  have h1 : Reg.CRASH.STATE.SLOT1.key = 0x50040 * 8 + 2 := rfl
  unfold offCrash at h
  rcases slotStateFld_key k with hk | hk <;> rw [hk] <;> omega

theorem offCrash_ne {g k : Fld} (h : offCrash g) (h0 : 0x50000 * 8 ≤ k.key) (h1 : k.key < 0x54000 * 8) : g.key ≠ k.key := by
  unfold offCrash at h
  omega

theorem State.capture_get (s : State) (r : CrashRec) {g : Fld} (hg : offCrash g) : (s.capture r).2.get g = s.get g := by
  unfold State.capture
  split
  · rw [State.get_raise_ne _ (offCrash_ne hg (by decide) (by decide)), State.get_bump_ne _ (offCrash_ne hg (by decide) (by decide))]
  next k _ => exact State.get_put_ne _ _ (offCrash_ne_slot hg k)

/-- A capture touches the CRASH page and the crash store. -/
theorem State.capture_frame (s : State) (r : CrashRec) : (s.capture r).2.agents = s.agents ∧ (s.capture r).2.whistle = s.whistle
    ∧ (s.capture r).2.crash.hold = s.crash.hold := by
  unfold State.capture
  split
  · exact ⟨rfl, rfl, rfl⟩
  next k _ => exact ⟨rfl, rfl, Crash.setSlot_hold _ _ _⟩

theorem State.fatalOnly_capture (s : State) (r : CrashRec) : s.fatalOnly (s.capture r).2 :=
  ⟨(s.capture_frame r).1, fun _ _ hg => s.capture_get r hg, fun h => by rw [(s.capture_frame r).2.2, h]⟩

theorem State.fatalOnly_captureEnd (s : State) (act : Nat) (own : Bool) {c : Option Nat × State} (h : s.fatalOnly c.2) :
    s.fatalOnly (captureEnd act own c) := by
  refine State.fatalOnly.trans ?_ (State.fatalOnly_assertFault _ _ _)
  obtain ⟨_ | k, u⟩ := c
  · exact State.fatalOnly_ite (h.trans (State.whistleOnly_whistleReq _ _).fatal) h
  · exact h

theorem State.fatalIrq_frame (s : State) (act : Nat) : (s.fatalIrq f act).agents = s.agents ∧ ∀ g, (s.fatalIrq f act).get g = s.get g := by
  unfold State.fatalIrq
  split
  · exact ⟨rfl, fun _ => rfl⟩
  split
  · exact ⟨rfl, fun _ => rfl⟩
  · exact ⟨rfl, fun _ => rfl⟩

theorem State.fatalOnly_held (s : State) (act : Nat) : s.fatalOnly (s.fatalHeld f act) :=
  ⟨(s.fatalIrq_frame f act).1, fun g _ _ => (s.fatalIrq_frame f act).2 g, fun _ => rfl⟩

theorem State.fatalOnly_fatalCapture (s : State) (act : Nat) (own : Bool) :
    s.fatalOnly (s.fatalCapture f act own) ∧ (s.fatalCapture f act own).crash.hold = true := by
  have hh : (s.fatalHeld f act).crash.hold = true := rfl
  by_cases h : act = faNone
  · subst h
    rw [State.fatalCapture_none]
    have ha := (s.fatalHeld f faNone).fatalOnly_assertFault faNone none
    exact ⟨(s.fatalOnly_held f faNone).trans ha, ha.hold hh⟩
  · rw [State.fatalCapture_eq _ _ _ _ h]
    have ha := State.fatalOnly_captureEnd _ act own ((s.fatalHeld f act).fatalOnly_capture ((s.fatalHeld f act).fatalRec f act own))
    exact ⟨(s.fatalOnly_held f act).trans ha, ha.hold hh⟩

theorem State.whistleOnly_fatalWhistle (s : State) (act : Nat) : s.whistleOnly (s.fatalWhistle f act).1 := by
  unfold State.fatalWhistle
  dsimp only
  split
  · exact s.treeOnly_rfl.acts
  · exact s.whistleOnly_whistleReq _

/-- A fatal error leaves the agents and every page but WHISTLE and CRASH alone, and is held until it is released. -/
theorem State.fatalOnly_fatal (s : State) : s.fatalOnly (s.fatal f) ∧ (s.fatal f).crash.hold = true := by
  have hw := s.fatalOnly_wakeNote wkFatal
  unfold State.fatal
  dsimp only
  split
  · exact ⟨hw.trans ⟨rfl, fun _ _ _ => rfl, fun _ => rfl⟩, rfl⟩
  have ha := hw.trans ((s.wakeNote wkFatal).whistleOnly_fatalWhistle f (s.fatalAction f)).fatal
  split
  · exact ⟨ha.trans ⟨rfl, fun _ _ _ => rfl, fun _ => rfl⟩, rfl⟩
  · have hc := State.fatalOnly_fatalCapture f ((s.wakeNote wkFatal).fatalWhistle f (s.fatalAction f)).1 (s.fatalAction f)
      ((s.wakeNote wkFatal).fatalWhistle f (s.fatalAction f)).2
    exact ⟨ha.trans hc.1, hc.2⟩

end FatalFrame
end Sys2Proof.Machine

namespace Sys2Proof.Machine

/-! ### A fatal error that is acted on -/

section FatalActs

variable {s : State} (f : FatalSource)

theorem State.faultCtx_wakeNote (s : State) (f : FatalSource) (c : Nat) : (s.wakeNote c).faultCtx f = s.faultCtx f := by
  cases f <;> simp only [State.faultCtx, State.agent, State.wakeNote_agents]

/-- The action is FREEZE_AND_HOLD when FATAL_ACTION says so, or under the parity error of R607. -/
theorem State.fatalAction_hold (h : s.cfg Reg.HUB.FATAL_ACTION.ACTION = faHold
    ∨ (s.get (Hdr.FAULT_PARITY 0) = 1 ∧ s.get (Hdr.FAULT_INFO_DETAIL 0) = 0x050)) : s.fatalAction f = faHold := by
  unfold State.fatalAction
  dsimp only
  split
  · rfl
  next hp =>
    rw [h.resolve_right hp]
    exact if_neg fun h => absurd h.1 (by decide)

theorem State.fatalAction_none (hp : ¬ (s.get (Hdr.FAULT_PARITY 0) = 1 ∧ s.get (Hdr.FAULT_INFO_DETAIL 0) = 0x050))
    (h : s.cfg Reg.HUB.FATAL_ACTION.ACTION = faNone) : s.fatalAction f = faNone := by
  unfold State.fatalAction
  dsimp only
  rw [if_neg hp, h]
  exact if_neg fun h => absurd h.1 (by decide)

/-- Before READY, and in W3 and W4, the error waits (R584, R588). -/
theorem State.fatal_waits (h : s.isReady = false ∨ 3 ≤ s.power) : s.fatal f =
    { s.wakeNote wkFatal with crash := { s.crash with waiting := s.crash.waiting ++ [(f, none)], hold := true } } := by
  have hc : ¬ (s.wakeNote wkFatal).isReady ∨ 3 ≤ (s.wakeNote wkFatal).power := by simpa using h
  unfold State.fatal
  dsimp only
  rw [if_pos hc, State.wakeNote_crash]

/-- The DETAIL of a fatal error's stop. -/
def fatalDetail : FatalSource → Nat
  | .agent a | .tokenUe a _ | .credit a _ => a.toNat
  | _ => 0x3FFF

/-- In W0 an error is acted on at once. -/
theorem State.fatal_acts (hr : s.isReady = true) (hp : s.power = 0) : s.fatal f =
    ((s.wakeNote wkFatal).fatalWhistle f (s.fatalAction f)).1.fatalCapture f (s.fatalAction f)
      ((s.wakeNote wkFatal).fatalWhistle f (s.fatalAction f)).2 := by
  have hc : ¬ (¬ (s.wakeNote wkFatal).isReady ∨ 3 ≤ (s.wakeNote wkFatal).power) := by simp [hr, hp]
  have hpw : ((s.wakeNote wkFatal).fatalWhistle f (s.fatalAction f)).1.power = 0 := by
    rw [State.power, ((s.wakeNote wkFatal).whistleOnly_fatalWhistle f _).get _ (.inr (by decide)), State.get_wakeNote, ← State.power, hp]
  unfold State.fatal
  dsimp only
  rw [if_neg hc, if_neg (by simp [hpw])]

/-- The state in which a fatal error of FREEZE_AND_HOLD captures: STOP_ALL has been driven. -/
def State.fatalStopped (s : State) (f : FatalSource) : State := (s.wakeNote wkFatal).stoppedAll 5 (fatalDetail f)

theorem State.fatalWhistle_eq (s : State) (f : FatalSource) : s.fatalWhistle f faHold = ((s.whistleReq (stopAllReq 5 (fatalDetail f))).1,
    s.get Reg.WHISTLE.STATE.STATE == wsRunning && ((s.whistleReq (stopAllReq 5 (fatalDetail f))).2 == wrDriven
      || (s.whistleReq (stopAllReq 5 (fatalDetail f))).2 == wrHeld)) := by
  cases f <;> rfl

theorem State.fatalWhistle_hold (ha : s.cfg Reg.WHISTLE.AUTO_SOURCES.FATAL = 1) (hst : s.get Reg.WHISTLE.STATE.STATE = wsRunning)
    (hs : s.get Reg.WHISTLE.STATE.STEP_ACTIVE = 0) (hf : s.treeFree = true) (hp : s.parityOk Slot.WHISTLE = true) :
    (s.wakeNote wkFatal).fatalWhistle f faHold = (s.fatalStopped f, true) := by
  have hr := State.whistleReq_stopAll (s := s.wakeNote wkFatal) (src := 5) (detail := fatalDetail f) (by simpa using hp)
    (by simp [State.reqSuppressed, stopAllReq, ha]) (by simpa using hst) (by simpa using hs) (by simpa using hf)
  rw [State.fatalWhistle_eq, hr, State.get_wakeNote, hst]
  rfl

/-! #### The capture of FREEZE_AND_HOLD -/

/-- The state after the capture, with HUB_FAULT_N asserted. -/
def State.heldCapture (s : State) (f : FatalSource) : State :=
  captureEnd faHold true (((s.fatalStopped f).fatalHeld f faHold).capture
    (((s.fatalStopped f).fatalHeld f faHold).fatalRec f faHold true))

theorem State.fatalStopped_only (s : State) (f : FatalSource) : (s.wakeNote wkFatal).whistleOnly (s.fatalStopped f) :=
  ((s.wakeNote wkFatal).treeOnly_stoppedAll 5 (fatalDetail f)).acts

theorem State.fatalStopped_cfg (s : State) (f : FatalSource) (g : Fld) : (s.fatalStopped f).cfg g = s.cfg g := by
  rw [(s.fatalStopped_only f).cfg, State.cfg_wakeNote]

theorem State.fatalStopped_get (s : State) (f : FatalSource) {g : Fld} (hg : offWhistle g) : (s.fatalStopped f).get g = s.get g := by
  rw [(s.fatalStopped_only f).get g hg, State.get_wakeNote]

theorem State.fatalStopped_crash (s : State) (f : FatalSource) : (s.fatalStopped f).crash = s.crash := by
  rw [(s.fatalStopped_only f).crash, State.wakeNote_crash]

theorem State.assertFault_get (s : State) (act : Nat) (k : Option Nat) (g : Fld) : (s.assertFault act k).get g = s.get g := by
  unfold State.assertFault
  split <;> rfl

theorem State.assertFault_whistle (s : State) (act : Nat) (k : Option Nat) : (s.assertFault act k).whistle = s.whistle := by
  unfold State.assertFault
  split <;> rfl

theorem State.assertFault_agents (s : State) (act : Nat) (k : Option Nat) : (s.assertFault act k).agents = s.agents := by
  unfold State.assertFault
  split <;> rfl

theorem State.assertFault_crash (s : State) (k : Option Nat) :
    (s.assertFault faHold k).crash = { s.crash with asserts := s.crash.asserts ++ [k] } := by
  unfold State.assertFault
  rw [if_pos (Or.inl rfl)]

/-! With FREEZE_AND_HOLD the error is held and raises no interrupt (Table 6-14). -/

theorem State.fatalHeld_whistle (s : State) (f : FatalSource) : (s.fatalHeld f faHold).whistle = s.whistle := rfl
theorem State.fatalHeld_agents (s : State) (f : FatalSource) : (s.fatalHeld f faHold).agents = s.agents := rfl
theorem State.fatalHeld_get (s : State) (f : FatalSource) (g : Fld) : (s.fatalHeld f faHold).get g = s.get g := rfl
theorem State.fatalHeld_cfg (s : State) (f : FatalSource) (g : Fld) : (s.fatalHeld f faHold).cfg g = s.cfg g := rfl
theorem State.fatalHeld_crash (s : State) (f : FatalSource) : (s.fatalHeld f faHold).crash = { s.crash with hold := true } := rfl

theorem State.heldCapture_get (s : State) (f : FatalSource) {g : Fld} (hg : offCrash g) :
    (s.heldCapture f).get g = (s.fatalStopped f).get g := by
  rw [State.heldCapture, captureEnd_hold, State.assertFault_get, State.capture_get _ _ hg, State.fatalHeld_get]

theorem State.heldCapture_branches (s : State) (f : FatalSource) : (s.heldCapture f).whistle.branches = allBranches := by
  rw [State.heldCapture, captureEnd_hold, State.assertFault_whistle, (State.capture_frame _ _).2.1, State.fatalHeld_whistle,
    State.fatalStopped, State.stoppedAll_branches]

theorem State.heldCapture_agents (s : State) (f : FatalSource) : (s.heldCapture f).agents = s.agents := by
  rw [State.heldCapture, captureEnd_hold, State.assertFault_agents, (State.capture_frame _ _).1, State.fatalHeld_agents,
    (s.fatalStopped_only f).agents, State.wakeNote_agents]

theorem State.heldCapture_hold (s : State) (f : FatalSource) : (s.heldCapture f).crash.hold = true := by
  rw [State.heldCapture, captureEnd_hold, State.assertFault_crash, (State.capture_frame _ _).2.2, State.fatalHeld_crash]

/-- A free slot of the Lead Half captures the error (R270, R271, R608). -/
theorem State.heldCapture_armed (s : State) (f : FatalSource) (ha : s.cfg Reg.CRASH.ARM.ARMED = 1)
    (hl : s.get Reg.HUB.ROLE.LEAD_HALF ≤ 1) (hs : s.get (slotStateFld (s.get Reg.HUB.ROLE.LEAD_HALF)) = 0) :
    (s.heldCapture f).get (slotStateFld (s.get Reg.HUB.ROLE.LEAD_HALF)) = 1
      ∧ (s.heldCapture f).crash.capturing = s.crash.capturing ++ [s.get Reg.HUB.ROLE.LEAD_HALF]
      ∧ (s.heldCapture f).crash.asserts = s.crash.asserts ++ [some (s.get Reg.HUB.ROLE.LEAD_HALF)]
      ∧ ∃ r, (s.heldCapture f).crash.slot (s.get Reg.HUB.ROLE.LEAD_HALF) = some r ∧ (r.kind, r.detail) = fatalCause f
        ∧ r.action = faHold ∧ r.cycle = s.fc ∧ r.pos = s.posWord := by
  have hlead : (s.fatalStopped f).get Reg.HUB.ROLE.LEAD_HALF = s.get Reg.HUB.ROLE.LEAD_HALF := s.fatalStopped_get f (.inl (by decide))
  have hoff : ∀ k, offWhistle (slotStateFld k) := by
    intro k
    rcases slotStateFld_key k with h | h <;> rw [offWhistle, h] <;> exact .inr (by decide)
  have hempty : ((s.fatalStopped f).fatalHeld f faHold).emptySlot = some (s.get Reg.HUB.ROLE.LEAD_HALF) := by
    have hz : (s.fatalStopped f).get (slotStateFld ((s.fatalStopped f).get Reg.HUB.ROLE.LEAD_HALF)) = 0 := by
      rw [hlead, s.fatalStopped_get f (hoff _), hs]
    rw [← hlead, State.emptySlot, State.fatalHeld_get, State.fatalHeld_get, if_pos hz]
  have harm : ((s.fatalStopped f).fatalHeld f faHold).cfg Reg.CRASH.ARM.ARMED = 1 := by
    rw [State.fatalHeld_cfg, State.fatalStopped_cfg, ha]
  have hcr : ((s.fatalStopped f).fatalHeld f faHold).crash = { s.crash with hold := true } := by
    rw [State.fatalHeld_crash, State.fatalStopped_crash]
  have hfc : (s.fatalStopped f).fc = s.fc := (s.fatalStopped_only f).fc.trans (s.wakeNote_fc wkFatal)
  have hpos : (s.fatalStopped f).posWord = s.posWord :=
    (s.fatalStopped_only f).posWord.trans (by rw [State.posWord, State.wakeNote_wheel, State.posWord])
  rw [State.heldCapture, captureEnd_hold, State.capture_some _ harm hempty, State.assertFault_get, State.assertFault_crash]
  generalize s.get Reg.HUB.ROLE.LEAD_HALF = k at *
  generalize s.fatalStopped f = v at *
  refine ⟨?_, ?_, ?_, _, Crash.slot_setSlot _ _ _ hl _, rfl, rfl, hfc, hpos⟩
  · refine (State.get_put_same _ _ _).trans ?_
    rw [slotStateFld_width]
    rfl
  · rw [hcr]
  · have hset : ∀ (c : Crash) r, (c.setSlot k r).asserts = c.asserts := by
      intro c r
      unfold Crash.setSlot
      split <;> rfl
    rw [hcr]
    exact congrArg (· ++ [some k]) (hset _ _)

/-- A disarmed store drops the capture (R271). -/
theorem State.heldCapture_disarmed (s : State) (f : FatalSource) (ha : s.cfg Reg.CRASH.ARM.ARMED = 0) :
    s.counted (s.heldCapture f) Reg.CRASH.STATE.DROPPED 1 ∧ (s.heldCapture f).get Reg.CRASH.EVENT.DROPPED = 1
      ∧ (s.heldCapture f).crash.asserts = s.crash.asserts ++ [none] ∧ (s.heldCapture f).crash.capturing = s.crash.capturing := by
  have harm : ((s.fatalStopped f).fatalHeld f faHold).cfg Reg.CRASH.ARM.ARMED = 0 := by
    rw [State.fatalHeld_cfg, State.fatalStopped_cfg, ha]
  have hd : ((s.fatalStopped f).fatalHeld f faHold).get Reg.CRASH.STATE.DROPPED = s.get Reg.CRASH.STATE.DROPPED := by
    rw [State.fatalHeld_get, s.fatalStopped_get f (.inr (by decide))]
  have hcr : ((s.fatalStopped f).fatalHeld f faHold).crash = { s.crash with hold := true } := by
    rw [State.fatalHeld_crash, State.fatalStopped_crash]
  rw [State.heldCapture, captureEnd_hold, State.capture_none _ harm, State.counted, State.assertFault_get, State.assertFault_get,
    State.assertFault_crash, State.get_raise_ne _ (by decide), State.bump, State.get_bumpBy_same, hd, State.raise_crash,
    State.bumpBy_crash, hcr]
  exact ⟨rfl, State.get_raise_same _ rfl, rfl, rfl⟩

/-- A fatal error of FREEZE_AND_HOLD that the arbiter can take. -/
theorem State.fatal_hold (hr : s.isReady = true) (hp : s.power = 0) (hh : s.fatalAction f = faHold)
    (ha : s.cfg Reg.WHISTLE.AUTO_SOURCES.FATAL = 1) (hst : s.get Reg.WHISTLE.STATE.STATE = wsRunning)
    (hs : s.get Reg.WHISTLE.STATE.STEP_ACTIVE = 0) (hf : s.treeFree = true) (hpar : s.parityOk Slot.WHISTLE = true) :
    s.fatal f = s.heldCapture f := by
  rw [State.fatal_acts f hr hp, hh, State.fatalWhistle_hold f ha hst hs hf hpar, State.fatalCapture_eq _ _ _ _ (by decide), State.heldCapture]

/-- With action NONE only HUB_FAULT_N and the interrupt stand (Table 6-14). -/
theorem State.fatal_none (hr : s.isReady = true) (hp : s.power = 0) (hn : s.fatalAction f = faNone) : s.fatal f =
    { s.wakeNote wkFatal with crash := { s.crash with
      noneIrq := s.crash.noneIrq ++ [s.faultCtx f], hold := true, asserts := s.crash.asserts ++ [none] } } := by
  have hw : (s.wakeNote wkFatal).fatalWhistle f faNone = (s.wakeNote wkFatal, false) := by
    unfold State.fatalWhistle
    exact if_pos rfl
  rw [State.fatal_acts f hr hp, hn, hw, State.fatalCapture_none, ← s.wakeNote_crash wkFatal, ← s.faultCtx_wakeNote f wkFatal]
  generalize s.wakeNote wkFatal = v
  rfl

end FatalActs

/-! ### The rows of FATAL_ERROR -/

/-- An agent's error is noted in its A_FAULT before it is acted on (R268). -/
theorem State.fatal_noted (s : State) (n : Nat) (f : FatalSource) (c : Agent → Agent) {b d : Nat} (hb : b < 9) :
    testBit (((s.modAgent n (fun g => (c g).fault s.fc b d)).fatal f).agent n |>.get AReg.A_FAULT) b = true
      ∧ ((s.modAgent n (fun g => (c g).fault s.fc b d)).fatal f).crash.hold = true := by
  obtain ⟨ho, hh⟩ := (s.modAgent n (fun g => (c g).fault s.fc b d)).fatalOnly_fatal f
  refine ⟨?_, hh⟩
  rw [State.agent, ho.agents, ← State.agent, State.modAgent_proj _ _ _ (fun g => g.get AReg.A_FAULT) fun _ => rfl]
  exact Agent.fault_bit _ _ _ _ hb

/-- Settles O34: what `fatal` does in each state of the hub, by the action of Table 6-14. -/
theorem fatalErrorsStopAndCapture : Obligations.FatalErrorsStopAndCapture := by
  unfold Obligations.FatalErrorsStopAndCapture
  refine ⟨fun f s hf => ?_, fun a s ha hn => ?_, fun k s hn => ?_, fun a q s ha hq => ⟨?_, fun hr => ?_, fun hr => ?_⟩, fun s => ?_⟩
  · have hex : exec (.fatalError f) s = .next (s.fatal f) := by
      rcases hf with ⟨k, rfl, hk⟩ | ⟨a, rfl, ha, hk⟩
      · exact congrArg _ (if_pos hk)
      · exact (if_pos ⟨ha, rfl⟩).trans (congrArg _ (if_pos hk))
    refine ⟨fun hw => ⟨_, hex, ?_⟩, fun hr hp => ⟨fun hold ha hst hs hfr hpar => ⟨_, hex, ?_⟩, fun hold hn => ⟨_, hex, ?_⟩⟩⟩
    · rw [State.fatal_waits f hw]
      exact ⟨rfl, rfl, s.wakeNote_whistle wkFatal, fun g => s.get_wakeNote wkFatal g, s.wakeNote_agents wkFatal⟩
    · rw [State.fatal_hold f hr hp (s.fatalAction_hold f hold) ha hst hs hfr hpar]
      refine ⟨?_, s.heldCapture_branches f, ?_, s.heldCapture_hold f, s.heldCapture_agents f, fun h1 h2 h3 => s.heldCapture_armed f h1 h2 h3,
        s.heldCapture_disarmed f⟩
      · rw [s.heldCapture_get f (.inl (by decide)), State.fatalStopped, State.stoppedAll_state]
      · rw [s.heldCapture_get f (.inl (by decide)), State.fatalStopped, State.stoppedAll_source]
        rfl
    · rw [State.fatal_none f hr hp (s.fatalAction_none f (fun h => hold (.inr h)) hn)]
      exact ⟨rfl, rfl, s.wakeNote_whistle wkFatal, rfl, fun g => s.get_wakeNote wkFatal g, s.wakeNote_agents wkFatal⟩
  · exact (if_pos ⟨ha, rfl⟩).trans (congrArg _ (if_neg (by simp [hn])))
  · exact congrArg _ (if_neg (by simp [hn]))
  · obtain ⟨h1, h2⟩ := s.fatal_noted a.toNat (.agent a) (fun g => { g with aon3 := (g.aon3 + 1) % 2 ^ 32 }) (b := 3) (d := q.toNat) (by decide)
    exact ⟨_, if_pos ⟨ha, decide_eq_true hq⟩, h1, h2⟩
  · obtain ⟨h1, h2⟩ := s.fatal_noted a.toNat (.agent a) id (b := 2) (d := q.toNat) (by decide)
    exact ⟨_, (if_pos ⟨ha, decide_eq_true hq⟩).trans (congrArg _ (if_neg (by simp [Option.isNone_iff_eq_none, Option.isSome_iff_ne_none.1 hr]))), h1, h2⟩
  · exact (if_pos ⟨ha, decide_eq_true hq⟩).trans (congrArg _ (if_pos (by simp [hr])))
  · obtain ⟨ho, hh⟩ := (s.fault Slot.HUB 1 0).fatalOnly_fatal .hub
    refine ⟨_, rfl, ?_, hh, ho.agents.trans (s.fault_agents _ _ _)⟩
    rw [ho.get _ (.inl (by decide)) (.inl (by decide))]
    exact s.get_fault_bit (p := Slot.HUB) (b := 1) (d := 0) (by decide) (by decide)

end Sys2Proof.Machine

/-! PROOF. The Cut engine (chapter 6): its stop or snap, and the capture of the agents. -/

namespace Sys2Proof.Machine

/-! ### What a pass over the agents leaves alone -/

section MapAgents

variable (s : State) (f : Nat → Agent → Agent)

theorem State.mapAgents_eq : ∃ l, s.mapAgents f = { s with agents := l } := by
  unfold State.mapAgents
  generalize s.agents = es
  induction es generalizing s with
  | nil => exact ⟨_, rfl⟩
  | cons e es ih =>
    obtain ⟨l, h⟩ := ih (s.setAgent e.1 (f e.1 (s.agent e.1)))
    exact ⟨l, h⟩

@[simp] theorem State.mapAgents_get (g : Fld) : (s.mapAgents f).get g = s.get g := by
  obtain ⟨l, h⟩ := s.mapAgents_eq f
  rw [h]
  rfl
@[simp] theorem State.mapAgents_cut : (s.mapAgents f).cut = s.cut := by
  obtain ⟨l, h⟩ := s.mapAgents_eq f
  rw [h]

end MapAgents

/-! ### The marks of the cut point (R421) -/

section SendMarks

variable {s t u : State}

/-- From `s` to `t` only agents and the trace have changed. -/
def State.markOnly (s t : State) : Prop := ∃ ag tr, t = { s with agents := ag, trace := tr }

theorem State.markOnly_rfl (s : State) : s.markOnly s := ⟨_, _, rfl⟩

theorem State.markOnly.trans (h : s.markOnly t) (k : t.markOnly u) : s.markOnly u := by
  obtain ⟨_, _, rfl⟩ := h
  obtain ⟨ag, tr, rfl⟩ := k
  exact ⟨ag, tr, rfl⟩

theorem State.markOnly_setFh (s : State) (h : Nat) (f : FunnelHalf) : s.markOnly (s.setFh h f) := by
  unfold State.setFh
  split <;> exact ⟨_, _, rfl⟩

theorem State.markOnly_sendItem (s : State) (h : Nat) (i : TItem) : s.markOnly (s.sendItem h i) := s.markOnly_setFh h _

theorem State.markOnly_foldl {α : Type} (f : State → α → State) (hf : ∀ (s : State) x, s.markOnly (f s x)) (l : List α) (s : State) :
    s.markOnly (l.foldl f s) := by
  induction l generalizing s with
  | nil => exact s.markOnly_rfl
  | cons x l ih => exact (hf s x).trans (ih _)

/-- The job as the marks leave it: what the trace, the counters and the Millrace are checked against. -/
def CutJob.marked (j : CutJob) (m q c : Nat) (b : List (Nat × Int)) (l : List Nat) (d : Int) : CutJob :=
  { j with marks := m, traceChecked := q, cntChecked := c, cntBad := b, mill := l, millBad := d }

/-- The marks change the agents' encoders and the funnels, and note in the job what is to be checked. -/
theorem State.sendMarks_eq (s : State) (j : CutJob) : ∃ t m q c b l d, s.markOnly t ∧ s.sendMarks j = t.setCut (j.marked m q c b l d) := by
  unfold State.sendMarks
  dsimp only
  refine ⟨_, _, _, _, _, _, _, ?_, rfl⟩
  refine State.markOnly.trans (State.markOnly_foldl _ (fun t a => ?_) _ _)
    ((State.markOnly_setFh _ 0 _).trans (State.markOnly_setFh _ 1 _))
  split
  · exact t.markOnly_sendItem _ _
  · exact ⟨_, _, rfl⟩

/-- After the marks have been sent the engine's state and the registers are as they were. -/
theorem State.sendMarks_frame (s : State) (j : CutJob) : (∀ g, (s.sendMarks j).get g = s.get g)
    ∧ (s.sendMarks j).cut.shadows = s.cut.shadows
    ∧ ∃ k, (s.sendMarks j).cut.job = some k ∧ k.sel = j.sel ∧ k.captured = j.captured ∧ k.capFc = j.capFc
      ∧ k.frozenFc = j.frozenFc ∧ k.others = j.others := by
  obtain ⟨t, m, q, c, b, l, d, ⟨ag, tr, rfl⟩, h⟩ := s.sendMarks_eq j
  rw [h]
  exact ⟨fun _ => rfl, rfl, _, rfl, rfl, rfl, rfl, rfl, rfl⟩

end SendMarks

/-! ### SETUP ends (R239, R240, R244, R188) -/

section CutArm

variable {s : State} {j : CutJob} {b : Bool}

/-- What CUT_ARM_RESPONSE does with a job in SETUP that is not lost. -/
theorem exec_cutArm_idle (h : s.cut.job = none ∨ s.cutState ≠ csSetup ∨ ∃ j, s.cut.job = some j ∧ j.lost = true) :
    exec (.cutArmResponse b) s = .next s := by
  change execCutArmResponse b s = _
  unfold execCutArmResponse
  refine congrArg Host.Outcome.next ?_
  split
  · rfl
  next j hj =>
    refine if_pos ?_
    rcases h with h | h | ⟨k, h, hl⟩
    · exact absurd (hj.symm.trans h) (by simp)
    · exact .inl h
    · rw [hj] at h
      rw [Option.some.inj h]
      exact .inr hl

theorem exec_cutArm_stop (hj : s.cut.job = some j) (hs : s.cutState = csSetup) (hl : j.lost = false) (hc : j.code = 2 ∨ j.code = 3) :
    exec (.cutArmResponse b) s = .next (s.cutDrive { j with kind := 3 } j.stopReq) := by
  change execCutArmResponse b s = _
  unfold execCutArmResponse
  refine congrArg Host.Outcome.next ?_
  rw [hj]
  dsimp only
  rw [if_neg (by simp [hs, hl]), if_pos hc]

theorem exec_cutArm_frozen (hj : s.cut.job = some j) (hs : s.cutState = csSetup) (hl : j.lost = false) (hc : j.code = 1)
    (hk : j.kind = 3) : exec (.cutArmResponse b) s
      = .next ((s.setCut (s.noteTrig j s.fc s.pos64)).put Reg.CUT.CUT_STATE.STATE csStopping) := by
  change execCutArmResponse b s = _
  unfold execCutArmResponse
  refine congrArg Host.Outcome.next ?_
  rw [hj]
  dsimp only
  rw [if_neg (by simp [hs, hl]), if_neg (by omega), if_pos hk]

/-- A stop that is driven or merged: the engine is in STOPPING, with the trigger fc noted. -/
theorem State.cutDrive_taken {r : WReq} (h : (s.whistleReq r).2 = wrDriven ∨ (s.whistleReq r).2 = wrMerged) :
    s.cutDrive j r = (((s.whistleReq r).1.setCut ((s.whistleReq r).1.noteTrig
      { j with ownStop := s.get Reg.WHISTLE.STATE.STATE == wsRunning && (s.whistleReq r).2 == wrDriven }
      (s.whistleReq r).1.fc (s.whistleReq r).1.pos64)).put Reg.CUT.CUT_STATE.STATE csStopping) := by
  have hr : wrRefused (s.whistleReq r).2 = false := by
    rcases h with h | h <;> rw [h] <;> rfl
  have hh : (s.whistleReq r).2 ≠ wrHeld := by
    rcases h with h | h <;> rw [h] <;> decide
  unfold State.cutDrive
  dsimp only
  rw [if_neg (by simp [hr]), if_neg hh]

/-- A stop that is refused ends a cut of CMD (R188, R239). -/
theorem State.cutDrive_refused {r : WReq} (h : wrRefused (s.whistleReq r).2 = true) :
    s.cutDrive j r = ((s.whistleReq r).1.setCut j).cutRefused := by
  unfold State.cutDrive
  dsimp only
  rw [if_pos h]

theorem State.cutState_put (s : State) (v : Nat) : (s.put Reg.CUT.CUT_STATE.STATE v).cutState = v % 16 := s.get_put_same _ v

theorem State.cutRefused_cmd (hj : s.cut.job = some j) (hc : j.code ≠ 9) (hr : j.reqSource ≠ 6) : s.cutRefused.cutState = csIdle
    ∧ s.cutRefused.cut.job = none ∧ s.cutRefused.get Reg.CUT.CUT_STATE.OUTCOME = coAborted ∧ s.cutRefused.get Reg.CUT.EVENT.FAILED = 1 := by
  have heq : s.cutRefused = (({ (s.put Reg.CUT.CUT_STATE.OUTCOME coAborted).raise Reg.CUT.EVENT.FAILED with
      cut := { s.cut with job := none } } : State).mapAgents (fun _ g => { g with armReq := none })).put Reg.CUT.CUT_STATE.STATE csIdle := by
    unfold State.cutRefused
    rw [hj]
    dsimp only
    rw [if_neg hc, if_neg hr]
    rfl
  rw [heq]
  refine ⟨State.cutState_put _ _, ?_, ?_, ?_⟩
  · rw [State.put_cut, State.mapAgents_cut]
  · rw [State.get_put_ne _ _ (by decide), State.mapAgents_get]
    exact (State.get_raise_ne _ (by decide)).trans (State.get_put_same _ _ _)
  · rw [State.get_put_ne _ _ (by decide), State.mapAgents_get]
    exact State.get_raise_same _ rfl

end CutArm

/-! ### STOPPING ends (R237, R35) -/

section CutFrozen

variable {s : State} {j : CutJob}

/-- What CUT_FROZEN does with a job in STOPPING that is not lost and awaits nothing of the arbiter. -/
theorem exec_cutFrozen (hj : s.cut.job = some j) (hs : s.cutState = csStopping) (hw : j.waitReq = none) (hl : j.lost = false) :
    exec .cutFrozen s = .next (
      if (if j.kind = 1 then decide (j.trigFc + 25 ≤ s.fc) else s.get Reg.WHISTLE.STATE.STATE == wsFrozen) = true
        then s.cutReached j else s) := by
  have hset : s.setCut j = s := by
    unfold State.setCut
    rw [← hj]
  change execCutFrozen s = _
  unfold execCutFrozen
  refine congrArg Host.Outcome.next ?_
  rw [hj]
  dsimp only
  rw [if_neg (by simp [hs, hl]), State.cutResolved, hw]
  dsimp only
  rw [hset]

theorem exec_cutFrozen_idle (h : s.cut.job = none ∨ s.cutState ≠ csStopping ∨ ∃ j, s.cut.job = some j ∧ j.lost = true) :
    exec .cutFrozen s = .next s := by
  change execCutFrozen s = _
  unfold execCutFrozen
  refine congrArg Host.Outcome.next ?_
  split
  · rfl
  next j hj =>
    refine if_pos ?_
    rcases h with h | h | ⟨k, h, hl⟩
    · exact absurd (hj.symm.trans h) (by simp)
    · exact .inl h
    · rw [hj] at h
      rw [Option.some.inj h]
      exact .inr hl

/-- A frozen cut begins to drain: the capture requests go out (R237). -/
theorem State.cutReached_frozen (s : State) (hk : j.kind ≠ 1) : (s.cutReached j).cutState = csAgents
    ∧ ∃ k, (s.cutReached j).cut.job = some k ∧ k.capFc = some s.fc ∧ k.frozenFc = some s.fc ∧ k.sel = j.sel
      ∧ k.others = s.frozenOthers j := by
  unfold State.cutReached
  dsimp only
  rw [if_neg hk]
  obtain ⟨hget, -, k, hjob, hsel, -, hcap, hfr, hot⟩ := State.sendMarks_frame (s.put Reg.CUT.CUT_STATE.STATE csAgents)
    { j with capFc := some s.fc, frozenFc := some s.fc, others := s.frozenOthers j
             omitted := (s.put Reg.CUT.CUT_STATE.STATE csAgents).leftRunning j }
  exact ⟨(hget _).trans (s.cutState_put csAgents), k, hjob, hcap, hfr, hsel, hot⟩

/-- The selected agents whose shadows the cut's own SNAP has made (R35). -/
def State.snapMine (s : State) (j : CutJob) : List Nat :=
  ((s.agents.filterMap (fun e => match e.2.shadow with
    | some h => if j.trigFc ≤ h.fc then some (e.1, if h.channels then h else e.2.captureChannels e.1 h) else none
    | none => none)).filter (fun e => j.sel.picksCtx e.1 e.2.ctx)).map (·.1)

/-- A snap begins to drain: it has captured the agents of its own SNAP (R35, R237). -/
theorem State.cutReached_snap (s : State) (hk : j.kind = 1) : (s.cutReached j).cutState = csAgents
    ∧ (s.cutReached j).cut.shadows = s.snapMine j
    ∧ ∃ k, (s.cutReached j).cut.job = some k ∧ (s.cutReached j).cut.shadows = k.captured ∧ k.sel = j.sel := by
  unfold State.cutReached
  dsimp only
  rw [if_pos hk]
  unfold State.snapTaken
  dsimp only
  obtain ⟨hget, hsh, k, hjob, hsel, hcap, -⟩ := State.sendMarks_frame _ _
  refine ⟨(hget _).trans ?_, hsh, k, hjob, hsh.trans hcap.symm, hsel⟩
  refine (State.mapAgents_get _ _ _).trans ?_
  exact s.cutState_put csAgents

theorem Sparse.get_of_mem {α : Type} {m : Sparse α} (hm : Sparse.wf m) {e : Nat × α} (he : e ∈ m) (d : α) : Sparse.get m e.1 d = e.2 := by
  induction m with
  | nil => exact absurd he (by simp)
  | cons x m ih =>
    obtain ⟨hx, hm⟩ := List.pairwise_cons.1 hm
    rcases List.mem_cons.1 he with rfl | he
    · exact if_pos rfl
    · exact (if_neg (Nat.ne_of_lt (hx e he))).trans (ih hm he)

/-- Such an agent holds a shadow of the cut's SNAP, of a context that is selected. -/
theorem State.mem_snapMine (hc : Sparse.wf s.agents) {n : Nat} (hn : n ∈ s.snapMine j) :
    ∃ h, (s.agent n).shadow = some h ∧ j.trigFc ≤ h.fc ∧ j.sel.picksCtx n h.ctx = true := by
  obtain ⟨⟨a, h⟩, hmem, rfl⟩ := List.mem_map.1 hn
  obtain ⟨hmade, hpick⟩ := List.mem_filter.1 hmem
  obtain ⟨e, he, hsome⟩ := List.mem_filterMap.1 hmade
  have hag : s.agent e.1 = e.2 := Sparse.get_of_mem hc he _
  have hctx : ∀ h' : Shadow, (if h'.channels then h' else e.2.captureChannels e.1 h').ctx = h'.ctx := by
    intro h'
    split <;> rfl
  split at hsome
  next h' hsh =>
    split at hsome
    next hle =>
      obtain ⟨rfl, rfl⟩ := Prod.mk.inj (Option.some.inj hsome)
      exact ⟨h', by rw [hag, hsh], hle, by rw [← hctx h']; exact hpick⟩
    · exact absurd hsome (by simp)
  · exact absurd hsome (by simp)

end CutFrozen

/-! ### An agent captures (R236) -/

section CaptureRequest

variable {s : State} {j : CutJob} {a : AgentId}

/-- What an agent does at its capture. -/
def Agent.captureFor (g : Agent) (s : State) (j : CutJob) (n : Nat) : Agent :=
  if j.sel.arms n then ({ g.capture n s.fc true with armReq := some (s.armOf j) }).armAct n false else g.capture n s.fc true

theorem Agent.captureFor_proj (g : Agent) (s : State) (j : CutJob) (n : Nat) {α : Type} (p : Agent → α)
    (hp : ∀ (x : Agent) a pg c l d lp dp,
      p { x with armReq := a, protectedG := pg, cowArmed := c, latchedG := l, dirty := d, latchedP := lp, dirtyPages := dp } = p x) :
    p (g.captureFor s j n) = p (g.capture n s.fc true) := by
  unfold Agent.captureFor
  split
  · rw [Agent.armAct_proj _ _ _ p hp]
    exact hp (g.capture n s.fc true) _ _ _ _ _ _ _
  · rfl

theorem exec_captureRequest_none (ha : agentType a.toNat ≠ 0) (hj : s.cut.job = some j)
    (h : j.capFc = none ∨ a.toNat ∈ j.captured ∨ j.sel.picksCtx a.toNat (s.agentNow a.toNat).ctx = false
      ∨ (s.agentNow a.toNat).frozen = false) : exec (.captureRequest a) s = .next s := by
  refine (if_pos ⟨ha, rfl⟩).trans (congrArg Host.Outcome.next ?_)
  rw [hj]
  refine if_pos ?_
  rcases h with h | h | h | h <;> simp [-State.agentNow_ctx, -State.agentNow_frozen, h]

theorem exec_captureRequest_some (ha : agentType a.toNat ≠ 0) (hj : s.cut.job = some j) (hc : j.capFc.isSome = true)
    (hn : a.toNat ∉ j.captured) (hp : j.sel.picksCtx a.toNat (s.agentNow a.toNat).ctx = true)
    (hf : (s.agentNow a.toNat).frozen = true) : exec (.captureRequest a) s = .next (
      let t := s.modAgent a.toNat (fun g => g.captureFor s j a.toNat)
      ({ t with cut := { t.cut with shadows := t.cut.shadows ++ [a.toNat] } }).setCut { j with captured := j.captured ++ [a.toNat] }) := by
  refine (if_pos ⟨ha, rfl⟩).trans (congrArg Host.Outcome.next ?_)
  rw [hj]
  refine if_neg ?_
  simp [-State.agentNow_ctx, -State.agentNow_frozen, Option.isSome_iff_ne_none.1 hc, hn, hp, hf]

/-- The capture changes the agent and its shadow only. -/
theorem State.captureFor_spec (s : State) (j : CutJob) (n : Nat) : let t := s.modAgent n (fun g => g.captureFor s j n)
    (∃ h, (t.agent n).shadow = some h ∧ h.fc = s.fc ∧ h.ctx = (s.agentNow n).ctx) ∧ s.onlyAgent t n := by
  intro t
  have hproj := fun {α : Type} (p : Agent → α) hp => (s.agentNow n).captureFor_proj s j n p hp
  obtain ⟨h, m, hc, hfc, hctx⟩ := (s.agentNow n).capture_eq n s.fc true
  rw [hc] at hproj
  refine ⟨⟨h, ?_, hfc, hctx⟩, s.modAgent_onlyAgent n ?_ ?_⟩
  · rw [State.modAgent_proj _ _ _ Agent.shadow fun _ => rfl, hproj Agent.shadow fun _ _ _ _ _ _ _ _ => rfl]
  · rw [hproj Agent.frozen fun _ _ _ _ _ _ _ _ => rfl]
    exact s.agentNow_frozen n
  · rw [hproj (fun x => x.get AReg.A_FAULT) fun _ _ _ _ _ _ _ _ => rfl, ← s.agentNow_fault n]
    exact id

end CaptureRequest

/-- Settles O29: SETUP and STOPPING end as the arbiter answers, and the agents capture. -/
theorem cutsStopAndCapture : Obligations.CutsStopAndCapture := by
  unfold Obligations.CutsStopAndCapture
  intro s
  refine ⟨fun b h => exec_cutArm_idle (h.imp_right .inl), fun h => exec_cutFrozen_idle (h.imp_right .inl),
    fun b j hj hl => ⟨exec_cutArm_idle (.inr (.inr ⟨j, hj, hl⟩)), exec_cutFrozen_idle (.inr (.inr ⟨j, hj, hl⟩))⟩,
    fun b j hj hs hl => ⟨fun hc hr => ?_, fun hc h6 hr => ?_, fun hc hk => ?_⟩,
    fun j hj hs hw hl => ⟨fun hk hf => ?_, fun hk hf => ?_, fun hk hle => ?_, fun hk hlt => ?_⟩,
    fun a j ha hj => ⟨fun hc hn hp hf => ?_, fun h => exec_captureRequest_none ha hj h⟩⟩
  · refine ⟨_, (exec_cutArm_stop hj hs hl hc).trans (congrArg _ (State.cutDrive_taken hr)), State.cutState_put _ _, _, rfl, rfl, rfl, rfl,
      ?_, rfl, rfl⟩
    exact (s.whistleOnly_whistleReq j.stopReq).fc
  · refine ⟨_, (exec_cutArm_stop hj hs hl hc).trans (congrArg _ (State.cutDrive_refused hr)), ?_⟩
    exact State.cutRefused_cmd rfl (by rcases hc with h | h <;> rw [h] <;> decide) h6
  · exact ⟨_, exec_cutArm_frozen hj hs hl hc hk, State.cutState_put _ _, ⟨_, rfl, hk, rfl, rfl, rfl⟩,
      fun g _ hg => State.get_put_ne _ _ (by simpa using hg), rfl⟩
  · refine ⟨_, (exec_cutFrozen hj hs hw hl).trans (congrArg _ (if_pos ?_)), s.cutReached_frozen hk⟩
    rw [if_neg hk, hf]
    rfl
  · refine (exec_cutFrozen hj hs hw hl).trans (congrArg _ (if_neg ?_))
    rw [if_neg hk]
    simpa using hf
  · obtain ⟨h1, h2, h3⟩ := s.cutReached_snap hk
    refine ⟨_, (exec_cutFrozen hj hs hw hl).trans (congrArg _ (if_pos ?_)), h1, h3, fun hcan n hn => ?_⟩
    · rw [if_pos hk]
      exact decide_eq_true hle
    · rw [h2] at hn
      exact State.mem_snapMine hcan.2.2.2 hn
  · refine (exec_cutFrozen hj hs hw hl).trans (congrArg _ (if_neg ?_))
    rw [if_pos hk]
    simpa using hlt
  · obtain ⟨hsh, hon⟩ := s.captureFor_spec j a.toNat
    refine ⟨_, exec_captureRequest_some ha hj hc hn hp hf, hsh, ?_, ⟨_, rfl, rfl, rfl⟩, hon⟩
    exact congrArg (fun c : Cut => c.shadows ++ [a.toNat]) (s.modAgent_cut a.toNat _)

end Sys2Proof.Machine

namespace Sys2Proof.Machine

/-! ### An agent of a pass over the agents -/

section MapAgent

variable {α : Type}

theorem Sparse.get_of_not_mem (m : Sparse α) {i : Nat} (h : i ∉ m.map (·.1)) (d : α) : Sparse.get m i d = d := by
  induction m with
  | nil => rfl
  | cons e m ih =>
    simp only [List.map_cons, List.mem_cons, not_or] at h
    exact (if_neg (Ne.symm h.1)).trans (ih h.2)

/-- A pass that changes an agent but once, and leaves an agent at reset alone, changes every agent. -/
theorem State.agent_mapAgents (s : State) (f : Nat → Agent → Agent) (hf : ∀ a g, f a (f a g) = f a g) (hd : ∀ a, f a {} = {}) (b : Nat) :
    (s.mapAgents f).agent b = f b (s.agent b) := by
  have fold : ∀ (l : Sparse Agent) (t : State),
      (l.foldl (fun t e => t.setAgent e.1 (f e.1 (t.agent e.1))) t).agent b
        = if b ∈ l.map (·.1) then f b (t.agent b) else t.agent b := by
    intro l
    induction l with
    | nil => exact fun t => rfl
    | cons e l ih =>
      intro t
      rw [List.foldl_cons, ih]
      by_cases he : b = e.1
      · subst he
        rw [State.agent_setAgent_same, hf, ite_self, if_pos (by simp)]
      · have hm : b ∈ (e :: l).map (·.1) ↔ b ∈ l.map (·.1) := by simp [he]
        rw [State.agent_setAgent_ne _ _ he, if_congr hm rfl rfl]
  rw [State.mapAgents, fold]
  split
  · rfl
  next h => rw [State.agent, Sparse.get_of_not_mem _ h, hd]

end MapAgent

/-! ### A request to the Cut engine (R239, R241, R243, R252, R262) -/

section CutRequest

variable {s : State} {code set src det wh source rank : Nat} {c : CutSel}

/-- Why the fabric's state refuses a request, and what becomes of one that it does not refuse. -/
def State.cutJudge (s : State) (code set : Nat) (sel : CutSel) (reqSource reqDetail withheld source rank : Nat) : Nat × State :=
  let st := s.get Reg.WHISTLE.STATE.STATE
  if st = wsFreezing ∨ st = wsResuming then (crState, s)
  else if code = 1 ∧ st = wsRunning ∧ s.cfg Reg.CUT.POLICY.DEST = 1 then (crState, s)
  else if code = 4 then
    if st ≠ wsFrozen then (crState, s)
    else if s.cfg Reg.CUT.POLICY.DEST = 0 ∧ s.cfg Reg.CUT.DEST_LO % 64 ≠ 0 then (crDest, s)
    else (crAccepted, s.cutStart { code := 4, set := set, sel := sel, reqSource := reqSource, reqDetail := reqDetail, rank := rank } source)
  else
    if s.setRefused code sel ≠ 0 then (s.setRefused code sel, s)
    else (crAccepted, s.cutStart { code := code, set := set, sel := sel, reqSource := reqSource, reqDetail := reqDetail, withheld := withheld,
                                   rank := rank, kind := if code = 1 ∧ st = wsFrozen then 3 else 0 } source)

section Open

variable (ht : s.tossActive = false) (hp : s.parityOk Slot.CUT = true)
include ht hp

theorem State.cutRequest_disabled (he : s.cfg Reg.CUT.CTRL.ENABLE = 0) :
    s.cutRequest code set c src det wh source rank = (crDisabled, s) := by
  unfold State.cutRequest
  dsimp only
  rw [if_neg (by simp [ht]), if_neg (by simp [hp]), if_pos he]

variable (he : s.cfg Reg.CUT.CTRL.ENABLE = 1)
include he

theorem State.cutRequest_busy (hb : ¬ s.cutYields rank ∨ s.mill.pending
    ∨ (s.get Reg.MILLRACE.ROLE.ROLE = 1 ∧ s.get Reg.MILLRACE.CTRL.ENABLE = 1)) :
    s.cutRequest code set c src det wh source rank = (crBusy, s) := by
  unfold State.cutRequest
  dsimp only
  rw [if_neg (by simp [ht]), if_neg (by simp [hp]), if_neg (by simp [he]), if_pos hb]

variable (hb : ¬ (¬ s.cutYields rank ∨ s.mill.pending ∨ (s.get Reg.MILLRACE.ROLE.ROLE = 1 ∧ s.get Reg.MILLRACE.CTRL.ENABLE = 1)))
include hb

theorem State.cutRequest_shadows (hs : s.snapBlocked = true) :
    s.cutRequest code set c src det wh source rank = (crShadows, s) := by
  unfold State.cutRequest
  dsimp only
  rw [if_neg (by simp [ht]), if_neg (by simp [hp]), if_neg (by simp [he]), if_neg hb, if_pos hs]

theorem State.cutRequest_judged (hs : s.snapBlocked = false) :
    s.cutRequest code set c src det wh source rank = s.cutJudge code set c src det wh source rank := by
  unfold State.cutRequest
  dsimp only
  rw [if_neg (by simp [ht]), if_neg (by simp [hp]), if_neg (by simp [he]), if_neg hb, if_neg (by simp [hs])]
  rfl

end Open

/-- FREEZING and RESUMING refuse every request, RUNNING a restore and a CUT to the port (R241, R262, R266). -/
theorem State.cutJudge_state (h : s.get Reg.WHISTLE.STATE.STATE = wsFreezing ∨ s.get Reg.WHISTLE.STATE.STATE = wsResuming
    ∨ (s.get Reg.WHISTLE.STATE.STATE = wsRunning ∧ (code = 4 ∨ (code = 1 ∧ s.cfg Reg.CUT.POLICY.DEST = 1)))) :
    s.cutJudge code set c src det wh source rank = (crState, s) := by
  unfold State.cutJudge
  dsimp only
  rcases h with h | h | ⟨h, h4 | ⟨h1, hd⟩⟩
  · exact if_pos (.inl h)
  · exact if_pos (.inr h)
  · rw [if_neg (by rw [h]; decide), if_neg (by omega), if_pos h4, if_pos (by rw [h]; decide)]
  · rw [if_neg (by rw [h]; decide), if_pos ⟨h1, h, hd⟩]

/-- The fabric's state does not stand in the request's way. -/
def State.cutFits (s : State) (code : Nat) : Prop :=
  s.get Reg.WHISTLE.STATE.STATE = wsFrozen
    ∨ (s.get Reg.WHISTLE.STATE.STATE = wsRunning ∧ code ≠ 4 ∧ (code = 1 → s.cfg Reg.CUT.POLICY.DEST ≠ 1))

theorem State.cutJudge_set (hf : s.cutFits code) (h4 : code ≠ 4) (hr : s.setRefused code c ≠ 0) :
    s.cutJudge code set c src det wh source rank = (s.setRefused code c, s) := by
  unfold State.cutJudge
  dsimp only
  rcases hf with h | ⟨h, -, hd⟩
  · rw [if_neg (by rw [h]; decide), if_neg (by rw [h]; exact fun hc => absurd hc.2.1 (by decide)), if_neg h4, if_pos hr]
  · rw [if_neg (by rw [h]; decide), if_neg (fun hc => hd hc.1 hc.2.2), if_neg h4, if_pos hr]

theorem State.cutJudge_restoreDest (hf : s.get Reg.WHISTLE.STATE.STATE = wsFrozen)
    (hr : s.cfg Reg.CUT.POLICY.DEST = 0 ∧ s.cfg Reg.CUT.DEST_LO % 64 ≠ 0) :
    s.cutJudge 4 set c src det wh source rank = (crDest, s) := by
  unfold State.cutJudge
  dsimp only
  rw [if_neg (by rw [hf]; decide), if_neg (by simp), if_pos rfl, if_neg (by rw [hf]; decide), if_pos hr]

theorem State.cutJudge_restore (hf : s.get Reg.WHISTLE.STATE.STATE = wsFrozen)
    (hr : ¬ (s.cfg Reg.CUT.POLICY.DEST = 0 ∧ s.cfg Reg.CUT.DEST_LO % 64 ≠ 0)) :
    s.cutJudge 4 set c src det wh source rank = (crAccepted,
      s.cutStart { code := 4, set := set, sel := c, reqSource := src, reqDetail := det, rank := rank } source) := by
  unfold State.cutJudge
  dsimp only
  rw [if_neg (by rw [hf]; decide), if_neg (by simp), if_pos rfl, if_neg (by rw [hf]; decide), if_neg hr]

theorem State.cutJudge_accepted (hf : s.cutFits code) (h4 : code ≠ 4) (hr : s.setRefused code c = 0) :
    s.cutJudge code set c src det wh source rank = (crAccepted,
      s.cutStart { code := code, set := set, sel := c, reqSource := src, reqDetail := det, withheld := wh, rank := rank
                   kind := if code = 1 ∧ s.get Reg.WHISTLE.STATE.STATE = wsFrozen then 3 else 0 } source) := by
  unfold State.cutJudge
  dsimp only
  rcases hf with h | ⟨h, -, hd⟩
  · rw [if_neg (by rw [h]; decide), if_neg (by rw [h]; exact fun hc => absurd hc.2.1 (by decide)), if_neg h4, if_neg (by simp [hr])]
  · rw [if_neg (by rw [h]; decide), if_neg (fun hc => hd hc.1 hc.2.2), if_neg h4, if_neg (by simp [hr])]

end CutRequest

/-! ### The start of a cut (R45, Table 6-3) -/

section CutStart

variable {s : State} {j : CutJob} {source : Nat}

/-- The job as it is accepted. -/
def State.startedJob (s : State) (j : CutJob) : CutJob :=
  { j with id := s.cut.count + 1
           startFc := s.fc
           dest := s.cfg64 Reg.CUT.DEST_LO Reg.CUT.DEST_HI
           limit := s.cfg64 Reg.CUT.LIMIT_LO Reg.CUT.LIMIT_HI
           toPort := s.cfg Reg.CUT.POLICY.DEST == 1 && j.code != 9
           resumeAfter := s.cfg Reg.CUT.POLICY.RESUME_AFTER == 1 && j.code == 2 }

/-- The registers that show the start of a cut. -/
def State.showStart (s : State) (source st : Nat) : State :=
  (((((s.put Reg.CUT.COW_STALLS.COUNT 0).put64 Reg.CUT.LEN_LO Reg.CUT.LEN_HI 0).put Reg.CUT.CUT_STATE.SOURCE source).put
    Reg.CUT.CUT_STATE.OUTCOME 0).put Reg.CUT.CUT_STATE.FREEZE 0).put Reg.CUT.CUT_STATE.STATE st

/-- A request is accepted by an idle engine. -/
theorem State.cutStart_eq (hj : s.cut.job = none) : ∃ ag hop mm, s.cutStart j source =
    ({ s with agents := ag, hopper := hop, mm := mm
              cut := { s.cut with count := if j.code = 4 then s.cut.count else s.cut.count + 1, job := some (s.startedJob j), staged := [] } } :
      State).showStart source (if j.code = 4 then csRestore else csSetup)
    ∧ ∀ b, Sparse.get ag b {} = { s.agent b with cowStalls := 0 } := by
  have hy : s.cutYield = s := by
    unfold State.cutYield
    rw [hj]
  have hag := s.agent_mapAgents (fun _ g => { g with cowStalls := 0 }) (fun _ _ => rfl) (fun _ => rfl)
  obtain ⟨l, hl⟩ := s.mapAgents_eq (fun _ g => { g with cowStalls := 0 })
  unfold State.cutStart
  dsimp only
  rw [hy]
  rw [hl] at hag ⊢
  split
  · exact ⟨_, _, _, rfl, hag⟩
  · exact ⟨_, _, _, rfl, hag⟩

end CutStart
end Sys2Proof.Machine

namespace Sys2Proof.Machine

/-! ### What shows the start of a cut (R45, Table 6-3) -/

section ShowStart

variable {s : State} {j : CutJob} {source st : Nat}

/-- The registers that a start writes. -/
def startFlds : List Fld := [Reg.CUT.CUT_STATE.STATE, Reg.CUT.CUT_STATE.OUTCOME, Reg.CUT.CUT_STATE.FREEZE, Reg.CUT.CUT_STATE.SOURCE,
  Reg.CUT.LEN_LO, Reg.CUT.LEN_HI, Reg.CUT.COW_STALLS.COUNT]

theorem State.showStart_ne (s : State) (source st : Nat) {g : Fld} (hg : g.key ∉ startFlds.map Fld.key) :
    (s.showStart source st).get g = s.get g := by
  simp only [startFlds, List.map_cons, List.map_nil, List.mem_cons, List.not_mem_nil, or_false, not_or] at hg
  obtain ⟨h1, h2, h3, h4, h5, h6, h7⟩ := hg
  rw [State.showStart, State.get_put_ne _ _ h1, State.get_put_ne _ _ h3, State.get_put_ne _ _ h2, State.get_put_ne _ _ h4,
    State.get_put64_ne _ _ h5 h6, State.get_put_ne _ _ h7]

/-- What a start shows. -/
structure State.showsStart (t : State) (source st : Nat) : Prop where
  state : t.get Reg.CUT.CUT_STATE.STATE = st
  outcome : t.get Reg.CUT.CUT_STATE.OUTCOME = 0
  freeze : t.get Reg.CUT.CUT_STATE.FREEZE = 0
  source : t.get Reg.CUT.CUT_STATE.SOURCE = source
  len : t.get64 Reg.CUT.LEN_LO Reg.CUT.LEN_HI = 0
  stalls : t.get Reg.CUT.COW_STALLS.COUNT = 0

theorem State.showStart_shows (s : State) (hsrc : source < 16) (hst : st < 16) : (s.showStart source st).showsStart source st where
  state := (State.get_put_same _ _ _).trans (Nat.mod_eq_of_lt hst)
  outcome := by
    rw [State.showStart, State.get_put_ne _ _ (by decide), State.get_put_ne _ _ (by decide), State.get_put_same]
    rfl
  freeze := by
    rw [State.showStart, State.get_put_ne _ _ (by decide), State.get_put_same]
    rfl
  source := by
    rw [State.showStart, State.get_put_ne _ _ (by decide), State.get_put_ne _ _ (by decide), State.get_put_ne _ _ (by decide),
      State.get_put_same]
    exact Nat.mod_eq_of_lt hsrc
  len := by
    have h := State.get64_put64 (s.put Reg.CUT.COW_STALLS.COUNT 0) (lo := Reg.CUT.LEN_LO) (hi := Reg.CUT.LEN_HI) 0 rfl rfl (by decide)
    have hne : ∀ g : Fld, g.key ∉ [Reg.CUT.CUT_STATE.STATE, Reg.CUT.CUT_STATE.FREEZE, Reg.CUT.CUT_STATE.OUTCOME,
        Reg.CUT.CUT_STATE.SOURCE].map Fld.key → (s.showStart source st).get g
          = ((s.put Reg.CUT.COW_STALLS.COUNT 0).put64 Reg.CUT.LEN_LO Reg.CUT.LEN_HI 0).get g := by
      intro g hg
      simp only [List.map_cons, List.map_nil, List.mem_cons, List.not_mem_nil, or_false, not_or] at hg
      obtain ⟨h1, h2, h3, h4⟩ := hg
      rw [State.showStart, State.get_put_ne _ _ h1, State.get_put_ne _ _ h2, State.get_put_ne _ _ h3, State.get_put_ne _ _ h4]
    rw [State.get64, hne _ (by decide), hne _ (by decide), ← State.get64, h, Nat.zero_mod]
  stalls := by
    rw [State.showStart, State.get_put_ne _ _ (by decide), State.get_put_ne _ _ (by decide), State.get_put_ne _ _ (by decide),
      State.get_put_ne _ _ (by decide), State.get_put64_ne _ _ (by decide) (by decide), State.get_put_same]
    rfl

/-- What a request that an idle engine accepts changes. -/
structure State.cutStarted (s t : State) (j : CutJob) (source : Nat) : Prop where
  shows : t.showsStart source (if j.code = 4 then csRestore else csSetup)
  job : t.cut.job = some (s.startedJob j)
  count : t.cut.count = if j.code = 4 then s.cut.count else s.cut.count + 1
  agents : ∀ b, t.agent b = { s.agent b with cowStalls := 0 }
  faults : t.hwFault = s.hwFault
  get : ∀ g : Fld, g.key ∉ startFlds.map Fld.key → t.get g = s.get g

theorem State.cutStart_started (hj : s.cut.job = none) (hs : source < 16) : s.cutStarted (s.cutStart j source) j source := by
  obtain ⟨ag, hop, mm, h, hag⟩ := State.cutStart_eq (j := j) (source := source) hj
  rw [h]
  have hst : (if j.code = 4 then csRestore else csSetup) < 16 := by
    split <;> decide
  exact ⟨State.showStart_shows _ hs hst, rfl, rfl, hag, rfl, fun g hg => State.showStart_ne _ _ _ hg⟩

end ShowStart

/-! ### A write of CUT.CMD (R239) -/

section CutAccess

variable {s v : State} {x : Src} {code r : Nat}

/-- The rows that write CUT.CMD, with the code that each writes. -/
def cutRows (x : Src) : List (Instr × Nat) := [(.cut (.access x), 1), (.stopAndCut x, 2), (.contextSave x, 3), (.contextRestore x, 4)]

theorem exec_cutRow (s : State) {ic : Instr × Nat} (h : ic ∈ cutRows x) :
    exec ic.1 s = .next (s.busWrite x 0x20044 (BitVec.ofNat 32 ic.2)) ∧ 1 ≤ ic.2 ∧ ic.2 ≤ 4 := by
  simp only [cutRows, List.mem_cons, List.not_mem_nil, or_false] at h
  rcases h with rfl | rfl | rfl | rfl <;> exact ⟨rfl, by simp, by simp⟩

/-- The state in which CUT.CMD is written. -/
def State.cutTurn (s : State) (x : Src) (code : Nat) : State := s.writeTurn x 0x20044 (BitVec.ofNat 32 code)

theorem State.writeSpecial_cutCmd (u : State) (x : Src) (d m : Nat) (l : Bool) : u.writeSpecial ⟨x, 0x20044, d, false, m⟩ l
    = some (u.cutCmd (d % 8) (u.cfg Reg.CUT.SET_SEL.SET) (srcWhistle x) (srcNo x)) := by
  simp [State.writeSpecial, State.writeJobs, Slot.TEAM]

/-- The write is the request, and RESULT reads its answer. -/
theorem State.busWrite_cut (hm : s.mayWrite x 0x20044 (BitVec.ofNat 32 code) = true) (h1 : 1 ≤ code) (h4 : code ≤ 4)
    (hr : (s.cutTurn x code).cutRequest code ((s.cutTurn x code).cfg Reg.CUT.SET_SEL.SET)
      ((s.cutTurn x code).cutSel ((s.cutTurn x code).cfg Reg.CUT.SET_SEL.SET)) (srcWhistle x) (srcNo x) 0 0 100 = (r, v)) :
    s.busWrite x 0x20044 (BitVec.ofNat 32 code) = (v.put Reg.CUT.CMD.RESULT r).wrote x 0x20044 (BitVec.ofNat 32 code) := by
  have hv : (BitVec.ofNat 32 code).toNat % 8 = code := by
    rw [BitVec.toNat_ofNat]
    omega
  have hcmd : (s.cutTurn x code).cutCmd code ((s.cutTurn x code).cfg Reg.CUT.SET_SEL.SET) (srcWhistle x) (srcNo x)
      = v.put Reg.CUT.CMD.RESULT r := by
    unfold State.cutCmd
    rw [if_pos ⟨h1, h4⟩, hr]
  rw [s.busWrite_eq hm rfl rfl rfl rfl rfl]
  dsimp only
  rw [State.writeSpecial_cutCmd, hv, Option.getD_some, ← State.cutTurn, hcmd]

theorem State.cutTurn_faults (hm : s.mayWrite x 0x20044 (BitVec.ofNat 32 code) = true) :
    (s.cutTurn x code).hwFault.contains (0x20044 / 0x4000, 0, 0x20044 % 0x1000) = false := by
  have hu : s.unscrubbed 0x20044 = true := (Bool.and_eq_true_iff.1 hm).2
  simp only [State.unscrubbed, Bool.not_eq_true'] at hu
  simp only [State.cutTurn, State.writeTurn, State.turn, State.accessFc]
  split
  · rfl
  · exact hu

/-- A refusal changes RESULT, and the parity status of the page. -/
theorem State.cutRefusal (hm : s.mayWrite x 0x20044 (BitVec.ofNat 32 code) = true) (hr : r < 16) :
    let t := ((s.cutTurn x code).put Reg.CUT.CMD.RESULT r).wrote x 0x20044 (BitVec.ofNat 32 code)
    t.get Reg.CUT.CMD.RESULT = r ∧ t.cut = s.cut
      ∧ s.keeps t [Reg.CUT.CMD.RESULT, Hdr.STATUS_PARITY_ERR Slot.CUT] ∧ t.agents = s.agents := by
  intro t
  have hget : ∀ g : Fld, g.key ≠ (Hdr.STATUS_PARITY_ERR 8).key → t.get g = ((s.cutTurn x code).put Reg.CUT.CMD.RESULT r).get g :=
    fun g hg => State.get_wrote_ne _ _ _ _ (s.cutTurn_faults hm) hg
  refine ⟨?_, ?_, fun g _ hg => ?_, ?_⟩
  · rw [hget _ (by decide), State.get_put_same]
    exact Nat.mod_eq_of_lt hr
  · rw [State.wrote_cut, State.put_cut, State.cutTurn, State.writeTurn_cut]
  · simp only [List.map_cons, List.map_nil, List.mem_cons, List.not_mem_nil, or_false, not_or] at hg
    rw [hget _ hg.2, State.get_put_ne _ _ hg.1, State.cutTurn, State.get_writeTurn]
  · rw [State.wrote_agents, State.put_agents, State.cutTurn, State.writeTurn_agents]

end CutAccess
end Sys2Proof.Machine

namespace Sys2Proof.Machine

/-! ### An accepted write of CUT.CMD -/

section CutAccepted

variable {s : State} {x : Src} {code : Nat} {j : CutJob}

/-- After an accepted write: RESULT reads ACCEPTED and the cut has started. -/
theorem State.cutAcceptance (hm : s.mayWrite x 0x20044 (BitVec.ofNat 32 code) = true) (hj : s.cut.job = none) :
    let t := (((s.cutTurn x code).cutStart j 0).put Reg.CUT.CMD.RESULT crAccepted).wrote x 0x20044 (BitVec.ofNat 32 code)
    t.get Reg.CUT.CMD.RESULT = crAccepted ∧ t.showsStart 0 (if j.code = 4 then csRestore else csSetup)
      ∧ t.cut.job = some ((s.cutTurn x code).startedJob j) ∧ t.cut.count = (if j.code = 4 then s.cut.count else s.cut.count + 1)
      ∧ s.keeps t [Reg.CUT.CMD.RESULT, Reg.CUT.CUT_STATE.STATE, Reg.CUT.CUT_STATE.OUTCOME, Reg.CUT.CUT_STATE.FREEZE,
          Reg.CUT.CUT_STATE.SOURCE, Reg.CUT.LEN_LO, Reg.CUT.LEN_HI, Reg.CUT.COW_STALLS.COUNT, Hdr.STATUS_PARITY_ERR Slot.CUT]
      ∧ ∀ b, t.agent b = { s.agent b with cowStalls := 0 } := by
  intro t
  have hcut : (s.cutTurn x code).cut = s.cut := s.writeTurn_cut _ _ _
  obtain ⟨hshow, hjob, hcount, hag, hfault, hget⟩ := State.cutStart_started (s := s.cutTurn x code) (j := j) (source := 0)
    (by rw [hcut, hj]) (by decide)
  have hf : (((s.cutTurn x code).cutStart j 0).put Reg.CUT.CMD.RESULT crAccepted).hwFault.contains
      (0x20044 / 0x4000, 0, 0x20044 % 0x1000) = false := by
    rw [State.put_hwFault, hfault]
    exact s.cutTurn_faults hm
  have hw : ∀ g : Fld, g.key ≠ (Hdr.STATUS_PARITY_ERR 8).key → g.key ≠ Reg.CUT.CMD.RESULT.key →
      t.get g = ((s.cutTurn x code).cutStart j 0).get g :=
    fun g h1 h2 => (State.get_wrote_ne _ _ _ _ hf h1).trans (State.get_put_ne _ _ h2)
  refine ⟨?_, ⟨?_, ?_, ?_, ?_, ?_, ?_⟩, ?_, ?_, fun g _ hg => ?_, fun b => ?_⟩
  · exact (State.get_wrote_ne _ _ _ _ hf (by decide)).trans (State.get_put_same _ _ _)
  · rw [hw _ (by decide) (by decide), hshow.state]
  · rw [hw _ (by decide) (by decide), hshow.outcome]
  · rw [hw _ (by decide) (by decide), hshow.freeze]
  · rw [hw _ (by decide) (by decide), hshow.source]
  · rw [State.get64, hw _ (by decide) (by decide), hw _ (by decide) (by decide), ← State.get64, hshow.len]
  · rw [hw _ (by decide) (by decide), hshow.stalls]
  · rw [State.wrote_cut, State.put_cut, hjob]
  · rw [State.wrote_cut, State.put_cut, hcount, hcut]
  · simp only [List.map_cons, List.map_nil, List.mem_cons, List.not_mem_nil, or_false, not_or] at hg
    obtain ⟨h1, h2, h3, h4, h5, h6, h7, h8, h9⟩ := hg
    rw [hw _ h9 h1, hget _ (by simp [startFlds, h2, h3, h4, h5, h6, h7, h8]), State.cutTurn, State.get_writeTurn]
  · rw [State.agent_wrote, State.agent_put, hag, State.cutTurn, State.agent_writeTurn]

/-- What the source and the page show of a row that is accepted with job `j`. -/
theorem State.cutRow_accepted {i : Instr} (hm : s.mayWrite x 0x20044 (BitVec.ofNat 32 code) = true)
    (hex : exec i s = .next (s.busWrite x 0x20044 (BitVec.ofNat 32 code))) (h1 : 1 ≤ code) (h4 : code ≤ 4) (hj : s.cut.job = none)
    (hc : j.code = code)
    (hreq : (s.cutTurn x code).cutRequest code ((s.cutTurn x code).cfg Reg.CUT.SET_SEL.SET)
      ((s.cutTurn x code).cutSel ((s.cutTurn x code).cfg Reg.CUT.SET_SEL.SET)) (srcWhistle x) (srcNo x) 0 0 100
        = (crAccepted, (s.cutTurn x code).cutStart j 0)) :
    ∃ t : State, exec i s = .next t ∧ t.get Reg.CUT.CMD.RESULT = crAccepted
      ∧ t.get Reg.CUT.CUT_STATE.STATE = (if code = 4 then csRestore else csSetup)
      ∧ t.get Reg.CUT.CUT_STATE.OUTCOME = 0 ∧ t.get Reg.CUT.CUT_STATE.FREEZE = 0 ∧ t.get Reg.CUT.CUT_STATE.SOURCE = 0
      ∧ t.get64 Reg.CUT.LEN_LO Reg.CUT.LEN_HI = 0 ∧ t.get Reg.CUT.COW_STALLS.COUNT = 0
      ∧ (∃ k, t.cut.job = some k ∧ k.code = code ∧ k.set = j.set ∧ k.sel = j.sel
        ∧ k.toPort = ((s.cutTurn x code).cfg Reg.CUT.POLICY.DEST == 1) ∧ k.startFc = s.fc
        ∧ k.dest = (s.cutTurn x code).cfg64 Reg.CUT.DEST_LO Reg.CUT.DEST_HI)
      ∧ t.cut.count = (if code = 4 then s.cut.count else s.cut.count + 1)
      ∧ s.keeps t [Reg.CUT.CMD.RESULT, Reg.CUT.CUT_STATE.STATE, Reg.CUT.CUT_STATE.OUTCOME, Reg.CUT.CUT_STATE.FREEZE,
          Reg.CUT.CUT_STATE.SOURCE, Reg.CUT.LEN_LO, Reg.CUT.LEN_HI, Reg.CUT.COW_STALLS.COUNT, Hdr.STATUS_PARITY_ERR Slot.CUT]
      ∧ ∀ b, t.agent b = { s.agent b with cowStalls := 0 } := by
  obtain ⟨hres, ⟨hst, hout, hfr, hsrc, hlen, hcow⟩, hjob, hcount, hkeeps, hag⟩ := State.cutAcceptance (j := j) hm hj
  rw [hc] at hst hcount
  have hport : ((s.cutTurn x code).startedJob j).toPort = ((s.cutTurn x code).cfg Reg.CUT.POLICY.DEST == 1) := by
    have h9 : (j.code != 9) = true := by simp [hc]; omega
    rw [State.startedJob, h9, Bool.and_true]
  exact ⟨_, hex.trans (congrArg _ (State.busWrite_cut hm h1 h4 hreq)), hres, hst, hout, hfr, hsrc, hlen, hcow,
    ⟨_, hjob, hc, rfl, rfl, hport, s.writeTurn_fc _ _ _, rfl⟩, hcount, hkeeps, hag⟩

theorem State.cutYields_idle (hj : s.cut.job = none) (rank : Nat) : s.cutYields rank = true := by
  rw [State.cutYields, hj]

/-- A cut of an earlier fc does not yield. -/
theorem State.cutYields_earlier (hj : s.cut.job = some j) (hf : j.startFc ≠ s.fc) (rank : Nat) : s.cutYields rank = false := by
  rw [State.cutYields, hj]
  exact decide_eq_false fun h => hf h.1

/-- Why a set or a destination is refused. -/
theorem State.setRefused_eq (s : State) (code : Nat) (c : CutSel) : s.setRefused code c =
    if (c.empty || decide (c.muLast < c.muFirst) || c.memBase % 4096 != 0 || c.memLen % 4096 != 0 || (code == 3 && c.ctx == none)) = true
      then crSet
    else if (s.cfg Reg.CUT.POLICY.DEST == 0 && (s.cfg Reg.CUT.DEST_LO % 64 != 0
      || decide (s.cfg64 Reg.CUT.LIMIT_LO Reg.CUT.LIMIT_HI < 65536))) = true then crDest
    else 0 := by
  unfold State.setRefused
  simp [or_assoc]

end CutAccepted

/-! ### A Cam's CUT (R243) -/

section CutCam

variable {s : State} {cam set held : Nat}

/-- The Cam's set, without the regions held. -/
def State.camSel (s : State) (set held : Nat) : CutSel :=
  { s.cutSel set with mask := (s.cutSel set).mask &&& (0xFFFF - held % 0x10000) }

theorem State.cutCam_eq (s : State) (cam set held : Nat) : s.cutCam cam set held =
    if (s.cutRequest 1 set (s.camSel set held) 6 cam held 1 (1 + cam)).1 = crAccepted
      then (s.cutRequest 1 set (s.camSel set held) 6 cam held 1 (1 + cam)).2
    else (s.cutRequest 1 set (s.camSel set held) 6 cam held 1 (1 + cam)).2.cutSkip := rfl

/-- A set of regions that is not empty, in order and aligned goes to the port. -/
theorem State.setRefused_camSel_port (hdest : s.cfg Reg.CUT.POLICY.DEST = 1) (hempty : (s.camSel set held).empty = false)
    (hmu : (s.cutSel set).muFirst ≤ (s.cutSel set).muLast) (hbase : (s.cutSel set).memBase % 4096 = 0)
    (hlen : (s.cutSel set).memLen % 4096 = 0) : s.setRefused 1 (s.camSel set held) = 0 := by
  refine (s.setRefused_eq 1 _).trans ((if_neg ?_).trans (if_neg (by simp [hdest])))
  rw [hempty]
  simp [State.camSel, Nat.not_lt.2 hmu, hbase, hlen]

theorem State.cutCam_disabled (ht : s.tossActive = false) (hp : s.parityOk Slot.CUT = true) (he : s.cfg Reg.CUT.CTRL.ENABLE = 0) :
    s.cutCam cam set held = s.cutSkip := by
  rw [State.cutCam_eq, State.cutRequest_disabled ht hp he, if_neg (show ¬ crDisabled = crAccepted by decide)]

theorem State.cutSkip_spec (s : State) : s.cutSkip.cut = s.cut ∧ s.counted s.cutSkip Reg.CUT.STATUS.SKIPPED 1
    ∧ s.cutSkip.get Reg.CUT.EVENT.SKIPPED = 1 ∧ s.keeps s.cutSkip [Reg.CUT.STATUS.SKIPPED, Reg.CUT.EVENT.SKIPPED]
    ∧ s.cutSkip.agents = s.agents := by
  refine ⟨rfl, ?_, State.get_raise_same _ rfl, fun g _ hg => ?_, rfl⟩
  · exact (State.get_raise_ne _ (by decide)).trans (State.get_bumpBy_same _ _ _)
  · simp only [List.map_cons, List.map_nil, List.mem_cons, List.not_mem_nil, or_false, not_or] at hg
    exact (State.get_raise_ne _ hg.2).trans (State.get_bump_ne _ hg.1)

/-- A Cam's CUT that the engine accepts. -/
theorem State.cutCam_accepted (ht : s.tossActive = false) (hp : s.parityOk Slot.CUT = true) (he : s.cfg Reg.CUT.CTRL.ENABLE = 1)
    (hj : s.cut.job = none) (hm : s.mill.pending = false) (hs : s.snapBlocked = false) (hr : s.get Reg.MILLRACE.ROLE.ROLE = 0)
    (hf : s.get Reg.WHISTLE.STATE.STATE = wsFrozen) (hok : s.setRefused 1 (s.camSel set held) = 0) : ∃ j : CutJob,
    s.cutCam cam set held = s.cutStart j 1 ∧ j.code = 1 ∧ j.sel = s.camSel set held ∧ j.reqSource = 6 ∧ j.reqDetail = cam := by
  have hb : ¬ (¬ s.cutYields (1 + cam) ∨ s.mill.pending ∨ (s.get Reg.MILLRACE.ROLE.ROLE = 1 ∧ s.get Reg.MILLRACE.CTRL.ENABLE = 1)) := by
    simp [State.cutYields_idle hj, hm, hr]
  rw [State.cutCam_eq, State.cutRequest_judged ht hp he hb hs, State.cutJudge_accepted (.inl hf) (by decide) hok, if_pos rfl]
  exact ⟨_, rfl, rfl, rfl, rfl, rfl⟩

end CutCam
end Sys2Proof.Machine

namespace Sys2Proof.Machine

/-! ### The obligation of CUT.CMD and of a Cam's CUT -/

section CutObligation

/-- Settles O28: a request is judged in the order of `cutRequest`, and accepted it starts the cut. -/
theorem cutCommandsAreAcceptedOrRefused : Obligations.CutCommandsAreAcceptedOrRefused := by
  unfold Obligations.CutCommandsAreAcceptedOrRefused
  refine ⟨?_, ?_⟩
  · intro x s ht hp rows ic hic hm u n c st port applying busy badSet badDest ans
    obtain ⟨hex, h1, h4⟩ := exec_cutRow s hic
    have hget : ∀ g, u.get g = s.get g := fun g => s.get_writeTurn _ _ _ g
    have hcut : u.cut = s.cut := s.writeTurn_cut _ _ _
    have hmill : u.mill = s.mill := s.writeTurn_mill _ _ _
    have hfc : u.fc = s.fc := s.writeTurn_fc _ _ _
    have hut : u.tossActive = false := by rw [State.tossActive, hget, ← State.tossActive, ht]
    have hup : u.parityOk Slot.CUT = true := by rw [State.parityOk, hget, ← State.parityOk, hp]
    have hblock : u.snapBlocked = s.snapBlocked := by rw [State.snapBlocked, s.writeTurn_agents, State.snapBlocked]
    have hans : ∀ r, r < 16 → u.cutRequest ic.2 n c (srcWhistle x) (srcNo x) 0 0 100 = (r, u) → ans r := fun r hr h =>
      ⟨_, hex.trans (congrArg _ (State.busWrite_cut hm h1 h4 h)), State.cutRefusal hm hr⟩
    refine ⟨fun he => hans _ (by decide) (State.cutRequest_disabled hut hup he), fun he => ⟨fun hj hb => ?_, fun j hj hf => ?_, fun hb => ?_⟩⟩
    · refine hans _ (by decide) (State.cutRequest_busy hut hup he (.inr ?_))
      rw [hmill, hget, hget]
      simpa [busy, applying, hj] using hb
    · refine hans _ (by decide) (State.cutRequest_busy hut hup he (.inl ?_))
      rw [State.cutYields_earlier (hcut ▸ hj) (hfc ▸ hf)]
      decide
    have hjob : s.cut.job = none := by
      simp only [busy, Bool.or_eq_false_iff, Option.isSome_eq_false_iff, Option.isNone_iff_eq_none] at hb
      exact hb.1.1
    have hfree : ¬ (¬ u.cutYields 100 ∨ u.mill.pending ∨ (u.get Reg.MILLRACE.ROLE.ROLE = 1 ∧ u.get Reg.MILLRACE.CTRL.ENABLE = 1)) := by
      rw [State.cutYields_idle (hcut ▸ hjob), hmill, hget, hget]
      simpa [busy, applying, hjob] using hb
    refine ⟨fun hs => hans _ (by decide) (State.cutRequest_shadows hut hup he hfree (hblock.trans hs)), fun hs => ?_⟩
    have hjudge := State.cutRequest_judged (code := ic.2) (set := n) (c := c) (src := srcWhistle x) (det := srcNo x) (wh := 0) (source := 0)
      hut hup he hfree (hblock.trans hs)
    have hport : port = true ↔ u.cfg Reg.CUT.POLICY.DEST = 1 := beq_iff_eq
    have hstu : u.get Reg.WHISTLE.STATE.STATE = st := hget _
    refine ⟨fun hst => ?_, fun hst => ?_⟩
    · refine hans _ (by decide) (hjudge.trans (State.cutJudge_state ?_))
      rwa [hstu, ← hport]
    have hfits : u.cutFits ic.2 := by
      rw [State.cutFits, hstu]
      refine hst.imp_right fun h => ⟨h.1, h.2.1, fun h1 hd => ?_⟩
      exact absurd (hport.2 hd) (by simp [h.2.2 h1])
    refine ⟨fun hc hbad => ?_, fun hset hbad => ?_, fun hset hdest => ?_⟩
    · have hr : u.setRefused ic.2 c = crSet := (u.setRefused_eq ic.2 c).trans (if_pos hbad)
      have hset := State.cutJudge_set (set := n) (src := srcWhistle x) (det := srcNo x) (wh := 0) (source := 0) (rank := 100) hfits hc
        (by rw [hr]; decide)
      rw [hr] at hset
      exact hans _ (by decide) (hjudge.trans hset)
    · by_cases hc : ic.2 = 4
      · have hd : u.cfg Reg.CUT.POLICY.DEST = 0 ∧ u.cfg Reg.CUT.DEST_LO % 64 ≠ 0 := by simpa [badDest, hc] using hbad
        have hfz : u.get Reg.WHISTLE.STATE.STATE = wsFrozen := hfits.resolve_right fun h => h.2.1 hc
        refine hans _ (by decide) (hjudge.trans ?_)
        rw [hc]
        exact State.cutJudge_restoreDest hfz hd
      · have hok : badSet = false := hset.resolve_left hc
        have hr : u.setRefused ic.2 c = crDest := by
          refine (u.setRefused_eq ic.2 c).trans ((if_neg (Bool.eq_false_iff.1 hok)).trans (if_pos ?_))
          simpa [badDest, hc] using hbad
        have hdst := State.cutJudge_set (set := n) (src := srcWhistle x) (det := srcNo x) (wh := 0) (source := 0) (rank := 100) hfits hc
          (by rw [hr]; decide)
        rw [hr] at hdst
        exact hans _ (by decide) (hjudge.trans hdst)
    · by_cases hc : ic.2 = 4
      · have hd : ¬ (u.cfg Reg.CUT.POLICY.DEST = 0 ∧ u.cfg Reg.CUT.DEST_LO % 64 ≠ 0) := by simpa [badDest, hc] using hdest
        have hfz : u.get Reg.WHISTLE.STATE.STATE = wsFrozen := hfits.resolve_right fun h => h.2.1 hc
        have hres := State.cutJudge_restore (set := n) (c := c) (src := srcWhistle x) (det := srcNo x) (wh := 0) (source := 0) (rank := 100) hfz hd
        exact State.cutRow_accepted hm hex h1 h4 hjob hc.symm (hjudge.trans (by rw [hc]; exact hres))
      · have hok : badSet = false := hset.resolve_left hc
        have hr : u.setRefused ic.2 c = 0 := by
          refine (u.setRefused_eq ic.2 c).trans ((if_neg (Bool.eq_false_iff.1 hok)).trans (if_neg ?_))
          simpa [badDest, hc] using hdest
        exact State.cutRow_accepted hm hex h1 h4 hjob rfl (hjudge.trans (State.cutJudge_accepted hfits hc hr))
  · intro cam set s ht hp c d
    refine ⟨fun he => ⟨s.cutSkip, congrArg Host.Outcome.next (State.cutCam_disabled ht hp he), s.cutSkip_spec⟩,
      fun he hj hm hs hrole hf hdest hempty hmu hbase hlen => ?_⟩
    have hok : s.setRefused 1 (s.camSel set.toNat s.heldMask) = 0 := State.setRefused_camSel_port hdest hempty hmu hbase hlen
    obtain ⟨j, hstart, hcode, hsel, hsrc, hdet⟩ := State.cutCam_accepted (cam := cam.toNat) ht hp he hj hm hs hrole hf hok
    obtain ⟨hshow, hjob, -, hag, -, -⟩ := State.cutStart_started (j := j) (source := 1) hj (by decide)
    refine ⟨s.cutStart j 1, congrArg Host.Outcome.next hstart, ?_, hshow.source, ⟨_, hjob, hcode, hsel, hsrc, hdet⟩, hag⟩
    rw [hshow.state, if_neg (by rw [hcode]; decide)]

end CutObligation
end Sys2Proof.Machine

/-! PROOF. Register conventions (chapter 2): offsets and views, the turn of an access, and what a write and a read leave alone. -/

namespace Sys2Proof

/-! ### The word of a register: its fields side by side -/

/-- A field of zeros can take a value without a carry: it reads that value. -/
theorem bits_add_same {n hi lo x : Nat} (hn : bits n hi lo = 0) (hx : x < 2 ^ (hi + 1 - lo)) :
    bits (x * 2 ^ lo + n) hi lo = x := by
  have hd : (x * 2 ^ lo + n) / 2 ^ lo = x + n / 2 ^ lo := by
    rw [Nat.add_comm, Nat.add_mul_div_right _ _ (Nat.two_pow_pos lo), Nat.add_comm]
  unfold bits at hn ⊢
  rw [hd, Nat.add_mod, hn, Nat.add_zero, Nat.mod_mod, Nat.mod_eq_of_lt hx]

/-- A field of zeros that takes a value leaves every other field alone. -/
theorem bits_add_apart {n hi lo x h' l' : Nat} (h : lo ≤ hi) (hn : bits n hi lo = 0) (hx : x < 2 ^ (hi + 1 - lo))
    (ha : hi < l' ∨ h' < lo) : bits (x * 2 ^ lo + n) h' l' = bits n h' l' := by
  unfold bits at hn ⊢
  rcases ha with ha | ha
  · have hp : 2 ^ (hi + 1) = 2 ^ lo * 2 ^ (hi + 1 - lo) := by rw [← Nat.pow_add]; congr 1; omega
    have hq : 2 ^ l' = 2 ^ (hi + 1) * 2 ^ (l' - (hi + 1)) := by rw [← Nat.pow_add]; congr 1; omega
    have hdiv : (x * 2 ^ lo + n) / 2 ^ (hi + 1) = n / 2 ^ (hi + 1) := by
      rw [hp, ← Nat.div_div_eq_div_mul, ← Nat.div_div_eq_div_mul, Nat.add_comm, Nat.add_mul_div_right _ _ (Nat.two_pow_pos lo)]
      obtain ⟨c, hc⟩ := Nat.dvd_of_mod_eq_zero hn
      rw [hc, Nat.mul_comm, Nat.add_comm, Nat.add_mul_div_right _ _ (Nat.two_pow_pos _), Nat.div_eq_of_lt hx, Nat.zero_add,
        Nat.mul_div_cancel _ (Nat.two_pow_pos _)]
    rw [hq, ← Nat.div_div_eq_div_mul, hdiv, Nat.div_div_eq_div_mul]
  · by_cases hl : l' ≤ h'
    · have hp : 2 ^ lo = 2 ^ l' * (2 ^ (h' + 1 - l') * 2 ^ (lo - (h' + 1))) := by
        rw [← Nat.pow_add, ← Nat.pow_add]; congr 1; omega
      rw [hp, Nat.mul_left_comm, Nat.mul_add_div (Nat.two_pow_pos l'), Nat.mul_left_comm, Nat.mul_add_mod]
    · rw [show h' + 1 - l' = 0 by omega, Nat.pow_zero, Nat.mod_one, Nat.mod_one]

/-- The fields lie side by side: each is a run of bits that no other shares. -/
def fieldsApart (fs : List (Acc × Fld)) : Prop :=
  (∀ e ∈ fs, e.2.lo ≤ e.2.hi) ∧ fs.Pairwise (fun x y => x.2.hi < y.2.lo ∨ y.2.hi < x.2.lo)

theorem fieldsApart_fieldsAt (o : Nat) : fieldsApart (fieldsAt o) := ⟨fun _ h => (fieldsAt_word h).1.1, fieldsAt_apart o⟩

end Sys2Proof

namespace Sys2Proof.Machine

/-- The bits of a register word that belong to none of its fields are zero. -/
theorem bits_composeRead_apart {fs : List (Acc × Fld)} (hf : fieldsApart fs) (g : Acc → Fld → Nat) {hi lo : Nat}
    (ha : ∀ e ∈ fs, e.2.hi < lo ∨ hi < e.2.lo) : bits (composeRead fs g) hi lo = 0 := by
  induction fs generalizing hi lo with
  | nil => simp [composeRead, bits]
  | cons e fs ih =>
    obtain ⟨hw, hp⟩ := hf
    obtain ⟨he, hp⟩ := List.pairwise_cons.1 hp
    have hfs : fieldsApart fs := ⟨fun x hx => hw x (List.mem_cons_of_mem _ hx), hp⟩
    have hzero := ih hfs (hi := e.2.hi) (lo := e.2.lo) fun x hx => (he x hx).symm
    have hlt : g e.1 e.2 % 2 ^ e.2.width < 2 ^ (e.2.hi + 1 - e.2.lo) := Nat.mod_lt _ (Nat.two_pow_pos _)
    rw [composeRead, bits_add_apart (hw e List.mem_cons_self) hzero hlt (ha e List.mem_cons_self)]
    exact ih hfs fun x hx => ha x (List.mem_cons_of_mem _ hx)

/-- A field of a register word reads its value, cut to its width. -/
theorem bits_composeRead {fs : List (Acc × Fld)} (hf : fieldsApart fs) (g : Acc → Fld → Nat) {a : Acc} {f : Fld}
    (hm : (a, f) ∈ fs) : bits (composeRead fs g) f.hi f.lo = g a f % 2 ^ f.width := by
  induction fs with
  | nil => exact absurd hm (by simp)
  | cons e fs ih =>
    obtain ⟨hw, hp⟩ := hf
    obtain ⟨he, hp⟩ := List.pairwise_cons.1 hp
    have hfs : fieldsApart fs := ⟨fun x hx => hw x (List.mem_cons_of_mem _ hx), hp⟩
    have hzero := bits_composeRead_apart hfs g (hi := e.2.hi) (lo := e.2.lo) fun x hx => (he x hx).symm
    have hlt : g e.1 e.2 % 2 ^ e.2.width < 2 ^ (e.2.hi + 1 - e.2.lo) := Nat.mod_lt _ (Nat.two_pow_pos _)
    rcases List.mem_cons.1 hm with rfl | hm
    · exact bits_add_same hzero hlt
    · rw [composeRead, bits_add_apart (hw e List.mem_cons_self) hzero hlt (he _ hm)]
      exact ih hfs hm

end Sys2Proof.Machine

namespace Sys2Proof.Machine

/-! ### Offsets and views (Table 2-1) -/

/-- A base offset is in none of the three other views. -/
theorem offView_of_base {o : Nat} (h : offBase o = o) : offView o = none := by
  have h0 : o % 0x4000 / 0x1000 = 0 := by unfold offBase at h; omega
  rw [offView, h0]
  rfl

theorem offBase_viewOff (o : Nat) (v : View) : offBase (viewOff o v) = offBase o := by
  cases v <;> simp only [viewOff, offBase] <;> omega

theorem offView_viewOff (o : Nat) (v : View) : offView (viewOff o v) = some v := by
  have h : viewOff o v % 0x4000 / 0x1000 = (match v with | .set => 1 | .clr => 2 | .tgl => 3) := by
    cases v <;> simp only [viewOff, offBase] <;> omega
  rw [offView, h]
  cases v <;> rfl

/-- A view of a register lies in its page, at its place. -/
theorem viewOff_place (o : Nat) (v : View) : viewOff o v / 0x4000 = o / 0x4000 ∧ viewOff o v % 0x1000 = o % 0x1000 := by
  cases v <;> simp only [viewOff, offBase] <;> omega

/-- The access code of an access in the base view is its own. -/
theorem norm_base {a : Access} (h : offBase a.off = a.off) : a.norm = (a.off, a.kind) := by
  unfold Access.norm
  rw [offView_of_base h, h]
  rcases a with ⟨x, o, k, v⟩
  cases k <;> rfl

/-- A write through a view is the read-modify-write of the register. -/
theorem norm_view (x : Src) (o : Nat) (v : View) (d : Word) : (wrAccess x (viewOff o v) d).norm = (offBase o, .rmw v d) := by
  simp only [Access.norm, wrAccess, offView_viewOff, offBase_viewOff]

/-- What the _LO word of a pair and the word after it are. -/
structure pairAt (o : Nat) : Prop where
  base : offBase o = o
  baseHi : offBase (o + 4) = o + 4
  window : isWindow o = false
  windowHi : isWindow (o + 4) = false
  notLo : isPairLo (o + 4) = false
  place : 0x40 ≤ o % 0x4000 ∧ o % 4 = 0 ∧ o / 0x4000 < 24 ∧ o / 0x4000 ≠ 1 ∧ o / 0x4000 ≠ 18

end Sys2Proof.Machine

namespace Sys2Proof.Machine

theorem isPairLo_pairAt {o : Nat} (h : isPairLo o = true) : pairAt o := by
  have ho : o % 4 = 0 ∧ (o = 0x60 ∨ o = 0xC050 ∨ o = 0x14058 ∨ o = 0x18050 ∨ o = 0x20050 ∨ o = 0x20058 ∨ o = 0x20060 ∨ o = 0x24040
      ∨ o = 0x24050 ∨ o = 0x28064 ∨ o = 0x2806C ∨ o = 0x30050 ∨ o = 0x34058 ∨ o = 0x34074 ∨ o = 0x40060 ∨ o = 0x44048 ∨ o = 0x50048
      ∨ o = 0x58044 ∨ o = 0x58084 ∨ (o % 8 = 0 ∧ ((0x20210 ≤ o ∧ o < 0x20310) ∨ (0x38060 ≤ o ∧ o < 0x38080)
      ∨ (0x38108 ≤ o ∧ o < 0x38508) ∨ (0x38800 ≤ o ∧ o < 0x38E00) ∨ (0x44200 ≤ o ∧ o < 0x44300)))) := by
    simp [isPairLo, inStride] at h
    omega
  have hlo : isPairLo (o + 4) = false := by
    rw [Bool.eq_false_iff]
    intro h'
    simp [isPairLo, inStride] at h'
    omega
  refine ⟨?_, ?_, ?_, ?_, hlo, ?_⟩
  · unfold offBase; omega
  · unfold offBase; omega
  · simp only [isWindow, Bool.and_eq_false_iff, decide_eq_false_iff_not]; omega
  · simp only [isWindow, Bool.and_eq_false_iff, decide_eq_false_iff_not]; omega
  · omega

/-! ### The turn of an access -/

section Turn

variable (s : State) (a : Access)

/-- The turn changes the order of serving only. -/
theorem State.turn_bank : (s.turn a).bank = { s.bank with held := [], lastPath := srcPath a.src, doneFc := some s.fc } := by
  simp only [State.turn, State.accessFc]
  split <;> rfl

theorem State.turn_agents : (s.turn a).agents = s.agents := by
  obtain ⟨_, _, _, _, h, _⟩ := s.turn_eq a
  rw [h]

theorem State.turn_latchOf (x : Src) (tag : Nat) : (s.turn a).latchOf x tag = s.latchOf x tag := by
  rw [State.latchOf, State.turn_bank, State.latchOf]

theorem State.turn_stageOf (x : Src) (tag : Nat) : (s.turn a).stageOf x tag = s.stageOf x tag := by
  rw [State.stageOf, State.turn_bank, State.stageOf]

/-- What the turn finds of the scrubber's faults of this fc, it keeps or forgets (R97). -/
theorem State.turn_unscrubbed {e : Nat × Nat × Nat} (h : s.hwFault.contains e = false) : (s.turn a).hwFault.contains e = false := by
  simp only [State.turn, State.accessFc]
  split
  · rfl
  · exact h

end Turn

/-! ### A write: what its end leaves alone -/

section Write

variable {s e : State} {x : Src} {o : Nat} {d : Word}

theorem State.writeTurn_unscrubbed (h : s.mayWrite x o d = true) :
    (s.writeTurn x o d).hwFault.contains (o / 0x4000, 0, o % 0x1000) = false := by
  obtain ⟨-, hu⟩ := Bool.and_eq_true_iff.1 h
  exact s.turn_unscrubbed _ (Bool.not_eq_true' _ ▸ hu)

/-- The write of the register at `o`, by whichever view, has its effect `e`; its end touches PARITY_ERR of the page only. -/
theorem State.get_wrote_effect (h : s.mayWrite x o d = true) {o' : Nat} (hp : o / 0x4000 = o' / 0x4000) (hq : o % 0x1000 = o' % 0x1000)
    (he : e.hwFault = (s.writeTurn x o d).hwFault) {g : Fld} (hg : g.key ≠ (Hdr.STATUS_PARITY_ERR (o' / 0x4000)).key) :
    (e.wrote x o' d).get g = e.get g := by
  refine e.get_wrote_ne x o' d ?_ hg
  rw [he, ← hp, ← hq]
  exact State.writeTurn_unscrubbed h

theorem State.scrubWithdraw_bank (e : State) (o : Nat) : (e.scrubWithdraw o).bank = e.bank := by
  unfold State.scrubWithdraw
  dsimp only
  repeat' split
  all_goals rfl

theorem State.parityWritten_bank (e : State) (o : Nat) : (e.parityWritten o).bank
    = { e.bank with parityBad := e.bank.parityBad.filter (fun y => y != o) } := by
  unfold State.parityWritten State.parityClear
  dsimp only
  split
  · rw [State.put_bank, State.scrubWithdraw_bank]
  · rw [State.scrubWithdraw_bank]

/-- The bank after a write: parity is right at the register, and the source has its answer. -/
theorem State.wrote_bank (e : State) (x : Src) (o : Nat) (d : Word) : (e.wrote x o d).bank = { e.bank with
    parityBad := e.bank.parityBad.filter (fun y => y != o)
    resps := e.bank.resps.filter (fun y => y.src != x) ++ [okResp x 0] } := by
  have h : ∀ t : State, (t.answerOk (wrAccess x o d) 0).bank
      = { t.bank with resps := t.bank.resps.filter (fun y => y.src != x) ++ [okResp x 0] } := fun _ => rfl
  rw [State.wrote, h, State.parityWritten_bank]

/-- A write through a view (R61, R63): the read-modify-write of the register. -/
theorem State.busAlias_eq {v : View} (h : s.mayWrite x (viewOff o v) d = true) (hb : offBase o = o) (hw : isWindow o = false)
    (hp : isPairLo o = false) (hq : isPairHi o = false) : s.busWrite x (viewOff o v) d =
      let u := s.writeTurn x (viewOff o v) d
      let w := u.aliasWr x o v d.toNat
      let l := u.rwlLocked x o
      ((u.writeSpecial w l).getD (u.storeReg w l)).wrote x o d := by
  rw [s.busWrite_perform h]
  have hnorm := norm_view x o v d
  rw [hb] at hnorm
  simp only [State.mayWrite, State.admits, Bool.and_eq_true, State.passes, hnorm, hw, Bool.false_or, beq_iff_eq] at h
  obtain ⟨⟨_, ⟨ho, hl⟩, ha, hk⟩, _⟩ := h
  have hoff : ∀ u : State, (u.aliasWr x o v d.toNat).o = o := fun _ => rfl
  unfold State.perform
  rw [hnorm]
  simp only [wrAccess] at ho hl ha hk ⊢
  simp only [State.writeTurn, wrAccess, ho, hl, hw, ha, State.writeAccess, hoff, hk, hp, hq, State.regWrite]
  simp [State.wrote, State.answerOk, wrAccess]

end Write

/-! ### One step for each field of a register -/

/-- A step for a field: it writes registers only, no other field, and what it writes comes of the field's own value. -/
structure FieldStep (φ : State → Acc × Fld → State) : Prop where
  regs : ∀ s e, ∃ r, φ s e = { s with regs := r }
  other : ∀ s e (g : Fld), g.key ≠ e.2.key → (φ s e).get g = s.get g
  own : ∀ s r e, ({ s with regs := r } : State).get e.2 = s.get e.2 → (φ { s with regs := r } e).get e.2 = (φ s e).get e.2

section Fold

variable {φ : State → Acc × Fld → State}

theorem FieldStep.foldl_regs (h : FieldStep φ) (fs : List (Acc × Fld)) (s : State) : ∃ r, fs.foldl φ s = { s with regs := r } := by
  induction fs generalizing s with
  | nil => exact ⟨_, rfl⟩
  | cons e fs ih =>
    obtain ⟨r, hr⟩ := h.regs s e
    obtain ⟨q, hq⟩ := ih (φ s e)
    exact ⟨q, by rw [List.foldl_cons, hq, hr]⟩

/-- A field that is none of the register's is left alone. -/
theorem FieldStep.foldl_other (h : FieldStep φ) {fs : List (Acc × Fld)} {g : Fld} (hg : ∀ e ∈ fs, g.key ≠ e.2.key) (s : State) :
    (fs.foldl φ s).get g = s.get g := by
  induction fs generalizing s with
  | nil => rfl
  | cons e fs ih =>
    rw [List.foldl_cons, ih (fun x hx => hg x (List.mem_cons_of_mem _ hx)), h.other s e g (hg e List.mem_cons_self)]

/-- A field of the register has what its own step makes of it. -/
theorem FieldStep.foldl_own (h : FieldStep φ) {fs : List (Acc × Fld)} (hp : fs.Pairwise (fun x y => x.2.key ≠ y.2.key))
    {e : Acc × Fld} (he : e ∈ fs) (s : State) : (fs.foldl φ s).get e.2 = (φ s e).get e.2 := by
  induction fs generalizing s with
  | nil => exact absurd he (by simp)
  | cons c fs ih =>
    obtain ⟨hc, hp⟩ := List.pairwise_cons.1 hp
    rw [List.foldl_cons]
    rcases List.mem_cons.1 he with rfl | he
    · exact h.foldl_other hc _
    · obtain ⟨r, hr⟩ := h.regs s c
      have hget := h.other s c e.2 (hc e he).symm
      rw [ih hp he, hr]
      rw [hr] at hget
      exact h.own s r e hget

end Fold

/-- The step of a write. -/
theorem fieldStep_storeField (w : Wr) (l : Bool) : FieldStep (fun s e => s.storeField w l e.1 e.2) where
  regs s e := by
    obtain ⟨a, f⟩ := e
    cases a with
    | rw => exact ⟨_, rfl⟩
    | rwl | wo1 | w1c =>
      simp only [State.storeField]
      split <;> exact ⟨_, rfl⟩
    | ro | wo | rc | sc => exact ⟨_, rfl⟩
  other s e g hg := by
    obtain ⟨a, f⟩ := e
    cases a with
    | rw => exact s.get_put_ne _ hg
    | rwl | wo1 | w1c =>
      simp only [State.storeField]
      split
      · rfl
      · exact s.get_put_ne _ hg
    | ro | wo | rc | sc => rfl
  own s r e h := by
    obtain ⟨a, f⟩ := e
    cases a with
    | rw => simp only [State.storeField, State.store, State.get_put_same]
    | rwl =>
      simp only [State.storeField]
      split
      · exact h
      · simp only [State.store, State.get_put_same]
    | wo1 =>
      simp only [State.storeField]
      split
      · exact h
      · rw [State.get_put_same, State.get_put_same, h]
    | w1c =>
      simp only [State.storeField]
      split
      · exact h
      · simp only [State.clearBits, State.get_put_same, h, State.stays]
    | ro | wo | rc | sc => exact h

/-- The step of an ordinary read. -/
theorem fieldStep_rcClear : FieldStep (fun s e => if e.1 = .rc then s.rcClear e.2 else s) where
  regs s e := by
    split <;> exact ⟨_, rfl⟩
  other s e g hg := by
    split
    · exact s.get_put_ne _ hg
    · rfl
  own s r e h := by
    split
    · simp [State.rcClear]
    · exact h

end Sys2Proof.Machine

namespace Sys2Proof.Machine

/-! ### Plain registers (R67) -/

section Plain

variable {s : State} {x : Src} {o : Nat} {d : Word}

/-- A plain register is no window register and no word of a pair, and gives no command. -/
theorem plainOff_iff : plainOff o = true ↔ offBase o = o ∧ offView o = none ∧ isWindow o = false ∧ isPairLo o = false
    ∧ isPairHi o = false ∧ commandOff o = false := by
  simp [plainOff, and_assoc]

/-- A register that gives no command is off the TEAM page, and is neither CTRL nor FAULT. -/
theorem not_header_of_not_command (h : commandOff o = false) : o % 0x4000 ≠ 0x08 ∧ o % 0x4000 ≠ 0x18 ∧ o / 0x4000 ≠ Slot.TEAM := by
  simp only [commandOff, Bool.or_eq_false_iff, beq_eq_false_iff_ne, and_assoc] at h
  obtain ⟨h8, h18, hteam, -⟩ := h
  exact ⟨h8, h18, hteam⟩

/-- A write of a plain register does no more than store its fields. -/
theorem State.writeSpecial_plain (s : State) {w : Wr} (h : plainOff w.o = true) (l : Bool) : s.writeSpecial w l = none := by
  obtain ⟨hb, -, -, hlo, -, hc⟩ := plainOff_iff.1 h
  obtain ⟨h8, -, hteam⟩ := not_header_of_not_command hc
  have h8' : w.o % 0x1000 ≠ 0x08 := by unfold offBase at hb; omega
  simp only [commandOff, Bool.or_eq_false_iff, List.contains_eq_mem, decide_eq_false_iff_not, List.mem_cons, List.not_mem_nil, or_false, not_or, 
    Bool.and_eq_false_iff] at hc
  unfold State.writeSpecial
  rw [if_neg hteam, if_neg h8']
  split
  · simp [State.writeHub, hc]
  · simp [State.writeGuard, hc]; omega
  · simp [State.writePort, hc]
  · simp [State.writeCams, hc]; omega
  · simp [hc]
  · simp [State.writeRunctl, hc]
  · simp [State.writeBreak, hc]; omega
  · simp [State.writeJobs, hc]
  · simp [State.writeJobs, hc]
  · simp [State.writeFlow, hc]
  · simp [State.writeFunnel, hc]
  · simp [State.writeScore, hc]
  · simp [State.writeTwatch, hc]
  · simp [State.writeHang, hc]
  · have hring : w.o ≠ 0x44048 := fun he => absurd (he ▸ hlo) (by decide)
    simp [State.writeMill, hc, hring]; omega
  · simp [State.writeRest, hc]


/-- Two fields of a register that have one key are one. -/
theorem fieldsAt_inj {e q : Acc × Fld} (he : e ∈ fieldsAt o) (hq : q ∈ fieldsAt o) (h : e.2.key = q.2.key) : e = q := by
  by_contra hne
  have hs : Std.Symm (fun x y : Acc × Fld => x.2.key ≠ y.2.key) := ⟨fun _ _ h => h.symm⟩
  exact (fieldsAt_keys o).forall he hq hne h

theorem parityErr_mem : ∀ p < 24, (Acc.ro, Hdr.STATUS_PARITY_ERR p) ∈ fieldsAt (0x4000 * p + 0x0C) := by decide +kernel

theorem page_of_mem {e : Acc × Fld} (h : e ∈ fieldsAt o) : o / 0x4000 < 24 := by
  by_contra hp
  rw [fieldsAt, pageRows_none _ (by omega)] at h
  exact absurd h (by simp)

/-- Only an RO field shows the page's parity error. -/
theorem key_ne_parityErr {a : Acc} {f : Fld} (hf : (a, f) ∈ fieldsAt o) (ha : a ≠ .ro) :
    f.key ≠ (Hdr.STATUS_PARITY_ERR (o / 0x4000)).key := by
  intro h
  have hk := fieldsAt_key hf
  obtain ⟨-, h4⟩ := fieldsAt_word hf
  have ho : 0x4000 * (o / 0x4000) + 0x0C = o := by
    rw [h] at hk
    simp only [Fld.key, Hdr.STATUS_PARITY_ERR] at hk
    omega
  have hmem := parityErr_mem _ (page_of_mem hf)
  rw [ho] at hmem
  exact ha (congrArg Prod.fst (fieldsAt_inj hf hmem h))

/-- A write of the word `d` in the base view. -/
def busWr (x : Src) (o : Nat) (d : Word) : Wr := ⟨x, o, d.toNat, false, 2 ^ 32 - 1⟩

variable {u : State} {w : Wr} {l : Bool}

/-- Off FAULT a write stores the fields one by one. -/
theorem State.storeReg_fold (u : State) (l : Bool) (h : w.o % 0x4000 ≠ 0x18) :
    u.storeReg w l = (fieldsAt w.o).foldl (fun s e => s.storeField w l e.1 e.2) u := by
  rw [State.storeReg, if_neg h]

theorem State.storeReg_regs (u : State) (l : Bool) (h : w.o % 0x4000 ≠ 0x18) : ∃ r, u.storeReg w l = { u with regs := r } := by
  rw [State.storeReg_fold _ _ h]
  exact (fieldStep_storeField w l).foldl_regs (fieldsAt w.o) u

/-- Each field has what its access code makes of it. -/
theorem State.get_storeReg (u : State) (l : Bool) (h : w.o % 0x4000 ≠ 0x18) {a : Acc} {f : Fld} (hf : (a, f) ∈ fieldsAt w.o) :
    (u.storeReg w l).get f = (u.storeField w l a f).get f := by
  rw [State.storeReg_fold _ _ h]
  exact (fieldStep_storeField w l).foldl_own (fieldsAt_keys w.o) hf u

/-- Every other field keeps its value. -/
theorem State.get_storeReg_ne (u : State) (l : Bool) (h : w.o % 0x4000 ≠ 0x18) {g : Fld} (hg : g.key / 32 ≠ w.o / 4) :
    (u.storeReg w l).get g = u.get g := by
  rw [State.storeReg_fold _ _ h]
  exact (fieldStep_storeField w l).foldl_other (fun e he h => hg (by rw [h, fieldsAt_key he])) u

/-- The state after a write that only stores the fields of its register. -/
def State.fieldsWritten (u : State) (w : Wr) (l : Bool) (d : Word) : State := (u.storeReg w l).wrote w.src w.o d

theorem State.fieldsWritten_eq (u : State) (l : Bool) (d : Word) (h : w.o % 0x4000 ≠ 0x18)
    (hu : u.hwFault.contains (w.o / 0x4000, 0, w.o % 0x1000) = false) :
    ∃ r b, u.fieldsWritten w l d = { u with regs := r, bank := b } := by
  obtain ⟨r, hr⟩ := u.storeReg_regs l h
  obtain ⟨v, b, hv, -⟩ := State.wrote_eq { u with regs := r } (x := w.src) (o := w.o) (d := d) hu
  exact ⟨v, b, by rw [State.fieldsWritten, hr, hv]⟩

/-- The end of such a write touches PARITY_ERR only. -/
theorem State.get_fieldsWritten (u : State) (w : Wr) (l : Bool) (d : Word) (h : w.o % 0x4000 ≠ 0x18)
    (hu : u.hwFault.contains (w.o / 0x4000, 0, w.o % 0x1000) = false) {g : Fld}
    (hk : g.key ≠ (Hdr.STATUS_PARITY_ERR (w.o / 0x4000)).key) : (u.fieldsWritten w l d).get g = (u.storeReg w l).get g := by
  obtain ⟨r, hr⟩ := u.storeReg_regs l h
  exact State.get_wrote_ne _ _ _ _ (by rw [hr]; exact hu) hk

/-! What one field of the register stores. -/

theorem State.storeField_rw (u : State) (w : Wr) (l : Bool) (f : Fld) :
    (u.storeField w l .rw f).get f = fieldStores f (w.bits f) % 2 ^ f.width := State.get_put_same _ _ _

theorem State.storeField_rwl (u : State) {w : Wr} (ha : w.al = false) (f : Fld) :
    (u.storeField w false .rwl f).get f = fieldStores f (w.bits f) % 2 ^ f.width := by
  rw [State.storeField, ha]
  exact State.get_put_same _ _ _

theorem State.storeField_locked (u : State) (w : Wr) (f : Fld) : u.storeField w true .rwl f = u := rfl

theorem State.storeField_ro (u : State) (w : Wr) (l : Bool) (f : Fld) : u.storeField w l .ro f = u := rfl

/-- A write through a view acts on RW fields only (R61). -/
theorem State.storeField_alias (u : State) {w : Wr} (ha : w.al = true) {a : Acc} (h : a ≠ .rw) (l : Bool) (f : Fld) :
    u.storeField w l a f = u := by
  cases a with
  | rw => exact absurd rfl h
  | rwl | w1c | wo1 => simp [State.storeField, ha]
  | _ => rfl

/-- Software's clear of a field that hardware has not set in this fc, off TEAM.FAULT (R96). -/
theorem State.storeField_w1c (u : State) {w : Wr} (ha : w.al = false) {f : Fld} (hh : u.hw.find? (fun e => e.1 == f.key) = none)
    (hf : f.off / 0x4000 ≠ Slot.TEAM) (l : Bool) :
    (u.storeField w l .w1c f).get f = (u.get f - (u.get f &&& w.bits f)) % 2 ^ f.width := by
  have hs : u.stays f = 0 := by
    rw [State.stays, if_neg]
    rintro ⟨-, rfl⟩
    exact hf rfl
  rw [State.storeField, ha, State.clearBits, hh, hs]
  simp

end Plain

section PlainRows

variable {s : State} {x : Src} {o : Nat} {d : Word}

/-- The write of a plain register as the bank performs it. -/
theorem State.busWrite_plain (hp : plainOff o = true) (hm : s.mayWrite x o d = true) : s.busWrite x o d
    = (s.writeTurn x o d).fieldsWritten (busWr x o d) ((s.writeTurn x o d).rwlLocked x o) d := by
  obtain ⟨hb, hv, hw, hlo, hhi, -⟩ := plainOff_iff.1 hp
  refine (s.busWrite_eq hm hv hb hw hlo hhi).trans ?_
  dsimp only
  rw [State.writeSpecial_plain _ hp]
  rfl

theorem State.rwlLocked_writeTurn (s : State) (x : Src) (o : Nat) (d : Word) :
    (s.writeTurn x o d).rwlLocked x o = s.rwlLocked x o := by
  simp only [State.rwlLocked, State.srcLevel, State.get_writeTurn]

/-- Settles O2: each field of a plain register is stored under its access code. -/
theorem registerWriteStoresItsFields : Obligations.RegisterWriteStoresItsFields := by
  unfold Obligations.RegisterWriteStoresItsFields
  intro x off d s hp hm
  obtain ⟨-, -, -, -, -, hc⟩ := plainOff_iff.1 hp
  obtain ⟨-, h18, hteam⟩ := not_header_of_not_command hc
  have hu := State.writeTurn_unscrubbed hm
  have hex := congrArg (Host.Outcome.next (φ := Fault) (ρ := Refusal)) (State.busWrite_plain hp hm)
  rw [State.rwlLocked_writeTurn] at hex
  have hget := fun {g} hk => (s.writeTurn x off.toNat d).get_fieldsWritten (g := g) (busWr x off.toNat d)
    (s.rwlLocked x off.toNat) d h18 hu hk
  have hown := fun {a f} hf hk => (hget hk).trans (State.get_storeReg (w := busWr x off.toNat d) (a := a) (f := f) _ _ h18 hf)
  obtain ⟨r, b, heq⟩ := (s.writeTurn x off.toNat d).fieldsWritten_eq (w := busWr x off.toNat d) (s.rwlLocked x off.toNat) d h18 hu
  refine ⟨_, hex, State.wrote_resp _ _ _ _, fun a f hf => ⟨?_, ?_, ?_, ?_, ?_⟩, fun g hg hk => ?_, ?_, ?_, ?_, ?_, ?_⟩
  · rintro rfl
    exact (hown hf (key_ne_parityErr hf (by decide))).trans (State.storeField_rw _ _ _ f)
  · rintro rfl hlock
    rw [hown hf (key_ne_parityErr hf (by decide)), hlock]
    exact State.storeField_rwl _ rfl f
  · rintro rfl hlock
    rw [hown hf (key_ne_parityErr hf (by decide)), hlock, State.storeField_locked, State.get_writeTurn]
  · rintro rfl hh
    have hoff : f.off / 0x4000 ≠ Slot.TEAM := fieldsAt_off hf ▸ hteam
    rw [hown hf (key_ne_parityErr hf (by decide)), State.storeField_w1c _ rfl hh hoff, State.get_writeTurn]
    rfl
  · rintro rfl hk
    refine (hown hf hk).trans ?_
    rw [State.storeField_ro, State.get_writeTurn]
  · rw [hget hk, State.get_storeReg_ne (w := busWr x off.toNat d) _ _ h18 hg, State.get_writeTurn]
  all_goals rw [heq]
  · exact s.writeTurn_agents _ _ _
  · exact s.writeTurn_mm _ _ _
  · exact s.writeTurn_cut _ _ _
  · exact s.writeTurn_whistle _ _ _
  · exact s.writeTurn_pending _ _ _

/-- The write of a plain register through a view as the bank performs it. -/
theorem State.busAlias_plain {v : View} (hp : plainOff o = true) (hm : s.mayWrite x (viewOff o v) d = true) :
    s.busWrite x (viewOff o v) d = (s.writeTurn x (viewOff o v) d).fieldsWritten ((s.writeTurn x (viewOff o v) d).aliasWr x o v d.toNat)
      ((s.writeTurn x (viewOff o v) d).rwlLocked x o) d := by
  obtain ⟨hb, -, hw, hlo, hhi, -⟩ := plainOff_iff.1 hp
  refine (State.busAlias_eq hm hb hw hlo hhi).trans ?_
  dsimp only
  rw [State.writeSpecial_plain _ (by exact hp)]
  rfl

/-- An RW field's part of the word that a write through a view writes back. -/
theorem State.aliasWr_bits {u : State} {v : View} {n : Nat} {f : Fld} (hlive : u.liveAt o = []) (hf : (Acc.rw, f) ∈ fieldsAt o) :
    (u.aliasWr x o v n).bits f = aliasField v n .rw f (u.get f) % 2 ^ f.width := by
  refine (bits_composeRead (fieldsApart_fieldsAt _) _ hf).trans ?_
  rw [hlive]
  rfl

/-- Settles O3: a write through a view is the read-modify-write of the register's RW fields. -/
theorem aliasWriteActsOnRwBits : Obligations.AliasWriteActsOnRwBits := by
  unfold Obligations.AliasWriteActsOnRwBits
  intro x v off d s hp hm hlive
  obtain ⟨-, -, -, -, -, hc⟩ := plainOff_iff.1 hp
  obtain ⟨-, h18, -⟩ := not_header_of_not_command hc
  obtain ⟨hpage, hplace⟩ := viewOff_place off.toNat v
  have hu := State.writeTurn_unscrubbed hm
  rw [hpage, hplace] at hu
  have hex := congrArg (Host.Outcome.next (φ := Fault) (ρ := Refusal)) (State.busAlias_plain hp hm)
  generalize hw : (s.writeTurn x (viewOff off.toNat v) d).aliasWr x off.toNat v d.toNat = w at hex
  have hal : w.al = true := by rw [← hw]; rfl
  have ho : w.o = off.toNat := by rw [← hw]; rfl
  have hsrc : w.src = x := by rw [← hw]; rfl
  rw [← ho] at h18 hu
  have hget := fun {g} hk => (s.writeTurn x (viewOff off.toNat v) d).get_fieldsWritten (g := g) w
    ((s.writeTurn x (viewOff off.toNat v) d).rwlLocked x off.toNat) d h18 hu hk
  have hown := fun {a f} hf hk => (hget hk).trans (State.get_storeReg (a := a) (f := f) _ _ h18 hf)
  have hother := fun {g} hg hk => (hget hk).trans (State.get_storeReg_ne (g := g) _ _ h18 hg)
  rw [ho] at hown hother
  obtain ⟨r, b, heq⟩ := (s.writeTurn x (viewOff off.toNat v) d).fieldsWritten_eq
    ((s.writeTurn x (viewOff off.toNat v) d).rwlLocked x off.toNat) d h18 hu
  refine ⟨_, hex, ?_, fun a f hf => ⟨?_, fun ha hk => ?_⟩, fun g hg hk => ?_, ?_⟩
  · rw [State.fieldsWritten, hsrc]
    exact State.wrote_resp _ _ _ _
  · rintro rfl
    rw [hown hf (key_ne_parityErr hf (by decide)), State.storeField_rw, ← hw, State.aliasWr_bits hlive hf, State.get_writeTurn]
    cases v
    · rfl
    · rfl
    · rfl
  · rw [hown hf hk, State.storeField_alias _ hal ha, State.get_writeTurn]
  · rw [hother hg hk, State.get_writeTurn]
  · rw [heq]
    exact s.writeTurn_agents _ _ _

end PlainRows
end Sys2Proof.Machine

namespace Sys2Proof.Machine

/-! ### Answers on the register bus (R65, R67) -/

section Answers

variable (s : State) {a : Access}

theorem State.answer_bus (r : Resp) :
    s.answer 0 r = { s with bank := { s.bank with resps := s.bank.resps.filter (fun y => y.src != r.src) ++ [r] } } := rfl

theorem State.answer_resp (r : Resp) : (s.answer 0 r).respOf r.src = some r := by
  have h : ∀ l : List Resp, l.find? (fun _ => false) = none := fun l => by simp
  simp [State.answer_bus, State.respOf, List.find?_append, List.find?_filter, h]

@[simp] theorem State.answer_get (r : Resp) (g : Fld) : (s.answer 0 r).get g = s.get g := rfl
@[simp] theorem State.answer_agents (r : Resp) : (s.answer 0 r).agents = s.agents := rfl

theorem State.answerOk_bus (h : a.via = 0) (v : Nat) : s.answerOk a v = s.answer 0 (okResp a.src v) := by
  rw [State.answerOk, h, okResp]

theorem State.answerErr_bus (h : a.via = 0) : s.answerErr a = s.answer 0 (errResp a.src) := by
  rw [State.answerErr, h, errResp]

end Answers

/-! ### Reads of a hub register (R74 to R76) -/

section Reads

variable {s : State} {a : Access} {x : Src} {o : Nat}

/-- A read or a peek that passes its checks, of a register that is no window register and no WIN_DATA. -/
theorem State.present_read (peek : Bool) (h : s.admits a = true) (hn : a.norm = (o, if peek then .peek else .read))
    (hw : isWindow o = false) (h1 : o ≠ 0x5804C) (h2 : o ≠ 0x5808C) :
    s.present a = ((s.turn a).regRead a.src o peek).1.answerOk a ((s.turn a).regRead a.src o peek).2 := by
  simp only [State.admits, Bool.and_eq_true, State.passes, hn] at h
  obtain ⟨⟨hfree, hpow⟩, ⟨ho, hl⟩, -⟩ := h
  rw [s.present_idle a hfree hpow]
  unfold State.perform
  rw [hn]
  have hread : (if peek then AccKind.peek else .read).isWrite = false := by cases peek <;> rfl
  rw [hread] at hl
  cases peek
  · simp [ho, hl, hw, h1, h2, AccKind.isWrite]
  · simp [ho, hl, hw, h1, h2, AccKind.isWrite]

/-- The register read has right parity. -/
theorem State.parityCheck_right (h : s.bank.parityBad.contains o = false) : s.parityCheck o = s := by
  rw [State.parityCheck, if_neg (by rw [h]; decide)]

/-- A register that is no word of a pair is read as it shows, and an ordinary read has its effect. -/
theorem State.regRead_single (peek : Bool) (hp : s.bank.parityBad.contains o = false) (he : o ≠ 0x24070) (hl : isPairLo o = false)
    (hh : isPairHi o = false) : s.regRead x o peek = (if peek then s else s.readEffect x o, s.readWord o) := by
  unfold State.regRead
  rw [State.parityCheck_right hp, if_neg he, hl, hh]
  rfl

/-- Off the mailboxes and EDGE_DATA_HI an ordinary read touches RC fields only. -/
theorem State.readEffect_fold (s : State) (x : Src) (h1 : o ≠ 0x8054) (h2 : o ≠ 0x8058) (h3 : o ≠ 0x40064) : s.readEffect x o
    = (fieldsAt o).foldl (fun s e => if e.1 = .rc then s.rcClear e.2 else s) s := by
  rw [State.readEffect, if_neg h1, if_neg h2, if_neg h3]

/-- An RC field that hardware has not counted in this fc reads 0 once it has been read (R96). -/
theorem State.get_rcClear {f : Fld} (h : s.hw.find? (fun e => e.1 == f.key) = none) : (s.rcClear f).get f = 0 := by
  rw [State.rcClear, h, State.get_put_same, Nat.zero_mod]

/-- Settles O4: a read answers the register, an ordinary one empties its RC fields, a peek touches nothing. -/
theorem readsAnswerAndTouchOnlyRcFields : Obligations.ReadsAnswerAndTouchOnlyRcFields := by
  unfold Obligations.ReadsAnswerAndTouchOnlyRcFields
  intro x off s hb hw hlo hhi hnot hpar
  simp only [List.mem_cons, List.not_mem_nil, or_false, not_or] at hnot
  obtain ⟨h1, h2, h3, h4, h5, h6⟩ := hnot
  have hright : ∀ a, (s.turn a).bank.parityBad.contains off.toNat = false := fun a => by rw [State.turn_bank]; exact hpar
  refine ⟨fun hm => ?_, fun v o ho hm => ?_⟩
  · have hpres := State.present_read (o := off.toNat) false hm (norm_base hb) hw h2 h3
    rw [State.regRead_single _ (hright _) h1 hlo hhi, State.answerOk_bus _ rfl] at hpres
    have heff := (s.readTurn x off.toNat).readEffect_fold x h4 h5 h6
    obtain ⟨r, hr⟩ := fieldStep_rcClear.foldl_regs (fieldsAt off.toNat) (s.readTurn x off.toNat)
    refine ⟨_, congrArg Host.Outcome.next hpres, State.answer_resp _ _, fun a f hf => ⟨?_, fun ha => ?_⟩, fun g hg => ?_, ?_⟩
    · rintro rfl hh
      refine (congrArg (State.get · f) heff).trans ((fieldStep_rcClear.foldl_own (fieldsAt_keys _) hf _).trans ?_)
      exact State.get_rcClear hh
    · refine (congrArg (State.get · f) heff).trans ((fieldStep_rcClear.foldl_own (fieldsAt_keys _) hf _).trans ?_)
      dsimp only
      rw [if_neg ha, State.get_readTurn]
    · refine (congrArg (State.get · g) heff).trans ((fieldStep_rcClear.foldl_other ?_ _).trans (s.get_readTurn x off.toNat g))
      exact fun e he h => hg (by rw [h, fieldsAt_key he])
    · exact (congrArg State.agents (heff.trans hr)).trans (s.turn_agents _)
  · have hnorm : (pkAccess x o.toNat).norm = (off.toNat, .peek) := by
      cases v with
      | none =>
        rw [norm_base (show offBase o.toNat = o.toNat by rw [ho, hb])]
        exact congrArg (·, AccKind.peek) ho
      | some w =>
        have hview : offBase o.toNat = off.toNat := by rw [ho, offBase_viewOff, hb]
        simp only [Access.norm, pkAccess, hview]
    have hpres := State.present_read true hm hnorm hw h2 h3
    rw [State.regRead_single _ (hright _) h1 hlo hhi, State.answerOk_bus _ rfl] at hpres
    exact ⟨_, congrArg Host.Outcome.next hpres, State.answer_resp _ _, fun g => s.turn_get _ g, s.turn_agents _⟩

end Reads

/-! ### Rows that name a register (R66) -/

/-- Settles O7: each row is the access of its register. -/
theorem rowsAreAccessesOfTheirRegister : Obligations.RowsAreAccessesOfTheirRegister := by
  unfold Obligations.RowsAreAccessesOfTheirRegister
  intro x d s
  refine ⟨rfl, rfl, rfl, rfl, rfl, rfl, rfl, rfl, rfl, rfl, rfl, rfl, rfl, rfl, rfl, rfl, rfl, rfl, rfl, rfl, fun m off => ⟨rfl, rfl⟩⟩

/-! ### The checks of Table 2-2 -/

section Checks

variable {s : State} {a : Access} {x : Src} {o : Nat} {k : AccKind}

theorem State.offsetDefined_turn (s : State) (a : Access) (o : Nat) : (s.turn a).offsetDefined o = s.offsetDefined o := by
  simp only [State.offsetDefined, State.winType, State.winAgent, State.turn_get]

theorem State.aliasOk_turn (s : State) (a : Access) (o : Nat) : (s.turn a).aliasOk o = s.aliasOk o := by
  simp only [State.aliasOk, State.winType, State.winAgent, State.turn_get]

theorem State.srcLevel_turn (s : State) (a : Access) (x : Src) : (s.turn a).srcLevel x = s.srcLevel x := by
  simp only [State.srcLevel, State.turn_get]

theorem State.levelOk_turn (s : State) (a : Access) (x : Src) (o : Nat) (wr : Bool) : (s.turn a).levelOk x o wr = s.levelOk x o wr := by
  simp only [State.levelOk, State.needLevel, State.srcLevel_turn, State.turn_get]

/-- Step 1: an undefined offset is a bus error (R59, R60). -/
theorem State.present_undefined (hf : s.bankFree = true) (hp : s.powered a = true) (hd : s.offsetDefined a.norm.1 = false) :
    s.present a = (s.turn a).answerErr a := by
  rw [s.present_idle a hf hp]
  unfold State.perform
  generalize a.norm = ok at hd
  obtain ⟨o, k⟩ := ok
  simp [State.offsetDefined_turn, hd]

/-- Step 2: a write through a view where none is allowed is a bus error (R62). -/
theorem State.present_noAlias {v : View} {d : Word} (hf : s.bankFree = true) (hp : s.powered a = true) (hn : a.norm = (o, .rmw v d))
    (hd : s.offsetDefined o = true) (ha : s.aliasOk o = false) : s.present a = (s.turn a).answerErr a := by
  rw [s.present_idle a hf hp]
  unfold State.perform
  rw [hn]
  simp [State.offsetDefined_turn, hd, State.aliasOk_turn, ha]

/-- Step 3: an access that the level refuses answers zero, and is logged (R67, R68). -/
theorem State.present_refused (hf : s.bankFree = true) (hp : s.powered a = true) (hn : a.norm = (o, k)) (hk : k = .read ∨ ∃ d, k = .write d)
    (hd : s.offsetDefined o = true) (hl : s.levelOk a.src o k.isWrite = false) :
    s.present a = ((s.turn a).violation a.src o 3).answerOk a 0 := by
  rw [s.present_idle a hf hp]
  unfold State.perform
  rw [hn]
  rcases hk with rfl | ⟨d, rfl⟩ <;> simp [State.offsetDefined_turn, hd, State.levelOk_turn, hl]

theorem srcNo_lt (x : Src) : srcNo x < 16 := by
  cases x with
  | bus m => exact Nat.lt_of_lt_of_le m.isLt (by decide)
  | _ => decide

/-- The violation is logged in the page, counted and shown (R68); nothing else changes. -/
theorem State.violation_spec (s : State) (x : Src) (o : Nat) {c : Nat} (hc : c < 4) :
    (s.violation x o c).get (Hdr.GUARD_VIOL_SOURCE (o / 0x4000)) = srcNo x
      ∧ (s.violation x o c).get (Hdr.GUARD_VIOL_CODE (o / 0x4000)) = c
      ∧ (s.violation x o c).get (Hdr.GUARD_VIOL_OFFSET (o / 0x4000)) = o % 0x1000
      ∧ (s.violation x o c).get (Hdr.EVENT_GUARD_VIOL (o / 0x4000)) = 1
      ∧ s.counted (s.violation x o c) Reg.GUARD.VIOL_COUNT.COUNT 1
      ∧ s.keeps (s.violation x o c) [Hdr.GUARD_VIOL_SOURCE (o / 0x4000), Hdr.GUARD_VIOL_CODE (o / 0x4000),
          Hdr.GUARD_VIOL_OFFSET (o / 0x4000), Hdr.EVENT_GUARD_VIOL (o / 0x4000), Reg.GUARD.VIOL_COUNT.COUNT] := by
  generalize hp : o / 0x4000 = p
  have k1 : (Hdr.GUARD_VIOL_SOURCE p).key = (0x4000 * p + 0x24) * 8 + 28 := rfl
  have k2 : (Hdr.GUARD_VIOL_CODE p).key = (0x4000 * p + 0x24) * 8 + 26 := rfl
  have k3 : (Hdr.GUARD_VIOL_OFFSET p).key = (0x4000 * p + 0x24) * 8 := rfl
  have k4 : (Hdr.EVENT_GUARD_VIOL p).key = (0x4000 * p + 0x10) * 8 := rfl
  have k5 : Reg.GUARD.VIOL_COUNT.COUNT.key = 0x40B8 * 8 := rfl
  have heq : s.violation x o c = ((((s.put (Hdr.GUARD_VIOL_SOURCE p) (srcNo x)).put (Hdr.GUARD_VIOL_CODE p) c).put
      (Hdr.GUARD_VIOL_OFFSET p) (o % 0x1000)).bump Reg.GUARD.VIOL_COUNT.COUNT).raise (Hdr.EVENT_GUARD_VIOL p) := by
    rw [← hp]
    rfl
  rw [heq]
  refine ⟨?_, ?_, ?_, State.get_raise_same _ rfl, ?_, fun g _ hg => ?_⟩
  · rw [State.get_raise_ne _ (by omega), State.get_bump_ne _ (by omega), State.get_put_ne _ _ (by omega),
      State.get_put_ne _ _ (by omega), State.get_put_same]
    exact Nat.mod_eq_of_lt (srcNo_lt x)
  · rw [State.get_raise_ne _ (by omega), State.get_bump_ne _ (by omega), State.get_put_ne _ _ (by omega), State.get_put_same]
    exact Nat.mod_eq_of_lt hc
  · rw [State.get_raise_ne _ (by omega), State.get_bump_ne _ (by omega), State.get_put_same]
    exact Nat.mod_eq_of_lt (Nat.mod_lt _ (by decide))
  · rw [State.counted, State.get_raise_ne _ (by omega), State.bump, State.get_bumpBy_same, State.get_put_ne _ _ (by omega),
      State.get_put_ne _ _ (by omega), State.get_put_ne _ _ (by omega)]
  · simp only [List.map_cons, List.map_nil, List.mem_cons, List.not_mem_nil, or_false, not_or] at hg
    obtain ⟨h1, h2, h3, h4, h5⟩ := hg
    rw [State.get_raise_ne _ h4, State.get_bump_ne _ h5, State.get_put_ne _ _ h3, State.get_put_ne _ _ h2, State.get_put_ne _ _ h1]

theorem State.violation_agents (s : State) (x : Src) (o c : Nat) : (s.violation x o c).agents = s.agents := rfl

theorem norm_base_offset (a : Access) : a.norm.1 = offBase a.off := by
  unfold Access.norm
  split <;> rfl

/-- Settles O6: the checks answer in the order of Table 2-2. -/
theorem checksAnswerInOrder : Obligations.ChecksAnswerInOrder := by
  unfold Obligations.ChecksAnswerInOrder
  intro x off d s hf
  have herr : ∀ {a : Access}, a.via = 0 → s.present a = (s.turn a).answerErr a → ∃ t, Host.Outcome.next (φ := Fault) (ρ := Refusal)
      (s.present a) = .next t ∧ t.respOf a.src = some (errResp a.src) ∧ (∀ g : Fld, t.get g = s.get g) ∧ t.agents = s.agents := by
    intro a hv h
    rw [h, State.answerErr_bus _ hv]
    exact ⟨_, rfl, State.answer_resp _ _, fun g => s.turn_get _ g, s.turn_agents _⟩
  refine ⟨fun hp hd => herr rfl (State.present_undefined hf hp ?_), fun hp hd => herr rfl (State.present_undefined hf hp ?_),
    fun v hp hd ha => herr rfl (State.present_noAlias hf hp (norm_view x off.toNat v d) hd ha), fun hb hd => ?_⟩
  · rwa [norm_base_offset]
  · rwa [norm_base_offset]
  intro p logged
  have hlog : ∀ {a : Access} {k : AccKind}, a.via = 0 → a.src = x → a.norm = (off.toNat, k) → (k = .read ∨ ∃ d, k = .write d) →
      s.powered a = true → s.levelOk x off.toNat k.isWrite = false →
      ∃ t, Host.Outcome.next (φ := Fault) (ρ := Refusal) (s.present a) = .next t ∧ logged t := by
    rintro a k hv rfl hn hk hp hl
    obtain ⟨h1, h2, h3, h4, h5, h6⟩ := (s.turn a).violation_spec a.src off.toNat (c := 3) (by decide)
    rw [State.present_refused hf hp hn hk hd hl, State.answerOk_bus _ hv]
    refine ⟨_, rfl, ?_⟩
    simp only [logged, p, State.counted, State.keeps, State.answer_get, State.answer_agents, State.turn_get] at h5 h6 ⊢
    exact ⟨State.answer_resp _ _, h1, h2, h3, h4, h5, h6, (State.violation_agents _ _ _ _).trans (s.turn_agents _)⟩
  exact ⟨fun hp hl => hlog rfl rfl (norm_base hb) (.inr ⟨d, rfl⟩) hp hl, fun hp hl => hlog rfl rfl (norm_base hb) (.inl rfl) hp hl⟩

end Checks
end Sys2Proof.Machine

namespace Sys2Proof

/-- The entry put in is the one found under its key. -/
theorem Sparse.find?_ins_same {α : Type} (m : Sparse α) (i : Nat) (v : α) :
    (Sparse.ins m i v).find? (fun e => e.1 == i) = some (i, v) := by
  induction m with
  | nil => simp [Sparse.ins]
  | cons e m ih =>
    obtain ⟨k, w⟩ := e
    unfold Sparse.ins
    split
    · simp
    · split
      · simp
      next hk => rw [List.find?_cons_of_neg (by simpa using hk)]; exact ih

/-- Nothing is found under a key that is taken out. -/
theorem Sparse.find?_del_same {α : Type} (m : Sparse α) (i : Nat) : (Sparse.del m i).find? (fun e => e.1 == i) = none := by
  simp [Sparse.del]

end Sys2Proof

namespace Sys2Proof.Machine

/-! ### The latch and the stage of a source (R76, R77) -/

section Latches

variable {s t : State} {x : Src} {tag : Nat}

theorem State.latchOf_latchSet (s : State) (x : Src) (tag w : Nat) : (s.latchSet x tag w).latchOf x tag = some (w % 2 ^ 32) := by
  simp [State.latchOf, State.latchSet, Sparse.find?_ins_same]

theorem State.stageOf_stageSet (s : State) (x : Src) (tag : Nat) (d : Word) : (s.stageSet x tag d.toNat).stageOf x tag = some d.toNat := by
  simp [State.stageOf, State.stageSet, Sparse.find?_ins_same]

theorem State.stageOf_stageDrop (s : State) (x : Src) (tag : Nat) : (s.stageDrop x).stageOf x tag = none := by
  simp [State.stageOf, State.stageDrop, Sparse.find?_del_same]

theorem State.stageOf_congr (h : t.bank.stage = s.bank.stage) (x : Src) (tag : Nat) : t.stageOf x tag = s.stageOf x tag := by
  rw [State.stageOf, h, State.stageOf]

end Latches

/-! ### Reads and writes of a pair -/

section Pairs

variable {s : State} {x : Src} {o : Nat} {d : Word}

/-- A read of a _LO word answers it and latches the _HI word (R76). -/
theorem State.regRead_lo (peek : Bool) (hp : s.bank.parityBad.contains o = false) (hl : isPairLo o = true) :
    s.regRead x o peek = (s.latchSet x o (s.readWord (o + 4)), s.readWord o) := by
  have he : o ≠ 0x24070 := fun h => absurd (h ▸ hl) (by decide)
  unfold State.regRead
  rw [State.parityCheck_right hp, if_neg he, if_pos hl]

/-- A read of a _HI word answers what the source has latched (R76). -/
theorem State.regRead_hi {h : Nat} (hl : isPairLo o = true) (hlatch : s.latchOf x o = some h) : (s.regRead x (o + 4) false).2 = h := by
  have he : o + 4 ≠ 0x24070 := fun h => absurd hl (by rw [show o = 0x2406C by omega]; decide)
  have hhi : isPairHi (o + 4) = true := by simp [isPairHi, hl]
  unfold State.regRead
  rw [if_neg he, (isPairLo_pairAt hl).notLo, hhi]
  simp [hlatch]

theorem isPairHi_of_lo (h : isPairLo o = true) : isPairHi (o + 4) = true := by simp [isPairHi, h]

/-- A write of a _HI word is staged (R77), but that of FEED_DATA_HI while a feed is in progress is discarded (R210). -/
theorem State.pairWrite_hi (s : State) (hl : isPairLo o = true) (m : Nat) : s.pairWrite ⟨x, o + 4, d.toNat, false, m⟩
    = if o = 0x18050 ∧ s.feedDataBusy then s.put Reg.RUNCTL.FEED_STATUS.OVERRUN 1 else s.stageSet x o d.toNat := by
  have hiff : o + 4 = 0x18054 ↔ o = 0x18050 := by omega
  simp [State.pairWrite, (isPairLo_pairAt hl).notLo, hiff]

theorem State.busWrite_hi (hl : isPairLo o = true) (hm : s.mayWrite x (o + 4) d = true) : s.busWrite x (o + 4) d
    = ((if o = 0x18050 ∧ s.feedDataBusy then (s.writeTurn x (o + 4) d).put Reg.RUNCTL.FEED_STATUS.OVERRUN 1
        else (s.writeTurn x (o + 4) d).stageSet x o d.toNat)).answer 0 (okResp x 0) := by
  have hp := isPairLo_pairAt hl
  have hfeed : (s.writeTurn x (o + 4) d).feedDataBusy = s.feedDataBusy := by rw [State.feedDataBusy, State.get_writeTurn, State.feedDataBusy]
  rw [s.busWrite_pair hm (offView_of_base hp.baseHi) hp.baseHi hp.windowHi (.inr (isPairHi_of_lo hl)), State.pairWrite_hi _ hl, hfeed]
  rfl

/-- Both words of a pair are stored, the high one where it is given. -/
def State.pairStored (s : State) (x : Src) (o lo : Nat) (hi : Option Nat) : State :=
  hi.elim (s.storeReg ⟨x, o, lo, false, 2 ^ 32 - 1⟩ false) fun h =>
    (s.storeReg ⟨x, o, lo, false, 2 ^ 32 - 1⟩ false).storeReg ⟨x, o + 4, h, false, 2 ^ 32 - 1⟩ false

/-- The commit of a pair whose registers hold fields only (R77, R78). -/
theorem State.commitPair_plain (s : State) (hp : plainPair o = true) (hf : fieldsAt o ≠ []) (lo : Nat) (hi : Option Nat) :
    s.commitPair x o lo hi = s.pairStored x o lo hi := by
  have ho : o ≠ 0xC050 ∧ o ≠ 0x18050 ∧ o ≠ 0x20058 ∧ o ≠ 0x34058 ∧ ¬ (o = 0x44048 ∨ (0x44200 ≤ o ∧ o < 0x44300))
      ∧ ¬ (o = 0x58044 ∨ o = 0x58084) := by
    simp [plainPair, isPairLo, inStride] at hp
    omega
  have h6 : inStride o 0x38108 0x10 64 = false := by
    simp only [plainPair, Bool.and_eq_true, Bool.not_eq_true'] at hp
    exact hp.2
  obtain ⟨h1, h2, h3, h4, h5, h7⟩ := ho
  unfold State.commitPair
  dsimp only
  rw [if_neg h1, if_neg h2, if_neg (fun h => h3 h.1), if_neg (fun h => h4 h.1), if_neg (fun h => h5 h.1), h6, if_neg (by decide),
    if_neg h7, if_neg hf]
  cases hi <;> rfl

theorem State.pairStored_regs {u : State} (hl : isPairLo o = true) (lo : Nat) (hi : Option Nat) :
    ∃ r, u.pairStored x o lo hi = { u with regs := r } := by
  obtain ⟨h40, h4, -⟩ := (isPairLo_pairAt hl).place
  obtain ⟨r, hr⟩ := State.storeReg_regs (w := ⟨x, o, lo, false, 2 ^ 32 - 1⟩) u false (by dsimp only; omega)
  cases hi with
  | none => exact ⟨r, hr⟩
  | some h =>
    obtain ⟨q, hq⟩ := State.storeReg_regs (w := ⟨x, o + 4, h, false, 2 ^ 32 - 1⟩) { u with regs := r } false
      (by dsimp only; omega)
    exact ⟨q, by rw [State.pairStored, Option.elim_some, hr, hq]⟩

/-- A field of the _LO register holds its bits of the low word. -/
theorem State.get_pairStored_lo {u : State} (hl : isPairLo o = true) (lo : Nat) (hi : Option Nat) {f : Fld} (hf : (Acc.rw, f) ∈ fieldsAt o) :
    (u.pairStored x o lo hi).get f = fieldStores f (bits lo f.hi f.lo) % 2 ^ f.width := by
  obtain ⟨h40, h4, -⟩ := (isPairLo_pairAt hl).place
  have hlow : (u.storeReg ⟨x, o, lo, false, 2 ^ 32 - 1⟩ false).get f = fieldStores f (bits lo f.hi f.lo) % 2 ^ f.width :=
    (State.get_storeReg (w := ⟨x, o, lo, false, 2 ^ 32 - 1⟩) _ _ (by dsimp only; omega) hf).trans (State.storeField_rw _ _ _ _)
  cases hi with
  | none => exact hlow
  | some h =>
    refine (State.get_storeReg_ne (w := ⟨x, o + 4, h, false, 2 ^ 32 - 1⟩) _ _ (by dsimp only; omega) ?_).trans hlow
    rw [fieldsAt_key hf]
    dsimp only
    omega

/-- A field of the _HI register holds its bits of the high word, or keeps its value without one. -/
theorem State.get_pairStored_hi {u : State} (hl : isPairLo o = true) (lo : Nat) (hi : Option Nat) {f : Fld}
    (hf : (Acc.rw, f) ∈ fieldsAt (o + 4)) : (u.pairStored x o lo hi).get f
      = hi.elim (u.get f) fun h => fieldStores f (bits h f.hi f.lo) % 2 ^ f.width := by
  obtain ⟨h40, h4, -⟩ := (isPairLo_pairAt hl).place
  cases hi with
  | none =>
    refine State.get_storeReg_ne (w := ⟨x, o, lo, false, 2 ^ 32 - 1⟩) _ _ (by dsimp only; omega) ?_
    rw [fieldsAt_key hf]
    dsimp only
    omega
  | some h =>
    exact (State.get_storeReg (w := ⟨x, o + 4, h, false, 2 ^ 32 - 1⟩) _ _ (by dsimp only; omega) hf).trans (State.storeField_rw _ _ _ _)

/-- Where a finding of the scrubber on page `p` shows (R84). -/
def scrubFlds (p : Nat) : List Fld := [Hdr.FAULT_PARITY p, Hdr.FAULT_INFO_FIRST p, Hdr.FAULT_INFO_DETAIL p, Hdr.STATUS_PARITY_ERR p,
  Reg.GUARD.SCRUB_FAULT_ADDR.VALID, Reg.GUARD.SCRUB_FAULT_ADDR.WORD]

/-- No finding of the scrubber on page `p` shows in the field. -/
def offScrub (p : Nat) (f : Fld) : Prop := f.key ∉ (scrubFlds p).map Fld.key

theorem offScrub_iff {p : Nat} {f : Fld} : offScrub p f ↔ f.key ≠ (Hdr.FAULT_PARITY p).key ∧ f.key ≠ (Hdr.FAULT_INFO_FIRST p).key
    ∧ f.key ≠ (Hdr.FAULT_INFO_DETAIL p).key ∧ f.key ≠ (Hdr.STATUS_PARITY_ERR p).key
    ∧ f.key ≠ Reg.GUARD.SCRUB_FAULT_ADDR.VALID.key ∧ f.key ≠ Reg.GUARD.SCRUB_FAULT_ADDR.WORD.key := by
  simp [offScrub, scrubFlds]

theorem State.get_scrubWithdraw (s : State) (o : Nat) {g : Fld} (h : offScrub (o / 0x4000) g) : (s.scrubWithdraw o).get g = s.get g := by
  obtain ⟨hpar, hfirst, hdetail, herr, hvalid, hword⟩ := offScrub_iff.1 h
  unfold State.scrubWithdraw
  dsimp only
  split
  · rfl
  · repeat' split
    all_goals
      simp only [State.get_put_ne _ _ hpar, State.get_put_ne _ _ hfirst, State.get_put_ne _ _ hdetail, State.get_put_ne _ _ herr,
        State.get_put_ne _ _ hvalid, State.get_put_ne _ _ hword]
      rfl

/-- The end of a write touches no field but these. -/
theorem State.get_parityWritten (s : State) (o : Nat) {g : Fld} (h : offScrub (o / 0x4000) g) : (s.parityWritten o).get g = s.get g := by
  obtain ⟨-, -, -, herr, -, -⟩ := offScrub_iff.1 h
  unfold State.parityWritten State.parityClear
  dsimp only
  split
  · exact (State.get_put_ne _ _ herr).trans (s.get_scrubWithdraw o h)
  · exact s.get_scrubWithdraw o h

/-- A field of a pair stands where no finding of the scrubber shows. -/
theorem offScrub_pair (hl : isPairLo o = true) {a : Acc} {f : Fld} (hf : (a, f) ∈ fieldsAt o ∨ (a, f) ∈ fieldsAt (o + 4)) (p : Nat) :
    offScrub p f := by
  obtain ⟨h40, h4, -, h1, -⟩ := (isPairLo_pairAt hl).place
  have hlo := (isPairLo_pairAt hl).base
  have hhi := (isPairLo_pairAt hl).baseHi
  unfold offBase at hlo hhi
  have hk : f.key / 32 = o / 4 ∨ f.key / 32 = (o + 4) / 4 := hf.imp fieldsAt_key fieldsAt_key
  rw [offScrub_iff]
  simp only [Fld.key, Hdr.FAULT_PARITY, Hdr.FAULT_INFO_FIRST, Hdr.FAULT_INFO_DETAIL, Hdr.STATUS_PARITY_ERR,
    Reg.GUARD.SCRUB_FAULT_ADDR.VALID, Reg.GUARD.SCRUB_FAULT_ADDR.WORD] at hk ⊢
  omega

/-- The state after the write of a _LO word, before its answer. -/
def State.pairWritten (s : State) (x : Src) (o : Nat) (d : Word) : State :=
  let t := (s.pairStored x o d.toNat (s.stageOf x o)).parityWritten o
  if (s.stageOf x o).isSome then (t.stageDrop x).parityWritten (o + 4) else t

theorem State.get_pairWritten (s : State) (d : Word) {f : Fld} (hf : ∀ p, offScrub p f) :
    (s.pairWritten x o d).get f = (s.pairStored x o d.toNat (s.stageOf x o)).get f := by
  unfold State.pairWritten
  dsimp only
  split
  · refine (State.get_parityWritten _ _ (hf _)).trans ?_
    exact State.get_parityWritten _ _ (hf _)
  · exact State.get_parityWritten _ _ (hf _)

theorem State.parityWritten_agents (s : State) (o : Nat) : (s.parityWritten o).agents = s.agents := by
  obtain ⟨_, _, _, _, h⟩ := s.bankOnly_parityWritten o
  rw [h]

theorem State.pairWritten_agents (s : State) (hl : isPairLo o = true) (d : Word) : (s.pairWritten x o d).agents = s.agents := by
  obtain ⟨r, hr⟩ := State.pairStored_regs (u := s) (x := x) hl d.toNat (s.stageOf x o)
  have h : ((s.pairStored x o d.toNat (s.stageOf x o)).parityWritten o).agents = s.agents := by
    rw [State.parityWritten_agents, hr]
  unfold State.pairWritten
  dsimp only
  split
  · rw [State.parityWritten_agents]
    exact h
  · exact h

theorem State.parityWritten_stageOf (s : State) (o : Nat) (x : Src) (tag : Nat) : (s.parityWritten o).stageOf x tag = s.stageOf x tag :=
  State.stageOf_congr (by rw [State.parityWritten_bank]) x tag

/-- The source holds no stage after it. -/
theorem State.pairWritten_stage (s : State) (hl : isPairLo o = true) (d : Word) : (s.pairWritten x o d).stageOf x o = none := by
  obtain ⟨r, hr⟩ := State.pairStored_regs (u := s) (x := x) hl d.toNat (s.stageOf x o)
  unfold State.pairWritten
  dsimp only
  split
  · rw [State.parityWritten_stageOf]
    exact State.stageOf_stageDrop _ _ _
  next h =>
    rw [State.parityWritten_stageOf, hr]
    exact Option.not_isSome_iff_eq_none.1 h

/-- A write of a _LO word whose pair holds fields only. -/
theorem State.busWrite_lo (hp : plainPair o = true) (hm : s.mayWrite x o d = true) :
    s.busWrite x o d = ((s.writeTurn x o d).pairWritten x o d).answer 0 (okResp x 0) := by
  have hl : isPairLo o = true := by
    simp only [plainPair, Bool.and_eq_true] at hp
    exact hp.1.1.1
  have ha := isPairLo_pairAt hl
  have hdef : fieldsAt o ≠ [] := by
    simp only [State.mayWrite, State.admits, Bool.and_eq_true, State.passes, norm_base (a := wrAccess x o d) ha.base] at hm
    obtain ⟨⟨-, ⟨ho, -⟩, -⟩, -⟩ := hm
    simp only [wrAccess, State.offsetDefined, ha.window, Bool.and_eq_true] at ho
    simpa using ho.2
  rw [s.busWrite_pair hm (offView_of_base ha.base) ha.base ha.window (.inl hl)]
  unfold State.pairWrite
  dsimp only
  rw [if_neg (by decide), if_pos hl, State.commitPair_plain _ hp hdef]
  rfl

/-- Settles O5: the latch and the stage belong to the source and its pair. -/
theorem pairWordsAreLatchedAndStaged : Obligations.PairWordsAreLatchedAndStaged := by
  unfold Obligations.PairWordsAreLatchedAndStaged
  intro x off d s hl
  have hpair := isPairLo_pairAt hl
  have hoff : (off + 4).toNat = off.toNat + 4 := by
    have h := hpair.place.2.2.1
    rw [BitVec.toNat_add]
    exact Nat.mod_eq_of_lt (by simp; omega)
  have hnot : ∀ {n : Nat}, isPairLo n = false → off.toNat ≠ n := fun hn h => by rw [h, hn] at hl; exact absurd hl (by decide)
  refine ⟨fun hm hpar => ?_, fun h hlatch hm hpar => ?_, fun hm hfeed => ?_, fun hm hfeed => ?_, fun hm hplain => ?_⟩
  · have hpres := State.present_read (o := off.toNat) false hm (norm_base hpair.base) hpair.window (hnot rfl) (hnot rfl)
    rw [State.regRead_lo _ (by rw [State.turn_bank]; exact hpar) hl, State.answerOk_bus _ rfl] at hpres
    exact ⟨_, congrArg Host.Outcome.next hpres, State.answer_resp _ _, State.latchOf_latchSet _ _ _ _, fun g => s.get_readTurn _ _ g⟩
  · have hpres := State.present_read (o := off.toNat + 4) false hm (norm_base hpair.baseHi) hpair.windowHi
      (fun h => hnot (n := 0x58048) rfl (by omega)) (fun h => hnot (n := 0x58088) rfl (by omega))
    have hread := State.regRead_hi (s := s.readTurn x (off.toNat + 4)) hl ((s.turn_latchOf _ x off.toNat).trans hlatch)
    rw [State.answerOk_bus _ rfl] at hpres
    refine ⟨_, congrArg Host.Outcome.next ((congrArg (s.busRead x) hoff).trans hpres), ?_⟩
    rw [← hread]
    exact State.answer_resp _ _
  · have hno : ¬ (off.toNat = 0x18050 ∧ s.feedDataBusy = true) := fun h => by
      rw [hfeed h.1] at h
      exact absurd h.2 (by decide)
    have hw := State.busWrite_hi hl hm
    rw [if_neg hno] at hw
    refine ⟨_, congrArg Host.Outcome.next ((congrArg (s.busWrite x · d) hoff).trans hw), State.stageOf_stageSet _ _ _ _,
      fun g => s.get_writeTurn _ _ _ g, s.writeTurn_agents _ _ _⟩
  · have hw := State.busWrite_hi (o := 0x18050) rfl hm
    rw [if_pos ⟨rfl, hfeed⟩] at hw
    refine ⟨_, congrArg Host.Outcome.next hw, s.turn_stageOf _ x _, ?_, fun g _ hg => ?_, s.writeTurn_agents _ _ _⟩
    · rw [State.answer_get, State.get_put_same]
      rfl
    · simp only [List.map_cons, List.map_nil, List.mem_cons, List.not_mem_nil, or_false] at hg
      rw [State.answer_get, State.get_put_ne _ _ hg, State.get_writeTurn]
  · refine ⟨_, congrArg Host.Outcome.next (State.busWrite_lo hplain hm), State.pairWritten_stage _ hl d, fun f hf => ?_,
      fun f hf => ?_, (State.pairWritten_agents _ hl d).trans (s.writeTurn_agents _ _ _)⟩
    · exact (State.get_pairWritten _ d (offScrub_pair hl (.inl hf))).trans (State.get_pairStored_lo hl _ _ hf)
    · refine (State.get_pairWritten _ d (offScrub_pair hl (.inr hf))).trans ((State.get_pairStored_hi hl _ _ hf).trans ?_)
      rw [State.writeTurn, State.turn_stageOf, State.turn_get]
      cases s.stageOf x off.toNat <;> rfl

end Pairs
end Sys2Proof.Machine

namespace Sys2Proof.Machine

/-! ### The registers of a page's header (Table 2-5) -/

section Header

variable {s : State} {x : Src} {o p k : Nat} {d : Word}

/-- A header register past PAGE_ID is no window register and no word of a pair. -/
theorem headerOff (h4 : 4 ≤ k) (hk : k < 0x40) : offBase (0x4000 * p + k) = 0x4000 * p + k ∧ isWindow (0x4000 * p + k) = false
    ∧ isPairLo (0x4000 * p + k) = false ∧ isPairHi (0x4000 * p + k) = false := by
  have hlow : ∀ j < 0x40, isPairLo (0x4000 * p + j) = false := fun j hj => by
    rw [Bool.eq_false_iff]
    intro h
    have := (isPairLo_pairAt h).place
    omega
  refine ⟨by unfold offBase; omega, ?_, hlow k hk, ?_⟩
  · simp only [isWindow, Bool.and_eq_false_iff, decide_eq_false_iff_not]; omega
  · rw [isPairHi, show 0x4000 * p + k - 4 = 0x4000 * p + (k - 4) by omega, hlow _ (by omega), Bool.and_false]

/-- What a write in the base view that passes its checks says of its register: it is defined, and no lock holds it. -/
theorem State.mayWrite_base (h : s.mayWrite x o d = true) (hb : offBase o = o) (hw : isWindow o = false) :
    o / 0x4000 < 24 ∧ (s.writeTurn x o d).lockCheck x o d.toNat = (0, true) := by
  simp only [State.mayWrite, State.admits, Bool.and_eq_true, State.passes, norm_base (a := wrAccess x o d) hb] at h
  obtain ⟨⟨-, ⟨hdef, -⟩, hlock⟩, -⟩ := h
  simp only [State.offsetDefined, Bool.and_eq_true, decide_eq_true_eq] at hdef
  simpa [wrAccess, hw, State.writeTurn] using And.intro hdef.1 hlock

/-- A register of a write-once lock that can be written still holds 0 (R79). -/
theorem State.word_of_lockCheck {v : Nat} (h : s.lockCheck x o v = (0, true)) (hl : (fieldsAt o).any (fun e => e.1 == .wo1) = true) :
    s.word o = 0 := by
  by_contra hne
  rw [State.lockCheck, if_pos ⟨hl, hne⟩] at h
  simp at h

end Header

/-! ### CFG_LOCK (R79) -/

theorem fieldsAt_lock : ∀ p < 24, fieldsAt (0x4000 * p + 0x20) = [(.wo1, Hdr.LOCK_CFG_LOCK p)] := by decide +kernel

theorem plainOff_lock : ∀ p < 24, p ≠ Slot.TEAM → plainOff (0x4000 * p + 0x20) = true := by decide +kernel

/-- Every field of STATUS lies above the five bits that the page's work makes. -/
theorem fieldsAt_status : ∀ p < 24, ∀ e ∈ fieldsAt (0x4000 * p + 0x0C), 5 ≤ e.2.lo := by decide +kernel

/-- A register word whose fields all lie above bit `n` is a multiple of 2^n. -/
theorem dvd_composeRead {fs : List (Acc × Fld)} {n : Nat} (h : ∀ e ∈ fs, n ≤ e.2.lo) (g : Acc → Fld → Nat) :
    2 ^ n ∣ composeRead fs g := by
  induction fs with
  | nil => exact Nat.dvd_zero _
  | cons e fs ih =>
    exact Nat.dvd_add (Nat.dvd_mul_left_of_dvd (Nat.pow_dvd_pow 2 (h e List.mem_cons_self)) _)
      (ih fun x hx => h x (List.mem_cons_of_mem _ hx))

/-- STATUS.LOCKED shows the page's lock. -/
theorem State.readWord_locked (s : State) {p : Nat} (hp : p < 24) :
    s.readWord (0x4000 * p + 0x0C) / 16 % 2 = s.get (Hdr.LOCK_CFG_LOCK p) % 2 := by
  obtain ⟨c, hc⟩ := dvd_composeRead (fieldsAt_status p hp) (s.value (s.liveAt (0x4000 * p + 0x0C)))
  have hpage : (0x4000 * p + 0x0C) / 0x4000 = p := by omega
  have hwork : ∃ r < 16, s.pageStatus p = s.get (Hdr.LOCK_CFG_LOCK p) * 16 + r := by
    refine ⟨_, ?_, Nat.add_assoc _ _ _⟩
    have hbit : bit (s.word (0x4000 * p + 0x18) != 0) ≤ 1 := by unfold bit; split <;> omega
    split
    · omega
    · split <;> omega
  obtain ⟨r, hr, hwork⟩ := hwork
  unfold State.readWord
  dsimp only
  rw [hc, if_pos (by omega), hpage, hwork]
  omega

section Lock

variable {s : State} {x : Src} {p : Nat} {d : Word}

/-- The write of LOCK as the bank performs it; on the TEAM page it clears TOSS_BUSY (R72). -/
theorem State.busWrite_lock (hm : s.mayWrite x (0x4000 * p + 0x20) d = true) (hp : p < 24) (ht : p = Slot.TEAM → s.tossActive = false) :
    ∃ (v : State) (l : Bool), s.busWrite x (0x4000 * p + 0x20) d = v.fieldsWritten (busWr x (0x4000 * p + 0x20) d) l d
      ∧ v.hwFault = (s.writeTurn x (0x4000 * p + 0x20) d).hwFault ∧ v.agents = s.agents
      ∧ ∀ g : Fld, g.key ≠ Reg.TEAM.STATUS.TOSS_BUSY.key → v.get g = s.get g := by
  by_cases hteam : p = Slot.TEAM
  · obtain ⟨hb, hw, hlo, hhi⟩ := headerOff (p := p) (k := 0x20) (by decide) (by decide)
    have htoss : ∀ o, (s.writeTurn x o d).tossActive = false := fun o => by
      rw [State.tossActive, State.get_writeTurn]; exact ht hteam
    refine ⟨(s.writeTurn x (0x4000 * p + 0x20) d).put Reg.TEAM.STATUS.TOSS_BUSY 0,
      (s.writeTurn x (0x4000 * p + 0x20) d).rwlLocked x (0x4000 * p + 0x20),
      (State.busWrite_eq s hm (offView_of_base hb) hb hw hlo hhi).trans ?_, rfl, s.writeTurn_agents _ _ _, fun g hg => ?_⟩
    · subst hteam
      simp [State.writeSpecial, State.writeTeam, htoss, Slot.TEAM, State.fieldsWritten, busWr]
    · rw [State.get_put_ne _ _ hg, State.get_writeTurn]
  · exact ⟨_, _, State.busWrite_plain (plainOff_lock p hp hteam) hm, rfl, s.writeTurn_agents _ _ _, fun g _ => State.get_writeTurn _ _ _ _ g⟩

/-- What the write of LOCK leaves. -/
theorem State.cfgLock_written (hm : s.mayWrite x (0x4000 * p + 0x20) d = true) (ht : p = Slot.TEAM → s.tossActive = false) :
    p < 24 ∧ (s.busWrite x (0x4000 * p + 0x20) d).get (Hdr.LOCK_CFG_LOCK p) = d.toNat % 2
      ∧ s.keeps (s.busWrite x (0x4000 * p + 0x20) d) [Hdr.LOCK_CFG_LOCK p, Hdr.STATUS_PARITY_ERR p, Reg.TEAM.STATUS.TOSS_BUSY]
      ∧ (s.busWrite x (0x4000 * p + 0x20) d).agents = s.agents := by
  obtain ⟨hb, hw, -, -⟩ := headerOff (p := p) (k := 0x20) (by decide) (by decide)
  obtain ⟨hdef, hlock⟩ := State.mayWrite_base hm hb hw
  have hp : p < 24 := by omega
  have hpage : (0x4000 * p + 0x20) / 0x4000 = p := by omega
  have hmod : (0x4000 * p + 0x20) % 0x4000 ≠ 0x18 := by omega
  obtain ⟨v, l, hex, hf, hag, hget⟩ := State.busWrite_lock hm hp ht
  have hu : v.hwFault.contains ((0x4000 * p + 0x20) / 0x4000, 0, (0x4000 * p + 0x20) % 0x1000) = false := by
    rw [hf]; exact State.writeTurn_unscrubbed hm
  have hother := fun {g} hk => v.get_fieldsWritten (g := g) (busWr x (0x4000 * p + 0x20) d) l d hmod hu hk
  have hmem : (Acc.wo1, Hdr.LOCK_CFG_LOCK p) ∈ fieldsAt (0x4000 * p + 0x20) := by rw [fieldsAt_lock p hp]; simp
  have hclear : s.get (Hdr.LOCK_CFG_LOCK p) = 0 := by
    have hword := State.word_of_lockCheck hlock (by rw [fieldsAt_lock p hp]; rfl)
    rw [State.word, fieldsAt_lock p hp] at hword
    simpa [composeWord, Hdr.LOCK_CFG_LOCK] using hword
  have hne : (Hdr.LOCK_CFG_LOCK p).key ≠ Reg.TEAM.STATUS.TOSS_BUSY.key := by
    simp only [Fld.key, Hdr.LOCK_CFG_LOCK, Reg.TEAM.STATUS.TOSS_BUSY]; omega
  refine ⟨hp, ?_, fun g _ hg => ?_, ?_⟩
  · rw [hex, hother (key_ne_parityErr hmem (by decide)), State.get_storeReg _ _ hmod hmem]
    have hstep : (v.storeField (busWr x (0x4000 * p + 0x20) d) l .wo1 (Hdr.LOCK_CFG_LOCK p)).get (Hdr.LOCK_CFG_LOCK p)
        = (v.get (Hdr.LOCK_CFG_LOCK p) ||| bits d.toNat 0 0) % 2 ^ 1 := State.get_put_same _ _ _
    rw [hstep, hget _ hne, hclear, Nat.zero_or]
    simp [bits]
  · simp only [List.map_cons, List.map_nil, List.mem_cons, List.not_mem_nil, or_false, not_or] at hg
    obtain ⟨h1, h2, h3⟩ := hg
    rw [hex, hother (by rw [busWr, hpage]; exact h2), State.storeReg_fold _ _ hmod, busWr, fieldsAt_lock p hp]
    exact ((fieldStep_storeField _ l).foldl_other (fun e he => by rw [List.mem_singleton.1 he]; exact h1) v).trans (hget g h3)
  · obtain ⟨r, b, heq⟩ := v.fieldsWritten_eq (w := busWr x (0x4000 * p + 0x20) d) l d hmod hu
    rw [hex, heq]
    exact hag

end Lock

/-! ### IRQ_ROUTE (R99) -/

/-- The route that a write of IRQ_ROUTE leaves, once SEL has been set. -/
def State.routed (s : State) (v : Nat) : State :=
  if testBit v 8 = true ∧ 1 ≤ s.get Reg.HUB.IRQ_ROUTE.SEL ∧ s.get Reg.HUB.IRQ_ROUTE.SEL ≤ 24 then
    { s with bank := { s.bank with irqRoutes := Sparse.ins s.bank.irqRoutes (s.get Reg.HUB.IRQ_ROUTE.SEL - 1) (v % 4) } } else s

section Routes

variable {s : State} {x : Src} {d : Word}

theorem State.routed_regs (s : State) (v : Nat) :
    (s.routed v).regs = s.regs ∧ (s.routed v).hwFault = s.hwFault ∧ (s.routed v).agents = s.agents := by
  unfold State.routed
  split <;> exact ⟨rfl, rfl, rfl⟩

theorem State.routed_get (s : State) (v : Nat) (g : Fld) : (s.routed v).get g = s.get g := by
  rw [State.get, (s.routed_regs v).1, State.get]

/-- The route of a page depends on the routes that the bank holds only. -/
theorem State.irqRoute_congr {s t : State} (h : t.bank.irqRoutes = s.bank.irqRoutes) (p : Nat) : t.irqRoute p = s.irqRoute p := by
  rw [State.irqRoute, h, State.irqRoute]

theorem State.routed_same {v : Nat} (h : testBit v 8 = false) : s.routed v = s := by
  rw [State.routed, if_neg (by simp [h])]

/-- WR sets the route of the page that SEL names. -/
theorem State.irqRoute_routed {v p : Nat} (h : testBit v 8 = true) (hp : p < 24) :
    (s.routed v).irqRoute p = if p + 1 = s.get Reg.HUB.IRQ_ROUTE.SEL then v % 4 else s.irqRoute p := by
  unfold State.routed
  split
  · rename_i hc
    by_cases hs : p + 1 = s.get Reg.HUB.IRQ_ROUTE.SEL
    · rw [if_pos hs, ← hs]
      exact Sparse.get_ins_same _ _ _ _
    · rw [if_neg hs]
      exact Sparse.get_ins_ne _ _ _ (by omega)
  · rename_i hc
    rw [if_neg]
    intro hs
    exact hc ⟨h, by omega, by omega⟩

/-- The write of IRQ_ROUTE as the bank performs it. -/
theorem State.busWrite_irqRoute (hm : s.mayWrite x 0x6C d = true) : s.busWrite x 0x6C d
    = (((s.writeTurn x 0x6C d).put Reg.HUB.IRQ_ROUTE.SEL (bits d.toNat 20 16)).routed d.toNat).wrote x 0x6C d := by
  refine (s.busWrite_eq hm (by decide) (by decide) (by decide) (by decide) (by decide)).trans ?_
  simp [State.writeSpecial, State.writeHub, State.routed, Slot.TEAM, Wr.bits, Reg.HUB.IRQ_ROUTE.SEL]

/-- Settles O8: the lock register takes its bit, and IRQ_ROUTE the route of the page that SEL names. -/
theorem lockAndRoutesAreWritten : Obligations.LockAndRoutesAreWritten := by
  unfold Obligations.LockAndRoutesAreWritten
  intro x page d s
  refine ⟨fun hm ht => ?_, fun hm => ?_⟩
  · obtain ⟨hp, hlock, hkeeps, hag⟩ := State.cfgLock_written hm ht
    refine ⟨_, rfl, fun hd => ⟨by rw [hlock, hd], ?_⟩, fun hd => by rw [hlock, hd], hkeeps, hag⟩
    rw [State.readWord_locked _ hp, hlock, hd]
  · have hw := State.busWrite_irqRoute hm
    generalize hu : (s.writeTurn x 0x6C d).put Reg.HUB.IRQ_ROUTE.SEL (bits d.toNat 20 16) = u at hw
    have hsel : u.get Reg.HUB.IRQ_ROUTE.SEL = bits d.toNat Reg.HUB.IRQ_ROUTE.SEL.hi Reg.HUB.IRQ_ROUTE.SEL.lo := by
      rw [← hu, State.get_put_same]
      exact bits_mod_width d.toNat Reg.HUB.IRQ_ROUTE.SEL
    have hget : ∀ g : Fld, g.key ≠ (Hdr.STATUS_PARITY_ERR 0).key → ((u.routed d.toNat).wrote x 0x6C d).get g = u.get g := by
      intro g hg
      rw [State.get_wrote_effect (o := 0x6C) hm rfl rfl (by rw [(u.routed_regs _).2.1, ← hu]; rfl) hg, State.routed_get]
    have hroute : ∀ p, ((u.routed d.toNat).wrote x 0x6C d).irqRoute p = (u.routed d.toNat).irqRoute p :=
      State.irqRoute_congr (by rw [State.wrote_bank])
    have hold : ∀ p, u.irqRoute p = s.irqRoute p := State.irqRoute_congr (by rw [← hu, State.put_bank, State.writeTurn, State.turn_bank])
    refine ⟨_, congrArg Host.Outcome.next hw, (hget _ (by decide)).trans hsel, fun h p => ?_, fun h p hp => ?_, fun g _ hg => ?_, ?_⟩
    · rw [hroute, State.routed_same h, hold]
    · rw [hroute, State.irqRoute_routed h hp, hsel, hold]
    · simp only [List.map_cons, List.map_nil, List.mem_cons, List.not_mem_nil, or_false, not_or] at hg
      rw [hget g hg.2, ← hu, State.get_put_ne _ _ hg.1, State.get_writeTurn]
    · rw [State.wrote_agents, (u.routed_regs _).2.2, ← hu]
      exact s.writeTurn_agents _ _ _

end Routes
end Sys2Proof.Machine

namespace Sys2Proof.Machine

/-! ### The scrubber (R83 to R85) -/

section Scrub

variable {s : State} {o p : Nat}

/-- A finding of the scrubber shows in its page's FAULT and STATUS, in FAULT_INFO and in SCRUB_FAULT_ADDR only. -/
theorem State.get_parityError (s : State) (o : Nat) {g : Fld} (h : offScrub (o / 0x4000) g) : (s.parityError o).get g = s.get g := by
  obtain ⟨hpar, hfirst, hdetail, herr, hvalid, hword⟩ := offScrub_iff.1 h
  unfold State.parityError
  dsimp only
  rw [State.get_put_ne _ _ hword, State.get_put_ne _ _ hvalid, State.get_put_ne _ _ herr, State.get_fault_ne _ _ _ _ hpar hfirst hdetail]

theorem State.parityError_bank (s : State) (o : Nat) : (s.parityError o).bank = s.bank := s.fault_bank _ _ _
theorem State.parityError_agents (s : State) (o : Nat) : (s.parityError o).agents = s.agents := s.fault_agents _ _ _
theorem State.parityError_fc (s : State) (o : Nat) : (s.parityError o).fc = s.fc := s.fault_fc _ _ _

/-- Page `p` reports a parity error: FAULT.PARITY and STATUS.PARITY_ERR read 1 (R84). -/
def State.parityShown (s : State) (p : Nat) : Prop := s.get (Hdr.FAULT_PARITY p) = 1 ∧ s.get (Hdr.STATUS_PARITY_ERR p) = 1

/-- The page of the register found reports it. -/
theorem State.parityShown_parityError (s : State) (o : Nat) : (s.parityError o).parityShown (o / 0x4000) := by
  unfold State.parityError
  dsimp only
  generalize o / 0x4000 = p
  constructor
  · rw [State.get_put_ne, State.get_put_ne, State.get_put_ne]
    · exact s.get_fault_bit (by simp only [Fld.key, Hdr.FAULT_INFO_FIRST, ne_eq]; omega)
        (by simp only [Fld.key, Hdr.FAULT_INFO_DETAIL, ne_eq]; omega)
    all_goals
      simp only [Fld.key, Hdr.FAULT_PARITY, Hdr.STATUS_PARITY_ERR, Reg.GUARD.SCRUB_FAULT_ADDR.VALID,
        Reg.GUARD.SCRUB_FAULT_ADDR.WORD, ne_eq]
      omega
  · rw [State.get_put_ne, State.get_put_ne, State.get_put_same]
    · rfl
    all_goals
      simp only [Fld.key, Hdr.STATUS_PARITY_ERR, Reg.GUARD.SCRUB_FAULT_ADDR.VALID, Reg.GUARD.SCRUB_FAULT_ADDR.WORD, ne_eq]
      omega

/-- A finding elsewhere takes no report back. -/
theorem State.parityShown.parityError (h : s.parityShown p) (o : Nat) : (s.parityError o).parityShown p := by
  by_cases hp : p = o / 0x4000
  · rw [hp]
    exact s.parityShown_parityError o
  · refine ⟨(s.get_parityError o ?_).trans h.1, (s.get_parityError o ?_).trans h.2⟩ <;>
      simp only [offScrub_iff, Fld.key, Hdr.FAULT_PARITY, Hdr.FAULT_INFO_FIRST, Hdr.FAULT_INFO_DETAIL, Hdr.STATUS_PARITY_ERR,
        Reg.GUARD.SCRUB_FAULT_ADDR.VALID, Reg.GUARD.SCRUB_FAULT_ADDR.WORD] <;> omega

theorem State.parityShown.foldl (h : s.parityShown p) (l : List Nat) : (l.foldl State.parityError s).parityShown p := by
  induction l generalizing s with
  | nil => exact h
  | cons o l ih => exact ih (h.parityError o)

/-- A pass reports every register it finds. -/
theorem State.parityShown_foldl {l : List Nat} (h : o ∈ l) (s : State) : (l.foldl State.parityError s).parityShown (o / 0x4000) := by
  induction l generalizing s with
  | nil => exact absurd h (by simp)
  | cons q l ih =>
    rcases List.mem_cons.1 h with rfl | h
    · exact (s.parityShown_parityError o).foldl l
    · exact ih h _

/-- The end of a pass touches SCRUB_CTRL only. -/
theorem State.endBit_get_ne (s : State) {f g : Fld} (h : g.key ≠ f.key) : (s.endBit f).get g = s.get g := by
  unfold State.endBit
  split
  · rfl
  · exact s.get_put_ne _ h

theorem State.endBit_bank (s : State) (f : Fld) : (s.endBit f).bank = s.bank := by
  unfold State.endBit
  split <;> rfl

theorem State.endBit_agents (s : State) (f : Fld) : (s.endBit f).agents = s.agents := by
  unfold State.endBit
  split <;> rfl

/-- A self-clearing bit that software has not issued in this fc ends at 0; one it has issued stays (R96). -/
theorem State.get_endBit (s : State) (f : Fld) : (s.endBit f).get f = if s.issuedNow f then s.get f else 0 := by
  unfold State.endBit State.issuedNow
  by_cases h : Sparse.get s.bank.issued f.key (s.fc + 1) = s.fc
  · rw [if_pos h, if_pos (by simpa using h)]
  · rw [if_neg h, if_neg (by simpa using h), State.get_put_same, Nat.zero_mod]

/-- A self-clearing bit that software issues reads 1 (R96). -/
theorem State.get_issueBit_same (s : State) {f : Fld} (h : f.width = 1) : (s.issueBit f).get f = 1 := by
  refine (State.get_put_same s f 1).trans ?_
  rw [h]
  rfl

theorem State.get_issueBit_ne (s : State) {f g : Fld} (h : g.key ≠ f.key) : (s.issueBit f).get g = s.get g := s.get_put_ne 1 h

/-- The fold of a pass leaves the bank, the agents, the fc and what shows no finding alone. -/
theorem State.foldl_parityError (s : State) (l : List Nat) : (l.foldl State.parityError s).bank = s.bank
    ∧ (l.foldl State.parityError s).agents = s.agents ∧ (l.foldl State.parityError s).fc = s.fc
    ∧ ∀ g, (∀ p, offScrub p g) → (l.foldl State.parityError s).get g = s.get g :=
  ⟨foldl_leaves _ _ State.parityError_bank l s, foldl_leaves _ _ State.parityError_agents l s,
    foldl_leaves _ _ State.parityError_fc l s, fun g hg => foldl_leaves (State.get · g) _ (fun t o => t.get_parityError o (hg _)) l s⟩

/-- SCRUB_CTRL shows no finding. -/
theorem offScrub_ctrl {f : Fld} (h : f.off = 0x40B0 ∧ f.lo < 32) (p : Nat) : offScrub p f := by
  obtain ⟨ho, hlo⟩ := h
  rw [offScrub_iff]
  simp only [Fld.key, ho, Hdr.FAULT_PARITY, Hdr.FAULT_INFO_FIRST, Hdr.FAULT_INFO_DETAIL, Hdr.STATUS_PARITY_ERR,
    Reg.GUARD.SCRUB_FAULT_ADDR.VALID, Reg.GUARD.SCRUB_FAULT_ADDR.WORD]
  omega

/-- What a pass of the scrubber does. -/
theorem State.scrubPass_spec (s : State) :
    s.scrubPass.get Reg.GUARD.SCRUB_CTRL.PASSES = (s.get Reg.GUARD.SCRUB_CTRL.PASSES + 1) % 2 ^ Reg.GUARD.SCRUB_CTRL.PASSES.width
    ∧ s.scrubPass.get Reg.GUARD.SCRUB_CTRL.PASS_NOW
      = (if s.issuedNow Reg.GUARD.SCRUB_CTRL.PASS_NOW then s.get Reg.GUARD.SCRUB_CTRL.PASS_NOW else 0)
    ∧ (∀ o ∈ s.bank.parityBad, s.scrubPass.parityShown (o / 0x4000)) ∧ s.scrubPass.agents = s.agents ∧ s.scrubPass.bank = s.bank := by
  obtain ⟨hbank, hag, hfc, hget⟩ := s.foldl_parityError s.bank.parityBad
  have hshown := fun {o} (h : o ∈ s.bank.parityBad) => State.parityShown_foldl h s
  unfold State.scrubPass
  dsimp only
  generalize s.bank.parityBad.foldl State.parityError s = t at hbank hag hfc hget hshown
  refine ⟨?_, ?_, fun o ho => ?_, ?_, ?_⟩
  · rw [State.endBit_get_ne _ (by decide), State.get_bumpWrap_same, hget _ (offScrub_ctrl (by decide))]
  · have hissued : (t.bumpWrap Reg.GUARD.SCRUB_CTRL.PASSES 1).issuedNow Reg.GUARD.SCRUB_CTRL.PASS_NOW
        = s.issuedNow Reg.GUARD.SCRUB_CTRL.PASS_NOW := by
      rw [State.issuedNow, State.bumpWrap_bank, State.bumpWrap_fc, hbank, hfc, State.issuedNow]
    rw [State.get_endBit, hissued, State.get_bumpWrap_ne _ _ (by decide), hget _ (offScrub_ctrl (by decide))]
  · have hkeep : ∀ g : Fld, g.key / 32 ≠ 0x40B0 / 4 → ((t.bumpWrap Reg.GUARD.SCRUB_CTRL.PASSES 1).endBit Reg.GUARD.SCRUB_CTRL.PASS_NOW).get g
        = t.get g := fun g hg => by
      rw [State.endBit_get_ne _ (fun h => hg (by rw [h]; rfl)), State.get_bumpWrap_ne _ _ (fun h => hg (by rw [h]; rfl))]
    refine ⟨(hkeep _ ?_).trans (hshown ho).1, (hkeep _ ?_).trans (hshown ho).2⟩ <;>
      simp only [Fld.key, Hdr.FAULT_PARITY, Hdr.STATUS_PARITY_ERR] <;> omega
  · rw [State.endBit_agents, State.bumpWrap_agents, hag]
  · rw [State.endBit_bank, State.bumpWrap_bank, hbank]

end Scrub

/-! ### PASS_NOW and INJECT (R83, R84) -/

/-- INJECT inverts the stored parity of HUB.SCRATCH. -/
def State.injectParity (s : State) : State :=
  { s with bank := { s.bank with parityBad :=
      if s.bank.parityBad.contains 0x58 then s.bank.parityBad.filter (fun y => y != 0x58) else insertSorted 0x58 s.bank.parityBad } }

section ScrubCtrl

variable {s : State} {x : Src} {d : Word}

theorem State.injectParity_contains (s : State) : s.injectParity.bank.parityBad.contains 0x58 = !s.bank.parityBad.contains 0x58 := by
  unfold State.injectParity
  dsimp only
  by_cases h : s.bank.parityBad.contains 0x58 = true
  · rw [if_pos h, h]
    simp
  · rw [if_neg h, Bool.eq_false_iff.2 h]
    simpa using mem_insertSorted.2 (.inl rfl)

/-- A command bit of SCRUB_CTRL is set in the word written back where the write through SET has it. -/
theorem State.aliasWr_scrub (u : State) (x : Src) (v : Nat) : testBit (u.aliasWr x 0x40B0 .set v).v 1 = testBit v 1
    ∧ testBit (u.aliasWr x 0x40B0 .set v).v 2 = testBit v 2 := by
  have hone := bits_composeRead (fieldsApart_fieldsAt 0x40B0) (fun a f => aliasField .set v a f (u.value (u.liveAt 0x40B0) a f))
    (a := .sc) (f := Reg.GUARD.SCRUB_CTRL.PASS_NOW) (by decide)
  have htwo := bits_composeRead (fieldsApart_fieldsAt 0x40B0) (fun a f => aliasField .set v a f (u.value (u.liveAt 0x40B0) a f))
    (a := .sc) (f := Reg.GUARD.SCRUB_CTRL.INJECT) (by decide)
  exact ⟨congrArg (· == 1) (hone.trans (bits_mod_width v Reg.GUARD.SCRUB_CTRL.PASS_NOW)),
    congrArg (· == 1) (htwo.trans (bits_mod_width v Reg.GUARD.SCRUB_CTRL.INJECT))⟩

/-- The SET write of SCRUB_CTRL: EN is written back; INJECT and PASS_NOW are performed without a parity error of GUARD (R85). -/
def State.scrubWritten (s : State) (v : Nat) : State :=
  if s.parityOk Slot.GUARD then
    let s := if testBit v 2 then s.injectParity else s
    if testBit v 1 then s.issueBit Reg.GUARD.SCRUB_CTRL.PASS_NOW else s
  else s

theorem State.scrubWritten_congr {u : State} {v n : Nat} (h1 : testBit v 1 = testBit n 1) (h2 : testBit v 2 = testBit n 2) :
    u.scrubWritten v = u.scrubWritten n := by
  rw [State.scrubWritten, h1, h2, State.scrubWritten]

theorem State.writeGuard_scrub (u : State) {w : Wr} (ho : w.o = 0x40B0) :
    u.writeGuard w = some ((u.put Reg.GUARD.SCRUB_CTRL.EN (bits w.v 0 0)).scrubWritten w.v) := by
  unfold State.writeGuard State.scrubWritten
  rw [if_neg (by omega), if_neg (by omega), if_pos ho]
  dsimp only
  generalize u.put Reg.GUARD.SCRUB_CTRL.EN (bits w.v 0 0) = t
  cases t.parityOk Slot.GUARD
  · rfl
  · cases testBit w.v 2 <;> cases testBit w.v 1 <;> rfl

theorem State.busSet_scrub (hm : s.mayWrite x 0x50B0 d = true) : ∃ v, s.busSet x 0x40B0 d
    = (((s.writeTurn x 0x50B0 d).put Reg.GUARD.SCRUB_CTRL.EN v).scrubWritten d.toNat).wrote x 0x40B0 d := by
  refine ⟨bits ((s.writeTurn x 0x50B0 d).aliasWr x 0x40B0 .set d.toNat).v 0 0,
    (s.busSet_eq hm (by decide) (by decide) (by decide) (by decide) (by decide)).trans ?_⟩
  obtain ⟨h1, h2⟩ := (s.writeTurn x 0x50B0 d).aliasWr_scrub x d.toNat
  have ho : ((s.writeTurn x 0x50B0 d).aliasWr x 0x40B0 .set d.toNat).o = 0x40B0 := rfl
  dsimp only
  generalize (s.writeTurn x 0x50B0 d).aliasWr x 0x40B0 .set d.toNat = w at h1 h2 ho
  have hw : (s.writeTurn x 0x50B0 d).writeSpecial w ((s.writeTurn x 0x50B0 d).rwlLocked x 0x40B0)
      = (s.writeTurn x 0x50B0 d).writeGuard w := by
    rw [State.writeSpecial, ho, if_neg (by decide), if_neg (by decide)]
    rfl
  rw [hw, State.writeGuard_scrub _ ho, State.scrubWritten_congr h1 h2]
  rfl

/-- What the SET write of PASS_NOW or INJECT leaves: the command's own effect `e`, and a write of EN. -/
theorem State.get_busSet_scrub {u e : State} {v : Nat} (hm : s.mayWrite x 0x50B0 d = true)
    (hu : u = (s.writeTurn x 0x50B0 d).put Reg.GUARD.SCRUB_CTRL.EN v) (he : e.hwFault = u.hwFault) {g : Fld}
    (hg : g.key ≠ (Hdr.STATUS_PARITY_ERR 1).key) : (e.wrote x 0x40B0 d).get g = e.get g :=
  State.get_wrote_effect (o := 0x50B0) (o' := 0x40B0) hm (by decide) (by decide) (by rw [he, hu, State.put_hwFault]) hg

theorem State.parityOk_put_en (u : State) (v : Nat) : (u.put Reg.GUARD.SCRUB_CTRL.EN v).parityOk Slot.GUARD = u.parityOk Slot.GUARD :=
  congrArg (· == 0) (State.get_put_ne _ _ (by decide))

theorem State.parityOk_writeTurn (s : State) (x : Src) (o : Nat) (d : Word) (p : Nat) : (s.writeTurn x o d).parityOk p = s.parityOk p :=
  congrArg (· == 0) (s.get_writeTurn _ _ _ _)

/-- The SET write of PASS_NOW. -/
theorem State.passNow_spec (hm : s.mayWrite x 0x50B0 2 = true) :
    (s.busSet x 0x40B0 2).get Reg.GUARD.SCRUB_CTRL.PASS_NOW
      = (if s.parityOk Slot.GUARD then 1 else s.get Reg.GUARD.SCRUB_CTRL.PASS_NOW)
    ∧ s.keeps (s.busSet x 0x40B0 2) [Reg.GUARD.SCRUB_CTRL.PASS_NOW, Reg.GUARD.SCRUB_CTRL.EN, Hdr.STATUS_PARITY_ERR 1]
    ∧ (s.busSet x 0x40B0 2).agents = s.agents := by
  obtain ⟨v, hex⟩ := State.busSet_scrub hm
  rw [hex]
  generalize hu : (s.writeTurn x 0x50B0 2).put Reg.GUARD.SCRUB_CTRL.EN v = u
  have hok : u.parityOk Slot.GUARD = s.parityOk Slot.GUARD := by rw [← hu, State.parityOk_put_en, State.parityOk_writeTurn]
  have hold : ∀ g : Fld, g.key ≠ Reg.GUARD.SCRUB_CTRL.EN.key → u.get g = s.get g := fun g hg => by
    rw [← hu, State.get_put_ne _ _ hg, State.get_writeTurn]
  have hag : u.agents = s.agents := by rw [← hu]; exact s.writeTurn_agents _ _ _
  have hcmd : u.scrubWritten (2 : Word).toNat = if s.parityOk Slot.GUARD then u.issueBit Reg.GUARD.SCRUB_CTRL.PASS_NOW else u := by
    rw [State.scrubWritten, hok]
    rfl
  have hf : (u.scrubWritten (2 : Word).toNat).hwFault = u.hwFault := by
    rw [hcmd]
    split <;> rfl
  refine ⟨?_, fun g _ hg => ?_, ?_⟩
  · rw [State.get_busSet_scrub hm hu.symm hf (by decide), hcmd]
    split
    · exact State.get_issueBit_same _ rfl
    · exact hold _ (by decide)
  · simp only [List.map_cons, List.map_nil, List.mem_cons, List.not_mem_nil, or_false, not_or] at hg
    obtain ⟨h1, h2, h3⟩ := hg
    rw [State.get_busSet_scrub hm hu.symm hf h3, hcmd]
    split
    · exact (State.get_issueBit_ne _ h1).trans (hold g h2)
    · exact hold g h2
  · rw [State.wrote_agents, hcmd]
    split <;> exact hag

/-- The SET write of INJECT. -/
theorem State.inject_spec (hm : s.mayWrite x 0x50B0 4 = true) :
    (s.busSet x 0x40B0 4).bank.parityBad.contains 0x58 = (s.bank.parityBad.contains 0x58 ^^ s.parityOk Slot.GUARD)
    ∧ s.keeps (s.busSet x 0x40B0 4) [Reg.GUARD.SCRUB_CTRL.EN, Hdr.STATUS_PARITY_ERR 1]
    ∧ (s.busSet x 0x40B0 4).agents = s.agents := by
  obtain ⟨v, hex⟩ := State.busSet_scrub hm
  rw [hex]
  generalize hu : (s.writeTurn x 0x50B0 4).put Reg.GUARD.SCRUB_CTRL.EN v = u
  have hok : u.parityOk Slot.GUARD = s.parityOk Slot.GUARD := by rw [← hu, State.parityOk_put_en, State.parityOk_writeTurn]
  have hbad : u.bank.parityBad = s.bank.parityBad := by rw [← hu, State.put_bank, State.writeTurn, State.turn_bank]
  have hag : u.agents = s.agents := by rw [← hu]; exact s.writeTurn_agents _ _ _
  have hcmd : u.scrubWritten (4 : Word).toNat = if s.parityOk Slot.GUARD then u.injectParity else u := by
    rw [State.scrubWritten, hok]
    rfl
  have hf : (u.scrubWritten (4 : Word).toNat).hwFault = u.hwFault := by
    rw [hcmd]
    split <;> rfl
  refine ⟨?_, fun g _ hg => ?_, ?_⟩
  · have hfilter : ∀ l : List Nat, (l.filter (fun y => y != 0x40B0)).contains 0x58 = l.contains 0x58 := fun l => by
      simp
    rw [State.wrote_bank]
    dsimp only
    rw [hfilter, hcmd]
    cases s.parityOk Slot.GUARD
    · rw [if_neg (by decide), hbad, Bool.xor_false]
    · rw [if_pos rfl, State.injectParity_contains, hbad, Bool.xor_true]
  · simp only [List.map_cons, List.map_nil, List.mem_cons, List.not_mem_nil, or_false, not_or] at hg
    have hold : u.get g = s.get g := by rw [← hu, State.get_put_ne _ _ hg.1, State.get_writeTurn]
    rw [State.get_busSet_scrub hm hu.symm hf hg.2, hcmd]
    split <;> exact hold
  · rw [State.wrote_agents, hcmd]
    split <;> exact hag

/-- Settles O10: a pass reports what it finds, and the two commands of SCRUB_CTRL. -/
theorem parityIsScrubbedAndReported : Obligations.ParityIsScrubbedAndReported := by
  unfold Obligations.ParityIsScrubbedAndReported
  refine ⟨fun s hr hp hon => ?_, fun s h1 h2 => ?_, fun x s hm => ?_, fun x s hm => ?_⟩
  · obtain ⟨hpasses, hnow, hshown, hag, hbank⟩ := s.scrubPass_spec
    refine ⟨s.scrubPass, congrArg Host.Outcome.next (if_pos ⟨hon, hr, hp⟩), hpasses, hnow, hshown, hag, by rw [hbank]⟩
  · exact congrArg Host.Outcome.next (if_neg fun h => h.1.elim h1 h2)
  · exact ⟨_, rfl, State.passNow_spec hm⟩
  · exact ⟨_, rfl, State.inject_spec hm⟩

end ScrubCtrl
end Sys2Proof.Machine

namespace Sys2Proof.Machine

/-! ### AGENT_SEL (R102) -/

section AgentSel

variable {s : State} {x : Src} {d : Word}

/-- The write of AGENT_SEL as the bank performs it. -/
theorem State.busWrite_agentSel (hm : s.mayWrite x 0x54040 d = true) : s.busWrite x 0x54040 d
    = (((s.writeTurn x 0x54040 d).put Reg.UNITWIN.AGENT_SEL.ID (d.toNat % 2 ^ 14)).put Reg.UNITWIN.AGENT_STATE.TIMEOUT 0).wrote x 0x54040 d := by
  refine (s.busWrite_eq hm (by decide) (by decide) (by decide) (by decide) (by decide)).trans ?_
  simp [State.writeSpecial, State.writeRest, Slot.TEAM]

theorem State.agentSel_spec (hm : s.mayWrite x 0x54040 d = true) :
    (s.busWrite x 0x54040 d).winAgent = d.toNat % 2 ^ 14 ∧ (s.busWrite x 0x54040 d).get Reg.UNITWIN.AGENT_STATE.TIMEOUT = 0
    ∧ s.keeps (s.busWrite x 0x54040 d)
        [Reg.UNITWIN.AGENT_SEL.ID, Reg.UNITWIN.AGENT_STATE.TIMEOUT, Hdr.STATUS_PARITY_ERR Slot.UNITWIN]
    ∧ (s.busWrite x 0x54040 d).agents = s.agents := by
  rw [State.busWrite_agentSel hm]
  generalize hu : s.writeTurn x 0x54040 d = u
  have hget : ∀ g : Fld, g.key ≠ (Hdr.STATUS_PARITY_ERR Slot.UNITWIN).key →
      (((u.put Reg.UNITWIN.AGENT_SEL.ID (d.toNat % 2 ^ 14)).put Reg.UNITWIN.AGENT_STATE.TIMEOUT 0).wrote x 0x54040 d).get g
        = ((u.put Reg.UNITWIN.AGENT_SEL.ID (d.toNat % 2 ^ 14)).put Reg.UNITWIN.AGENT_STATE.TIMEOUT 0).get g := fun g hg =>
    State.get_wrote_effect (o := 0x54040) (o' := 0x54040) hm rfl rfl (by rw [State.put_hwFault, State.put_hwFault, hu]) hg
  refine ⟨?_, ?_, fun g _ hg => ?_, ?_⟩
  · rw [State.winAgent, hget _ (by decide), State.get_put_ne _ _ (by decide), State.get_put_same]
    exact Nat.mod_mod _ _
  · rw [hget _ (by decide), State.get_put_same, Nat.zero_mod]
  · simp only [List.map_cons, List.map_nil, List.mem_cons, List.not_mem_nil, or_false, not_or] at hg
    obtain ⟨h1, h2, h3⟩ := hg
    rw [hget g h3, State.get_put_ne _ _ h2, State.get_put_ne _ _ h1, ← hu, State.get_writeTurn]
  · rw [State.wrote_agents, State.put_agents, State.put_agents, ← hu, State.writeTurn_agents]

end AgentSel

/-! ### The window on the selected agent (R103, R104) -/

section Window

variable {s : State} {x : Src} {a : Access} {o off : Nat} {k : AccKind} {d : Word}

/-- An access of a window register that passes its checks. -/
theorem State.present_window (h : s.admits a = true) (hn : a.norm = (o, k)) (hw : isWindow o = true) :
    s.present a = (s.turn a).windowAccess a o k := by
  simp only [State.admits, Bool.and_eq_true, State.passes, hn] at h
  obtain ⟨⟨hfree, hpow⟩, ⟨ho, hl⟩, hk⟩ := h
  rw [s.present_idle a hfree hpow]
  unfold State.perform
  rw [hn]
  cases k with
  | rmw v d =>
    obtain ⟨hal, -⟩ := Bool.and_eq_true_iff.1 hk
    simp [ho, hl, hw, hal]
  | _ => simp [ho, hl, hw]

/-- An access of no agent pair's high word goes to a reachable agent. -/
theorem State.windowAccess_sent (h : s.unreachable = false) (hp : ∀ lo, agentPair s.winType (o - 0x54000) ≠ some (lo, true)) :
    (s.turn a).windowAccess a o k = s.windowSent a := by
  have hu : (s.turn a).unreachable = false := by rw [State.unreachable, State.turn_power]; exact h
  have hty : (s.turn a).winType = s.winType := by rw [State.winType, State.winAgent, State.turn_get]; rfl
  unfold State.windowAccess
  rw [hu, hty]
  rcases hpair : agentPair s.winType (o - 0x54000) with _ | ⟨lo, _ | _⟩
  · rfl
  · rfl
  · exact absurd hpair (hp lo)

/-- An access of unreachable agents is a bus error (R104). -/
theorem State.windowAccess_refused (h : s.unreachable = true) : (s.turn a).windowAccess a o k = ((s.turn a).wakeNote wkAccess).answerErr a := by
  have hu : (s.turn a).unreachable = true := by rw [State.unreachable, State.turn_power]; exact h
  unfold State.windowAccess
  rw [hu]
  rfl

/-- A window register's offset is one of the base view. -/
theorem windowOff (h : 0x400 ≤ off) (h' : off < 0x800) : offBase (0x54000 + off) = 0x54000 + off ∧ isWindow (0x54000 + off) = true := by
  refine ⟨by unfold offBase; omega, ?_⟩
  simp only [isWindow, Bool.and_eq_true, decide_eq_true_eq]
  omega

/-- A read or a write of a window register, as the bank sees it. -/
theorem winOpAccess_norm (h : 0x400 ≤ off) (h' : off < 0x800) {op : WinOp} (hop : op ∈ [WinOp.read, WinOp.write d]) :
    ∃ k, (winOpAccess x off op).norm = (0x54000 + off, k) ∧ (winOpAccess x off op).via = 0 ∧ (winOpAccess x off op).src = x := by
  obtain ⟨hb, -⟩ := windowOff h h'
  simp only [List.mem_cons, List.not_mem_nil, or_false] at hop
  rcases hop with rfl | rfl
  · exact ⟨_, norm_base (a := winOpAccess x off .read) hb, rfl, rfl⟩
  · exact ⟨_, norm_base (a := winOpAccess x off (.write d)) hb, rfl, rfl⟩

/-! #### The agent's answer -/

/-- The bank free again, and nothing pending. -/
def State.windowDone (s : State) : State := s.clearBusy.put Reg.UNITWIN.AGENT_STATE.PENDING 0

/-- A change of an agent that leaves its faults alone touches no hub register. -/
theorem State.modAgent_keepsRegs (s : State) (n : Nat) {f : Agent → Agent} (hf : ∀ g, (f g).get AReg.A_FAULT = g.get AReg.A_FAULT) :
    s.sameRegs (s.modAgent n f) :=
  State.modAgent_sameRegs _ _ fun h => by rwa [hf, State.agentNow_fault] at h

/-- The side effect of a read at the agent touches no hub register and leaves the bank's work alone. -/
theorem State.agentRead_spec (s : State) (n r v : Nat) (peek : Bool) :
    s.sameRegs (s.agentRead n r v peek) ∧ s.windowOnly (s.agentRead n r v peek) n := by
  have hmod : ∀ f : Agent → Agent, (∀ g, (f g).get AReg.A_FAULT = g.get AReg.A_FAULT) → (∀ g, (f g).frozen = g.frozen) →
      s.sameRegs (s.modAgent n f) ∧ s.windowOnly (s.modAgent n f) n := fun f hf hz =>
    ⟨s.modAgent_keepsRegs n hf, State.windowOnly_modAgent s n (hz _)⟩
  unfold State.agentRead
  dsimp only
  split
  · exact hmod _ (fun g => g.get_put_ne _ (by decide)) fun _ => rfl
  · split
    · exact hmod _ (fun g => g.get_put_ne _ (by decide)) fun _ => rfl
    · split
      · rename_i h
        obtain ⟨-, hrun, -⟩ := h
        refine hmod _ (fun g => ?_) fun _ => rfl
        simp only [inRun, Bool.and_eq_true, decide_eq_true_eq] at hrun
        exact Sparse.get_set_ne g.regs _ _ _ (by simp only [Fld.key, AReg.A_FAULT]; omega)
      · exact ⟨fun _ => rfl, State.windowOnly_rfl _ _⟩

/-- A read of an agent register that is no word of a pair, as the agent answers it. -/
theorem State.windowAnswer_single (hn : a.norm = (0x54000 + off, .read)) (hp : agentPair s.winType off = none) (live : Nat) :
    s.windowAnswer a live = (s.windowDone.agentRead s.winAgent off (s.agentWord s.winAgent off (live % 2 ^ 32)) false).answerOk a
      (s.agentWord s.winAgent off (live % 2 ^ 32)) := by
  have hp' : agentPair (agentType s.winAgent) off = none := hp
  unfold State.windowAnswer
  rw [hn]
  dsimp only
  rw [Nat.add_sub_cancel_left, hp']
  rfl

/-- The access that waits for the agent. -/
theorem State.windowWaits_eq (hb : s.bank.busy = some a) (hn : a.norm = (o, k)) (hw : isWindow o = true) : s.windowWaits = some a := by
  rw [State.windowWaits, hb]
  dsimp only
  rw [hn, if_pos hw]

/-- The state after an access that has been answered, with nothing waiting behind it. -/
theorem State.answer_serve (hh : s.bank.held = []) (hq : s.bsl.reqs = []) (r : Resp) : (s.answer 0 r).serve = s.answer 0 r :=
  State.serve_idle hh hq

/-- An answered read. -/
theorem State.windowAnswer_spec {live : Nat} (h1 : 0x400 ≤ off) (h2 : off < 0x800)
    (hh : s.bank.held = []) (hq : s.bsl.reqs = []) (hp : agentPair s.winType off = none) :
    ((s.windowAnswer (rdAccess x (0x54000 + off)) live).serve.respOf x
        = some (okResp x (s.agentWord s.winAgent off (live % 2 ^ 32))))
      ∧ (s.windowAnswer (rdAccess x (0x54000 + off)) live).serve.bank.busy = none
      ∧ (s.windowAnswer (rdAccess x (0x54000 + off)) live).serve.get Reg.UNITWIN.AGENT_STATE.PENDING = 0
      ∧ s.keeps (s.windowAnswer (rdAccess x (0x54000 + off)) live).serve [Reg.UNITWIN.AGENT_STATE.PENDING] := by
  obtain ⟨hbase, -⟩ := windowOff h1 h2
  rw [State.windowAnswer_single (norm_base (a := rdAccess x (0x54000 + off)) hbase) hp, State.answerOk_bus _ rfl]
  generalize s.agentWord s.winAgent off (live % 2 ^ 32) = v
  obtain ⟨hregs, honly⟩ := s.windowDone.agentRead_spec s.winAgent off v false
  generalize s.windowDone.agentRead s.winAgent off v false = t at hregs honly
  rw [State.answer_serve (honly.held.trans hh) ((congrArg Bsl.reqs honly.bsl).trans hq)]
  refine ⟨State.answer_resp _ _, honly.busy, ?_, fun g _ hg => ?_⟩
  · exact (hregs _).trans ((State.get_put_same _ _ _).trans (Nat.zero_mod _))
  · simp only [List.map_cons, List.map_nil, List.mem_cons, List.not_mem_nil, or_false] at hg
    exact (hregs g).trans (State.get_put_ne _ _ hg)

/-- A read that the agent has not answered in time (R103). -/
theorem State.windowError_spec (hh : s.bank.held = []) (hq : s.bsl.reqs = []) :
    (s.windowError (rdAccess x o) true).serve.respOf x = some (errResp x) ∧ (s.windowError (rdAccess x o) true).serve.bank.busy = none
      ∧ (s.windowError (rdAccess x o) true).serve.get Reg.UNITWIN.AGENT_STATE.TIMEOUT = 1
      ∧ (s.windowError (rdAccess x o) true).serve.get Reg.UNITWIN.AGENT_STATE.PENDING = 0
      ∧ s.keeps (s.windowError (rdAccess x o) true).serve [Reg.UNITWIN.AGENT_STATE.TIMEOUT, Reg.UNITWIN.AGENT_STATE.PENDING]
      ∧ (s.windowError (rdAccess x o) true).serve.agents = s.agents := by
  have herr : s.windowError (rdAccess x o) true = (s.windowDone.put Reg.UNITWIN.AGENT_STATE.TIMEOUT 1).answer 0 (errResp x) := rfl
  rw [herr, State.answer_serve (s := s.windowDone.put Reg.UNITWIN.AGENT_STATE.TIMEOUT 1) hh hq]
  refine ⟨State.answer_resp _ _, rfl, ?_, ?_, fun g _ hg => ?_, rfl⟩
  · exact State.get_put_same s.windowDone Reg.UNITWIN.AGENT_STATE.TIMEOUT 1
  · rw [State.answer_get, State.get_put_ne _ _ (by decide), State.windowDone, State.get_put_same, Nat.zero_mod]
  · simp only [List.map_cons, List.map_nil, List.mem_cons, List.not_mem_nil, or_false, not_or] at hg
    rw [State.answer_get, State.get_put_ne _ _ hg.1, State.windowDone, State.get_put_ne _ _ hg.2]
    rfl

/-- Settles O11: AGENT_SEL selects, an access waits, and it ends with the agent's answer or in a bus error. -/
theorem windowAccessGoesToTheAgent : Obligations.WindowAccessGoesToTheAgent := by
  unfold Obligations.WindowAccessGoesToTheAgent
  refine ⟨fun x d s hm => ⟨_, rfl, State.agentSel_spec hm⟩, fun x off d s h1 h2 hp op hop hm => ?_,
    fun x off live s h1 h2 hb hh hq => ?_⟩
  · obtain ⟨k, hn, hvia, hsrc⟩ := winOpAccess_norm (x := x) h1 h2 hop
    have hpres := State.present_window hm hn (windowOff h1 h2).2
    refine ⟨fun hu => ?_, fun hu => ?_⟩
    · rw [State.windowAccess_sent hu (by rw [Nat.add_sub_cancel_left]; exact hp)] at hpres
      refine ⟨_, congrArg Host.Outcome.next hpres, rfl, State.get_put_same _ _ _, fun g _ hg => ?_, s.turn_agents _⟩
      simp only [List.map_cons, List.map_nil, List.mem_cons, List.not_mem_nil, or_false] at hg
      exact s.windowSent_get _ hg
    · rw [State.windowAccess_refused hu, State.answerErr_bus _ hvia, hsrc] at hpres
      exact ⟨_, congrArg Host.Outcome.next hpres, State.answer_resp _ _, (State.wakeNote_agents _ _).trans (s.turn_agents _)⟩
  · obtain ⟨hbase, hwin⟩ := windowOff h1 h2
    have hwait := State.windowWaits_eq hb (norm_base (a := rdAccess x (0x54000 + off)) hbase) hwin
    have hans : exec (.windowAnswer live) s = execWindowAnswer live s := rfl
    have hto : exec .windowTimeout s = execWindowTimeout s := rfl
    refine ⟨fun ha hu hfc hp => ?_, fun hfc => ?_, fun hfc => ?_⟩
    · refine ⟨_, ?_, State.windowAnswer_spec (live := live.toNat) h1 h2 hh hq (Option.eq_none_iff_forall_ne_some.2 hp)⟩
      rw [hans, execWindowAnswer, hwait]
      dsimp only
      rw [hu, ha, if_neg (by decide), if_neg (by decide), if_neg (by omega)]
    · refine ⟨_, ?_, State.windowError_spec (x := x) (o := 0x54000 + off) hh hq⟩
      rw [hto, execWindowTimeout, hwait]
      dsimp only
      rw [if_pos hfc]
    · rw [hto, execWindowTimeout, hwait]
      dsimp only
      rw [if_neg (by omega)]

end Window
end Sys2Proof.Machine

namespace Sys2Proof.Machine

/-! ### The bulk windows of DATAWIN (R105 to R109) -/

section DataWin

variable (s : State) (i : Nat)

theorem State.dw_setDw (d : DataWin) : (s.setDw i d).dw i = d := by
  unfold State.dw State.setDw
  by_cases h : i = 0 <;> simp only [h, if_true, if_false]

theorem State.get_setDw (d : DataWin) (g : Fld) : (s.setDw i d).get g = s.get g := rfl

theorem State.dw_put (f : Fld) (v : Nat) : (s.put f v).dw i = s.dw i := rfl

/-- A bulk window is what the bank holds of it. -/
theorem State.dw_congr {s t : State} (i : Nat) (h0 : t.bank.dw0 = s.bank.dw0) (h1 : t.bank.dw1 = s.bank.dw1) : t.dw i = s.dw i := by
  rw [State.dw, h0, h1, State.dw]

theorem State.dw_turn (a : Access) : (s.turn a).dw i = s.dw i :=
  State.dw_congr i (by rw [State.turn_bank]) (by rw [State.turn_bank])

theorem State.dw_wrote (x : Src) (o : Nat) (d : Word) : (s.wrote x o d).dw i = s.dw i :=
  State.dw_congr i (by rw [State.wrote_bank]) (by rw [State.wrote_bank])

theorem State.turn_winOffset (a : Access) : (s.turn a).winOffset i = s.winOffset i := by
  rw [State.winOffset, State.get64, State.turn_get, State.turn_get, State.winOffset, State.get64]

/-- Whether an access is out of range depends on the registers only. -/
theorem State.turn_winOut (a : Access) : (s.turn a).winOut i = s.winOut i := by
  have hsize : ∀ n, (s.turn a).winSize n = s.winSize n := fun n => by
    unfold State.winSize
    rw [State.turn_get]
  rw [State.winOut, State.turn_get, State.turn_get, hsize, State.turn_winOffset, State.winOut]

/-! #### The operations of a bulk window -/

/-- The flush leaves every register but WIN_STATUS alone. -/
theorem State.winFlush_get {g : Fld} (h : g.key / 32 ≠ (0x58054 + i * 0x40) / 4) : (s.winFlush i).get g = s.get g := by
  unfold State.winFlush
  dsimp only
  rw [State.get_put_ne, State.get_put_ne, State.get_put_ne, State.get_put_ne, State.get_put_ne]
  · rfl
  all_goals
    simp only [Fld.key, Reg.DATAWIN.WIN_STATUS.UE, Reg.DATAWIN.WIN_STATUS.BAD_WRITE, Reg.DATAWIN.WIN_STATUS.BAD_SRC,
      Reg.DATAWIN.WIN_STATUS.TIMEOUT, Reg.DATAWIN.WIN_STATUS.RANGE] at h ⊢
    omega

/-- The flush drops the prefetched words and the sticky bits. -/
theorem State.winFlush_spec : ((s.winFlush i).dw i).ready = [] ∧ (s.winFlush i).get (Reg.DATAWIN.WIN_STATUS.RANGE i) = 0
    ∧ (s.winFlush i).get (Reg.DATAWIN.WIN_STATUS.TIMEOUT i) = 0 ∧ (s.winFlush i).hwFault = s.hwFault := by
  refine ⟨?_, ?_, ?_, rfl⟩
  · exact congrArg DataWin.ready (s.dw_setDw i { writes := (s.dw i).writes })
  · exact State.get_put_same _ _ _
  · unfold State.winFlush
    rw [State.get_put_ne, State.get_put_same]
    · exact Nat.zero_mod _
    · simp only [Fld.key, Reg.DATAWIN.WIN_STATUS.TIMEOUT, Reg.DATAWIN.WIN_STATUS.RANGE, ne_eq]
      omega

/-- One word past: the offset advances by 4, the count goes down, and the first word ready is taken. -/
theorem State.winAdvance_spec : (s.winAdvance i).winOffset i = (s.winOffset i + 4) % 2 ^ 64
    ∧ (s.winAdvance i).get (Reg.DATAWIN.WIN_COUNT i)
      = (s.get (Reg.DATAWIN.WIN_COUNT i) - 1) % 2 ^ (Reg.DATAWIN.WIN_COUNT i).width
    ∧ (s.winAdvance i).dw i = { s.dw i with ready := (s.dw i).ready.drop 1 } ∧ (s.winAdvance i).hwFault = s.hwFault
    ∧ (s.winAdvance i).cut = s.cut := by
  have hlo : (Reg.DATAWIN.WIN_OFFSET_LO i).key ≠ (Reg.DATAWIN.WIN_COUNT i).key := by
    simp only [Fld.key, Reg.DATAWIN.WIN_OFFSET_LO, Reg.DATAWIN.WIN_COUNT, ne_eq]; omega
  have hhi : (Reg.DATAWIN.WIN_OFFSET_HI i).key ≠ (Reg.DATAWIN.WIN_COUNT i).key := by
    simp only [Fld.key, Reg.DATAWIN.WIN_OFFSET_HI, Reg.DATAWIN.WIN_COUNT, ne_eq]; omega
  have hpair : (Reg.DATAWIN.WIN_OFFSET_LO i).key ≠ (Reg.DATAWIN.WIN_OFFSET_HI i).key := by
    simp only [Fld.key, Reg.DATAWIN.WIN_OFFSET_LO, Reg.DATAWIN.WIN_OFFSET_HI, ne_eq]; omega
  refine ⟨?_, ?_, State.dw_setDw _ _ _, rfl, rfl⟩
  · refine Eq.trans ?_ (State.get64_put64 s (s.winOffset i + 4) rfl rfl hpair)
    unfold State.winAdvance State.winOffset State.get64
    dsimp only
    rw [State.get_setDw, State.get_setDw, State.get_put_ne _ _ hhi, State.get_put_ne _ _ hlo]
  · unfold State.winAdvance
    dsimp only
    rw [State.get_setDw, State.get_put_same, State.get_put64_ne _ _ hlo.symm hhi.symm]

/-! A write of WIN_DATA, in its three cases (R109). -/

/-- The word goes into the staging SRAM. -/
def State.winStaged (v : Nat) : State := { s with cut := { s.cut with staged := Sparse.ins s.cut.staged (s.winOffset i / 4) v } }

/-- The word waits for its block write. -/
def State.winQueued (v : Nat) : State :=
  s.setDw i { s.dw i with writes := (s.dw i).writes ++ [(s.winOffset i, BitVec.ofNat 32 v)] }

variable {s} {i}

theorem State.winWrite_refused (h : s.get (Reg.DATAWIN.WIN_SRC.WRITE_EN i) = 0) (v : Nat) :
    s.winWrite i v = s.put (Reg.DATAWIN.WIN_STATUS.BAD_WRITE i) 1 := if_pos (.inl h)

theorem State.winWrite_staged (h : s.get (Reg.DATAWIN.WIN_SRC.WRITE_EN i) = 1) (h3 : s.get (Reg.DATAWIN.WIN_SRC.SRC i) = 3)
    (ho : s.winOut i = false) (v : Nat) : s.winWrite i v = (s.winStaged i v).winAdvance i := by
  unfold State.winWrite
  dsimp only
  rw [if_neg (by rw [h, h3]; decide), ho, if_neg (by decide), if_neg (by rw [h3]; decide)]
  rfl

theorem State.winWrite_queued (h : s.get (Reg.DATAWIN.WIN_SRC.WRITE_EN i) = 1) (h0 : s.get (Reg.DATAWIN.WIN_SRC.SRC i) = 0)
    (ho : s.winOut i = false) (v : Nat) : s.winWrite i v = (s.winQueued i v).winAdvance i := by
  unfold State.winWrite
  dsimp only
  rw [if_neg (by rw [h, h0]; decide), ho, if_neg (by decide), if_pos h0]
  rfl

end DataWin

/-! #### Writes -/

section DataWinWrites

variable {s : State} {x : Src} {i o : Nat} {d : Word}

/-- The end of a write on the DATAWIN page touches the page's PARITY_ERR only. -/
theorem State.get_wrote_datawin {e : State} (hm : s.mayWrite x o d = true) (ho : o / 0x4000 = Slot.DATAWIN)
    (he : e.hwFault = (s.writeTurn x o d).hwFault) {g : Fld} (hg : g.key ≠ (Hdr.STATUS_PARITY_ERR Slot.DATAWIN).key) :
    (e.wrote x o d).get g = e.get g :=
  State.get_wrote_effect hm rfl rfl he (by rw [ho]; exact hg)

theorem State.busWrite_winSrc (hi : i = 0 ∨ i = 1) (hm : s.mayWrite x (0x58040 + 0x40 * i) d = true) : s.busWrite x (0x58040 + 0x40 * i) d
    = ((s.writeTurn x (0x58040 + 0x40 * i) d).winSrc i (busWr x (0x58040 + 0x40 * i) d)).wrote x (0x58040 + 0x40 * i) d := by
  rcases hi with rfl | rfl <;>
    exact (s.busWrite_eq hm (by decide) (by decide) (by decide) (by decide) (by decide)).trans
      (by simp [State.writeSpecial, State.writeRest, Slot.TEAM, busWr])

theorem State.busWrite_winCount (hi : i = 0 ∨ i = 1) (hm : s.mayWrite x (0x58050 + 0x40 * i) d = true) :
    s.busWrite x (0x58050 + 0x40 * i) d
      = ((s.writeTurn x (0x58050 + 0x40 * i) d).winCount i d.toNat).wrote x (0x58050 + 0x40 * i) d := by
  rcases hi with rfl | rfl <;>
    exact (s.busWrite_eq hm (by decide) (by decide) (by decide) (by decide) (by decide)).trans
      (by simp [State.writeSpecial, State.writeRest, Slot.TEAM])

theorem State.busWrite_winData (hi : i = 0 ∨ i = 1) (hm : s.mayWrite x (0x5804C + 0x40 * i) d = true) :
    s.busWrite x (0x5804C + 0x40 * i) d
      = ((s.writeTurn x (0x5804C + 0x40 * i) d).winWrite i d.toNat).wrote x (0x5804C + 0x40 * i) d := by
  rcases hi with rfl | rfl <;>
    exact (s.busWrite_eq hm (by decide) (by decide) (by decide) (by decide) (by decide)).trans
      (by simp [State.writeSpecial, State.writeRest, Slot.TEAM])

/-- A field of a bulk window's registers is not the page's PARITY_ERR. -/
theorem key_ne_datawin (g : Fld) (h : 0x58040 ≤ g.off) : g.key ≠ (Hdr.STATUS_PARITY_ERR Slot.DATAWIN).key := by
  simp only [Fld.key, Hdr.STATUS_PARITY_ERR, Slot.DATAWIN, ne_eq]
  omega

theorem State.winSrcWrite_spec (hi : i = 0 ∨ i = 1) (hm : s.mayWrite x (0x58040 + 0x40 * i) d = true) :
    ∃ t, s.busWrite x (0x58040 + 0x40 * i) d = t
      ∧ (d.toNat % 8 < 5 → t.get (Reg.DATAWIN.WIN_SRC.SRC i) = d.toNat % 8 ∧ (t.dw i).ready = []
          ∧ t.get (Reg.DATAWIN.WIN_STATUS.RANGE i) = 0 ∧ t.get (Reg.DATAWIN.WIN_STATUS.TIMEOUT i) = 0)
      ∧ (5 ≤ d.toNat % 8 → t.get (Reg.DATAWIN.WIN_STATUS.BAD_SRC i) = 1 ∧ (t.dw i).ready = (s.dw i).ready
          ∧ s.keeps t [Reg.DATAWIN.WIN_STATUS.BAD_SRC i, Hdr.STATUS_PARITY_ERR Slot.DATAWIN]) := by
  have hpage : (0x58040 + 0x40 * i) / 0x4000 = Slot.DATAWIN := by unfold Slot.DATAWIN; omega
  have hold : ∀ g, (s.writeTurn x (0x58040 + 0x40 * i) d).get g = s.get g := fun g => s.get_writeTurn _ _ _ g
  have hdw : (s.writeTurn x (0x58040 + 0x40 * i) d).dw i = s.dw i := s.dw_turn i _
  refine ⟨_, State.busWrite_winSrc hi hm, fun h => ?_, fun h => ?_⟩
  · have heq : (s.writeTurn x (0x58040 + 0x40 * i) d).winSrc i (busWr x (0x58040 + 0x40 * i) d)
        = (((s.writeTurn x (0x58040 + 0x40 * i) d).put (Reg.DATAWIN.WIN_SRC.SRC i) (d.toNat % 8)).put
          (Reg.DATAWIN.WIN_SRC.WRITE_EN i) (bits d.toNat 8 8)).winFlush i := if_neg (Nat.not_le.2 h)
    rw [heq]
    generalize hv : ((s.writeTurn x (0x58040 + 0x40 * i) d).put (Reg.DATAWIN.WIN_SRC.SRC i) (d.toNat % 8)).put
      (Reg.DATAWIN.WIN_SRC.WRITE_EN i) (bits d.toNat 8 8) = v
    obtain ⟨hready, hrange, hto, hf⟩ := v.winFlush_spec i
    have hfault : (v.winFlush i).hwFault = (s.writeTurn x (0x58040 + 0x40 * i) d).hwFault := by
      rw [hf, ← hv, State.put_hwFault, State.put_hwFault]
    have hget := fun {g} hg => State.get_wrote_datawin (g := g) hm hpage hfault hg
    refine ⟨?_, ?_, ?_, ?_⟩
    · rw [hget (key_ne_datawin (Reg.DATAWIN.WIN_SRC.SRC i) (by simp only [Reg.DATAWIN.WIN_SRC.SRC]; omega)),
        State.winFlush_get, ← hv, State.get_put_ne,
        State.get_put_same]
      · exact Nat.mod_mod _ _
      · simp only [Fld.key, Reg.DATAWIN.WIN_SRC.SRC, Reg.DATAWIN.WIN_SRC.WRITE_EN, ne_eq]; omega
      · simp only [Fld.key, Reg.DATAWIN.WIN_SRC.SRC, ne_eq]; omega
    · rw [State.dw_wrote]
      exact hready
    · rw [hget (key_ne_datawin (Reg.DATAWIN.WIN_STATUS.RANGE i) (by simp only [Reg.DATAWIN.WIN_STATUS.RANGE]; omega))]
      exact hrange
    · rw [hget (key_ne_datawin (Reg.DATAWIN.WIN_STATUS.TIMEOUT i) (by simp only [Reg.DATAWIN.WIN_STATUS.TIMEOUT]; omega))]
      exact hto
  · have heq : (s.writeTurn x (0x58040 + 0x40 * i) d).winSrc i (busWr x (0x58040 + 0x40 * i) d)
        = (s.writeTurn x (0x58040 + 0x40 * i) d).put (Reg.DATAWIN.WIN_STATUS.BAD_SRC i) 1 := if_pos h
    rw [heq]
    have hget := fun {g} hg => State.get_wrote_datawin (e := (s.writeTurn x (0x58040 + 0x40 * i) d).put (Reg.DATAWIN.WIN_STATUS.BAD_SRC i) 1)
      (g := g) hm hpage rfl hg
    refine ⟨?_, ?_, fun g _ hg => ?_⟩
    · rw [hget (key_ne_datawin (Reg.DATAWIN.WIN_STATUS.BAD_SRC i) (by simp only [Reg.DATAWIN.WIN_STATUS.BAD_SRC]; omega)), State.get_put_same]
      rfl
    · rw [State.dw_wrote, State.dw_put, hdw]
    · simp only [List.map_cons, List.map_nil, List.mem_cons, List.not_mem_nil, or_false, not_or] at hg
      rw [hget hg.2, State.get_put_ne _ _ hg.1, hold]

theorem State.winCountWrite_spec (hi : i = 0 ∨ i = 1) (hm : s.mayWrite x (0x58050 + 0x40 * i) d = true) :
    ∃ t, s.busWrite x (0x58050 + 0x40 * i) d = t
      ∧ t.get (Reg.DATAWIN.WIN_COUNT i) = d.toNat % 2 ^ (Reg.DATAWIN.WIN_COUNT i).width
      ∧ (t.dw i).ready = (s.dw i).ready.take d.toNat := by
  have hpage : (0x58050 + 0x40 * i) / 0x4000 = Slot.DATAWIN := by unfold Slot.DATAWIN; omega
  refine ⟨_, State.busWrite_winCount hi hm, ?_, ?_⟩
  · rw [State.get_wrote_datawin (e := (s.writeTurn x (0x58050 + 0x40 * i) d).winCount i d.toNat) hm hpage rfl
      (key_ne_datawin (Reg.DATAWIN.WIN_COUNT i) (by simp only [Reg.DATAWIN.WIN_COUNT]; omega)), State.winCount, State.get_setDw,
      State.get_put_same]
  · rw [State.dw_wrote, State.winCount, State.dw_setDw, State.writeTurn, State.dw_turn]

/-- The end of a write of WIN_DATA leaves the offset alone. -/
theorem State.winOffset_wrote {e : State} (hi : i = 0 ∨ i = 1) (hm : s.mayWrite x (0x5804C + 0x40 * i) d = true)
    (he : e.hwFault = (s.writeTurn x (0x5804C + 0x40 * i) d).hwFault) :
    (e.wrote x (0x5804C + 0x40 * i) d).winOffset i = e.winOffset i := by
  have hpage : (0x5804C + 0x40 * i) / 0x4000 = Slot.DATAWIN := by unfold Slot.DATAWIN; omega
  have hget := fun g hg => State.get_wrote_datawin (g := g) hm hpage he (key_ne_datawin g hg)
  rw [State.winOffset, State.get64, hget (Reg.DATAWIN.WIN_OFFSET_LO i) (by simp only [Reg.DATAWIN.WIN_OFFSET_LO]; omega),
    hget (Reg.DATAWIN.WIN_OFFSET_HI i) (by simp only [Reg.DATAWIN.WIN_OFFSET_HI]; omega), State.winOffset, State.get64]

/-- The three answers to a write of WIN_DATA (R109). -/
theorem State.winDataWrite_spec (hi : i = 0 ∨ i = 1) (hm : s.mayWrite x (0x5804C + 0x40 * i) d = true) :
    ∃ t, s.busWrite x (0x5804C + 0x40 * i) d = t
      ∧ (s.get (Reg.DATAWIN.WIN_SRC.WRITE_EN i) = 0 → t.get (Reg.DATAWIN.WIN_STATUS.BAD_WRITE i) = 1
        ∧ s.keeps t [Reg.DATAWIN.WIN_STATUS.BAD_WRITE i, Hdr.STATUS_PARITY_ERR Slot.DATAWIN])
      ∧ (s.get (Reg.DATAWIN.WIN_SRC.WRITE_EN i) = 1 → s.winOut i = false →
        (s.get (Reg.DATAWIN.WIN_SRC.SRC i) = 3 → t.cut.staged = Sparse.ins s.cut.staged (s.winOffset i / 4) d.toNat
          ∧ t.winOffset i = (s.winOffset i + 4) % 2 ^ 64)
        ∧ (s.get (Reg.DATAWIN.WIN_SRC.SRC i) = 0 → (t.dw i).writes = (s.dw i).writes ++ [(s.winOffset i, d)]
          ∧ t.winOffset i = (s.winOffset i + 4) % 2 ^ 64)) := by
  have hpage : (0x5804C + 0x40 * i) / 0x4000 = Slot.DATAWIN := by unfold Slot.DATAWIN; omega
  have hget := fun {e g} he hg => State.get_wrote_datawin (e := e) (g := g) hm hpage he hg
  have hwin := fun {e} he => State.winOffset_wrote (e := e) hi hm he
  have hold : ∀ g, (s.writeTurn x (0x5804C + 0x40 * i) d).get g = s.get g := fun g => s.get_writeTurn _ _ _ g
  have hout : (s.writeTurn x (0x5804C + 0x40 * i) d).winOut i = s.winOut i := s.turn_winOut i _
  have hoff : (s.writeTurn x (0x5804C + 0x40 * i) d).winOffset i = s.winOffset i := s.turn_winOffset i _
  have hdw : (s.writeTurn x (0x5804C + 0x40 * i) d).dw i = s.dw i := s.dw_turn i _
  have hcut : (s.writeTurn x (0x5804C + 0x40 * i) d).cut = s.cut := s.writeTurn_cut _ _ _
  refine ⟨_, State.busWrite_winData hi hm, ?_⟩
  generalize s.writeTurn x (0x5804C + 0x40 * i) d = u at hget hwin hold hout hoff hdw hcut
  refine ⟨fun h => ?_, fun h ho => ⟨fun h3 => ?_, fun h0 => ?_⟩⟩
  · rw [State.winWrite_refused ((hold _).trans h)]
    have hf : (u.put (Reg.DATAWIN.WIN_STATUS.BAD_WRITE i) 1).hwFault = u.hwFault := rfl
    refine ⟨?_, fun g _ hg => ?_⟩
    · rw [hget hf (key_ne_datawin (Reg.DATAWIN.WIN_STATUS.BAD_WRITE i) (by simp only [Reg.DATAWIN.WIN_STATUS.BAD_WRITE]; omega)),
        State.get_put_same]
      rfl
    · simp only [List.map_cons, List.map_nil, List.mem_cons, List.not_mem_nil, or_false, not_or] at hg
      rw [hget hf hg.2, State.get_put_ne _ _ hg.1, hold]
  · obtain ⟨hadv, -, -, hf, hc⟩ := (u.winStaged i d.toNat).winAdvance_spec i
    rw [State.winWrite_staged ((hold _).trans h) ((hold _).trans h3) (hout.trans ho)]
    refine ⟨?_, ?_⟩
    · rw [State.wrote_cut, hc, State.winStaged]
      dsimp only
      rw [hcut, hoff]
    · rw [hwin hf, hadv, ← hoff]
      rfl
  · obtain ⟨hadv, -, hready, hf, -⟩ := (u.winQueued i d.toNat).winAdvance_spec i
    rw [State.winWrite_queued ((hold _).trans h) ((hold _).trans h0) (hout.trans ho)]
    refine ⟨?_, ?_⟩
    · rw [State.dw_wrote, hready, State.winQueued, State.dw_setDw]
      dsimp only
      rw [hdw, hoff, BitVec.ofNat_toNat, BitVec.setWidth_eq]
    · rw [hwin hf, hadv, ← hoff]
      rfl

end DataWinWrites
end Sys2Proof.Machine

namespace Sys2Proof.Machine

/-! #### Reads -/

section DataWinReads

variable {s : State} {x : Src} {a : Access} {i n o : Nat}

/-- An ordinary read of WIN_DATA that passes its checks. -/
theorem State.busRead_winData (hi : i = 0 ∨ i = 1) (hm : s.mayRead x (0x5804C + 0x40 * i) = true) :
    s.busRead x (0x5804C + 0x40 * i)
      = (s.readTurn x (0x5804C + 0x40 * i)).winAccess (rdAccess x (0x5804C + 0x40 * i)) i false := by
  have hbase : offBase (0x5804C + 0x40 * i) = 0x5804C + 0x40 * i := by unfold offBase; omega
  have hnorm : (rdAccess x (0x5804C + 0x40 * i)).norm = (0x5804C + 0x40 * i, .read) := norm_base hbase
  have hwin : isWindow (0x5804C + 0x40 * i) = false := by
    simp only [isWindow, Bool.and_eq_false_iff, decide_eq_false_iff_not]; omega
  have hdata : 0x5804C + 0x40 * i = 0x5804C ∨ 0x5804C + 0x40 * i = 0x5808C := by omega
  have hinst : (0x5804C + 0x40 * i - 0x5804C) / 0x40 = i := by omega
  simp only [State.mayRead, State.admits, Bool.and_eq_true, State.passes, hnorm] at hm
  obtain ⟨⟨hfree, hpow⟩, ⟨ho, hl⟩, -⟩ := hm
  refine (s.present_idle (rdAccess x (0x5804C + 0x40 * i)) hfree hpow).trans ?_
  unfold State.perform
  rw [hnorm]
  dsimp only
  rw [if_neg (by simp [ho]), if_neg (by simp), if_neg (by simp [hl]), hwin, if_neg (by decide), if_pos hdata, hinst]
  rfl

/-- A read out of range answers zero and sets RANGE (R108). -/
theorem State.winAccess_range (h : s.winOut i = true) (hv : a.via = 0) : s.winAccess a i false
    = (s.put (Reg.DATAWIN.WIN_STATUS.RANGE i) 1).clearBusy.answer 0 { src := a.src, err := false, data := 0, range := true } := by
  unfold State.winAccess State.winRead
  rw [if_pos h, hv]
  rfl

/-- Without a word ready the read waits. -/
theorem State.winAccess_waits (h : s.winOut i = false) (hr : (s.dw i).ready = []) : s.winAccess a i false = s.setBusy a := by
  unfold State.winAccess State.winRead
  rw [if_neg (by rw [h]; decide), hr]

/-- With a word ready the read answers it and advances (R107). -/
theorem State.winAccess_word {w : Word} {rest : List (Word × Bool)} (h : s.winOut i = false) (hr : (s.dw i).ready = (w, false) :: rest)
    (hv : a.via = 0) : s.winAccess a i false = (s.winAdvance i).clearBusy.answer 0 (okResp a.src w.toNat) := by
  unfold State.winAccess State.winRead
  rw [if_neg (by rw [h]; decide), hr, hv]
  rfl

/-- The three answers to a read of WIN_DATA. -/
theorem State.winDataRead_spec (hi : i = 0 ∨ i = 1) (hm : s.mayRead x (0x5804C + 0x40 * i) = true) :
    ∃ t, s.busRead x (0x5804C + 0x40 * i) = t
      ∧ (∀ w rest, s.winOut i = false → (s.dw i).ready = (w, false) :: rest → t.respOf x = some (okResp x w.toNat)
        ∧ (t.dw i).ready = rest ∧ t.winOffset i = (s.winOffset i + 4) % 2 ^ 64
        ∧ t.get (Reg.DATAWIN.WIN_COUNT i) = (s.get (Reg.DATAWIN.WIN_COUNT i) - 1) % 2 ^ (Reg.DATAWIN.WIN_COUNT i).width)
      ∧ (s.winOut i = false → (s.dw i).ready = [] → t.bank.busy = some (rdAccess x (0x5804C + 0x40 * i)) ∧ ∀ g, t.get g = s.get g)
      ∧ (s.get (Reg.DATAWIN.WIN_COUNT i) = 0 → t.get (Reg.DATAWIN.WIN_STATUS.RANGE i) = 1
        ∧ s.keeps t [Reg.DATAWIN.WIN_STATUS.RANGE i]) := by
  have hout : (s.readTurn x (0x5804C + 0x40 * i)).winOut i = s.winOut i := s.turn_winOut i _
  have hoff : (s.readTurn x (0x5804C + 0x40 * i)).winOffset i = s.winOffset i := s.turn_winOffset i _
  have hdw : (s.readTurn x (0x5804C + 0x40 * i)).dw i = s.dw i := s.dw_turn i _
  have hget : ∀ g, (s.readTurn x (0x5804C + 0x40 * i)).get g = s.get g := s.turn_get _
  refine ⟨_, State.busRead_winData hi hm, ?_⟩
  generalize s.readTurn x (0x5804C + 0x40 * i) = u at hout hoff hdw hget
  refine ⟨fun w rest ho hr => ?_, fun ho hr => ?_, fun hc => ?_⟩
  · obtain ⟨hadv, hcount, hready, -, -⟩ := u.winAdvance_spec i
    rw [State.winAccess_word (hout.trans ho) ((congrArg DataWin.ready hdw).trans hr) rfl]
    refine ⟨State.answer_resp _ _, ?_, ?_, ?_⟩
    · have hkeep : (((u.winAdvance i).clearBusy.answer 0 (okResp x w.toNat)).dw i) = (u.winAdvance i).dw i := State.dw_congr i rfl rfl
      refine (congrArg DataWin.ready (hkeep.trans hready)).trans ?_
      rw [hdw]
      dsimp only
      rw [hr, List.drop_one, List.tail_cons]
    · rw [← hoff]
      exact hadv
    · rw [← hget]
      exact hcount
  · rw [State.winAccess_waits (hout.trans ho) ((congrArg DataWin.ready hdw).trans hr)]
    exact ⟨rfl, hget⟩
  · have ho : u.winOut i = true := by rw [State.winOut, hget, hc]; rfl
    rw [State.winAccess_range ho rfl]
    refine ⟨?_, fun g _ hg => ?_⟩
    · exact (u.get_put_same (Reg.DATAWIN.WIN_STATUS.RANGE i) 1).trans (by simp [Fld.width, Reg.DATAWIN.WIN_STATUS.RANGE])
    · simp only [List.map_cons, List.map_nil, List.mem_cons, List.not_mem_nil, or_false] at hg
      exact (u.get_put_ne (f := Reg.DATAWIN.WIN_STATUS.RANGE i) 1 hg).trans (hget g)

/-- A read whose word has not come in time (R107). -/
theorem State.winTimeout_spec (hv : a.via = 0) (hh : s.bank.held = []) (hq : s.bsl.reqs = []) :
    (s.winTimeout a i).serve.respOf a.src = some (errResp a.src) ∧ (s.winTimeout a i).serve.get (Reg.DATAWIN.WIN_STATUS.TIMEOUT i) = 1
      ∧ s.keeps (s.winTimeout a i).serve [Reg.DATAWIN.WIN_STATUS.TIMEOUT i] ∧ (s.winTimeout a i).serve.agents = s.agents := by
  rw [State.winTimeout, State.answerErr_bus _ hv,
    State.answer_serve (s := s.clearBusy.put (Reg.DATAWIN.WIN_STATUS.TIMEOUT i) 1) hh hq]
  refine ⟨State.answer_resp _ _, ?_, fun g _ hg => ?_, rfl⟩
  · rw [State.answer_get, State.get_put_same]
    simp [Fld.width, Reg.DATAWIN.WIN_STATUS.TIMEOUT]
  · simp only [List.map_cons, List.map_nil, List.mem_cons, List.not_mem_nil, or_false] at hg
    rw [State.answer_get, State.get_put_ne _ _ hg]
    rfl

/-! #### Words that arrive (R106, R231) -/

/-- Words of a source that the hub itself holds are there at once. -/
theorem State.winWords_sram {src : Nat} (h : src ≠ 0) (ue : Bool) (n off : Nat) : s.winWords i src ue n off
    = (List.range n).map (fun j => (BitVec.ofNat 32 (s.sramWord src (off + 4 * j)), ue)) := by
  induction n generalizing off with
  | zero => rfl
  | succ n ih =>
    have hword : s.winWord i src off ue = some (BitVec.ofNat 32 (s.sramWord src off), ue) := if_neg h
    rw [State.winWords, hword, List.range_succ_eq_map]
    dsimp only
    rw [ih, List.map_cons, List.map_map]
    congr 1
    refine List.map_congr_left fun j _ => ?_
    rw [Function.comp_apply, Nat.succ_eq_add_one, show off + 4 * (j + 1) = off + 4 + 4 * j by omega]

/-- A word of memory is there once its block has come. -/
theorem State.winWords_memory {e : Nat × List Byte × Bool} {off : Nat} (h : (s.dw i).blocks.find? (fun e => e.1 == off / 64) = some e)
    (ue : Bool) : s.winWords i 0 ue 1 off = [(BitVec.ofNat 32 (wordAt e.2.1 (off % 64 / 4)), e.2.2 || ue)] := by
  have hword : s.winWord i 0 off ue = some (BitVec.ofNat 32 (wordAt e.2.1 (off % 64 / 4)), e.2.2 || ue) := by
    rw [State.winWord, if_pos rfl, h]
  rw [State.winWords, hword]
  rfl

/-- How many of `n` words a bulk window has room for (R106). -/
def State.winRoom (s : State) (i n : Nat) : Nat :=
  min n (min (64 - (s.dw i).ready.length) (min (s.get (Reg.DATAWIN.WIN_COUNT i))
    ((s.winSize (s.get (Reg.DATAWIN.WIN_SRC.SRC i)) - s.winOffset i + 3) / 4) - (s.dw i).ready.length))

/-- In W0, with no access outstanding, words arrive in the window and nowhere else. -/
theorem State.prefetch_idle (hp : s.power = 0) (hb : s.bank.busy = none) (ue : Bool) : ∃ b, s.prefetch i n ue
    = s.setDw i { s.dw i with
        ready := (s.dw i).ready ++ s.winWords i (s.get (Reg.DATAWIN.WIN_SRC.SRC i)) ue (s.winRoom i n)
          (s.winOffset i + 4 * (s.dw i).ready.length)
        blocks := b } := by
  have hbusy : ∀ d, (s.setDw i d).bank.busy = none := fun d => by
    unfold State.setDw
    split <;> exact hb
  refine ⟨(s.dw i).blocks.filter (fun e => decide ((s.winOffset i + 4 * ((s.dw i).ready.length
    + (s.winWords i (s.get (Reg.DATAWIN.WIN_SRC.SRC i)) ue (s.winRoom i n) (s.winOffset i + 4 * (s.dw i).ready.length)).length)) / 64
    ≤ e.1)), ?_⟩
  unfold State.prefetch
  dsimp only
  rw [if_pos hp, hbusy]
  rfl

/-- Settles O12: the registers of a bulk window, the words that arrive, and the reads and writes of WIN_DATA. -/
theorem bulkWindowStreamsWords : Obligations.BulkWindowStreamsWords := by
  unfold Obligations.BulkWindowStreamsWords
  intro x inst d s i
  have hi : i = 0 ∨ i = 1 := by have := inst.isLt; omega
  refine ⟨fun hm => ?_, fun hm => ?_, fun n ue hp hb hh hq => ?_, fun hm => ?_, fun hm => ?_, fun hb hh hq hfc => ?_⟩
  · obtain ⟨t, ht, hok, hbad⟩ := State.winSrcWrite_spec hi hm
    exact ⟨t, congrArg Host.Outcome.next ht, hok, hbad⟩
  · obtain ⟨t, ht, hcount⟩ := State.winCountWrite_spec hi hm
    exact ⟨t, congrArg Host.Outcome.next ht, hcount⟩
  · obtain ⟨b, hpre⟩ := s.prefetch_idle (i := i) (n := n.toNat) hp hb ue
    have hserve : (s.prefetch i n.toNat ue).serve = s.prefetch i n.toNat ue := by
      refine State.serve_idle ?_ ?_ <;> rw [hpre, State.setDw]
      · split <;> exact hh
      · exact hq
    refine ⟨_, congrArg Host.Outcome.next (hserve.trans hpre), fun hsrc => ?_, fun e h0 hn hroom hleft hblk => ?_, fun g => rfl, rfl⟩
    · rw [State.dw_setDw, State.winWords_sram hsrc]
      rfl
    · have hone : s.winRoom i n.toNat = 1 := by
        have hn' : n.toNat = 1 := by rw [hn]; rfl
        unfold State.winRoom
        rw [hn']
        omega
      rw [State.dw_setDw, hone]
      dsimp only at h0 ⊢
      rw [h0, State.winWords_memory hblk]
  · obtain ⟨t, ht, hword, hwait, hrange⟩ := State.winDataRead_spec hi hm
    exact ⟨fun w rest ho hr => ⟨t, congrArg Host.Outcome.next ht, hword w rest ho hr⟩,
      fun ho hr => ⟨t, congrArg Host.Outcome.next ht, hwait ho hr⟩, fun hc => ⟨t, congrArg Host.Outcome.next ht, hrange hc⟩⟩
  · obtain ⟨t, ht, hbad, hok⟩ := State.winDataWrite_spec hi hm
    exact ⟨fun h => ⟨t, congrArg Host.Outcome.next ht, hbad h⟩, fun h h3 ho => ⟨t, congrArg Host.Outcome.next ht, (hok h ho).1 h3⟩,
      fun h h0 ho => ⟨t, congrArg Host.Outcome.next ht, (hok h ho).2 h0⟩⟩
  · have hbase : offBase (0x5804C + 0x40 * i) = 0x5804C + 0x40 * i := by unfold offBase; omega
    have hex : exec (.winDataTimeout inst) s = execWinDataTimeout inst s := rfl
    refine ⟨_, ?_, State.winTimeout_spec (a := rdAccess x (0x5804C + 0x40 * i)) (i := i) rfl hh hq⟩
    rw [hex, execWinDataTimeout, hb]
    dsimp only
    rw [if_pos ⟨congrArg Prod.fst (norm_base (a := rdAccess x (0x5804C + 0x40 * i)) hbase), hfc⟩]

end DataWinReads
end Sys2Proof.Machine

namespace Sys2Proof.Machine

/-! ### The memory master issues a block (R233, R260, R261) -/

section IssueBlock

variable (s : State) (l : List MmRequest) (r : MmRequest)

/-! #### A carried page becomes dirty (R233) -/

/-- The gateway notes the page, and counts one that is new. -/
def Agent.dirtied (fc page : Nat) (g : Agent) : Agent :=
  let g := if g.dirtyPages.contains page || g.frozen then g else g.count fc 0x62 1
  { g with dirtyPages := insertSorted page g.dirtyPages }

theorem Agent.dirtied_frozen (fc page : Nat) (g : Agent) : (g.dirtied fc page).frozen = g.frozen := by
  unfold Agent.dirtied
  dsimp only
  split
  · rfl
  · exact g.count_frozen fc 0x62 1

theorem Agent.dirtied_fault (fc page : Nat) (g : Agent) : (g.dirtied fc page).get AReg.A_FAULT = g.get AReg.A_FAULT := by
  have h : ∀ (x : Agent) l, ({ x with dirtyPages := l } : Agent).get AReg.A_FAULT = x.get AReg.A_FAULT := fun _ _ => rfl
  unfold Agent.dirtied
  dsimp only
  rw [h]
  split
  · rfl
  · exact g.count_fault fc 0x62 1

theorem Agent.mem_dirtied (fc page : Nat) (g : Agent) : page ∈ (g.dirtied fc page).dirtyPages := mem_insertSorted.2 (.inl rfl)

theorem State.dirtyPage_carried (gw : Nat) {page : Nat} (h : s.carried page = true) :
    s.dirtyPage gw page = s.modAgent (0x2400 + gw) (Agent.dirtied s.fc page) := if_pos h

theorem State.dirtyPage_not (gw : Nat) {page : Nat} (h : s.carried page = false) : s.dirtyPage gw page = s :=
  if_neg (by rw [h]; decide)

/-- Marking a page touches the gateway only. -/
theorem State.dirtyPage_eq (gw page : Nat) : (s.dirtyPage gw page).mm = s.mm ∧ (s.dirtyPage gw page).bank = s.bank
    ∧ s.onlyAgent (s.dirtyPage gw page) (0x2400 + gw) := by
  by_cases h : s.carried page = true
  · rw [s.dirtyPage_carried gw h]
    obtain ⟨_, _, _, _, _, _, heq⟩ := s.modAgent_eq (0x2400 + gw) (Agent.dirtied s.fc page)
    refine ⟨by rw [heq], by rw [heq], State.modAgent_onlyAgent _ _ ?_ fun hf => ?_⟩
    · rw [Agent.dirtied_frozen, State.agentNow_frozen]
    · rwa [Agent.dirtied_fault, State.agentNow_fault] at hf
  · rw [s.dirtyPage_not gw (Bool.eq_false_iff.2 h)]
    exact ⟨rfl, rfl, fun _ _ => rfl, fun _ => rfl⟩

theorem State.mem_dirtyPage (gw : Nat) {page : Nat} (h : s.carried page = true) :
    page ∈ ((s.dirtyPage gw page).agent (0x2400 + gw)).dirtyPages := by
  rw [s.dirtyPage_carried gw h, s.modAgent_proj _ _ Agent.dirtyPages fun _ => rfl]
  exact Agent.mem_dirtied _ _ _

/-- Whether a page is carried depends on the registers only. -/
theorem State.carried_congr {s t : State} (h : ∀ g, t.get g = s.get g) (page : Nat) : t.carried page = s.carried page := by
  unfold State.carried
  simp only [h]

/-! #### The request of a bulk window leaves (R106, R109) -/

theorem State.dwIssued_bank : ∃ b, s.dwIssued r = { s with bank := b } := by
  unfold State.dwIssued
  split <;> exact ⟨_, rfl⟩

/-- The window has asked for the block, or its write has left. -/
theorem State.dwIssued_dw {i : Nat} (h : dwOf r.who = some i) : (s.dwIssued r).dw i = if r.write then
      { s.dw i with writes := (s.dw i).writes.drop 1 } else { s.dw i with asked := (s.dw i).asked ++ [r.addr.toNat / 64] } := by
  unfold State.dwIssued
  rw [h]
  exact s.dw_setDw i _

/-! #### The issue as a whole -/

/-- The bytes that the master counts, by the kind of the request. -/
def byteCount (r : MmRequest) : Fld × Fld :=
  if r.write then (Reg.MASTER.BYTES_WRITTEN_LO, Reg.MASTER.BYTES_WRITTEN_HI) else (Reg.MASTER.BYTES_READ_LO, Reg.MASTER.BYTES_READ_HI)

theorem byteCount_width : (byteCount r).1.width = 32 ∧ (byteCount r).2.width = 32 ∧ (byteCount r).1.key ≠ (byteCount r).2.key := by
  unfold byteCount
  split <;> exact ⟨rfl, rfl, by decide⟩

/-- The request has joined those outstanding; its bytes are not yet counted. -/
structure State.joined (s t : State) (r : MmRequest) : Prop where
  out : t.mm.out = s.mm.out ++ [⟨r.port.toNat, r.tag.toNat, r, s.fc⟩]
  used : Sparse.get t.mm.used r.gw.toNat 0 = Sparse.get s.mm.used r.gw.toNat 0 + 1
  total : t.mm.total = s.mm.total + 1
  lastWrite : t.mm.lastWrite = if r.write then some (r.addr.toNat, r.data) else s.mm.lastWrite
  bank : t.bank = (s.dwIssued r).bank
  get : ∀ g, t.get g = s.get g
  others : ∀ b, b ≠ 0x2400 + r.gw.toNat → t.agent b = s.agent b
  clean : r.write = false ∨ s.carried (r.addr.toNat / 4096) = false → t.agents = s.agents
  dirty : r.write = true → s.carried (r.addr.toNat / 4096) = true → r.addr.toNat / 4096 ∈ (t.agent (0x2400 + r.gw.toNat)).dirtyPages

/-- The state before the page is marked. -/
theorem State.joined_dirty {m : Master} (hout : m.out = s.mm.out ++ [⟨r.port.toNat, r.tag.toNat, r, s.fc⟩])
    (hused : m.used = Sparse.ins s.mm.used r.gw.toNat (Sparse.get s.mm.used r.gw.toNat 0 + 1)) (htotal : m.total = s.mm.total + 1)
    (hlast : m.lastWrite = if r.write then some (r.addr.toNat, r.data) else s.mm.lastWrite) : s.joined
      (if r.write then ((({ s with mm := m } : State).dwIssued r).hubEvent 9 1).dirtyPage r.gw.toNat (r.addr.toNat / 4096)
      else (({ s with mm := m } : State).dwIssued r).hubEvent 9 1) r := by
  obtain ⟨b, hb⟩ := ({ s with mm := m } : State).dwIssued_bank r
  have hbank : b = (s.dwIssued r).bank := by
    have h : (({ s with mm := m } : State).dwIssued r).bank = (s.dwIssued r).bank := by
      unfold State.dwIssued
      split <;> rfl
    rw [← h, hb]
  have hused' : Sparse.get m.used r.gw.toNat 0 = Sparse.get s.mm.used r.gw.toNat 0 + 1 := by rw [hused, Sparse.get_ins_same]
  rw [hb]
  generalize hu : (({ s with mm := m, bank := b } : State).hubEvent 9 1) = u
  have hmm : u.mm = m := by rw [← hu]; rfl
  have hub : u.bank = b := by rw [← hu]; rfl
  have hget : ∀ g, u.get g = s.get g := fun g => by rw [← hu]; rfl
  have hag : u.agents = s.agents := by rw [← hu]; rfl
  have hagent : ∀ n, u.agent n = s.agent n := fun n => by rw [State.agent, hag, State.agent]
  cases hwr : r.write
  · rw [if_neg (by decide)]
    exact ⟨by rw [hmm, hout], by rw [hmm, hused'], by rw [hmm, htotal], by rw [hmm, hlast],
      hub.trans hbank, hget, fun n _ => hagent n, fun _ => hag, fun h => absurd (hwr.symm.trans h) (by decide)⟩
  · obtain ⟨hm', hb', hothers, hregs⟩ := u.dirtyPage_eq r.gw.toNat (r.addr.toNat / 4096)
    rw [if_pos rfl]
    refine ⟨by rw [hm', hmm, hout], by rw [hm', hmm, hused'], by rw [hm', hmm, htotal], by rw [hm', hmm, hlast], hb'.trans (hub.trans hbank),
      fun g => (hregs g).trans (hget g), fun n hn => (hothers n hn).trans (hagent n), fun h => ?_, fun _ h => ?_⟩
    · have hno : u.carried (r.addr.toNat / 4096) = false := (State.carried_congr hget _).trans (h.resolve_left (by rw [hwr]; decide))
      rw [u.dirtyPage_not _ hno, hag]
    · exact u.mem_dirtyPage _ ((State.carried_congr hget _).trans h)

/-- What the issue of a block does. -/
theorem State.issueBlock_joined : ∃ t, s.joined t r ∧ s.issueBlock l r
    = t.put64 (byteCount r).1 (byteCount r).2 ((t.get64 (byteCount r).1 (byteCount r).2 + requestBytes r) % 2 ^ 64) := by
  refine ⟨_, ?_, rfl⟩
  exact s.joined_dirty r rfl rfl rfl rfl

end IssueBlock
end Sys2Proof.Machine

namespace Sys2Proof.Machine

/-! ### Which request is issued (R260) -/

section Pick

variable {s : State} {a b r q : MmRequest} {l : List MmRequest} {i : Nat}

theorem State.mmAsked_other (h : dwOf r.who = none) : s.mmAsked [r] = [r] := by
  simp [State.mmAsked, h]

theorem State.mmAsked_two (ha : dwOf a.who = none) (hb : dwOf b.who = none) : s.mmAsked [a, b] = [a, b] := by
  simp [State.mmAsked, ha, hb]

/-- A bulk window asks for what it needs. -/
theorem State.mmAsked_dw (h : dwOf r.who = some i) : s.mmAsked [r] = (s.dwRequest i r).toList := by
  simp only [State.mmAsked, List.foldl_cons, List.foldl_nil, h, List.any_nil]
  cases s.dwRequest i r <;> rfl

/-- The request is still the window's. -/
theorem State.dwRequest_who (h : s.dwRequest i r = some q) : q.who = r.who := by
  unfold State.dwRequest at h
  split at h
  · obtain rfl := Option.some.inj h
    rfl
  · obtain ⟨b, -, rfl⟩ := Option.map_eq_some_iff.1 h
    rfl

theorem State.pickRequest_nil : s.pickRequest [] = none := by
  have hany : (List.range 8).any (fun n => decide (n + 1 ≤ ([].filter (fun r => decide (15 - n ≤ s.passedOver r))).length)) = false := by
    simp
  rw [State.pickRequest, State.mustServe, hany]
  rfl

theorem State.pickRequest_one : s.pickRequest [r] = some r := by
  unfold State.pickRequest State.mustServe
  split
  next x hx =>
    split at hx
    · exact hx.symm
    · exact absurd hx (by simp)
  · rfl

/-- A requester that 15 blocks have passed over comes before one that fewer have. -/
theorem State.mustServe_passedOver (ha : 15 ≤ s.passedOver a) (hb : s.passedOver b < 15) (hl : l = [a, b] ∨ l = [b, a]) :
    s.mustServe l = some a := by
  have hmem : a ∈ l.filter (fun r => decide (15 - 0 ≤ s.passedOver r)) := by
    rcases hl with rfl | rfl <;> simp [ha]
  have hany : (List.range 8).any (fun n => decide (n + 1 ≤ (l.filter (fun r => decide (15 - n ≤ s.passedOver r))).length)) = true :=
    List.any_eq_true.2 ⟨0, by simp, decide_eq_true (List.length_pos_of_mem hmem)⟩
  rw [State.mustServe, if_pos hany]
  rcases hl with rfl | rfl
  · simp only [List.foldl_cons, List.foldl_nil]
    rw [if_neg (by omega)]
  · simp only [List.foldl_cons, List.foldl_nil]
    rw [if_pos (by omega)]

/-- Two requesters of which neither is passed over 14 times need not be served yet. -/
theorem State.mustServe_none (ha : s.passedOver a < 14) (hb : s.passedOver b < 14) (hl : l = [a, b] ∨ l = [b, a]) : s.mustServe l = none := by
  have hlen : l.length = 2 := by rcases hl with rfl | rfl <;> rfl
  have hlow : ∀ r ∈ l, s.passedOver r < 14 := by
    rcases hl with rfl | rfl <;> simp [ha, hb]
  have hany : (List.range 8).any (fun n => decide (n + 1 ≤ (l.filter (fun r => decide (15 - n ≤ s.passedOver r))).length)) = false := by
    refine List.any_eq_false.2 fun n _ => ?_
    rw [decide_eq_true_eq]
    by_cases hn : 2 ≤ n
    · have := List.length_filter_le (fun r => decide (15 - n ≤ s.passedOver r)) l
      omega
    · have hnil : l.filter (fun r => decide (15 - n ≤ s.passedOver r)) = [] :=
        List.filter_eq_nil_iff.2 fun r hr => by
          have := hlow r hr
          rw [decide_eq_true_eq]
          omega
      rw [hnil]
      simp
  rw [State.mustServe, if_neg (by rw [hany]; decide)]

theorem State.pickRequest_rank (hm : s.mustServe l = none) (hr : requesterRank a.who < requesterRank b.who) (hl : l = [a, b] ∨ l = [b, a]) :
    s.pickRequest l = some a := by
  have hab : s.better a b = true := by
    rw [State.better, if_pos (Nat.ne_of_lt hr)]
    exact decide_eq_true hr
  have hba : s.better b a = false := by
    rw [State.better, if_pos (Nat.ne_of_gt hr)]
    exact decide_eq_false (by omega)
  unfold State.pickRequest
  rw [hm]
  rcases hl with rfl | rfl
  · simp only [List.foldl_cons, List.foldl_nil]
    rw [if_pos hab]
  · simp only [List.foldl_cons, List.foldl_nil]
    rw [if_neg (by rw [hba]; decide)]

/-- Of two requests the one that is overdue, or the one of higher priority. -/
theorem State.pickRequest_two (h : (s.passedOver b < 15 ∧ 15 ≤ s.passedOver a)
    ∨ (s.passedOver a < 14 ∧ s.passedOver b < 14 ∧ requesterRank a.who < requesterRank b.who)) (hl : l = [a, b] ∨ l = [b, a]) :
    s.pickRequest l = some a := by
  rcases h with ⟨hb, ha⟩ | ⟨ha, hb, hr⟩
  · rw [State.pickRequest, State.mustServe_passedOver ha hb hl]
  · exact State.pickRequest_rank (State.mustServe_none ha hb hl) hr hl

end Pick

/-! ### MM_REQUEST_ISSUE (R259 to R261) -/

section Issue

variable {s : State} {a b r q : MmRequest} {ready l : List MmRequest} {i : Nat}

/-- No block write meets a guarded page: none begins to wait. -/
theorem State.mmStall_free (h : ∀ r ∈ l, s.mmGuarded r = false) : s.mmStall l = s := by
  unfold State.mmStall
  induction l with
  | nil => rfl
  | cons r l ih =>
    rw [List.foldl_cons]
    have hstep : (match s.cut.job with
      | none => s
      | some j =>
        let w : PageWait := ⟨r.addr.toNat / 4096, none, r.gw.toNat, some r.who⟩
        if s.mmGuarded r && !j.waits.contains w then s.guardStall j w else s) = s := by
      cases s.cut.job with
      | none => rfl
      | some j => simp [h r List.mem_cons_self]
    exact (congrArg (fun t => List.foldl _ t l) hstep).trans (ih fun q hq => h q (List.mem_cons_of_mem _ hq))

/-- Unguarded requests within the allowances: one that its port can take is issued. -/
theorem State.mmRequestIssue_within (hl : s.mmAsked ready = l) (hg : ∀ r ∈ l, s.mmGuarded r = false)
    (hw : ∀ r ∈ l, s.withinAllowance r.gw.toNat = true) :
    exec (.mmRequestIssue ready) s = .next ((s.pickRequest (l.filter s.portFree)).elim s (s.issueBlock l)) := by
  have hex : exec (.mmRequestIssue ready) s = execMmRequestIssue ready s := rfl
  have hfree : l.filter (fun r => !s.mmGuarded r) = l := List.filter_eq_self.2 fun r hr => by rw [hg r hr]; rfl
  have hok : l.filter (fun r => s.withinAllowance r.gw.toNat) = l := List.filter_eq_self.2 hw
  rw [hex, execMmRequestIssue]
  simp only [hl, hfree, State.mmStall_free hg, hok]
  rw [if_neg fun h => absurd h.1 (Nat.lt_irrefl _)]
  cases s.pickRequest (l.filter s.portFree) <;> rfl

/-- A ready request beyond the allowances: the fc counts as throttled, once (R261). -/
theorem State.mmRequestIssue_beyond (hl : s.mmAsked ready = [r]) (hg : s.mmGuarded r = false) (hw : s.withinAllowance r.gw.toNat = false) :
    exec (.mmRequestIssue ready) s = .next (if s.mm.throttledFc ≠ some s.fc then
      (({ s with mm := { s.mm with throttledFc := some s.fc } } : State).bump Reg.MASTER.GOV_THROTTLED.FC).hubEvent 8 1 else s) := by
  have hex : exec (.mmRequestIssue ready) s = execMmRequestIssue ready s := rfl
  have hstall : s.mmStall [r] = s := State.mmStall_free fun q hq => by rw [List.mem_singleton.1 hq, hg]
  have hfree : [r].filter (fun r => !s.mmGuarded r) = [r] := List.filter_eq_self.2 fun q hq => by rw [List.mem_singleton.1 hq, hg]; rfl
  have hok : [r].filter (fun r => s.withinAllowance r.gw.toNat) = [] :=
    List.filter_eq_nil_iff.2 fun q hq => by rw [List.mem_singleton.1 hq, hw]; decide
  rw [hex, execMmRequestIssue]
  simp only [hl, hfree, hstall, hok, List.filter_nil, State.pickRequest_nil]
  by_cases ht : s.mm.throttledFc = some s.fc
  · rw [if_neg fun h => h.2 ht, if_neg (not_not.2 ht)]
  · rw [if_pos ⟨by simp, ht⟩, if_pos ht]

/-- One request that can be issued is. -/
theorem State.mmRequestIssue_one (hl : s.mmAsked ready = [r]) (hg : s.mmGuarded r = false) (hw : s.withinAllowance r.gw.toNat = true)
    (hp : s.portFree r = true) : exec (.mmRequestIssue ready) s = .next (s.issueBlock [r] r) := by
  have hf : [r].filter s.portFree = [r] := List.filter_eq_self.2 fun q hq => by rw [List.mem_singleton.1 hq, hp]
  rw [State.mmRequestIssue_within hl (fun q hq => by rw [List.mem_singleton.1 hq, hg]) fun q hq => by rw [List.mem_singleton.1 hq, hw],
    hf, State.pickRequest_one]
  rfl

/-- The block issued joins those outstanding. -/
theorem State.issueBlock_out (s : State) (l : List MmRequest) (r : MmRequest) :
    (s.issueBlock l r).mm.out = s.mm.out ++ [⟨r.port.toNat, r.tag.toNat, r, s.fc⟩] := by
  obtain ⟨t, ht, heq⟩ := s.issueBlock_joined l r
  rw [heq]
  exact ht.out

/-- What the issue of one request leaves. -/
theorem State.issueBlock_spec (s : State) (l : List MmRequest) (r : MmRequest) :
    let t := s.issueBlock l r
    t.mm.out = s.mm.out ++ [⟨r.port.toNat, r.tag.toNat, r, s.fc⟩]
      ∧ Sparse.get t.mm.used r.gw.toNat 0 = Sparse.get s.mm.used r.gw.toNat 0 + 1 ∧ t.mm.total = s.mm.total + 1
      ∧ t.get64 (byteCount r).1 (byteCount r).2 = (s.get64 (byteCount r).1 (byteCount r).2 + requestBytes r) % 2 ^ 64
      ∧ t.mm.lastWrite = (if r.write then some (r.addr.toNat, r.data) else s.mm.lastWrite)
      ∧ s.keeps t [(byteCount r).1, (byteCount r).2]
      ∧ (r.write = false ∨ s.carried (r.addr.toNat / 4096) = false → t.agents = s.agents)
      ∧ (r.write = true → s.carried (r.addr.toNat / 4096) = true →
        r.addr.toNat / 4096 ∈ (t.agent (0x2400 + r.gw.toNat)).dirtyPages)
      ∧ ∀ b, b ≠ 0x2400 + r.gw.toNat → t.agent b = s.agent b := by
  intro t
  obtain ⟨u, hu, heq⟩ := s.issueBlock_joined l r
  obtain ⟨hlo, hhi, hk⟩ := byteCount_width r
  have heq' : t = _ := heq
  rw [heq']
  refine ⟨hu.out, hu.used, hu.total, ?_, hu.lastWrite, fun g _ hg => ?_, hu.clean, hu.dirty, hu.others⟩
  · rw [State.get64_put64 _ _ hlo hhi hk, Nat.mod_mod, State.get64, hu.get, hu.get, State.get64]
  · simp only [List.map_cons, List.map_nil, List.mem_cons, List.not_mem_nil, or_false, not_or] at hg
    rw [State.get_put64_ne _ _ hg.1 hg.2, hu.get]

/-- What it leaves of a bulk window. -/
theorem State.issueBlock_dw (s : State) (l : List MmRequest) (r : MmRequest) (i : Nat) : (s.issueBlock l r).dw i = (s.dwIssued r).dw i := by
  obtain ⟨u, hu, heq⟩ := s.issueBlock_joined l r
  rw [heq]
  exact State.dw_congr i (congrArg Bank.dw0 hu.bank) (congrArg Bank.dw1 hu.bank)

end Issue
end Sys2Proof.Machine

namespace Sys2Proof.Machine

/-! ### Blocks that come, and blocks that do not (R306, R557) -/

section Blocks

variable (s : State)

/-- A change of the bank and of the free values taken only. -/
theorem State.dwArrived_eq (r : MmRequest) (data : List Byte) (ue : Bool) : ∃ b, s.dwArrived r data ue = { s with bank := b } := by
  unfold State.dwArrived
  split
  · exact ⟨_, rfl⟩
  · dsimp only
    split <;> exact ⟨_, rfl⟩

theorem State.freeBlock_eq (n : Nat) : ∃ k, (State.freeBlock n s).2 = { s with freeCount := k } := by
  induction n generalizing s with
  | zero => exact ⟨_, rfl⟩
  | succ n ih =>
    obtain ⟨k, hk⟩ := ih s.free.2
    exact ⟨k, hk⟩

/-- A field off the HOPPER page is none of the page's. -/
theorem key_ne_hopper {f g : Fld} (hg : g.key / 0x20000 ≠ Slot.HOPPER) (hf : f.key / 0x20000 = Slot.HOPPER) : g.key ≠ f.key :=
  fun h => hg (by rw [h, hf])

/-- The job on the HOPPER page fails: RESULT says so, and only the page's registers change. -/
theorem State.hopFail_spec (code idx : Nat) {j : HopJob} (h : s.hopper.job = some j) : (s.hopFail code idx).hopper.job = none
    ∧ (s.hopFail code idx).get Reg.HOPPER.RESULT.CODE = code % 16 ∧ (s.hopFail code idx).get Reg.HOPPER.EVENT.FAILED = 1
    ∧ (s.hopFail code idx).mm = s.mm ∧ ∀ g : Fld, g.key / 0x20000 ≠ Slot.HOPPER → (s.hopFail code idx).get g = s.get g := by
  unfold State.hopFail
  rw [h]
  dsimp only
  have hget : ∀ g, ({ s.pageEngines with hopper := { s.pageEngines.hopper with job := none, dst := j.dst, out := [] } } : State).get g
      = s.get g := fun _ => rfl
  have hmm : ({ s.pageEngines with hopper := { s.pageEngines.hopper with job := none, dst := j.dst, out := [] } } : State).mm = s.mm := rfl
  have hjob : ({ s.pageEngines with hopper := { s.pageEngines.hopper with job := none, dst := j.dst, out := [] } } : State).hopper.job = none := rfl
  generalize ({ s.pageEngines with hopper := { s.pageEngines.hopper with job := none, dst := j.dst, out := [] } } : State) = u at hget hmm hjob
  refine ⟨by simp only [State.raise_hopper, State.bumpWrap_hopper, State.put_hopper, hjob], ?_,
    State.get_raise_same _ (f := Reg.HOPPER.EVENT.FAILED) rfl, by simp only [State.raise_mm, State.bumpWrap_mm, State.put_mm, hmm],
    fun g hg => ?_⟩
  · rw [State.get_raise_ne _ (by decide), State.get_bumpWrap_ne _ _ (by decide), State.get_put_ne _ _ (by decide),
      State.get_put_ne _ _ (by decide), State.get_put_ne _ _ (by decide), State.get_put_ne _ _ (by decide),
      State.get_put_ne _ _ (by decide), State.get_put_same]
    rfl
  · rw [State.get_raise_ne, State.get_bumpWrap_ne, State.get_put_ne, State.get_put_ne, State.get_put_ne, State.get_put_ne,
      State.get_put_ne, State.get_put_ne, hget]
    all_goals exact key_ne_hopper hg (by decide)

/-- The job ends with a UE. -/
theorem State.hopUe_spec (idx : Nat) {j : HopJob} (h : s.hopper.job = some j) : (s.hopUe idx).hopper.job = none
    ∧ (s.hopUe idx).get Reg.HOPPER.RESULT.CODE = hcUe ∧ (s.hopUe idx).get Reg.HOPPER.EVENT.FAILED = 1 ∧ (s.hopUe idx).mm = s.mm
    ∧ ∀ g : Fld, g.key / 0x20000 ≠ Slot.HOPPER → (s.hopUe idx).get g = s.get g := by
  have hue : s.hopUe idx = (s.free.2.fault Slot.HOPPER 1 (s.free.1.toNat % 65536)).hopFail hcUe idx := rfl
  obtain ⟨hjob, hcode, hfailed, hmm, hget⟩ := State.hopFail_spec (s.free.2.fault Slot.HOPPER 1 (s.free.1.toNat % 65536)) hcUe idx
    (j := j) (by rw [State.fault_hopper]; exact h)
  rw [hue]
  refine ⟨hjob, hcode, hfailed, hmm.trans (State.fault_mm _ _ _ _), fun g hg => (hget g hg).trans ?_⟩
  refine State.get_fault_ne s.free.2 _ _ _ ?_ ?_ ?_
  all_goals exact key_ne_hopper hg (by decide)

/-- A UE in a block ends a Hopper job. -/
theorem State.blockUe_hopper (addr : Nat) (h : s.hopper.job.isSome = true) : (s.blockUe .hopper addr).hopper.job = none
    ∧ (s.blockUe .hopper addr).get Reg.HOPPER.RESULT.CODE = hcUe ∧ (s.blockUe .hopper addr).get Reg.HOPPER.EVENT.FAILED = 1 := by
  obtain ⟨j, hj⟩ := Option.isSome_iff_exists.1 h
  have hue : s.blockUe .hopper addr = s.hopUe (if j.decompress then j.hdrs.length else (addr - j.src) / 65536) := by
    rw [State.blockUe, hj]
  obtain ⟨hjob, hcode, hfailed, -⟩ := s.hopUe_spec (if j.decompress then j.hdrs.length else (addr - j.src) / 65536) hj
  rw [hue]
  exact ⟨hjob, hcode, hfailed⟩

/-- A UE in a block of a cut marks the cut. -/
theorem State.blockUe_cut (addr : Nat) {j : CutJob} (h : s.cut.job = some j) :
    (s.blockUe .cut addr).cut.job = some { j with ue := true } := by
  rw [State.blockUe, h]

/-- A UE leaves the memory master and the other pages alone. -/
theorem State.blockUe_mm (who : Requester) (addr : Nat) : (s.blockUe who addr).mm = s.mm
    ∧ ∀ g : Fld, g.key / 0x20000 ≠ Slot.HOPPER → (s.blockUe who addr).get g = s.get g := by
  cases who with
  | hopper =>
    cases hj : s.hopper.job with
    | none => simp [State.blockUe, hj]
    | some j =>
      have hue : s.blockUe .hopper addr = s.hopUe (if j.decompress then j.hdrs.length else (addr - j.src) / 65536) := by
        rw [State.blockUe, hj]
      obtain ⟨-, -, -, hmm, hget⟩ := s.hopUe_spec (if j.decompress then j.hdrs.length else (addr - j.src) / 65536) hj
      rw [hue]
      exact ⟨hmm, hget⟩
  | cut =>
    cases hj : s.cut.job with
    | none => simp [State.blockUe, hj]
    | some j =>
      rw [State.blockUe, hj]
      exact ⟨rfl, fun _ _ => rfl⟩
  | _ => exact ⟨rfl, fun _ _ => rfl⟩

end Blocks

section Responses

variable {s : State} {m : MmOut} {port : BitVec 1} {tag : BitVec 6}

/-- The request outstanding at a port under a tag. -/
def State.outAt (s : State) (port : BitVec 1) (tag : BitVec 6) : Option MmOut :=
  s.mm.out.find? (fun o => o.port == port.toNat && o.tag == tag.toNat)

/-- A response without a request changes nothing. -/
theorem State.mmResponse_none (h : s.outAt port tag = none) (err : Bool) (data : List Byte) :
    exec (.mmResponse port tag err data) s = .next s := by
  have hex : exec (.mmResponse port tag err data) s = execMmResponse port tag err data s := rfl
  rw [State.outAt] at h
  rw [hex, execMmResponse, h]

theorem State.mmTimeout_none (h : s.outAt port tag = none) : exec (.mmTimeout port tag) s = .next s := by
  have hex : exec (.mmTimeout port tag) s = execMmTimeout port tag s := rfl
  rw [State.outAt] at h
  rw [hex, execMmTimeout, h]

/-- The state in which the answered request is no longer outstanding. -/
def State.mmAnswered (s : State) (m : MmOut) (data : List Byte) (err : Bool) : State :=
  ({ s with mm := { s.mm with out := s.mm.out.erase m, lastRead := if m.req.write then s.mm.lastRead else data } } : State).dwArrived m.req
    data err

theorem State.mmAnswered_eq (s : State) (m : MmOut) (data : List Byte) (err : Bool) : ∃ b, s.mmAnswered m data err = { s with
    mm := { s.mm with out := s.mm.out.erase m, lastRead := if m.req.write then s.mm.lastRead else data }, bank := b } :=
  State.dwArrived_eq _ _ _ _

theorem State.mmResponse_some (h : s.outAt port tag = some m) (err : Bool) (data : List Byte) :
    exec (.mmResponse port tag err data) s = .next (if err then (s.mmAnswered m data err).blockUe m.req.who m.req.addr.toNat
      else s.mmAnswered m data err) := by
  have hex : exec (.mmResponse port tag err data) s = execMmResponse port tag err data s := rfl
  rw [State.outAt] at h
  rw [hex, execMmResponse, h]
  rfl

/-- A timed-out request is no longer outstanding; what a bulk window reads of its block is free. -/
def State.mmExpired (s : State) (m : MmOut) : State :=
  let t : State := { s with mm := { s.mm with out := s.mm.out.erase m } }
  let u := if (dwOf m.req.who).isSome ∧ ¬ m.req.write then State.freeBlock 16 t else ([], t)
  u.2.dwArrived m.req u.1 true

theorem State.mmExpired_eq (s : State) (m : MmOut) : ∃ b k, s.mmExpired m = { s with
    mm := { s.mm with out := s.mm.out.erase m }, bank := b, freeCount := k } := by
  unfold State.mmExpired
  dsimp only
  split
  · obtain ⟨k, hk⟩ := State.freeBlock_eq ({ s with mm := { s.mm with out := s.mm.out.erase m } } : State) 16
    rw [hk]
    obtain ⟨b, hb⟩ := State.dwArrived_eq ({ s with mm := { s.mm with out := s.mm.out.erase m }, freeCount := k } : State) m.req
      (State.freeBlock 16 ({ s with mm := { s.mm with out := s.mm.out.erase m } } : State)).1 true
    exact ⟨b, k, hb⟩
  · obtain ⟨b, hb⟩ := State.dwArrived_eq ({ s with mm := { s.mm with out := s.mm.out.erase m } } : State) m.req [] true
    exact ⟨b, _, hb⟩

theorem State.mmTimeout_some (h : s.outAt port tag = some m) : exec (.mmTimeout port tag) s = .next (if m.fc + 65536 ≤ s.fc then
    ((s.mmExpired m).fault Slot.MASTER 8 0).blockUe m.req.who m.req.addr.toNat else s) := by
  have hex : exec (.mmTimeout port tag) s = execMmTimeout port tag s := rfl
  rw [State.outAt] at h
  rw [hex, execMmTimeout, h]
  rfl

/-- A response without an error ends the request and touches no register and no agent. -/
theorem State.mmAnswered_ok (s : State) (m : MmOut) (data : List Byte) :
    (s.mmAnswered m data false).mm.out = s.mm.out.erase m
      ∧ (s.mmAnswered m data false).mm.lastRead = (if m.req.write then s.mm.lastRead else data)
      ∧ (∀ g : Fld, (s.mmAnswered m data false).get g = s.get g) ∧ (s.mmAnswered m data false).agents = s.agents := by
  obtain ⟨b, hb⟩ := s.mmAnswered_eq m data false
  rw [hb]
  exact ⟨rfl, rfl, fun _ => rfl, rfl⟩

/-- A response with an error is a UE in the block. -/
theorem State.mmAnswered_ue (s : State) (m : MmOut) (data : List Byte) :
    let t := (s.mmAnswered m data true).blockUe m.req.who m.req.addr.toNat
    t.mm.out = s.mm.out.erase m
      ∧ (m.req.who = .hopper → s.hopper.job.isSome = true → t.hopper.job = none ∧ t.get Reg.HOPPER.RESULT.CODE = hcUe
        ∧ t.get Reg.HOPPER.EVENT.FAILED = 1)
      ∧ (m.req.who = .cut → ∀ j, s.cut.job = some j → ∃ k, t.cut.job = some k ∧ k.ue = true) := by
  obtain ⟨b, hb⟩ := s.mmAnswered_eq m data true
  rw [hb]
  refine ⟨?_, fun hw hj => ?_, fun hw j hj => ?_⟩
  · rw [(State.blockUe_mm _ _ _).1]
  · rw [hw]
    exact State.blockUe_hopper _ _ hj
  · rw [hw]
    exact ⟨_, State.blockUe_cut _ _ hj, rfl⟩

/-- A timeout ends the request with MASTER.FAULT bit 8, and is a UE in the block. -/
theorem State.mmExpired_ue (s : State) (m : MmOut) :
    let t := ((s.mmExpired m).fault Slot.MASTER 8 0).blockUe m.req.who m.req.addr.toNat
    t.mm.out = s.mm.out.erase m ∧ t.get ⟨0x28018, 8, 8, 0⟩ = 1
      ∧ (m.req.who = .hopper → s.hopper.job.isSome = true → t.hopper.job = none ∧ t.get Reg.HOPPER.RESULT.CODE = hcUe) := by
  obtain ⟨b, k, hb⟩ := s.mmExpired_eq m
  rw [hb]
  generalize hu : ({ s with mm := { s.mm with out := s.mm.out.erase m }, bank := b, freeCount := k } : State) = u
  obtain ⟨hmm, hget⟩ := (u.fault Slot.MASTER 8 0).blockUe_mm m.req.who m.req.addr.toNat
  refine ⟨?_, ?_, fun hw hj => ?_⟩
  · rw [hmm, State.fault_mm, ← hu]
  · rw [hget _ (by decide)]
    exact u.get_fault_bit (p := Slot.MASTER) (b := 8) (d := 0) (by decide) (by decide)
  · rw [hw]
    obtain ⟨hjob, hcode, -⟩ := (u.fault Slot.MASTER 8 0).blockUe_hopper m.req.addr.toNat (by rw [State.fault_hopper, ← hu]; exact hj)
    exact ⟨hjob, hcode⟩

/-- Settles O33: the Governor's window, what is issued of the ready requests, and how a request ends. -/
theorem memoryMasterIssuesWithinAllowance : Obligations.MemoryMasterIssuesWithinAllowance := by
  unfold Obligations.MemoryMasterIssuesWithinAllowance
  intro s
  refine ⟨fun h => ?_, fun h => ?_, fun r => ⟨fun hd hg => ⟨fun hw hp => ?_, fun hw ht => ?_, fun hw ht => ?_, fun hw hp => ?_⟩,
    fun i hd hr => ?_⟩, fun r q i hd hr hg hw hp => ?_, fun a b ha hb hga hgb hwa hpa hwb hpb hne hrank l hl => ?_,
    fun port tag => ⟨fun h => ⟨State.mmResponse_none h, State.mmTimeout_none h⟩, fun m h => ⟨fun data => ?_, fun data => ?_,
      fun hfc => ?_, fun hfc => ?_⟩⟩⟩
  · exact ⟨_, congrArg Host.Outcome.next (if_pos h), rfl, rfl, rfl, rfl, rfl, rfl, fun _ => rfl, rfl⟩
  · exact congrArg Host.Outcome.next (if_neg h)
  · exact ⟨_, State.mmRequestIssue_one (State.mmAsked_other hd) hg hw hp, s.issueBlock_spec [r] r⟩
  · refine ⟨_, State.mmRequestIssue_beyond (State.mmAsked_other hd) hg hw, ?_⟩
    rw [if_pos ht]
    refine ⟨rfl, rfl, State.get_bumpBy_same _ _ _, fun g _ hg => ?_, rfl⟩
    simp only [List.map_cons, List.map_nil, List.mem_cons, List.not_mem_nil, or_false] at hg
    rw [State.get_hubEvent, State.get_bump_ne _ hg]
    rfl
  · rw [State.mmRequestIssue_beyond (State.mmAsked_other hd) hg hw, if_neg (not_not.2 ht)]
  · have hnone : [r].filter s.portFree = [] := List.filter_eq_nil_iff.2 fun q hq => by rw [List.mem_singleton.1 hq, hp]; decide
    rw [State.mmRequestIssue_within (State.mmAsked_other hd) (fun q hq => by rw [List.mem_singleton.1 hq, hg])
      fun q hq => by rw [List.mem_singleton.1 hq, hw], hnone, State.pickRequest_nil]
    rfl
  · rw [State.mmRequestIssue_within (l := []) (by rw [State.mmAsked_dw hd, hr]; rfl) (by simp) (by simp), List.filter_nil,
      State.pickRequest_nil]
    rfl
  · have hwho : dwOf q.who = some i := by rw [State.dwRequest_who hr, hd]
    refine ⟨_, State.mmRequestIssue_one (by rw [State.mmAsked_dw hd, hr]; rfl) hg hw hp, s.issueBlock_out [q] q, fun hq => ?_, fun hq => ?_⟩
    · rw [State.issueBlock_dw, s.dwIssued_dw q hwho, hq]
      rfl
    · rw [State.issueBlock_dw, s.dwIssued_dw q hwho, hq]
      rfl
  · have hall : ∀ r ∈ l, s.mmGuarded r = false ∧ s.withinAllowance r.gw.toNat = true ∧ s.portFree r = true := by
      rcases hl with rfl | rfl <;> simp [hga, hgb, hwa, hwb, hpa, hpb]
    have hasked : s.mmAsked l = l := by
      rcases hl with rfl | rfl
      · exact State.mmAsked_two ha hb
      · exact State.mmAsked_two hb ha
    refine ⟨s.issueBlock l a, ?_, s.issueBlock_out l a⟩
    rw [State.mmRequestIssue_within hasked (fun r hr => (hall r hr).1) (fun r hr => (hall r hr).2.1),
      List.filter_eq_self.2 fun r hr => (hall r hr).2.2, State.pickRequest_two hrank hl]
    rfl
  · exact ⟨_, State.mmResponse_some h false data, s.mmAnswered_ok m data⟩
  · exact ⟨_, State.mmResponse_some h true data, s.mmAnswered_ue m data⟩
  · exact ⟨_, (State.mmTimeout_some h).trans (congrArg Host.Outcome.next (if_pos hfc)), s.mmExpired_ue m⟩
  · exact (State.mmTimeout_some h).trans (congrArg Host.Outcome.next (if_neg (by omega)))

end Responses
end Sys2Proof.Machine

namespace Sys2Proof.Machine

/-! ### Work in flight and EVENT.IDLE_ENTRY (R89, R92) -/

section Draining

variable {s t : State} {p : Nat}

/-- A field that says whether a page has work: the Whistle's state, and the counts of the slots. -/
def busyFld (g : Fld) : Prop := g = Reg.WHISTLE.STATE.STATE ∨ ∃ n, g = Reg.BREAK.SLOT_COUNT.CURRENT n

/-- Work in flight is no matter of the bank, nor of any other field. -/
theorem State.pageBusy_congr (hb : s.bankOnly t) (hg : ∀ g, busyFld g → t.get g = s.get g) (p : Nat) : t.pageBusy p = s.pageBusy p := by
  obtain ⟨v, w, f, b, rfl⟩ := hb
  have hstate := hg _ (.inl rfl)
  have hslot : ∀ n, ({ s with regs := v, hw := w, hwFault := f, bank := b } : State).slotBusy n = s.slotBusy n := fun n =>
    congrArg (fun k => (s.liveLatches n (s.latches n)).a.isSome || (s.liveLatches n (s.latches n)).b.isSome || k != 0)
      (hg _ (.inr ⟨n, rfl⟩))
  unfold State.pageBusy
  split
  case h_3 => rw [hstate]
  case h_5 => exact congrArg slots.any (funext hslot)
  all_goals rfl

/-- PARITY_ERR says nothing of a page's work. -/
theorem busyFld.ne_parityErr {g : Fld} (h : busyFld g) (p : Nat) : g.key ≠ (Hdr.STATUS_PARITY_ERR p).key := by
  rcases h with rfl | ⟨n, rfl⟩
  · simp only [Fld.key, Reg.WHISTLE.STATE.STATE, Hdr.STATUS_PARITY_ERR, ne_eq]; omega
  · simp only [Fld.key, Reg.BREAK.SLOT_COUNT.CURRENT, Hdr.STATUS_PARITY_ERR, ne_eq]; omega

theorem State.mem_setDraining (s : State) (p : Nat) : p ∈ (s.setDraining p true).bank.draining := mem_insertSorted.2 (.inl rfl)

theorem State.not_mem_setDraining (s : State) (p : Nat) : p ∉ (s.setDraining p false).bank.draining := by
  simp [State.setDraining]

/-- A page that owes the event and has no work left has it set. -/
theorem State.idleEntry_due (h : p ∈ s.bank.draining) (hb : s.pageBusy p = false) :
    s.idleEntry p = (s.setDraining p false).raise (Hdr.EVENT_IDLE_ENTRY p) :=
  if_pos ⟨by simpa using h, by rw [hb]; decide⟩

theorem State.idleEntry_busy (hb : s.pageBusy p = true) : s.idleEntry p = s := if_neg fun h => h.2 hb

/-- The event's field is all that IDLE_ENTRY changes. -/
theorem State.idleEntry_get_ne (s : State) (p : Nat) {g : Fld} (hg : g.key ≠ (Hdr.EVENT_IDLE_ENTRY p).key) :
    (s.idleEntry p).get g = s.get g := by
  unfold State.idleEntry
  split
  · exact State.get_raise_ne _ hg
  · rfl

theorem State.idleEntry_spec (s : State) (p : Nat) : s.keeps (s.idleEntry p) [Hdr.EVENT_IDLE_ENTRY p] ∧ (s.idleEntry p).agents = s.agents
    ∧ (p ∈ s.bank.draining → s.pageBusy p = false →
      (s.idleEntry p).get (Hdr.EVENT_IDLE_ENTRY p) = 1 ∧ p ∉ (s.idleEntry p).bank.draining) := by
  refine ⟨fun g _ hg => ?_, ?_, fun h hb => ?_⟩
  · simp only [List.map_cons, List.map_nil, List.mem_cons, List.not_mem_nil, or_false] at hg
    exact s.idleEntry_get_ne p hg
  · unfold State.idleEntry
    split <;> rfl
  · rw [State.idleEntry_due h hb]
    refine ⟨State.get_raise_same _ ?_, s.not_mem_setDraining p⟩
    simp [Fld.width, Hdr.EVENT_IDLE_ENTRY]

/-- ABORT_COMPLETE on a page whose discard is complete. -/
theorem State.abortComplete_done (page : PageSlot) (h : s.abortDone page.toNat = true) :
    exec (.abortComplete page) s = .next ((s.endBit (Hdr.CTRL_ABORT page.toNat)).abortIdle page.toNat) :=
  congrArg Host.Outcome.next (if_pos h)

/-- ABORT ends at 0, and the page that owes the event has it set. -/
theorem State.abortComplete_spec (hi : s.issuedNow (Hdr.CTRL_ABORT p) = false) :
    let t := (s.endBit (Hdr.CTRL_ABORT p)).abortIdle p
    t.get (Hdr.CTRL_ABORT p) = 0
      ∧ (p ∈ s.bank.draining → (s.put (Hdr.CTRL_ABORT p) 0).pageBusy p = false → t.get (Hdr.EVENT_IDLE_ENTRY p) = 1)
      ∧ s.keeps t [Hdr.CTRL_ABORT p, Hdr.EVENT_IDLE_ENTRY p] ∧ t.agents = s.agents := by
  have hend : s.endBit (Hdr.CTRL_ABORT p) = s.put (Hdr.CTRL_ABORT p) 0 :=
    if_neg fun h => Bool.false_ne_true (hi.symm.trans (beq_iff_eq.2 h))
  have hzero : (s.put (Hdr.CTRL_ABORT p) 0).get (Hdr.CTRL_ABORT p) = 0 := (State.get_put_same _ _ _).trans (Nat.zero_mod _)
  have hidle : (s.put (Hdr.CTRL_ABORT p) 0).abortIdle p = (s.put (Hdr.CTRL_ABORT p) 0).idleEntry p := if_neg (by rw [hzero]; decide)
  obtain ⟨hkeep, hag, hset⟩ := (s.put (Hdr.CTRL_ABORT p) 0).idleEntry_spec p
  rw [hend, hidle]
  refine ⟨?_, fun hd hb => (hset hd hb).1, fun g _ hg => ?_, hag⟩
  · rw [State.idleEntry_get_ne _ _ (by simp only [Fld.key, Hdr.CTRL_ABORT, Hdr.EVENT_IDLE_ENTRY, ne_eq]; omega), hzero]
  · simp only [List.map_cons, List.map_nil, List.mem_cons, List.not_mem_nil, or_false, not_or] at hg
    rw [State.idleEntry_get_ne _ _ hg.2, State.get_put_ne _ _ hg.1]

/-- An ABORT that software has written in this fc stays (R96). -/
theorem State.abortComplete_issued (h : s.abortDone p = true) (hi : s.issuedNow (Hdr.CTRL_ABORT p) = true) :
    (s.endBit (Hdr.CTRL_ABORT p)).abortIdle p = s := by
  have hend : s.endBit (Hdr.CTRL_ABORT p) = s := if_pos (beq_iff_eq.1 hi)
  obtain ⟨habort, -⟩ := Bool.and_eq_true_iff.1 h
  rw [hend, State.abortIdle, if_pos (beq_iff_eq.1 habort)]

end Draining

/-! ### CTRL (R92 to R95) -/

section Ctrl

variable {s : State} {x : Src} {p v : Nat} {d : Word}

/-- ENABLE of a page without a rule of its own: it is stored, and the page comes to owe EVENT.IDLE_ENTRY, or owes it no more. -/
theorem State.enableWrite_spec (hp : p ∉ [Slot.MILLRACE, Slot.HANG, Slot.POWER, Slot.TEAM]) (v : Nat) :
    (∃ k, s.enableWrite p v = { s.put (Hdr.CTRL_ENABLE p) v with bank := k })
    ∧ (s.pageEnable p = 1 → v % 2 = 0 → (s.put (Hdr.CTRL_ENABLE p) v).pageBusy p = true → p ∈ (s.enableWrite p v).bank.draining)
    ∧ (s.pageEnable p = 0 → v % 2 = 1 → s.get (Hdr.CTRL_ABORT p) = 0 → p ∉ (s.enableWrite p v).bank.draining) := by
  simp only [List.mem_cons, List.not_mem_nil, or_false, not_or] at hp
  obtain ⟨h1, h2, h3, -⟩ := hp
  have hval : (s.put (Hdr.CTRL_ENABLE p) v).pageEnable p = v % 2 := by
    refine (State.get_put_same _ _ _).trans ?_
    simp [Fld.width, Hdr.CTRL_ENABLE]
  have habort : (s.put (Hdr.CTRL_ENABLE p) v).get (Hdr.CTRL_ABORT p) = s.get (Hdr.CTRL_ABORT p) :=
    State.get_put_ne _ _ (by simp only [Fld.key, Hdr.CTRL_ABORT, Hdr.CTRL_ENABLE, ne_eq]; omega)
  have heq : s.enableWrite p v = if v % 2 = 1 then
        (if s.pageEnable p = 0 ∧ s.get (Hdr.CTRL_ABORT p) = 0 then (s.put (Hdr.CTRL_ENABLE p) v).setDraining p false
        else s.put (Hdr.CTRL_ENABLE p) v)
      else if s.pageEnable p = 1 ∧ (s.put (Hdr.CTRL_ENABLE p) v).pageBusy p then (s.put (Hdr.CTRL_ENABLE p) v).setDraining p true
      else s.put (Hdr.CTRL_ENABLE p) v := by
    unfold State.enableWrite
    dsimp only
    rw [if_neg h1, if_neg (fun h : p = Slot.HANG ∧ v ≠ s.pageEnable p => h2 h.1), if_neg h3, hval, habort]
  rw [heq]
  refine ⟨?_, fun hw hv hb => ?_, fun hw hv ha => ?_⟩
  · repeat' split
    all_goals exact ⟨_, rfl⟩
  · rw [if_neg (by omega), if_pos ⟨hw, hb⟩]
    exact State.mem_setDraining _ _
  · rw [if_pos hv, if_pos ⟨hw, ha⟩]
    exact State.not_mem_setDraining _ _

/-- A write of CTRL of a page without a rule of its own, without its command bits. -/
theorem State.ctrlWrite_plain {w : Wr} (ho : w.o / 0x4000 = p) (hp : p ∉ [Slot.MILLRACE, Slot.HANG, Slot.POWER, Slot.TEAM])
    (hc : noControl p = false) (h1 : testBit w.v 1 = false) (h8 : testBit w.v 8 = false) :
    s.ctrlWrite w = (s.put (Hdr.CTRL_IRQ_EN p) (bits w.v 2 2)).enableWrite p (bits w.v 0 0) := by
  simp only [List.mem_cons, List.not_mem_nil, or_false, not_or] at hp
  obtain ⟨hm, -, -, ht⟩ := hp
  have hcmd : ∀ t : State, t.ctrlCommands p w.v = t := fun t => by
    unfold State.ctrlCommands
    rw [h8]
    simp [ht]
  unfold State.ctrlWrite
  dsimp only
  rw [ho, if_neg (fun h => hm h.1), if_neg ht, hc, if_neg (by decide), h1, if_neg (by decide), hcmd]

/-- The write of CTRL as the bank performs it, off the TEAM page. -/
theorem State.busWrite_ctrl (ht : p ≠ Slot.TEAM) (hm : s.mayWrite x (0x4000 * p + 8) d = true) : s.busWrite x (0x4000 * p + 8) d
    = ((s.writeTurn x (0x4000 * p + 8) d).ctrlWrite (busWr x (0x4000 * p + 8) d)).wrote x (0x4000 * p + 8) d := by
  obtain ⟨hb, hw, hlo, hhi⟩ := headerOff (p := p) (k := 8) (by decide) (by decide)
  refine (s.busWrite_eq hm (offView_of_base hb) hb hw hlo hhi).trans ?_
  dsimp only
  rw [State.writeSpecial, if_neg (by dsimp only; omega), if_pos (by dsimp only; omega)]
  rfl

/-- What the write of CTRL leaves beside its page's PARITY_ERR. -/
theorem State.get_wrote_ctrl {e : State} (hm : s.mayWrite x (0x4000 * p + 8) d = true)
    (he : e.hwFault = (s.writeTurn x (0x4000 * p + 8) d).hwFault) {g : Fld} (hg : g.key ≠ (Hdr.STATUS_PARITY_ERR p).key) :
    (e.wrote x (0x4000 * p + 8) d).get g = e.get g :=
  State.get_wrote_effect hm rfl rfl he (by rw [show (0x4000 * p + 8) / 0x4000 = p by omega]; exact hg)

/-- CTRL_ENABLE_WRITE of a page without a rule of its own. -/
theorem State.ctrlEnable_spec (hm : s.mayWrite x (0x4000 * p + 8) d = true) (hc : noControl p = false)
    (hp : p ∉ [Slot.MILLRACE, Slot.HANG, Slot.POWER, Slot.TEAM]) (h1 : testBit d.toNat 1 = false) (h8 : testBit d.toNat 8 = false) :
    ∃ t, s.busWrite x (0x4000 * p + 8) d = t ∧ t.pageEnable p = d.toNat % 2 ∧ t.get (Hdr.CTRL_IRQ_EN p) = bits d.toNat 2 2
      ∧ (s.pageEnable p = 1 → d.toNat % 2 = 0 → t.pageBusy p = true → p ∈ t.bank.draining)
      ∧ (s.pageEnable p = 0 → d.toNat % 2 = 1 → s.get (Hdr.CTRL_ABORT p) = 0 → p ∉ t.bank.draining)
      ∧ s.keeps t [Hdr.CTRL_ENABLE p, Hdr.CTRL_IRQ_EN p, Hdr.STATUS_PARITY_ERR p] ∧ t.agents = s.agents := by
  have hteam : p ≠ Slot.TEAM := fun h => hp (by simp [h])
  have hbit : bits d.toNat 0 0 = d.toNat % 2 := by simp [bits]
  have hirq : (Hdr.CTRL_IRQ_EN p).key ≠ (Hdr.CTRL_ENABLE p).key := by
    simp only [Fld.key, Hdr.CTRL_IRQ_EN, Hdr.CTRL_ENABLE, ne_eq]; omega
  have hab : (Hdr.CTRL_ABORT p).key ≠ (Hdr.CTRL_IRQ_EN p).key := by
    simp only [Fld.key, Hdr.CTRL_IRQ_EN, Hdr.CTRL_ABORT, ne_eq]; omega
  have hpar : ∀ g : Fld, g.off = 0x4000 * p + 8 ∧ g.lo < 3 → g.key ≠ (Hdr.STATUS_PARITY_ERR p).key := fun g hg => by
    simp only [Fld.key, Hdr.STATUS_PARITY_ERR, ne_eq]; omega
  have hex := State.busWrite_ctrl hteam hm
  rw [State.ctrlWrite_plain (p := p) (w := busWr x (0x4000 * p + 8) d) (by dsimp only [busWr]; omega) hp hc h1 h8] at hex
  generalize hu : (s.writeTurn x (0x4000 * p + 8) d).put (Hdr.CTRL_IRQ_EN p) (bits (busWr x (0x4000 * p + 8) d).v 2 2) = u at hex
  obtain ⟨⟨k, heq⟩, hdrain, howe⟩ := u.enableWrite_spec hp (bits d.toNat 0 0)
  have hen : u.pageEnable p = s.pageEnable p := by
    rw [State.pageEnable, ← hu, State.get_put_ne _ _ hirq.symm, State.get_writeTurn, State.pageEnable]
  have habort : u.get (Hdr.CTRL_ABORT p) = s.get (Hdr.CTRL_ABORT p) := by
    rw [← hu, State.get_put_ne _ _ hab, State.get_writeTurn]
  have hf : (u.enableWrite p (bits d.toNat 0 0)).hwFault = (s.writeTurn x (0x4000 * p + 8) d).hwFault := by
    rw [heq, ← hu]
    rfl
  have hget : ∀ g : Fld, g.key ≠ (Hdr.STATUS_PARITY_ERR p).key → ((u.enableWrite p (bits d.toNat 0 0)).wrote x (0x4000 * p + 8) d).get g
      = (u.put (Hdr.CTRL_ENABLE p) (bits d.toNat 0 0)).get g := fun g hg => by
    rw [State.get_wrote_ctrl hm hf hg, heq]
    rfl
  have hbusy : ((u.enableWrite p (bits d.toNat 0 0)).wrote x (0x4000 * p + 8) d).pageBusy p
      = (u.put (Hdr.CTRL_ENABLE p) (bits d.toNat 0 0)).pageBusy p :=
    State.pageBusy_congr (by rw [heq]; exact State.bankOnly_trans ⟨_, _, _, _, rfl⟩ (State.bankOnly_wrote _ x _ d))
      (fun g hg => hget g (hg.ne_parityErr p)) p
  have hbank : ((u.enableWrite p (bits d.toNat 0 0)).wrote x (0x4000 * p + 8) d).bank.draining
      = (u.enableWrite p (bits d.toNat 0 0)).bank.draining := by rw [State.wrote_bank]
  refine ⟨_, hex, ?_, ?_, fun hw hd hb => ?_, fun hw hd ha => ?_, fun g _ hg => ?_, ?_⟩
  · rw [State.pageEnable, busWr, hget _ (hpar _ ⟨rfl, by simp [Hdr.CTRL_ENABLE]⟩), State.get_put_same, hbit]
    simp [Fld.width, Hdr.CTRL_ENABLE]
  · rw [busWr, hget _ (hpar _ ⟨rfl, by simp [Hdr.CTRL_IRQ_EN]⟩), State.get_put_ne _ _ hirq, ← hu, State.get_put_same]
    exact bits_mod_width d.toNat (Hdr.CTRL_IRQ_EN p)
  · rw [busWr] at hb ⊢
    rw [hbank]
    exact hdrain (hen.trans hw) (by rw [hbit]; omega) (hbusy.symm.trans hb)
  · rw [busWr, hbank]
    exact howe (hen.trans hw) (by rw [hbit]; omega) (habort.trans ha)
  · simp only [List.map_cons, List.map_nil, List.mem_cons, List.not_mem_nil, or_false, not_or] at hg
    obtain ⟨hg1, hg2, hg3⟩ := hg
    rw [busWr, hget g hg3, State.get_put_ne _ _ hg1, ← hu, State.get_put_ne _ _ hg2, State.get_writeTurn]
  · rw [State.wrote_agents, busWr, heq, ← hu]
    exact s.writeTurn_agents _ _ _

end Ctrl

/-! ### ABORT on HANG (R94, R493) -/

section HangAbort

variable {s : State} {x : Src} {w : Wr} {d : Word}

/-- A write of HANG's CTRL with ENABLE and ABORT at 1 and without COLLECT_NOW, while HANG is enabled: the page aborts. -/
theorem State.ctrlWrite_hang (ho : w.o / 0x4000 = Slot.HANG) (h0 : bits w.v 0 0 = 1) (h1 : testBit w.v 1 = true) (h8 : testBit w.v 8 = false)
    (hen : s.pageEnable Slot.HANG = 1) : s.ctrlWrite w
      = ((s.put (Hdr.CTRL_IRQ_EN Slot.HANG) (bits w.v 2 2)).put (Hdr.CTRL_ENABLE Slot.HANG) 1).abortWrite Slot.HANG := by
  have hm : Slot.HANG ≠ Slot.MILLRACE := by decide
  have hp : Slot.HANG ≠ Slot.POWER := by decide
  have ht : Slot.HANG ≠ Slot.TEAM := by decide
  have hcmd : ∀ t : State, t.ctrlCommands Slot.HANG w.v = t := fun t => by
    unfold State.ctrlCommands
    rw [h8]
    simp [ht]
  have hwas : (s.put (Hdr.CTRL_IRQ_EN Slot.HANG) (bits w.v 2 2)).pageEnable Slot.HANG = 1 :=
    (State.get_put_ne _ _ (by decide)).trans hen
  have hnow : ((s.put (Hdr.CTRL_IRQ_EN Slot.HANG) (bits w.v 2 2)).put (Hdr.CTRL_ENABLE Slot.HANG) 1).pageEnable Slot.HANG = 1 :=
    State.get_put_same _ _ _
  have hstore : (s.put (Hdr.CTRL_IRQ_EN Slot.HANG) (bits w.v 2 2)).enableWrite Slot.HANG 1
      = (s.put (Hdr.CTRL_IRQ_EN Slot.HANG) (bits w.v 2 2)).put (Hdr.CTRL_ENABLE Slot.HANG) 1 := by
    unfold State.enableWrite
    dsimp only
    rw [hwas, if_neg hm, if_neg (fun h : Slot.HANG = Slot.HANG ∧ 1 ≠ 1 => h.2 rfl), if_neg hp, if_pos hnow,
      if_neg (fun h => absurd h.1 (by decide))]
  unfold State.ctrlWrite
  dsimp only
  rw [ho, if_neg (fun h => hm h.1), if_neg ht, if_neg (by decide), h0, hstore, h1, if_pos rfl, hcmd]

/-- A collection in progress is discarded (R493). -/
theorem State.abortWrite_hang (h : s.hang.coll.isSome = true) : s.abortWrite Slot.HANG
    = ((((({ s with hang := { s.hang with coll := none } } : State).put Reg.HANG.EDGE_COUNT.COLLECTING 0).bump
        Reg.HANG.STATUS.DISCARDS).raise (Hdr.EVENT_DISCARD Slot.HANG)).issueBit (Hdr.CTRL_ABORT Slot.HANG)).setDraining Slot.HANG true := by
  obtain ⟨c, hc⟩ := Option.isSome_iff_exists.1 h
  have hbusy : s.pageBusy Slot.HANG = true := h
  have habort : s.pageAbort Slot.HANG = (({ s with hang := { s.hang with coll := none } } : State).put
      Reg.HANG.EDGE_COUNT.COLLECTING 0 |>.bump Reg.HANG.STATUS.DISCARDS, true) := by
    change s.hangAbort = _
    unfold State.hangAbort
    rw [hc]
  unfold State.abortWrite
  rw [if_pos hbusy, habort]
  rfl

/-- A page without work aborts nothing (R95). -/
theorem State.abortWrite_idle {p : Nat} (h : s.pageBusy p = false) : s.abortWrite p = s := if_neg (by rw [h]; decide)

/-- The bits of a word that CTRL_ABORT writes. -/
theorem abortWord_bits (h0 : d.toNat % 2 = 1) (h8 : testBit d.toNat 8 = false) : bits (d ||| 2).toNat 0 0 = 1
    ∧ testBit (d ||| 2).toNat 1 = true ∧ testBit (d ||| 2).toNat 8 = false := by
  have hor : (d ||| 2).toNat = d.toNat ||| 2 := BitVec.toNat_or d 2
  refine ⟨?_, ?_, ?_⟩
  · rw [hor]
    simp [bits, Nat.or_mod_two_eq_one, h0]
  · rw [hor, testBit_eq, Nat.testBit_or, show Nat.testBit 2 1 = true by decide, Bool.or_true]
  · rw [testBit_eq] at h8 ⊢
    rw [hor, Nat.testBit_or, h8]
    decide

/-- The write of CTRL with ABORT on an enabled HANG page, past its checks. -/
theorem State.busWrite_hangAbort (hm : s.mayWrite x 0x40008 (d ||| 2) = true) (h0 : d.toNat % 2 = 1) (h8 : testBit d.toNat 8 = false)
    (hen : s.pageEnable Slot.HANG = 1) : ∃ v, s.busWrite x 0x40008 (d ||| 2)
      = ((((s.writeTurn x 0x40008 (d ||| 2)).put (Hdr.CTRL_IRQ_EN Slot.HANG) v).put (Hdr.CTRL_ENABLE Slot.HANG) 1).abortWrite
        Slot.HANG).wrote x 0x40008 (d ||| 2) := by
  obtain ⟨hb0, hb1, hb8⟩ := abortWord_bits h0 h8
  have hturn : (s.writeTurn x 0x40008 (d ||| 2)).pageEnable Slot.HANG = 1 := (State.get_writeTurn _ _ _ _ _).trans hen
  have hctrl := (s.writeTurn x 0x40008 (d ||| 2)).ctrlWrite_hang (w := busWr x 0x40008 (d ||| 2))
    (show 0x40008 / 0x4000 = Slot.HANG by decide) hb0 hb1 hb8 hturn
  exact ⟨_, (State.busWrite_ctrl (p := Slot.HANG) (by decide) hm).trans (congrArg (State.wrote · x 0x40008 (d ||| 2)) hctrl)⟩

/-- CTRL_ABORT of the HANG page during a collection (R94, R493). -/
theorem State.hangAbort_spec (hm : s.mayWrite x 0x40008 (d ||| 2) = true) (h0 : d.toNat % 2 = 1) (h8 : testBit d.toNat 8 = false)
    (hen : s.pageEnable Slot.HANG = 1) (hc : s.hang.coll.isSome = true) : ∃ t, s.busWrite x 0x40008 (d ||| 2) = t ∧ t.hang.coll = none
      ∧ t.get (Hdr.EVENT_DISCARD Slot.HANG) = 1 ∧ t.get (Hdr.CTRL_ABORT Slot.HANG) = 1 ∧ s.counted t Reg.HANG.STATUS.DISCARDS 1
      ∧ t.agents = s.agents := by
  obtain ⟨v, hex⟩ := State.busWrite_hangAbort hm h0 h8 hen
  generalize hu : ((s.writeTurn x 0x40008 (d ||| 2)).put (Hdr.CTRL_IRQ_EN Slot.HANG) v).put (Hdr.CTRL_ENABLE Slot.HANG) 1 = u at hex
  have hcoll : u.hang = s.hang := by rw [← hu, State.put_hang, State.put_hang, State.writeTurn_hang]
  have hag : u.agents = s.agents := by rw [← hu, State.put_agents, State.put_agents, State.writeTurn_agents]
  have hdisc : u.get Reg.HANG.STATUS.DISCARDS = s.get Reg.HANG.STATUS.DISCARDS := by
    rw [← hu, State.get_put_ne _ _ (by decide), State.get_put_ne _ _ (by decide), State.get_writeTurn]
  rw [State.abortWrite_hang (by rw [hcoll]; exact hc)] at hex
  generalize ha : ({ u with hang := { u.hang with coll := none } } : State).put Reg.HANG.EDGE_COUNT.COLLECTING 0 = a at hex
  have haf : a.hwFault = (s.writeTurn x 0x40008 (d ||| 2)).hwFault := by
    rw [← ha, State.put_hwFault, ← hu, State.put_hwFault, State.put_hwFault]
  have had : a.get Reg.HANG.STATUS.DISCARDS = s.get Reg.HANG.STATUS.DISCARDS := by
    rw [← ha, State.get_put_ne _ _ (by decide)]
    exact hdisc
  generalize he : (((a.bump Reg.HANG.STATUS.DISCARDS).raise (Hdr.EVENT_DISCARD Slot.HANG)).issueBit (Hdr.CTRL_ABORT Slot.HANG)).setDraining
    Slot.HANG true = e at hex
  have hef : e.hwFault = (s.writeTurn x 0x40008 (d ||| 2)).hwFault := by rw [← haf, ← he]; rfl
  have heg : ∀ g, e.get g = (((a.bump Reg.HANG.STATUS.DISCARDS).raise (Hdr.EVENT_DISCARD Slot.HANG)).issueBit
      (Hdr.CTRL_ABORT Slot.HANG)).get g := fun g => by rw [← he]; rfl
  have hget := fun {g} hg => State.get_wrote_ctrl (p := Slot.HANG) (e := e) (g := g) hm hef hg
  refine ⟨_, hex, ?_, ?_, ?_, ?_, ?_⟩
  · rw [State.wrote_hang, ← he, ← ha]
    rfl
  · refine (hget (by decide)).trans ((heg _).trans ?_)
    rw [State.get_issueBit_ne _ (by decide), State.get_raise_same _ (by decide)]
  · exact (hget (by decide)).trans ((heg _).trans (State.get_issueBit_same _ (by decide)))
  · refine (hget (by decide)).trans ((heg _).trans ?_)
    rw [State.get_issueBit_ne _ (by decide), State.get_raise_ne _ (by decide), State.bump, State.get_bumpBy_same, had]
  · rw [State.wrote_agents, ← he, ← hag, ← ha]
    rfl

/-- CTRL_ABORT of an idle HANG page discards nothing (R95). -/
theorem State.hangAbort_idle (hm : s.mayWrite x 0x40008 (d ||| 2) = true) (h0 : d.toNat % 2 = 1) (h8 : testBit d.toNat 8 = false)
    (hen : s.pageEnable Slot.HANG = 1) (hc : s.hang.coll = none) : ∃ t, s.busWrite x 0x40008 (d ||| 2) = t
      ∧ t.get (Hdr.EVENT_DISCARD Slot.HANG) = s.get (Hdr.EVENT_DISCARD Slot.HANG)
      ∧ t.get Reg.HANG.STATUS.DISCARDS = s.get Reg.HANG.STATUS.DISCARDS ∧ t.agents = s.agents := by
  obtain ⟨v, hex⟩ := State.busWrite_hangAbort hm h0 h8 hen
  generalize hu : ((s.writeTurn x 0x40008 (d ||| 2)).put (Hdr.CTRL_IRQ_EN Slot.HANG) v).put (Hdr.CTRL_ENABLE Slot.HANG) 1 = u at hex
  have hidle : u.pageBusy Slot.HANG = false := by
    change u.hang.coll.isSome = false
    rw [← hu, State.put_hang, State.put_hang, State.writeTurn_hang, hc]
    rfl
  have huf : u.hwFault = (s.writeTurn x 0x40008 (d ||| 2)).hwFault := by rw [← hu, State.put_hwFault, State.put_hwFault]
  have hget : ∀ g : Fld, g.key ≠ (Hdr.STATUS_PARITY_ERR Slot.HANG).key → g.key ≠ (Hdr.CTRL_IRQ_EN Slot.HANG).key →
      g.key ≠ (Hdr.CTRL_ENABLE Slot.HANG).key → (u.wrote x 0x40008 (d ||| 2)).get g = s.get g := fun g h1 h2 h3 => by
    refine (State.get_wrote_ctrl (p := Slot.HANG) hm huf h1).trans ?_
    rw [← hu, State.get_put_ne _ _ h3, State.get_put_ne _ _ h2, State.get_writeTurn]
  rw [State.abortWrite_idle hidle] at hex
  refine ⟨_, hex, hget _ (by decide) (by decide) (by decide), hget _ (by decide) (by decide) (by decide), ?_⟩
  rw [State.wrote_agents, ← hu, State.put_agents, State.put_agents, State.writeTurn_agents]

/-- Settles O9: a page's ENABLE, its ABORT on HANG, and the end of a drain and of a discard. -/
theorem enableAbortAndDrainGovernAPage : Obligations.EnableAbortAndDrainGovernAPage := by
  unfold Obligations.EnableAbortAndDrainGovernAPage
  refine ⟨fun x page d s hm hc hp h1 h8 => ?_, fun x d s hm h0 h8 hen => ⟨fun hc => ?_, fun hc => ?_⟩,
    fun page s hd => ⟨fun hb => ?_, fun hb => ?_⟩, fun page s => ⟨fun h hi => ?_, fun h hi => ?_, fun h => ?_⟩⟩
  · obtain ⟨t, ht, hspec⟩ := State.ctrlEnable_spec hm hc hp h1 h8
    exact ⟨t, congrArg Host.Outcome.next ht, hspec⟩
  · obtain ⟨t, ht, hspec⟩ := State.hangAbort_spec hm h0 h8 hen hc
    exact ⟨t, congrArg Host.Outcome.next ht, hspec⟩
  · obtain ⟨t, ht, hspec⟩ := State.hangAbort_idle hm h0 h8 hen hc
    exact ⟨t, congrArg Host.Outcome.next ht, hspec⟩
  · obtain ⟨hkeep, hag, hset⟩ := s.idleEntry_spec page.toNat
    obtain ⟨hev, hdr⟩ := hset hd hb
    exact ⟨_, rfl, hev, hdr, hkeep, hag⟩
  · exact congrArg Host.Outcome.next (State.idleEntry_busy hb)
  · exact ⟨_, State.abortComplete_done page h, State.abortComplete_spec hi⟩
  · exact (State.abortComplete_done page h).trans (congrArg Host.Outcome.next (State.abortComplete_issued h hi))
  · exact congrArg Host.Outcome.next (if_neg (by rw [h]; decide))

end HangAbort
end Sys2Proof.Machine

/-! PROOF. The Wheel (chapter 3): marks, missed marks and the calibration, and the boundaries that the Wheel makes. -/

namespace Sys2Proof.Machine

/-! ### What an update keeps -/

section Keeps

variable {s t u : State} {f : Fld} {fs : List Fld}

theorem State.keeps_rfl (s : State) (fs : List Fld) : s.keeps s fs := fun _ _ _ => rfl

/-- A field that is none of those named has another key than each of them. -/
theorem key_ne_of_not_mem {g : Fld} (hg : g.key ∉ fs.map Fld.key) (hf : f ∈ fs) : g.key ≠ f.key :=
  fun h => hg (h ▸ List.mem_map_of_mem hf)

theorem State.keeps.put (h : s.keeps t fs) (v : Nat) (hf : f ∈ fs) : s.keeps (t.put f v) fs :=
  fun g hc hg => (t.get_put_ne v (key_ne_of_not_mem hg hf)).trans (h g hc hg)

theorem State.keeps.raise (h : s.keeps t fs) (hf : f ∈ fs) : s.keeps (t.raise f) fs :=
  fun g hc hg => (t.get_raise_ne (key_ne_of_not_mem hg hf)).trans (h g hc hg)

theorem State.keeps.bump (h : s.keeps t fs) (hf : f ∈ fs) : s.keeps (t.bump f) fs :=
  fun g hc hg => (t.get_bump_ne (key_ne_of_not_mem hg hf)).trans (h g hc hg)

theorem State.keeps.mono {gs : List Fld} (h : s.keeps t fs) (hs : fs ⊆ gs) : s.keeps t gs :=
  fun g hc hg => h g hc fun hm => hg (List.map_subset _ hs hm)

theorem State.keeps.trans {gs : List Fld} (h : s.keeps t fs) (k : t.keeps u gs) : s.keeps u (fs ++ gs) := fun g hc hg =>
  (k g hc fun hm => hg (List.map_subset _ (List.subset_append_right fs gs) hm)).trans
    (h g hc fun hm => hg (List.map_subset _ (List.subset_append_left fs gs) hm))

/-- An update of no register. -/
theorem State.keeps.sameRegs (h : s.keeps t fs) (hu : t.sameRegs u) : s.keeps u fs :=
  fun g hc hg => (hu g).trans (h g hc hg)

end Keeps

/-! ### A calibration starts (R130) -/

section Calibration

variable {s : State}

/-- A message that is sent, or that waits for the end of the Toss, touches what the lanes send only. -/
theorem State.ringSend_eq (s : State) (all : Bool) (type target payload : Nat) : ∃ n tx f wt, s.ringSend all type target payload
    = { s with team := { s.team with seq := n, tx := tx, txFc := f, waiting := wt } } := by
  unfold State.ringSend State.ringOut
  repeat' split
  all_goals exact ⟨_, _, _, _, rfl⟩

theorem State.calStart_eq (s : State) : ∃ tm, s.calStart
    = { s with wheel := { s.wheel with calRunning := true, calTurn := s.wheel.turns }, team := tm } ∧ tm.inbox = s.team.inbox := by
  unfold State.calStart
  dsimp only
  obtain ⟨n, tx, f, wt, h⟩ := State.ringSend_eq { s with
    wheel := { s.wheel with calRunning := true, calTurn := s.wheel.turns }
    team := { s.team with rtt := none, probe := some (s.team.seq % 65536, s.fc) } } false 6
      (s.get Reg.TEAM.MEMBER_COUNT.MANAGER) (s.team.seq % 65536)
  exact ⟨_, h, rfl⟩

end Calibration

/-! ### Marks (R122 to R125) -/

section Marks

variable {s : State} {markFc : Nat} {d : Int}

/-- The registers that the lock of a seeking Wheel changes. -/
def lockFlds : List Fld := [Reg.WHEEL.SOURCE.STATE, Reg.WHEEL.EVENT.LOCKED, Reg.WHEEL.SLIP.D]

/-- The state after a mark has locked a Wheel that was not locked, before a calibration starts. -/
def State.lockShown (s : State) (d : Int) : State :=
  ((s.put Reg.WHEEL.SLIP.D (BitVec.ofInt 32 d).toNat).put Reg.WHEEL.SOURCE.STATE wheelLocked).raise Reg.WHEEL.EVENT.LOCKED

theorem State.lockShown_spec (s : State) (d : Int) : (s.lockShown d).get Reg.WHEEL.SOURCE.STATE = wheelLocked
    ∧ (s.lockShown d).get Reg.WHEEL.EVENT.LOCKED = 1 ∧ (s.lockShown d).get Reg.WHEEL.SLIP.D = (BitVec.ofInt 32 d).toNat
    ∧ s.keeps (s.lockShown d) lockFlds := by
  refine ⟨?_, State.get_raise_same _ rfl, ?_, ?_⟩
  · rw [State.lockShown, State.get_raise_ne _ (by decide), State.get_put_same]
    rfl
  · rw [State.lockShown, State.get_raise_ne _ (by decide), State.get_put_ne _ _ (by decide), State.get_put_same]
    exact Nat.mod_eq_of_lt (BitVec.ofInt 32 d).isLt
  · exact (((s.keeps_rfl lockFlds).put _ (by decide)).put _ (by decide)).raise (by decide)

/-- The Wheel has noted an accepted mark (R125). -/
def Wheel.noted (w : Wheel) (markFc : Nat) : Wheel :=
  { w with
    measured := (match w.consecutive, w.lastMark with
      | true, some l => some (markFc - l)
      | _, _ => w.measured)
    lastMark := some markFc
    consecutive := true }

theorem State.lockMark_unlocked (h : s.get Reg.WHEEL.SOURCE.STATE ≠ wheelLocked) : s.lockMark markFc d
    = let t := State.lockShown { s with wheel := s.wheel.noted markFc } d
      if t.wheel.sel = 2 ∧ t.cfg Reg.WHEEL.SUBNOTCH_CAL.AUTO = 1 then t.calStart else t := if_neg h

/-- A mark locks a Wheel that is not locked: what it shows, and a calibration may start. -/
theorem State.lockMark_eq (h : s.get Reg.WHEEL.SOURCE.STATE ≠ wheelLocked) : ∃ w tm, s.lockMark markFc d
    = { s.lockShown d with wheel := w, team := tm } ∧ w.lastMark = some markFc ∧ tm.inbox = s.team.inbox := by
  rw [State.lockMark_unlocked h]
  dsimp only
  split
  · obtain ⟨tm, hc, hin⟩ := State.calStart_eq (State.lockShown { s with wheel := s.wheel.noted markFc } d)
    rw [hc]
    exact ⟨_, tm, rfl, rfl, hin⟩
  · exact ⟨s.wheel.noted markFc, s.team, rfl, rfl, rfl⟩

/-- A count that the ring brings may be another one than the Wheel's (R127). -/
def jumpFlds (ring : Option Nat) : List Fld := if ring.isSome then [Reg.WHEEL.EVENT.REV_JUMP] else []

theorem not_mem_jumpFlds {g : Fld} (ring : Option Nat) (h : g.key ≠ Reg.WHEEL.EVENT.REV_JUMP.key) : g.key ∉ (jumpFlds ring).map Fld.key := by
  cases ring with
  | none => exact List.not_mem_nil
  | some _ => exact fun hm => h (List.mem_singleton.1 hm)

theorem State.ringCount_spec (s : State) (n : Nat) (ring : Option Nat) : (s.ringCount n ring).1 = ring.getD n
    ∧ (∀ v, ring = some v → v ≠ n → (s.ringCount n ring).2.get Reg.WHEEL.EVENT.REV_JUMP = 1)
    ∧ s.keeps (s.ringCount n ring).2 (jumpFlds ring)
    ∧ (s.ringCount n ring).2.team = s.team ∧ (s.ringCount n ring).2.agents = s.agents := by
  cases ring with
  | none => exact ⟨rfl, fun _ h => absurd h (by simp), s.keeps_rfl _, rfl, rfl⟩
  | some v =>
    unfold State.ringCount
    dsimp only
    split
    next hv => exact ⟨rfl, fun w hw hn => absurd (Option.some.inj hw ▸ hv) hn, s.keeps_rfl _, rfl, rfl⟩
    next => exact ⟨rfl, fun _ _ _ => State.get_raise_same _ rfl, (s.keeps_rfl _).raise (by simp [jumpFlds]), rfl, rfl⟩

/-- The mark has been accepted in the revolution at hand, whose count it may bring. -/
def State.marked (s : State) (rev : Nat) : State := { s with wheel := { s.wheel with rev := rev, marked := true } }

theorem State.takeMarkAt_seeking {age : Nat} (ring : Option Nat) (hs : s.get Reg.WHEEL.SOURCE.STATE = wheelSeeking) (hk : s.wheel.k = age)
    (hm : s.wheel.selfMade = true) : s.takeMarkAt age ring
      = ((s.ringCount s.wheel.rev ring).2.lockMark (s.fc - age) 0).marked (s.ringCount s.wheel.rev ring).1 := by
  have hfirst : (s.wheel.k : Int) - age = 0 ∧ s.wheel.selfMade = true := ⟨by omega, hm⟩
  unfold State.takeMarkAt State.mark
  dsimp only
  rw [if_pos hs, if_pos hfirst]
  rfl

/-- The first mark of a seeking Wheel, in the fc of a boundary that the Wheel made itself (R122). -/
theorem State.takeMarkAt_first {age : Nat} (ring : Option Nat) (hs : s.get Reg.WHEEL.SOURCE.STATE = wheelSeeking) (hk : s.wheel.k = age)
    (hm : s.wheel.selfMade = true) : ∃ t, s.takeMarkAt age ring = t
      ∧ t.get Reg.WHEEL.SOURCE.STATE = wheelLocked ∧ t.get Reg.WHEEL.EVENT.LOCKED = 1 ∧ t.get Reg.WHEEL.SLIP.D = 0
      ∧ t.wheel.rev = ring.getD s.wheel.rev ∧ t.wheel.lastMark = some (s.fc - age) ∧ t.team.inbox = s.team.inbox
      ∧ (∀ v, ring = some v → v ≠ s.wheel.rev → t.get Reg.WHEEL.EVENT.REV_JUMP = 1)
      ∧ s.keeps t (lockFlds ++ jumpFlds ring) ∧ t.agents = s.agents := by
  obtain ⟨hrev, hjump, hkeep, hteam, hag⟩ := s.ringCount_spec s.wheel.rev ring
  rw [State.takeMarkAt_seeking ring hs hk hm]
  generalize s.ringCount s.wheel.rev ring = p at *
  have hst : p.2.get Reg.WHEEL.SOURCE.STATE ≠ wheelLocked := by
    rw [hkeep _ rfl (not_mem_jumpFlds ring (by decide)), hs]
    decide
  obtain ⟨w, tm, hl, hlast, hin⟩ := State.lockMark_eq (markFc := s.fc - age) (d := 0) hst
  obtain ⟨h1, h2, h3, h4⟩ := p.2.lockShown_spec 0
  rw [hl]
  refine ⟨_, rfl, h1, h2, h3, hrev, hlast, hin.trans (by rw [hteam]), fun v hv hn => ?_, ?_, hag⟩
  · exact (h4 _ rfl (by decide)).trans (hjump v hv hn)
  · exact (hkeep.trans h4).mono (List.append_subset.2 ⟨List.subset_append_right _ _, List.subset_append_left _ _⟩)

/-- A mark nearer than W to the last accepted one is ignored (R123). -/
theorem State.takeMarkAt_close {age l : Nat} (ring : Option Nat)
    (hs : s.get Reg.WHEEL.SOURCE.STATE = wheelLocked ∨ s.get Reg.WHEEL.SOURCE.STATE = wheelCoasting) (hl : s.wheel.lastMark = some l)
    (hc : s.fc - age < l + s.wheel.window) : s.takeMarkAt age ring = s.spuriousMark := by
  have hn : s.get Reg.WHEEL.SOURCE.STATE ≠ wheelSeeking := by
    rcases hs with h | h <;> rw [h] <;> decide
  unfold State.takeMarkAt State.mark
  dsimp only
  rw [if_neg hn, if_pos hs, hl, if_pos (decide_eq_true hc)]
  rfl

theorem State.spuriousMark_spec (s : State) : s.spuriousMark.get Reg.WHEEL.EVENT.SPURIOUS = 1
    ∧ s.counted s.spuriousMark Reg.WHEEL.LOSS_COUNT.SPURIOUS 1 ∧ s.spuriousMark.wheel = s.wheel
    ∧ s.keeps s.spuriousMark [Reg.WHEEL.EVENT.SPURIOUS, Reg.WHEEL.LOSS_COUNT.SPURIOUS] ∧ s.spuriousMark.agents = s.agents := by
  refine ⟨State.get_raise_same _ rfl, ?_, rfl, ((s.keeps_rfl _).bump (by decide)).raise (by decide), rfl⟩
  exact (State.get_raise_ne _ (by decide)).trans (s.get_bumpBy_same _ _)

/-- The mark that is taken from the pin (R119, R129). -/
def State.pinTaken (s : State) (f : Nat) : State := { s with wheel := { s.wheel with pinMarks := s.wheel.pinMarks.erase f } }

theorem exec_wheelMark_none (h : s.wheel.pinMarks.find? (fun m => decide (m ≤ s.fc)) = none) : exec .wheelMark s = .next s := by
  have hf : s.wheel.pinMarks.find? (fun f => decide (f ≤ s.fc) && s.wheelEdge) = none := by
    rw [List.find?_eq_none] at h ⊢
    exact fun f hf hd => h f hf (Bool.and_eq_true_iff.1 hd).1
  exact congrArg Host.Outcome.next (by rw [hf])

theorem exec_wheelMark_between (h : s.wheelEdge = false) : exec .wheelMark s = .next s := by
  have hf : s.wheel.pinMarks.find? (fun f => decide (f ≤ s.fc) && s.wheelEdge) = none := by simp [h]
  exact congrArg Host.Outcome.next (by rw [hf])

theorem exec_wheelMark_some {f : Nat} (h : s.wheel.pinMarks.find? (fun m => decide (m ≤ s.fc)) = some f) (he : s.wheelEdge = true) :
    exec .wheelMark s = .next (if s.wheel.sel = 1 then (s.pinTaken f).takeMarkAt (s.fc - f) none else s.pinTaken f) := by
  have hf : s.wheel.pinMarks.find? (fun f => decide (f ≤ s.fc) && s.wheelEdge) = some f := by simpa [he] using h
  exact congrArg Host.Outcome.next (by rw [hf]; rfl)

/-- No mark has come by fc W after a boundary that the Wheel made itself (R124). -/
def State.markDue (s : State) : Prop :=
  (s.get Reg.WHEEL.SOURCE.STATE = wheelLocked ∨ s.get Reg.WHEEL.SOURCE.STATE = wheelCoasting)
    ∧ s.wheel.selfMade = true ∧ s.wheel.marked = false ∧ s.wheel.window ≤ s.wheel.k

theorem State.missMark_none (h : ¬ s.markDue) : s.missMark = s :=
  if_neg fun ⟨hs, hm, hn, hw⟩ => h ⟨hs, hm, Bool.eq_false_of_not_eq_true hn, hw⟩

theorem State.missMark_spec (h : s.markDue) : s.missMark.get Reg.WHEEL.SOURCE.STATE = wheelCoasting ∧ s.missMark.get Reg.WHEEL.EVENT.MISSED = 1
    ∧ s.counted s.missMark Reg.WHEEL.LOSS_COUNT.MISSED 1
    ∧ s.keeps s.missMark [Reg.WHEEL.SOURCE.STATE, Reg.WHEEL.EVENT.MISSED, Reg.WHEEL.LOSS_COUNT.MISSED] ∧ s.missMark.agents = s.agents := by
  obtain ⟨hs, hm, hn, hw⟩ := h
  have heq : s.missMark = (((({ s with wheel := { s.wheel with marked := true, consecutive := false } } : State).bump
      Reg.WHEEL.LOSS_COUNT.MISSED).hubEvent 16 1).raise Reg.WHEEL.EVENT.MISSED).put Reg.WHEEL.SOURCE.STATE wheelCoasting :=
    if_pos ⟨hs, hm, Bool.not_eq_true _ ▸ hn, hw⟩
  rw [heq]
  refine ⟨State.get_put_same _ _ _, ?_, ?_, ?_, rfl⟩
  · exact (State.get_put_ne _ _ (by decide)).trans (State.get_raise_same _ rfl)
  · refine (State.get_put_ne _ _ (by decide)).trans ((State.get_raise_ne _ (by decide)).trans ?_)
    exact State.get_bumpBy_same _ _ _
  · have hb := ((s.keeps_rfl [Reg.WHEEL.SOURCE.STATE, Reg.WHEEL.EVENT.MISSED, Reg.WHEEL.LOSS_COUNT.MISSED]).sameRegs
      (u := { s with wheel := { s.wheel with marked := true, consecutive := false } }) fun _ => rfl).bump
      (f := Reg.WHEEL.LOSS_COUNT.MISSED) (by decide)
    exact ((hb.sameRegs (u := State.hubEvent _ 16 1) fun _ => rfl).raise (by decide)).put _ (by decide)

/-- The calibration in progress ends with its round trip (R131). -/
theorem State.calibrated_spec {d : Nat} (hr : s.wheel.calRunning = true) (hd : s.team.rtt = some d) :
    ∃ t, exec .subnotchCalibrationDone s = .next t ∧ t.get Reg.WHEEL.SUBNOTCH_CAL.RING_DELAY = min d 65535
      ∧ t.get Reg.WHEEL.SUBNOTCH_CAL.VALID = 1 ∧ t.get Reg.WHEEL.EVENT.CAL_DONE = 1 ∧ t.wheel.calRunning = false
      ∧ s.keeps t [Reg.WHEEL.SUBNOTCH_CAL.RING_DELAY, Reg.WHEEL.SUBNOTCH_CAL.VALID, Reg.WHEEL.EVENT.CAL_DONE] ∧ t.agents = s.agents := by
  have hex : exec .subnotchCalibrationDone s = .next (((({ s with
      wheel := { s.wheel with calRunning := false }, team := { s.team with rtt := none } } : State).put
        Reg.WHEEL.SUBNOTCH_CAL.RING_DELAY (min d 65535)).put Reg.WHEEL.SUBNOTCH_CAL.VALID 1).raise Reg.WHEEL.EVENT.CAL_DONE) := by
    refine congrArg Host.Outcome.next ?_
    rw [hr, hd]
  refine ⟨_, hex, ?_, ?_, State.get_raise_same _ rfl, rfl, ?_, rfl⟩
  · rw [State.get_raise_ne _ (by decide), State.get_put_ne _ _ (by decide), State.get_put_same]
    exact Nat.mod_eq_of_lt (Nat.lt_succ_of_le (min_le_right d 65535))
  · rw [State.get_raise_ne _ (by decide), State.get_put_same]
    rfl
  · refine (((s.keeps_rfl _).sameRegs ?_).put _ (by decide)).put _ (by decide) |>.raise (by decide)
    exact fun _ => rfl

end Marks

/-- Settles O14: what a mark of the pin does in each state of the Wheel, a missed mark, and the end of a calibration. -/
theorem marksSteerTheWheel : Obligations.MarksSteerTheWheel := by
  unfold Obligations.MarksSteerTheWheel
  refine ⟨fun s f hf => ⟨exec_wheelMark_between, fun he hsel => ?_, fun he hsel hst hk hm => ?_, fun l he hsel hst hl hc => ?_⟩,
    fun s h => exec_wheelMark_none h, fun s => ⟨fun hdue => ⟨_, rfl, State.missMark_spec hdue⟩, fun hdue => ?_⟩,
    fun s d hr hd => State.calibrated_spec hr hd⟩
  · exact (exec_wheelMark_some hf he).trans (congrArg Host.Outcome.next (if_neg hsel))
  · obtain ⟨t, ht, h1, h2, h3, hrev, hlast, -, -, hkeep, hag⟩ := State.takeMarkAt_first (s := s.pinTaken f) (age := s.fc - f) none hst
      (show s.wheel.k = s.fc - f by omega) hm
    have hex := exec_wheelMark_some hf he
    rw [if_pos hsel, ht] at hex
    have hff : s.fc - (s.fc - f) = f := by omega
    exact ⟨t, hex, h1, h2, h3, hrev, hlast.trans (congrArg some hff), hkeep, hag⟩
  · have hle : f ≤ s.fc := of_decide_eq_true (List.find?_some (p := fun m => decide (m ≤ s.fc)) hf)
    have hff : s.fc - (s.fc - f) = f := by omega
    have hex := exec_wheelMark_some hf he
    rw [if_pos hsel, State.takeMarkAt_close (s := s.pinTaken f) none hst hl (hff.symm ▸ hc)] at hex
    exact ⟨_, hex, (s.pinTaken f).spuriousMark_spec⟩
  · exact congrArg Host.Outcome.next (State.missMark_none hdue)

/-! ### A boundary (R113, R121) -/

section Boundary

variable {s : State}

theorem State.idleJudge_wheel (s : State) : s.idleJudge.wheel = s.wheel ∧ s.idleJudge.fc = s.fc := by
  unfold State.idleJudge
  dsimp only
  split <;> exact ⟨rfl, rfl⟩

theorem State.wdBoundary_wheel (s : State) : s.wdBoundary.wheel = s.wheel ∧ s.wdBoundary.fc = s.fc := by
  unfold State.wdBoundary
  split <;> exact ⟨rfl, rfl⟩

theorem State.tapBoundary_wheel (s : State) : s.tapBoundary.wheel = s.wheel ∧ s.tapBoundary.fc = s.fc := by
  have hmod : ∀ (f : Agent → Agent) (l : List Nat) (t : State), (l.foldl (fun t a => t.modAgent a f) t).wheel = t.wheel
      ∧ (l.foldl (fun t a => t.modAgent a f) t).fc = t.fc := fun f l t =>
    ⟨foldl_leaves State.wheel _ (fun u a => by obtain ⟨_, _, _, _, _, _, h⟩ := u.modAgent_eq a f; rw [h]) l t,
      foldl_leaves State.fc _ (fun u a => u.modAgent_fc a f) l t⟩
  unfold State.tapBoundary
  dsimp only
  split
  · obtain ⟨l, hl⟩ := s.mapAgents_eq fun _ g => if g.tap.conf.enable && g.tap.conf.close == 1 then
      { g with tap := { g.tap with reqs := g.tap.reqs ++ [(tcRevolution, s.wheel.rev % 2 ^ 32)] } } else g
    rw [hl]
    exact hmod _ _ _
  · exact ⟨rfl, rfl⟩

theorem State.wheelSend_wheel (s : State) : s.wheelSend.wheel = s.wheel ∧ s.wheelSend.fc = s.fc := by
  obtain ⟨_, _, _, _, h⟩ := s.ringSend_eq true 1 0 s.wheel.rev
  unfold State.wheelSend
  split
  · rw [h]
    exact ⟨rfl, rfl⟩
  · exact ⟨rfl, rfl⟩

theorem State.calDue_wheel (s : State) : (∃ b c, s.calDue.wheel = { s.wheel with calRunning := b, calTurn := c }) ∧ s.calDue.fc = s.fc := by
  obtain ⟨tm, h, -⟩ := s.calStart_eq
  unfold State.calDue
  split
  · rw [h]
    exact ⟨⟨_, _, rfl⟩, rfl⟩
  · exact ⟨⟨_, _, rfl⟩, rfl⟩

/-- What a boundary brings elsewhere leaves the Wheel alone but for its calibration (R130). -/
theorem State.boundary_wheel (s : State) : (∃ b c, s.boundary.wheel = { s.wheel with calRunning := b, calTurn := c }) ∧ s.boundary.fc = s.fc := by
  unfold State.boundary
  generalize hu : s.bumpWrap (Reg.POWER.RESIDENCY.REVS s.power) 1 = u
  have hw : u.idleJudge.wdBoundary.tapBoundary.wheelSend.wheel = s.wheel := by
    rw [(State.wheelSend_wheel _).1, (State.tapBoundary_wheel _).1, (State.wdBoundary_wheel _).1, (State.idleJudge_wheel _).1, ← hu]
    rfl
  have hf : u.idleJudge.wdBoundary.tapBoundary.wheelSend.fc = s.fc := by
    rw [(State.wheelSend_wheel _).2, (State.tapBoundary_wheel _).2, (State.wdBoundary_wheel _).2, (State.idleJudge_wheel _).2, ← hu]
    rfl
  obtain ⟨⟨b, c, hcal⟩, hfc⟩ := u.idleJudge.wdBoundary.tapBoundary.wheelSend.calDue_wheel
  exact ⟨⟨b, c, by rw [hcal, hw]⟩, hfc.trans hf⟩

theorem exec_wheelBoundary_due (h : s.wheel.len ≤ s.wheel.k) : ∃ t, exec .wheelBoundary s = .next t ∧ t.wheel.rev = s.wheel.nextCount
    ∧ t.wheel.k = s.wheel.k - s.wheel.len ∧ t.wheel.turns = s.wheel.turns + 1 ∧ t.wheel.nextRev = none ∧ t.fc = s.fc := by
  obtain ⟨⟨b, c, hw⟩, hf⟩ := (s.startRev (s.wheel.k - s.wheel.len) s.wheel.nextCount true).boundary_wheel
  refine ⟨_, congrArg Host.Outcome.next (if_pos h), ?_⟩
  rw [hw, hf]
  exact ⟨rfl, rfl, rfl, rfl, rfl⟩

end Boundary

/-! ### Writes of the Wheel's registers (R117, R153) -/

section WheelWrites

variable {s : State} {x : Src} {d : Word} {o : Nat}

/-- A write of a plain register changes no block's machine state. -/
theorem State.busWrite_plain_wheel (hp : plainOff o = true) (hm : s.mayWrite x o d = true) : (s.busWrite x o d).wheel = s.wheel := by
  obtain ⟨-, -, -, -, -, hc⟩ := plainOff_iff.1 hp
  obtain ⟨-, h18, -⟩ := not_header_of_not_command hc
  obtain ⟨r, b, heq⟩ := (s.writeTurn x o d).fieldsWritten_eq (w := busWr x o d) ((s.writeTurn x o d).rwlLocked x o) d h18
    (State.writeTurn_unscrubbed hm)
  rw [State.busWrite_plain hp hm, heq]
  exact s.writeTurn_wheel x o d

theorem State.wheelSourceWrite_spec (s : State) (x : Src) (d : Word) :
    (s.mayWrite x 0xC040 d = true → ∃ t, exec (.wheelSourceWrite x .source d) s = .next t
      ∧ t.get Reg.WHEEL.SOURCE.SEL = bits d.toNat Reg.WHEEL.SOURCE.SEL.hi Reg.WHEEL.SOURCE.SEL.lo
      ∧ t.get Reg.WHEEL.SOURCE.STATE = s.get Reg.WHEEL.SOURCE.STATE ∧ t.wheel = s.wheel)
    ∧ (s.mayWrite x 0xC044 d = true → ∃ t, exec (.wheelSourceWrite x .periodFc d) s = .next t
      ∧ t.get Reg.WHEEL.PERIOD_FC.FC
          = max 4096 (bits d.toNat Reg.WHEEL.PERIOD_FC.FC.hi Reg.WHEEL.PERIOD_FC.FC.lo) % 2 ^ Reg.WHEEL.PERIOD_FC.FC.width
      ∧ t.wheel = s.wheel) := by
  refine ⟨fun hm => ?_, fun hm => ?_⟩
  · obtain ⟨t, hex, -, hfld, -⟩ := registerWriteStoresItsFields x 0xC040 d s rfl hm
    have ht : s.busWrite x 0xC040 d = t := Host.Outcome.next.inj hex
    refine ⟨t, hex, ?_, ?_, ht ▸ State.busWrite_plain_wheel rfl hm⟩
    · exact ((hfld _ _ (by decide)).1 rfl).trans (Nat.mod_mod _ _)
    · obtain ⟨-, -, -, -, hro⟩ := hfld .ro Reg.WHEEL.SOURCE.STATE (by decide)
      exact hro rfl (by decide)
  · obtain ⟨t, hex, -, hfld, -⟩ := registerWriteStoresItsFields x 0xC044 d s rfl hm
    have ht : s.busWrite x 0xC044 d = t := Host.Outcome.next.inj hex
    refine ⟨t, hex, ?_, ht ▸ State.busWrite_plain_wheel rfl hm⟩
    exact (hfld _ _ (by decide)).1 rfl

/-- The end of a write of the Wheel's page, at a register that the scrubber has not found. -/
theorem State.parityWritten_wheelPage (s : State) (ho : o / 0x4000 = Slot.WHEEL) (hu : s.unscrubbed o = true) :
    s.keeps (s.parityWritten o) [Hdr.STATUS_PARITY_ERR Slot.WHEEL] ∧ (s.parityWritten o).hwFault = s.hwFault := by
  obtain ⟨v, l, h, hv⟩ := State.parityWritten_eq s (o := o) (by simpa [State.unscrubbed] using hu)
  rw [h]
  rcases hv with rfl | rfl
  · exact ⟨s.keeps_rfl _, rfl⟩
  · refine ⟨((s.keeps_rfl _).put (f := Hdr.STATUS_PARITY_ERR (o / 0x4000)) 0 ?_).sameRegs fun _ => rfl, rfl⟩
    rw [ho]
    exact List.mem_singleton_self _

/-- The end of a write of POS_LO: the source's staged POS_HI has been used (R77). -/
def State.posWritten (s : State) (x : Src) (used : Bool) : State :=
  if used then ((s.parityWritten 0xC050).stageDrop x).parityWritten 0xC054 else s.parityWritten 0xC050

theorem State.bankOnly_posWritten (s : State) (x : Src) (used : Bool) : s.bankOnly (s.posWritten x used) := by
  unfold State.posWritten
  split
  · have hdrop : (s.parityWritten 0xC050).bankOnly ((s.parityWritten 0xC050).stageDrop x) := ⟨_, _, _, _, rfl⟩
    exact State.bankOnly_trans (s.bankOnly_parityWritten 0xC050) (State.bankOnly_trans hdrop (State.bankOnly_parityWritten _ 0xC054))
  · exact s.bankOnly_parityWritten 0xC050

theorem State.posWritten_keeps (s : State) (x : Src) (used : Bool) (hlo : s.unscrubbed 0xC050 = true) (hhi : s.unscrubbed 0xC054 = true) :
    s.keeps (s.posWritten x used) [Hdr.STATUS_PARITY_ERR Slot.WHEEL] := by
  obtain ⟨hkeep, hf⟩ := s.parityWritten_wheelPage (o := 0xC050) rfl hlo
  unfold State.posWritten
  split
  · have hhi' : ((s.parityWritten 0xC050).stageDrop x).unscrubbed 0xC054 = true := by
      change (!(s.parityWritten 0xC050).hwFault.contains _) = true
      rw [hf]
      exact hhi
    obtain ⟨hkeep', -⟩ := ((s.parityWritten 0xC050).stageDrop x).parityWritten_wheelPage (o := 0xC054) rfl hhi'
    have hdrop : (s.parityWritten 0xC050).sameRegs ((s.parityWritten 0xC050).stageDrop x) := fun _ => rfl
    exact ((hkeep.sameRegs hdrop).trans hkeep').mono (by decide)
  · exact hkeep

theorem State.posWritten_stage (s : State) (x : Src) {used : Bool} (h : used = (s.stageOf x 0xC050).isSome) :
    (s.posWritten x used).stageOf x 0xC050 = none := by
  unfold State.posWritten
  split
  · rw [State.parityWritten_stageOf]
    exact State.stageOf_stageDrop _ _ _
  next hn =>
    rw [State.parityWritten_stageOf]
    exact Option.not_isSome_iff_eq_none.1 (h ▸ hn)

/-- While RING is in effect a write of POS commits nothing (R153). -/
theorem State.posWrite_ring (s : State) (lo hi : Option Nat) (h : s.wheel.sel = 2) : s.posWrite lo hi = s := if_pos h

/-- A write of POS commits the count of the revolution that begins next (R153). -/
theorem State.posWrite_commits (s : State) (v : Nat) (hi : Option Nat) (h : s.wheel.sel ≠ 2) : s.posWrite (some v) hi
    = { s with wheel := { s.wheel with nextRev := some (v / 65536 % 65536, hi.or (s.wheel.nextRev.bind (fun r => r.2))) } } := if_neg h

theorem State.posWrite_eq (s : State) (v : Nat) (hi : Option Nat) : ∃ n, s.posWrite (some v) hi = { s with wheel := { s.wheel with nextRev := n } }
    ∧ (s.wheel.sel ≠ 2 → n = some (v / 65536 % 65536, hi.or (s.wheel.nextRev.bind (fun r => r.2))))
    ∧ (s.wheel.sel = 2 → n = s.wheel.nextRev) := by
  by_cases h : s.wheel.sel = 2
  · exact ⟨_, s.posWrite_ring _ _ h, fun hn => absurd h hn, fun _ => rfl⟩
  · exact ⟨_, s.posWrite_commits _ _ h, fun _ => rfl, fun hs => absurd hs h⟩

theorem State.busWrite_posLo (hm : s.mayWrite x 0xC050 d = true) : s.busWrite x 0xC050 d
    = (((s.writeTurn x 0xC050 d).posWrite (some d.toNat) (s.stageOf x 0xC050)).posWritten x (s.stageOf x 0xC050).isSome).answer 0
      (okResp x 0) := by
  rw [s.busWrite_pair hm rfl rfl rfl (.inl rfl), State.answerOk_bus _ rfl]
  unfold State.pairWrite State.posWritten
  dsimp only
  rw [if_neg (by decide), if_pos (by decide), State.writeTurn, State.turn_stageOf]
  rfl

theorem State.posLoWrite_spec (hm : s.mayWrite x 0xC050 d = true) (hu : s.unscrubbed 0xC054 = true) :
    ∃ t, exec (.posLoWrite x d) s = .next t
    ∧ (s.wheel.sel ≠ 2 → t.wheel.nextRev
        = some (d.toNat / 65536 % 65536, (s.stageOf x 0xC050).or (s.wheel.nextRev.bind (fun r => r.2))))
    ∧ (s.wheel.sel = 2 → t.wheel = s.wheel)
    ∧ t.wheel.rev = s.wheel.rev ∧ t.stageOf x 0xC050 = none
    ∧ s.keeps t [Hdr.STATUS_PARITY_ERR Slot.WHEEL] ∧ t.agents = s.agents := by
  obtain ⟨n, heq, hn, hring⟩ := (s.writeTurn x 0xC050 d).posWrite_eq d.toNat (s.stageOf x 0xC050)
  rw [State.writeTurn_wheel] at heq hn hring
  have hex := congrArg (Host.Outcome.next (φ := Fault) (ρ := Refusal)) (State.busWrite_posLo hm)
  rw [heq] at hex
  generalize hp : ({ s.writeTurn x 0xC050 d with wheel := { s.wheel with nextRev := n } } : State) = p at hex
  have hreg : s.sameRegs p := fun g => by rw [← hp]; exact s.get_writeTurn _ _ _ g
  have hfault : p.hwFault = (s.writeTurn x 0xC050 d).hwFault := by rw [← hp]
  have hscrub : ∀ o, s.unscrubbed o = true → p.unscrubbed o = true := fun o ho => by
    rw [State.unscrubbed, Bool.not_eq_true'] at ho ⊢
    rw [hfault]
    exact s.turn_unscrubbed _ ho
  have hstage : p.stageOf x 0xC050 = s.stageOf x 0xC050 := by
    rw [← hp]
    exact s.turn_stageOf _ _ _
  obtain ⟨_, _, _, _, hend⟩ := p.bankOnly_posWritten x (s.stageOf x 0xC050).isSome
  have hwheel : (p.posWritten x (s.stageOf x 0xC050).isSome).wheel = { s.wheel with nextRev := n } := by rw [hend, ← hp]
  have hag : (p.posWritten x (s.stageOf x 0xC050).isSome).agents = s.agents := by
    rw [hend, ← hp]
    exact s.writeTurn_agents _ _ _
  refine ⟨_, hex, fun hsel => ?_, fun hsel => ?_, (congrArg Wheel.rev hwheel :), ?_, ?_, hag⟩
  · exact (congrArg Wheel.nextRev hwheel :).trans (hn hsel)
  · exact hwheel.trans (by rw [hring hsel])
  · exact p.posWritten_stage x (by rw [hstage])
  · have hkeep := p.posWritten_keeps x (s.stageOf x 0xC050).isSome (hscrub _ (Bool.and_eq_true_iff.1 hm).2) (hscrub _ hu)
    exact fun g hc hg => (hkeep g hc hg).trans (hreg g)

end WheelWrites

/-- Settles O13: a boundary of the Wheel's own, the writes of its registers, and an edge on WHEEL_SYNC_IN. -/
theorem wheelMakesAndCountsRevolutions : Obligations.WheelMakesAndCountsRevolutions := by
  unfold Obligations.WheelMakesAndCountsRevolutions
  refine ⟨fun s => ⟨exec_wheelBoundary_due, fun h => ?_⟩, fun x d s hm hu => State.posLoWrite_spec hm hu,
    fun x d s => ⟨fun hm _ => (s.wheelSourceWrite_spec x d).1 hm, fun hm _ => (s.wheelSourceWrite_spec x d).2 hm⟩, fun s => rfl⟩
  exact congrArg Host.Outcome.next (if_neg (Nat.not_le.2 h))

end Sys2Proof.Machine

/-! PROOF. The Cams (chapter 3, R137 to R149): when a Cam fires, what becomes of its action, and when a deferred action is issued. -/

namespace Sys2Proof.Machine

section CamState

variable {s t : State}

/-! ### What an action looks at -/

theorem State.heldMask_congr (h : t.agents = s.agents) : t.heldMask = s.heldMask := by
  have hr : t.regionHeld = s.regionHeld := by
    funext r
    unfold State.regionHeld State.agent
    rw [h]
  rw [State.heldMask, State.heldMask, hr]

theorem State.camTarget_congr (hc : t.regs0 = s.regs0) (hk : t.get Reg.WHISTLE.STATE.KIND = s.get Reg.WHISTLE.STATE.KIND)
    (hw : t.whistle = s.whistle) (act arg : Nat) : t.camTarget act arg = s.camTarget act arg := by
  have hcfg : t.cfg = s.cfg := by
    funext f
    rw [State.cfg, hc, State.cfg]
  unfold State.camTarget State.cutSel
  rw [hcfg, hk, hw]

/-- The held regions that the action would act on (R146). -/
def State.camHeld (s : State) (act arg : Nat) : Nat := ((s.camTarget act arg).getD 0) &&& s.heldMask

theorem State.camHeld_congr (hc : t.regs0 = s.regs0) (hk : t.get Reg.WHISTLE.STATE.KIND = s.get Reg.WHISTLE.STATE.KIND)
    (hw : t.whistle = s.whistle) (ha : t.agents = s.agents) (act arg : Nat) : t.camHeld act arg = s.camHeld act arg := by
  rw [State.camHeld, State.camTarget_congr hc hk hw, State.heldMask_congr ha, State.camHeld]

end CamState

/-! ### A Cam fires (R144, R146 to R148) -/

section CamFires

variable {s u : State} {n act arg : Nat} {late : Bool}

/-- The register with the Cam's FIRED bit. -/
def firedFld (n : Nat) : Fld := if n < 32 then Reg.CAMS.FIRED_LO else Reg.CAMS.FIRED_HI

theorem firedFld_key (n : Nat) : (firedFld n).key = Reg.CAMS.FIRED_LO.key ∨ (firedFld n).key = Reg.CAMS.FIRED_HI.key := by
  unfold firedFld
  split
  · exact .inl rfl
  · exact .inr rfl

theorem firedFld_width (n : Nat) : (firedFld n).width = 32 := by
  unfold firedFld
  split <;> rfl

/-- The Cam has fired in its revolution, or in the one that ended. -/
def Cams.noted (c : Cams) (n : Nat) (late : Bool) : Cams :=
  if late then { c with firedPrev := c.firedPrev ++ [n] } else { c with fired := c.fired ++ [n] }

/-- A Cam has fired: what shows it, before its action is looked at (R144). -/
def State.camShown (s : State) (n : Nat) (late : Bool) : State :=
  let t := (s.raiseBits (firedFld n) (2 ^ (n % 32))).put (Reg.CAMS.CAM_FLAGS.ARMED n) 0
  ({ t with cams := s.cams.noted n late } : State).hubEvent 4 1

/-- An action other than none wakes the hub (R581). -/
def State.camFired (s : State) (n : Nat) (late : Bool) : State :=
  if s.camAction n = 0 then s.camShown n late else (s.camShown n late).wakeNote wkCam

/-- The interrupt of a Cam that only signals (Table 3-5). -/
def State.camSignal (u : State) (act : Nat) : State := if act = 5 then u.raise Reg.CAMS.EVENT.CAM_IRQ else u

/-- What becomes of the action of a Cam that has fired (R146 to R148). -/
def State.camActs (s : State) (n act arg : Nat) : State :=
  if s.cams.deferred.any (fun d => d.cam == n) then (s.bump Reg.CAMS.DEFER_COUNT.OVERRUN).raise Reg.CAMS.EVENT.OVERRUN
  else
    let s := s.camSignal act
    match s.camTarget act arg with
    | none => s.camDue n act arg 0
    | some t =>
      let held := t &&& s.heldMask
      if held = 0 then s.camDue n act arg 0
      else if s.cfg (Reg.CAMS.CAM_FLAGS.DEFER_END n) = 1 then
        { s with cams := { s.cams with deferred := s.cams.deferred ++ [(⟨n, held, act, arg⟩ : Deferred)] } }
      else (s.raise Reg.CAMS.EVENT.EXCLUDED).camDue n act arg held

theorem State.camFires_eq (h : n < 64) : s.camFires n late = (s.camFired n late).camActs n (s.camAction n) (s.camArg n) := by
  have hraise : (if n < 32 then s.raiseBits Reg.CAMS.FIRED_LO (2 ^ n) else s.raiseBits Reg.CAMS.FIRED_HI (2 ^ (n - 32)))
      = s.raiseBits (firedFld n) (2 ^ (n % 32)) := by
    unfold firedFld
    split
    next hn => rw [Nat.mod_eq_of_lt hn]
    next hn => rw [show n % 32 = n - 32 by omega]
  unfold State.camFires
  rw [hraise]
  cases late <;> rfl

theorem State.get_camShown (s : State) (n : Nat) (late : Bool) (g : Fld) : (s.camShown n late).get g
    = ((s.raiseBits (firedFld n) (2 ^ (n % 32))).put (Reg.CAMS.CAM_FLAGS.ARMED n) 0).get g := rfl

theorem State.camShown_keeps (s : State) (n : Nat) (late : Bool) :
    s.keeps (s.camShown n late) [firedFld n, Reg.CAMS.CAM_FLAGS.ARMED n] := by
  intro g _ hg
  rw [State.get_camShown, State.get_put_ne _ _ (key_ne_of_not_mem hg (.tail _ (.head _))),
    State.get_raiseBits_ne _ _ (key_ne_of_not_mem hg (.head _))]

/-- A firing touches registers, the Cams, the counts of the fc and the notes of the power ladder. -/
theorem State.camFired_eq (s : State) (n : Nat) (late : Bool) : ∃ r h c p, s.camFired n late
    = { s with regs := r, hw := h, score := c, pow := p, cams := s.cams.noted n late } := by
  unfold State.camFired State.wakeNote
  repeat' split
  all_goals exact ⟨_, _, _, _, rfl⟩

theorem State.get_camFired (s : State) (n : Nat) (late : Bool) (g : Fld) : (s.camFired n late).get g = (s.camShown n late).get g := by
  unfold State.camFired
  split
  · rfl
  · exact State.get_wakeNote _ _ _

/-- From `s` to `u` Cam `n` has fired in its revolution, or late in the one that ended, and no other block has heard of it. -/
def State.firedAs (s u : State) (n : Nat) (late : Bool) : Prop :=
  testBit (u.get (firedFld n)) (n % 32) = true ∧ u.get (Reg.CAMS.CAM_FLAGS.ARMED n) = 0
    ∧ n ∈ (if late then u.cams.firedPrev else u.cams.fired) ∧ u.agents = s.agents ∧ u.whistle = s.whistle ∧ u.cut = s.cut

theorem Cams.mem_noted (c : Cams) (n : Nat) (late : Bool) : n ∈ (if late then (c.noted n late).firedPrev else (c.noted n late).fired) := by
  cases late <;> exact List.mem_append_right _ (List.mem_singleton_self n)

theorem testBit_raised (v i : Nat) (h : i < 32) : testBit ((v ||| 2 ^ i) % 2 ^ 32) i = true := by
  rw [testBit_eq, Nat.testBit_mod_two_pow, Nat.testBit_or, Nat.testBit_two_pow_self, decide_eq_true h, Bool.or_true, Bool.true_and]

theorem armed_key_ne_fired (n : Nat) : (firedFld n).key ≠ (Reg.CAMS.CAM_FLAGS.ARMED n).key := by
  rcases firedFld_key n with h | h <;> rw [h] <;> simp only [Fld.key, Reg.CAMS.FIRED_LO, Reg.CAMS.FIRED_HI, Reg.CAMS.CAM_FLAGS.ARMED] <;> omega

theorem State.camFired_firedAs (s : State) (n : Nat) (late : Bool) : s.firedAs (s.camFired n late) n late := by
  obtain ⟨_, _, _, _, h⟩ := s.camFired_eq n late
  refine ⟨?_, ?_, ?_, by rw [h], by rw [h], by rw [h]⟩
  · rw [State.get_camFired]
    refine (congrArg (testBit · (n % 32)) ?_).trans (testBit_raised (s.get (firedFld n)) (n % 32) (Nat.mod_lt n (by decide)))
    rw [State.get_camShown, State.get_put_ne _ _ (armed_key_ne_fired n), State.get_raiseBits_same, firedFld_width]
  · rw [State.get_camFired, State.get_camShown, State.get_put_same, Nat.zero_mod]
  · rw [h]
    exact s.cams.mem_noted n late

/-- A firing stays shown through what changes neither its registers nor the Cams that fired. -/
theorem State.firedAs.congr {v : State} (h : s.firedAs u n late) (h1 : v.get (firedFld n) = u.get (firedFld n))
    (h2 : v.get (Reg.CAMS.CAM_FLAGS.ARMED n) = u.get (Reg.CAMS.CAM_FLAGS.ARMED n)) (hf : v.cams.fired = u.cams.fired)
    (hp : v.cams.firedPrev = u.cams.firedPrev) (ha : v.agents = u.agents) (hw : v.whistle = u.whistle) (hc : v.cut = u.cut) :
    s.firedAs v n late := by
  unfold State.firedAs
  rw [h1, h2, hf, hp, ha, hw, hc]
  exact h

/-- The registers in which the page counts and shows what becomes of an action. -/
def camEventFlds : List Fld := [Reg.CAMS.EVENT.OVERRUN, Reg.CAMS.EVENT.EXCLUDED, Reg.CAMS.EVENT.DEFERRED, Reg.CAMS.EVENT.CAM_IRQ,
  Reg.CAMS.DEFER_COUNT.OVERRUN]

theorem camEvent_key {f : Fld} (h : f ∈ camEventFlds) (n : Nat) : (firedFld n).key ≠ f.key ∧ (Reg.CAMS.CAM_FLAGS.ARMED n).key ≠ f.key := by
  have hr : f.key < 0x10048 * 8 ∨ (0x10050 * 8 ≤ f.key ∧ f.key < 0x10100 * 8) := by
    revert f
    decide
  have hn : Reg.CAMS.FIRED_LO.key = 0x10048 * 8 ∧ Reg.CAMS.FIRED_HI.key = 0x1004C * 8
    ∧ (Reg.CAMS.CAM_FLAGS.ARMED n).key = (0x1010C + n * 0x10) * 8 + 31 := ⟨rfl, rfl, rfl⟩
  rcases firedFld_key n with h | h <;> rw [h] <;> omega

theorem State.firedAs.raise (h : s.firedAs u n late) {f : Fld} (hf : f ∈ camEventFlds) : s.firedAs (u.raise f) n late := by
  obtain ⟨h1, h2⟩ := camEvent_key hf n
  exact h.congr (State.get_raise_ne _ h1) (State.get_raise_ne _ h2) rfl rfl rfl rfl rfl

theorem State.firedAs.bump (h : s.firedAs u n late) {f : Fld} (hf : f ∈ camEventFlds) : s.firedAs (u.bump f) n late := by
  obtain ⟨h1, h2⟩ := camEvent_key hf n
  exact h.congr (State.get_bump_ne _ h1) (State.get_bump_ne _ h2) rfl rfl rfl rfl rfl

/-- An action looks at nothing that a firing changes. -/
theorem State.camFired_reads (s : State) (n : Nat) (late : Bool) : (s.camFired n late).regs0 = s.regs0
    ∧ (s.camFired n late).cams.deferred = s.cams.deferred
    ∧ (∀ act arg, (s.camFired n late).camHeld act arg = s.camHeld act arg)
    ∧ ∀ f ∈ camEventFlds, (s.camFired n late).get f = s.get f := by
  have hget : ∀ g : Fld, Fld.isCount g = false → g.key ≠ (firedFld n).key → g.key ≠ (Reg.CAMS.CAM_FLAGS.ARMED n).key →
      (s.camFired n late).get g = s.get g := fun g hc h1 h2 =>
    (s.get_camFired n late g).trans (s.camShown_keeps n late g hc (by simp [h1, h2]))
  have hkind : (s.camFired n late).get Reg.WHISTLE.STATE.KIND = s.get Reg.WHISTLE.STATE.KIND := by
    refine hget _ rfl ?_ ?_
    · rcases firedFld_key n with h | h <;> rw [h] <;> decide
    · simp only [Fld.key, Reg.WHISTLE.STATE.KIND, Reg.CAMS.CAM_FLAGS.ARMED]
      omega
  obtain ⟨_, _, _, _, h⟩ := s.camFired_eq n late
  refine ⟨by rw [h], by rw [h]; cases late <;> rfl, fun act arg => ?_, fun f hf => ?_⟩
  · exact State.camHeld_congr (by rw [h]) hkind (by rw [h]) (by rw [h]) act arg
  · obtain ⟨h1, h2⟩ := camEvent_key hf n
    have hcount : ∀ f ∈ camEventFlds, Fld.isCount f = false := by decide
    exact hget f (hcount f hf) (Ne.symm h1) (Ne.symm h2)

/-- While an earlier action of the Cam is deferred nothing is issued (R148). -/
theorem State.camActs_overrun (h : u.cams.deferred.any (fun d => d.cam == n) = true) :
    u.camActs n act arg = (u.bump Reg.CAMS.DEFER_COUNT.OVERRUN).raise Reg.CAMS.EVENT.OVERRUN := if_pos h

theorem State.camSignal_eq (u : State) (act : Nat) : ∃ r h, u.camSignal act = { u with regs := r, hw := h } := by
  unfold State.camSignal
  split <;> exact ⟨_, _, rfl⟩

theorem State.camSignal_cams (u : State) (act : Nat) : (u.camSignal act).cams = u.cams := by
  obtain ⟨_, _, h⟩ := u.camSignal_eq act
  rw [h]

theorem State.camHeld_signal (u : State) (a act arg : Nat) : (u.camSignal a).camHeld act arg = u.camHeld act arg := by
  refine State.camHeld_congr ?_ ?_ ?_ ?_ act arg
  all_goals
    unfold State.camSignal
    split
  · rfl
  · rfl
  · exact State.get_raise_ne _ (by decide)
  all_goals rfl

/-- No earlier action of the Cam waits: by the regions held among those it would act on (R146 to R148). -/
theorem State.camActs_free (h : u.cams.deferred.any (fun d => d.cam == n) = false) : u.camActs n act arg =
    if u.camHeld act arg = 0 then (u.camSignal act).camDue n act arg 0
    else if u.cfg (Reg.CAMS.CAM_FLAGS.DEFER_END n) = 1 then
      { u.camSignal act with cams := { u.cams with deferred := u.cams.deferred ++ [⟨n, u.camHeld act arg, act, arg⟩] } }
    else ((u.camSignal act).raise Reg.CAMS.EVENT.EXCLUDED).camDue n act arg (u.camHeld act arg) := by
  obtain ⟨r, hw, hsig⟩ := u.camSignal_eq act
  have hcfg : ∀ f, (u.camSignal act).cfg f = u.cfg f := fun f => by rw [hsig]; rfl
  rw [← u.camHeld_signal act, ← u.camSignal_cams act, ← hcfg]
  unfold State.camActs
  rw [if_neg (by rw [h]; decide)]
  unfold State.camHeld
  dsimp only
  cases (u.camSignal act).camTarget act arg with
  | none => rw [Option.getD_none, Nat.zero_and, if_pos rfl]
  | some t => rfl

/-- Another Cam comes before this one in the fc (R140, R143). -/
def State.camWaits (s : State) (n : Nat) : Bool :=
  if s.camOverdue n then s.camBefore n true else s.camBefore 64 true || s.camBefore n false

theorem exec_camFire_idle {cam : BitVec 6} (h : s.camReady cam.toNat = false
    ∨ (s.camOverdue cam.toNat = false ∧ s.camCrossed cam.toNat = false) ∨ s.camWaits cam.toNat = true) :
    exec (.camFire cam) s = .next s := by
  refine congrArg Host.Outcome.next ?_
  unfold State.camWaits at h
  rcases h with h | ⟨h1, h2⟩ | h
  · rw [if_neg (by rw [h]; decide)]
  · rw [if_neg (c := s.camOverdue _ = true) (by rw [h1]; decide), if_neg (c := s.camCrossed _ = true) (by rw [h2]; decide)]
    exact ite_self s
  · split
    · split at h
      next h1 => rw [if_pos h1, if_pos h]
      next h1 =>
        rw [if_neg h1, if_pos h]
        exact ite_self s
    · rfl

theorem exec_camFire_fires {cam : BitVec 6} (hr : s.camReady cam.toNat = true)
    (hd : s.camOverdue cam.toNat = true ∨ s.camCrossed cam.toNat = true) (hb : s.camWaits cam.toNat = false) :
    exec (.camFire cam) s = .next ((s.camFired cam.toNat (s.camOverdue cam.toNat)).camActs cam.toNat (s.camAction cam.toNat)
      (s.camArg cam.toNat)) := by
  rw [← State.camFires_eq cam.isLt]
  refine congrArg Host.Outcome.next ?_
  unfold State.camWaits at hb
  rw [if_pos hr]
  split at hb
  next h1 => rw [if_pos h1, if_neg (by rw [hb]; decide), h1]
  next h1 => rw [if_neg h1, if_pos (hd.resolve_left h1), if_neg (by rw [hb]; decide), Bool.eq_false_of_not_eq_true h1]

end CamFires

/-! ### What becomes of the action -/

section CamActions

variable {s : State} {n : Nat}

/-- While an earlier action of the Cam is deferred, OVERRUN counts (R148). -/
theorem State.camFired_overrun (late : Bool) (act arg : Nat) (h : s.cams.deferred.any (fun d => d.cam == n) = true) :
    let t := (s.camFired n late).camActs n act arg
    s.firedAs t n late ∧ t.get Reg.CAMS.EVENT.OVERRUN = 1 ∧ t.cams.deferred = s.cams.deferred
      ∧ s.counted t Reg.CAMS.DEFER_COUNT.OVERRUN 1 := by
  obtain ⟨-, hdef, -, hget⟩ := s.camFired_reads n late
  rw [State.camActs_overrun (by rw [hdef]; exact h)]
  refine ⟨((s.camFired_firedAs n late).bump (by decide)).raise (by decide), State.get_raise_same _ rfl, hdef, ?_⟩
  refine (State.get_raise_ne _ (by decide)).trans ?_
  rw [State.bump, State.get_bumpBy_same, hget _ (by decide)]

theorem State.camSignal_spec (u : State) (act : Nat) (late : Bool) (h : s.firedAs u n late) : s.firedAs (u.camSignal act) n late
    ∧ (act = 5 → (u.camSignal act).get Reg.CAMS.EVENT.CAM_IRQ = 1) := by
  unfold State.camSignal
  split
  · exact ⟨h.raise (by decide), fun _ => State.get_raise_same _ rfl⟩
  next h5 => exact ⟨h, fun h => absurd h h5⟩

/-- The three ways of an action that no earlier one holds up (R146 to R148). -/
theorem State.camFired_free (late : Bool) (act arg : Nat) (h : s.cams.deferred.any (fun d => d.cam == n) = false) :
    let t := (s.camFired n late).camActs n act arg
    (s.camHeld act arg = 0 → ∃ u : State, t = u.camDue n act arg 0 ∧ s.firedAs u n late ∧ (act = 5 → u.get Reg.CAMS.EVENT.CAM_IRQ = 1))
    ∧ (s.camHeld act arg ≠ 0 → s.cfg (Reg.CAMS.CAM_FLAGS.DEFER_END n) = 1 → s.firedAs t n late
      ∧ t.cams.deferred = s.cams.deferred ++ [⟨n, s.camHeld act arg, act, arg⟩])
    ∧ (s.camHeld act arg ≠ 0 → s.cfg (Reg.CAMS.CAM_FLAGS.DEFER_END n) ≠ 1 →
      ∃ u : State, t = u.camDue n act arg (s.camHeld act arg) ∧ s.firedAs u n late ∧ u.get Reg.CAMS.EVENT.EXCLUDED = 1) := by
  obtain ⟨hr0, hdef, hheld, -⟩ := s.camFired_reads n late
  obtain ⟨hsig, hirq⟩ := State.camSignal_spec (s.camFired n late) act late (s.camFired_firedAs n late)
  have hcfg : ∀ f, (s.camFired n late).cfg f = s.cfg f := fun f => by rw [State.cfg, hr0, State.cfg]
  rw [State.camActs_free (by rw [hdef]; exact h), hheld, hcfg]
  refine ⟨fun h0 => ?_, fun h0 hd => ?_, fun h0 hd => ?_⟩
  · rw [if_pos h0]
    exact ⟨_, rfl, hsig, hirq⟩
  · rw [if_neg h0, if_pos hd]
    have hcams := State.camSignal_cams (s.camFired n late) act
    exact ⟨hsig.congr rfl rfl (by rw [hcams]) (by rw [hcams]) rfl rfl rfl, by rw [hdef]⟩
  · rw [if_neg h0, if_neg hd]
    exact ⟨_, rfl, hsig.raise (by decide), State.get_raise_same _ rfl⟩

/-- A deferred action whose regions have reached END (R147). -/
def State.deferredDue (s : State) (n : Nat) : Option Deferred := s.cams.deferred.find? (fun d => d.cam == n && d.awaited == 0)

/-- The deferred action is taken out and counted. -/
def State.deferredTaken (s : State) (d : Deferred) : State :=
  (({ s with cams := { s.cams with deferred := s.cams.deferred.erase d } } : State).bump Reg.CAMS.DEFER_COUNT.DEFERRED).raise
    Reg.CAMS.EVENT.DEFERRED

theorem State.deferredTaken_held (s : State) (d : Deferred) : (s.deferredTaken d).camHeld d.act d.arg = s.camHeld d.act d.arg := by
  refine State.camHeld_congr (s := s) (t := s.deferredTaken d) rfl ?_ rfl rfl d.act d.arg
  exact (State.get_raise_ne _ (by decide)).trans (State.get_bump_ne _ (by decide))

theorem exec_deferredActionIssue {cam : BitVec 6} {d : Deferred} (h : s.deferredDue cam.toNat = some d) :
    exec (.deferredActionIssue cam) s = .next (if s.camHeld d.act d.arg = 0 then (s.deferredTaken d).camDue cam.toNat d.act d.arg 0
      else ((s.deferredTaken d).raise Reg.CAMS.EVENT.EXCLUDED).camDue cam.toNat d.act d.arg (s.camHeld d.act d.arg)) := by
  rw [← State.deferredTaken_held]
  unfold State.deferredDue at h
  exact congrArg Host.Outcome.next (by rw [h]; rfl)

theorem State.deferredTaken_spec (s : State) (d : Deferred) : (s.deferredTaken d).cams.deferred = s.cams.deferred.erase d
    ∧ (s.deferredTaken d).get Reg.CAMS.EVENT.DEFERRED = 1 ∧ s.counted (s.deferredTaken d) Reg.CAMS.DEFER_COUNT.DEFERRED 1
    ∧ (s.deferredTaken d).agents = s.agents := by
  refine ⟨rfl, State.get_raise_same _ rfl, ?_, rfl⟩
  exact (State.get_raise_ne _ (by decide)).trans (State.get_bumpBy_same _ _ _)

/-- A deferred action is issued without the regions held now (R147). -/
theorem State.deferredIssue_spec {cam : BitVec 6} {d : Deferred} (h : s.deferredDue cam.toNat = some d) :
    ∃ u : State, exec (.deferredActionIssue cam) s = .next (u.camDue cam.toNat d.act d.arg (s.camHeld d.act d.arg))
      ∧ u.cams.deferred = s.cams.deferred.erase d ∧ u.get Reg.CAMS.EVENT.DEFERRED = 1
      ∧ (s.camHeld d.act d.arg ≠ 0 → u.get Reg.CAMS.EVENT.EXCLUDED = 1) ∧ s.counted u Reg.CAMS.DEFER_COUNT.DEFERRED 1
      ∧ u.agents = s.agents := by
  obtain ⟨h1, h2, h3, h4⟩ := s.deferredTaken_spec d
  rw [exec_deferredActionIssue h]
  by_cases h0 : s.camHeld d.act d.arg = 0
  · rw [if_pos h0]
    exact ⟨_, by rw [h0], h1, h2, fun hn => absurd h0 hn, h3, h4⟩
  · rw [if_neg h0]
    exact ⟨_, rfl, h1, (State.get_raise_ne _ (by decide)).trans h2, fun _ => State.get_raise_same _ rfl,
      (State.get_raise_ne _ (by decide)).trans h3, h4⟩

end CamActions

/-- Settles O15: which Cams fire, what shows a firing, and when its action is issued, deferred or reduced. -/
theorem camsFireAtTheirAngle : Obligations.CamsFireAtTheirAngle := by
  unfold Obligations.CamsFireAtTheirAngle
  intro cam s
  refine ⟨exec_camFire_idle, fun hr hd hb => ⟨fun hdef => ?_, fun hdef => ?_⟩, fun d h => State.deferredIssue_spec h, fun h => ?_⟩
  · exact ⟨_, exec_camFire_fires hr hd hb, State.camFired_overrun _ _ _ hdef⟩
  · rw [exec_camFire_fires hr hd hb]
    obtain ⟨hclear, hwait, hexcl⟩ := State.camFired_free (s.camOverdue cam.toNat) (s.camAction cam.toNat) (s.camArg cam.toNat) hdef
    refine ⟨fun h0 => ?_, fun h0 hd => ⟨_, rfl, hwait h0 hd⟩, fun h0 hd => ?_⟩
    · obtain ⟨u, hu, hspec⟩ := hclear h0
      exact ⟨u, congrArg _ hu, hspec⟩
    · obtain ⟨u, hu, hspec⟩ := hexcl h0 hd
      exact ⟨u, congrArg _ hu, hspec⟩
  · exact congrArg Host.Outcome.next (by rw [h])

end Sys2Proof.Machine

/-! PROOF. The Passing Ring (chapter 14): what a message that arrives makes a hub send, keep and do, the census, and a lane that
goes down. -/

namespace Sys2Proof.Machine

/-! ### A message arrives (R505, R507, R508) -/

section RingMessage

variable {s v : State} {east : Bool} {m : RingMsg}

/-- A valid message has come on a lane that is up (R510). -/
def State.laneHeard (s : State) (east : Bool) : State :=
  { s with team := if east then { s.team with eastFc := s.fc } else { s.team with westFc := s.fc } }

/-- The UP bit of a lane. -/
def laneUp (east : Bool) : Fld := if east then Reg.TEAM.RING_STATUS.EAST_UP else Reg.TEAM.RING_STATUS.WEST_UP

theorem State.laneAlive_up (h : s.get (laneUp east) = 1) : s.laneAlive east = s.laneHeard east := by
  unfold laneUp at h
  unfold State.laneAlive
  cases east with
  | true => exact if_neg fun h0 => absurd (h.symm.trans h0) (by decide)
  | false => exact if_neg fun h0 => absurd (h.symm.trans h0) (by decide)

/-- From `s` to `t` only the team's state changes, and neither the messages kept nor those seen. -/
def State.sentOnly (s t : State) : Prop :=
  ∃ tm, t = { s with team := tm } ∧ tm.inbox = s.team.inbox ∧ tm.seen = s.team.seen

theorem State.laneHeard_sent (s : State) (east : Bool) : s.sentOnly (s.laneHeard east) ∧ (s.laneHeard east).team.tx = s.team.tx
    ∧ (s.laneHeard east).txNow = s.txNow := by
  cases east <;> exact ⟨⟨_, rfl, rfl, rfl⟩, rfl, rfl⟩

/-- The message is forwarded on the other lane, unless it has come by 255 hops (R507). -/
def State.ringPassed (s : State) (east : Bool) (m : RingMsg) : State :=
  if m.hops.toNat = 255 then s.laneHeard east else (s.laneHeard east).laneSend (if east then 1 else 0) (forwarded m (!east))

theorem State.ringPassed_sent (s : State) (east : Bool) (m : RingMsg) : s.sentOnly (s.ringPassed east m)
    ∧ if m.hops.toNat = 255 then (s.ringPassed east m).team.tx = s.team.tx
      else (s.ringPassed east m).team.tx = s.txNow ++ [(if east then 1 else 0, forwarded m (!east))] := by
  unfold State.ringPassed
  cases east <;> split <;> exact ⟨⟨_, rfl, rfl, rfl⟩, rfl⟩

/-- The numbers seen of an origin once `n` has come: the last 256 (R507). -/
def seenNow (l : List Nat) (n : Nat) : List Nat := (l ++ [n]).drop ((l ++ [n]).length - 256)

theorem mem_seenNow (l : List Nat) (n : Nat) : n ∈ seenNow l n := by
  have h : (l ++ [n]).length - 256 ≤ l.length := by
    rw [List.length_append, List.length_singleton]
    omega
  rw [seenNow, List.drop_append_of_le_length h]
  exact List.mem_append_right _ (List.mem_singleton_self n)

/-- The message counts as seen from now on. -/
def State.ringNoted (s : State) (m : RingMsg) : State :=
  { s with team := { s.team with
      seen := Sparse.ins s.team.seen m.origin.toNat (seenNow (Sparse.get s.team.seen m.origin.toNat []) m.seq.toNat) } }

/-- A message of this origin and number has been seen. -/
def State.ringSeen (s : State) (m : RingMsg) : Bool := (Sparse.get s.team.seen m.origin.toNat []).contains m.seq.toNat

/-- The message is addressed to this member (Table 14-1). -/
def State.ringMine (s : State) (m : RingMsg) : Bool := m.all || m.target.toNat == s.memberId

theorem exec_ringMessage_deep {lane : Lane} (h : 2 < s.power) : exec (.ringMessage lane m) s = .next s :=
  congrArg Host.Outcome.next (if_pos h)

theorem exec_ringMessage_crc {lane : Lane} (h : s.power ≤ 2) (hc : m.crcOk = false) :
    exec (.ringMessage lane m) s = .next (s.bump Reg.TEAM.RING_STATUS.CRC_ERRS) :=
  congrArg Host.Outcome.next ((if_neg (by omega)).trans (if_pos hc))

/-- A valid message on a lane that is up. -/
theorem exec_ringMessage_valid {lane : Lane} (hl : (lane == .east) = east) (hp : s.power ≤ 2) (hc : m.crcOk = true)
    (hu : s.get (laneUp east) = 1) : exec (.ringMessage lane m) s = .next (
      if s.teamRole = trSolo then (s.laneHeard east).laneSend (if east then 1 else 0) m
      else if m.origin.toNat = s.memberId then s.laneHeard east
      else if s.ringSeen m then s.ringPassed east m
      else if s.ringMine m then ((s.ringPassed east m).ringNoted m).ringAct m
      else (s.ringPassed east m).ringNoted m) := by
  refine congrArg Host.Outcome.next ?_
  dsimp only
  rw [if_neg (by omega), if_neg (by rw [hc]; decide), hl, State.laneAlive_up hu]
  by_cases hsolo : s.teamRole = trSolo
  · rw [if_pos hsolo]
    exact if_pos hsolo
  by_cases hown : m.origin.toNat = s.memberId
  · rw [if_neg hsolo, if_pos hown]
    exact (if_neg hsolo).trans (if_pos hown)
  obtain ⟨⟨tm, hpass, -, hseen⟩, -⟩ := s.ringPassed_sent east m
  have hsn : (s.ringPassed east m).ringSeen m = s.ringSeen m := by
    rw [hpass, State.ringSeen, State.ringSeen]
    dsimp only
    rw [hseen]
  have hmine : (s.ringPassed east m).ringMine m = s.ringMine m := by
    rw [hpass]
    rfl
  rw [if_neg hsolo, if_neg hown, ← hsn, ← hmine]
  refine (if_neg hsolo).trans ((if_neg hown).trans ?_)
  change (if (s.ringPassed east m).ringSeen m then s.ringPassed east m else
    if m.all = true ∨ m.target.toNat = (s.ringPassed east m).memberId then ((s.ringPassed east m).ringNoted m).ringAct m
    else (s.ringPassed east m).ringNoted m) = _
  simp only [State.ringMine, Bool.or_eq_true, beq_iff_eq]

/-! What a hub does with a message that it keeps. -/

theorem State.ringAct_kept {w : State} (ht : m.type ∈ ([1, 3, 4, 6, 7] : List (BitVec 7))) : ∃ rv, w.ringAct m
    = { w with team := { w.team with inbox := w.team.inbox ++ [(w.fc, m)], rivals := rv } } := by
  have hn : ∀ y ∈ ([1, 3, 4, 6, 7] : List (BitVec 7)), y.toNat ≠ mtHeartbeat ∧ y.toNat ≠ mtCensus ∧ ¬ (y.toNat = 0 ∨ mtEcho < y.toNat) := by
    decide
  obtain ⟨h2, h5, h0⟩ := hn _ ht
  unfold State.ringAct
  dsimp only
  rw [if_neg h2, if_neg h5, if_neg h0]
  split <;> exact ⟨_, rfl⟩

/-- The member has been heard in this fc (R518). -/
def State.heardNow (s : State) (o : Nat) : State :=
  { s with team := { s.team with heard := Sparse.ins s.team.heard o ((Sparse.get s.team.heard o (s.fc, s.fc)).1, s.fc) } }

/-- A member that was missing is back (R520). -/
def State.backNoted (s : State) (o : Nat) : State :=
  if s.isMissing o then { s with team := { s.team with rejoin := s.team.rejoin ++ [o] } } else s

/-- Another manager has been heard (R521). -/
def State.rivalNoted (s : State) (o : Nat) (m : RingMsg) : State :=
  if payloadByte m 1 = trManager ∧ s.teamRole = trManager then { s with team := { s.team with rivals := s.team.rivals ++ [o] } } else s

theorem State.backNoted_eq (s : State) (o : Nat) : ∃ rj, s.backNoted o = { s with team := { s.team with rejoin := rj } }
    ∧ (s.isMissing o = true → o ∈ rj) := by
  unfold State.backNoted
  split
  · exact ⟨_, rfl, fun _ => List.mem_append_right _ (List.mem_singleton_self o)⟩
  next h => exact ⟨_, rfl, fun hm => absurd hm h⟩

theorem State.rivalNoted_eq (s : State) (o : Nat) (m : RingMsg) : ∃ rv, s.rivalNoted o m = { s with team := { s.team with rivals := rv } } := by
  unfold State.rivalNoted
  split <;> exact ⟨_, rfl⟩

/-- A heartbeat without a fault is heard in this fc. -/
theorem State.heartbeat_heard {w : State} {o : Nat} (hf : payloadByte m 0 % 2 = 0) : ∃ hd rj rv, w.heartbeat o m
    = { w with team := { w.team with heard := hd, rejoin := rj, rivals := rv } }
    ∧ (Sparse.get hd o (0, 0)).2 = w.fc ∧ (w.isMissing o = true → o ∈ rj) := by
  have heq : w.heartbeat o m = ((w.heardNow o).backNoted o).rivalNoted o m := by
    unfold State.heartbeat
    rw [if_pos hf]
    rfl
  obtain ⟨rj, hrj, hmem⟩ := (w.heardNow o).backNoted_eq o
  obtain ⟨rv, hrv⟩ := ((w.heardNow o).backNoted o).rivalNoted_eq o m
  rw [heq, hrv, hrj]
  exact ⟨_, rj, rv, rfl, congrArg Prod.snd (Sparse.get_ins_same w.team.heard o _ _), hmem⟩

theorem State.ringAct_heartbeat {w : State} (ht : m.type = 2) : w.ringAct m = w.heartbeat m.origin.toNat m :=
  if_pos (by rw [ht]; rfl)

theorem State.ringAct_census {w : State} (ht : m.type = 5) : w.ringAct m = w.censusSeen m.origin.toNat (m.hops.toNat + 1) :=
  (if_neg (by rw [ht]; decide)).trans (if_pos (by rw [ht]; rfl))

/-- The manager that a census shows (R512). -/
theorem State.newManager_spec (s : State) {o : Nat} (ho : o < 256) : (s.newManager o).get Reg.TEAM.MEMBER_COUNT.MANAGER = o
    ∧ s.keeps (s.newManager o) [Reg.TEAM.MEMBER_COUNT.MANAGER] ∧ (s.newManager o).agents = s.agents := by
  have hput : (s.put Reg.TEAM.MEMBER_COUNT.MANAGER o).get Reg.TEAM.MEMBER_COUNT.MANAGER = o :=
    (State.get_put_same _ _ _).trans (Nat.mod_eq_of_lt ho)
  have hkeep : s.keeps (s.put Reg.TEAM.MEMBER_COUNT.MANAGER o) [Reg.TEAM.MEMBER_COUNT.MANAGER] := (s.keeps_rfl _).put o (by decide)
  unfold State.newManager
  dsimp only
  split
  next h => exact ⟨h, s.keeps_rfl _, rfl⟩
  · split
    · obtain ⟨tm, hc, -⟩ := (s.put Reg.TEAM.MEMBER_COUNT.MANAGER o).calStart_eq
      rw [hc]
      exact ⟨hput, hkeep, rfl⟩
    · exact ⟨hput, hkeep, rfl⟩

theorem State.censusSeen_spec (s : State) {o : Nat} (hops : Nat) (ho : o < 256) (hr : s.teamRole = trWorker) :
    (s.censusSeen o hops).get Reg.TEAM.RING_STATUS.MGR_HOPS = min hops 255 ∧ (s.censusSeen o hops).get Reg.TEAM.MEMBER_COUNT.MANAGER = o
      ∧ s.keeps (s.censusSeen o hops) [Reg.TEAM.RING_STATUS.MGR_HOPS, Reg.TEAM.MEMBER_COUNT.MANAGER]
      ∧ (s.censusSeen o hops).agents = s.agents := by
  unfold State.censusSeen
  rw [if_pos hr]
  dsimp only
  generalize hu : ({ s.put Reg.TEAM.RING_STATUS.MGR_HOPS (min hops 255) with team := _ } : State) = u
  have hget : ∀ g, u.get g = (s.put Reg.TEAM.RING_STATUS.MGR_HOPS (min hops 255)).get g := fun g => by rw [← hu]; rfl
  have hkeep : s.keeps u [Reg.TEAM.RING_STATUS.MGR_HOPS] := ((s.keeps_rfl _).put _ (by decide)).sameRegs hget
  obtain ⟨h1, h2, h3⟩ := u.newManager_spec ho
  refine ⟨?_, h1, hkeep.trans h2, h3.trans (by rw [← hu]; rfl)⟩
  rw [h2 _ rfl (by decide), hget, State.get_put_same]
  exact Nat.mod_eq_of_lt (Nat.lt_succ_of_le (min_le_right hops 255))

/-- What a member has sent on of the message (R507). -/
def State.ringSent (s t : State) (east : Bool) (m : RingMsg) : Prop :=
  if m.hops.toNat = 255 then t.team.tx = s.team.tx
  else t.team.tx = s.txNow ++ [(if east then 1 else 0, forwarded m (!east))]

/-- From `s` to `t` no agent and no hub register changes. -/
def State.teamOnly (s t : State) : Prop := t.agents = s.agents ∧ ∀ f : Fld, t.get f = s.get f

/-- A member passes on what has been seen, or is not addressed to it, and does nothing more. -/
theorem State.ringPassed_only (s : State) (east : Bool) (m : RingMsg) : ∀ t ∈ [s.ringPassed east m, (s.ringPassed east m).ringNoted m],
    s.ringSent t east m ∧ t.team.inbox = s.team.inbox ∧ s.teamOnly t := by
  obtain ⟨⟨tm, h, hin, -⟩, hsent⟩ := s.ringPassed_sent east m
  have hpass : s.ringSent (s.ringPassed east m) east m ∧ (s.ringPassed east m).team.inbox = s.team.inbox
      ∧ s.teamOnly (s.ringPassed east m) := ⟨hsent, by rw [h]; exact hin, by rw [h]; exact ⟨rfl, fun _ => rfl⟩⟩
  intro t ht
  simp only [List.mem_cons, List.not_mem_nil, or_false] at ht
  rcases ht with rfl | rfl
  · exact hpass
  · exact hpass

/-- A first copy that a member keeps for its own command. -/
theorem State.ringKept_spec (s : State) (east : Bool) (ht : m.type ∈ ([1, 3, 4, 6, 7] : List (BitVec 7))) :
    let t := ((s.ringPassed east m).ringNoted m).ringAct m
    s.ringSent t east m ∧ t.team.inbox = s.team.inbox ++ [(s.fc, m)]
      ∧ (Sparse.get t.team.seen m.origin.toNat []).contains m.seq.toNat = true ∧ s.teamOnly t := by
  obtain ⟨hsent, hin, honly⟩ := s.ringPassed_only east m _ (.tail _ (.head _))
  have hfc : ((s.ringPassed east m).ringNoted m).fc = s.fc := by
    obtain ⟨⟨tm, h, -⟩, -⟩ := s.ringPassed_sent east m
    rw [h]
    rfl
  have hseen : (Sparse.get ((s.ringPassed east m).ringNoted m).team.seen m.origin.toNat []).contains m.seq.toNat = true := by
    refine (congrArg (List.contains · m.seq.toNat) (Sparse.get_ins_same _ _ _ _)).trans ?_
    exact List.contains_iff_mem.2 (mem_seenNow _ _)
  obtain ⟨rv, h⟩ := State.ringAct_kept (w := (s.ringPassed east m).ringNoted m) ht
  dsimp only
  rw [h]
  exact ⟨hsent, by rw [hin, hfc], hseen, honly⟩

/-- A first copy of a heartbeat without a fault. -/
theorem State.ringHeartbeat_spec (s : State) (east : Bool) (ht : m.type = 2) (hf : payloadByte m 0 % 2 = 0) :
    let t := ((s.ringPassed east m).ringNoted m).ringAct m
    s.ringSent t east m ∧ (Sparse.get t.team.heard m.origin.toNat (0, 0)).2 = s.fc
      ∧ (s.isMissing m.origin.toNat = true → m.origin.toNat ∈ t.team.rejoin) ∧ t.team.inbox = s.team.inbox ∧ s.teamOnly t := by
  obtain ⟨hsent, hin, honly⟩ := s.ringPassed_only east m _ (.tail _ (.head _))
  have hfc : ((s.ringPassed east m).ringNoted m).fc = s.fc := by
    obtain ⟨⟨tm, h, -⟩, -⟩ := s.ringPassed_sent east m
    rw [h]
    rfl
  have hmiss : ((s.ringPassed east m).ringNoted m).isMissing m.origin.toNat = s.isMissing m.origin.toNat := by
    rw [State.isMissing, honly.2, State.isMissing]
  obtain ⟨hd, rj, rv, h, hheard, hback⟩ := State.heartbeat_heard (w := (s.ringPassed east m).ringNoted m) (o := m.origin.toNat) hf
  dsimp only
  rw [State.ringAct_heartbeat ht, h]
  exact ⟨hsent, hheard.trans hfc, fun hm => hback (hmiss.trans hm), hin, honly⟩

/-- A first copy of a census at a worker. -/
theorem State.ringCensus_spec (s : State) (east : Bool) (ht : m.type = 5) (hr : s.teamRole = trWorker) :
    let t := ((s.ringPassed east m).ringNoted m).ringAct m
    t.get Reg.TEAM.RING_STATUS.MGR_HOPS = min (m.hops.toNat + 1) 255 ∧ t.get Reg.TEAM.MEMBER_COUNT.MANAGER = m.origin.toNat
      ∧ s.keeps t [Reg.TEAM.RING_STATUS.MGR_HOPS, Reg.TEAM.MEMBER_COUNT.MANAGER] ∧ t.agents = s.agents := by
  obtain ⟨-, -, hag, hget⟩ := s.ringPassed_only east m _ (.tail _ (.head _))
  have hrole : ((s.ringPassed east m).ringNoted m).teamRole = trWorker := (hget _).trans hr
  obtain ⟨h1, h2, h3, h4⟩ := ((s.ringPassed east m).ringNoted m).censusSeen_spec (m.hops.toNat + 1) m.origin.isLt hrole
  dsimp only
  rw [State.ringAct_census ht]
  exact ⟨h1, h2, ((s.keeps_rfl []).sameRegs hget).trans h3, h4.trans hag⟩

/-- The four ends of a valid message on a lane that is up: a SOLO hub's, a member's own, one that is only passed on, and a first
copy that is acted on. -/
theorem exec_ringMessage_spec {lane : Lane} (hl : (lane == .east) = east) (hp : s.power ≤ 2) (hc : m.crcOk = true)
    (hu : s.get (laneUp east) = 1) :
    (s.teamRole = trSolo → ∃ t : State, exec (.ringMessage lane m) s = .next t
      ∧ t.team.tx = s.txNow ++ [(if east then 1 else 0, m)] ∧ t.team.inbox = s.team.inbox ∧ t.team.seen = s.team.seen ∧ s.teamOnly t)
    ∧ (s.teamRole ≠ trSolo →
      (m.origin.toNat = s.memberId → ∃ t : State, exec (.ringMessage lane m) s = .next t ∧ t.team.tx = s.team.tx
        ∧ t.team.inbox = s.team.inbox ∧ s.teamOnly t)
      ∧ (m.origin.toNat ≠ s.memberId → s.ringSeen m = true ∨ s.ringMine m = false → ∃ t : State, exec (.ringMessage lane m) s = .next t
        ∧ s.ringSent t east m ∧ t.team.inbox = s.team.inbox ∧ s.teamOnly t)
      ∧ (m.origin.toNat ≠ s.memberId → s.ringSeen m = false → s.ringMine m = true →
        exec (.ringMessage lane m) s = .next (((s.ringPassed east m).ringNoted m).ringAct m))) := by
  have hex := exec_ringMessage_valid (m := m) hl hp hc hu
  refine ⟨fun hsolo => ?_, fun hsolo => ⟨fun hown => ?_, fun hown hpass => ?_, fun hown hseen hmine => ?_⟩⟩
  · rw [if_pos hsolo] at hex
    refine ⟨_, hex, ?_⟩
    cases east <;> exact ⟨rfl, rfl, rfl, rfl, fun _ => rfl⟩
  · rw [if_neg hsolo, if_pos hown] at hex
    refine ⟨_, hex, ?_⟩
    cases east <;> exact ⟨rfl, rfl, rfl, fun _ => rfl⟩
  · rw [if_neg hsolo, if_neg hown] at hex
    by_cases hseen : s.ringSeen m = true
    · rw [if_pos hseen] at hex
      exact ⟨_, hex, s.ringPassed_only east m _ (.head _)⟩
    · rw [if_neg hseen, if_neg (by rw [hpass.resolve_left hseen]; decide)] at hex
      exact ⟨_, hex, s.ringPassed_only east m _ (.tail _ (.head _))⟩
  · rw [if_neg hsolo, if_neg hown, if_neg (by rw [hseen]; decide), if_pos hmine] at hex
    exact hex

end RingMessage
/-! ### Messages of the member's own (R501) -/

section Originate

variable {s : State}

/-- A hub in a team originates its message, or leaves it to the lane owner that the Toss brings (R501). -/
theorem State.ringSend_originated (s : State) (all : Bool) {type : Nat} (target payload : Nat) (hr : s.teamRole ≠ trSolo) (ht : type ≠ mtWheel) :
    s.originated (s.ringSend all type target payload) all type target payload := by
  have hrole : ¬ s.get Reg.TEAM.ROLE.ROLE = 0 := hr
  have htype : ¬ type = 1 := ht
  unfold State.originated State.ringSend State.ringOut
  dsimp only
  by_cases hsil : s.ownerSilent = true ∧ type ≠ 2
  · rw [if_pos hsil, if_neg htype, if_pos (c := s.ownerSilent = true ∧ type ≠ mtHeartbeat) hsil]
    exact ⟨rfl, rfl⟩
  · rw [if_neg hsil, if_neg hrole, if_neg (c := s.ownerSilent = true ∧ type ≠ mtHeartbeat) hsil]
    exact ⟨rfl, rfl, rfl⟩

end Originate

/-! ### The messages that wait (R129, R130, R511, R512) -/

section Waiting

variable {s : State} {e : Nat × RingMsg}

theorem exec_wheelMessage_some (h : s.ringFirst mtWheel = some e) : exec .wheelMessage s = .next (if ¬ s.wheelEdge then s
    else if s.teamRole = trWorker ∧ s.wheel.sel = 2 then
      (s.ringTake e).takeMarkAt (s.fc - e.1 + s.cfg Reg.WHEEL.SUBNOTCH_CAL.RING_DELAY) (some e.2.payload.toNat)
    else s.ringTake e) := congrArg Host.Outcome.next (by rw [h]; rfl)

theorem exec_probe_some (h : s.ringFirst mtProbe = some e) : exec .probe s = .next (if s.teamRole = trManager then
    (s.ringTake e).ringSend false mtEcho e.2.origin.toNat (e.2.payload.toNat % 65536) else s.ringTake e) :=
  congrArg Host.Outcome.next (by rw [h]; rfl)

/-- A manager answers the PROBE (R512). -/
theorem State.probe_answered (h : s.ringFirst mtProbe = some e) (hr : s.teamRole = trManager) : ∃ t, exec .probe s = .next t
    ∧ s.originated t false mtEcho e.2.origin.toNat (e.2.payload.toNat % 65536) ∧ t.team.inbox = s.team.inbox.erase e ∧ s.sameRegs t
    ∧ t.agents = s.agents := by
  have hex := exec_probe_some h
  rw [if_pos hr] at hex
  have horig := (s.ringTake e).ringSend_originated false (type := mtEcho) e.2.origin.toNat (e.2.payload.toNat % 65536)
    (by rw [show (s.ringTake e).teamRole = _ from hr]; decide) (by decide)
  obtain ⟨_, _, _, _, hsend⟩ := (s.ringTake e).ringSend_eq false mtEcho e.2.origin.toNat (e.2.payload.toNat % 65536)
  refine ⟨_, hex, horig, ?_, ?_, ?_⟩
  all_goals rw [hsend]
  · rfl
  · exact fun _ => rfl
  · rfl

/-- The ECHO of the outstanding PROBE gives the round trip (R130). -/
theorem State.echo_measured {n f : Nat} (h : s.ringFirst mtEcho = some e) (hp : s.team.probe = some (n, f))
    (hn : n = e.2.payload.toNat % 65536) : ∃ t, exec .echo s = .next t ∧ t.team.rtt = some ((e.1 - f) / 2) ∧ t.team.probe = none
      ∧ t.team.inbox = s.team.inbox.erase e ∧ s.sameRegs t ∧ t.agents = s.agents := by
  have hex : exec .echo s = .next { s.ringTake e with team := { (s.ringTake e).team with probe := none, rtt := some ((e.1 - f) / 2) } } := by
    refine congrArg Host.Outcome.next ?_
    rw [h]
    dsimp only
    rw [show (s.ringTake e).team.probe = some (n, f) from hp]
    exact if_pos hn
  exact ⟨_, hex, rfl, rfl, rfl, fun _ => rfl, rfl⟩

/-- A seeking worker takes the message as its first mark, with the count it brings (R511). -/
theorem State.wheelMessage_locks (h : s.ringFirst mtWheel = some e) (he : s.wheelEdge = true) (hr : s.teamRole = trWorker)
    (hsel : s.wheel.sel = 2) (hst : s.get Reg.WHEEL.SOURCE.STATE = wheelSeeking)
    (hk : s.wheel.k = s.fc - e.1 + s.cfg Reg.WHEEL.SUBNOTCH_CAL.RING_DELAY) (hm : s.wheel.selfMade = true) :
    ∃ t, exec .wheelMessage s = .next t ∧ t.get Reg.WHEEL.SOURCE.STATE = wheelLocked ∧ t.wheel.rev = e.2.payload.toNat
      ∧ t.get Reg.WHEEL.EVENT.LOCKED = 1 ∧ t.get Reg.WHEEL.SLIP.D = 0 ∧ t.team.inbox = s.team.inbox.erase e
      ∧ (e.2.payload.toNat ≠ s.wheel.rev → t.get Reg.WHEEL.EVENT.REV_JUMP = 1)
      ∧ s.keeps t [Reg.WHEEL.SOURCE.STATE, Reg.WHEEL.EVENT.LOCKED, Reg.WHEEL.SLIP.D, Reg.WHEEL.EVENT.REV_JUMP] ∧ t.agents = s.agents := by
  obtain ⟨t, ht, h1, h2, h3, hrev, -, hin, hjump, hkeep, hag⟩ := State.takeMarkAt_first (s := s.ringTake e) (some e.2.payload.toNat) hst hk hm
  have hex := exec_wheelMessage_some h
  rw [if_neg (by rw [he]; decide), if_pos ⟨hr, hsel⟩, ht] at hex
  exact ⟨t, hex, h1, hrev, h2, h3, hin, hjump _ rfl, hkeep, hag⟩

end Waiting

/-! ### The census (R509) -/

section Census

variable {s : State}

/-- A census of this fc goes round the ring. -/
def State.censusBegun (s : State) : State := { s with team := { s.team with censusDue := false, census := some s.fc } }

theorem State.census_sent (hr : s.teamRole = trManager) (hd : s.team.censusDue = true) : ∃ t, exec .census s = .next t
    ∧ s.originated t true mtCensus 0 1 ∧ t.team.censusDue = false ∧ t.team.census = some s.fc ∧ s.sameRegs t ∧ t.agents = s.agents := by
  have hex : exec .census s = .next (s.censusBegun.ringSend true mtCensus 0 1) := congrArg Host.Outcome.next (if_pos ⟨hr, hd⟩)
  have horig := s.censusBegun.ringSend_originated true (type := mtCensus) 0 1
    (by rw [show s.censusBegun.teamRole = _ from hr]; decide) (by decide)
  obtain ⟨_, _, _, _, hsend⟩ := s.censusBegun.ringSend_eq true mtCensus 0 1
  refine ⟨_, hex, horig, ?_, ?_, ?_, ?_⟩
  all_goals rw [hsend]
  · rfl
  · rfl
  · exact fun _ => rfl
  · rfl

/-- The members' hops as the census brings them. -/
def censusHops (ms : List (Byte × Byte)) : Sparse Nat := ms.foldl (fun m e => Sparse.ins m e.1.toNat e.2.toNat) []

/-- The state when the census has come round, before a duplicate is reported (R509). -/
def State.censusShown (s : State) (hops judged : Sparse Nat) : State :=
  let s := { s with team := { s.team with census := none, hops := hops, judged := judged } }
  let s := (s.put Reg.TEAM.MEMBER_COUNT.VALID 1).put Reg.TEAM.MEMBER_COUNT.COUNT (hops.length + 1)
  let s := s.put Reg.TEAM.MEMBER_COUNT.MANAGER s.memberId
  let s := s.put Reg.TEAM.RING_STATUS.FAR_HOPS (hops.foldl (fun n e => max n e.2) 0)
  let s := s.put Reg.TEAM.RING_STATUS.MGR_HOPS 0
  let s := s.put Reg.TEAM.RING_STATUS.CHAIN
    (bit (s.get Reg.TEAM.RING_STATUS.EAST_UP == 0 || s.get Reg.TEAM.RING_STATUS.WEST_UP == 0))
  s.raise Reg.TEAM.EVENT.CENSUS_DONE

theorem bit_mod_two (b : Bool) : bit b % 2 = bit b := by cases b <;> rfl

theorem State.censusShown_spec (s : State) (hops judged : Sparse Nat) : let t := s.censusShown hops judged
    t.get Reg.TEAM.MEMBER_COUNT.VALID = 1 ∧ t.get Reg.TEAM.MEMBER_COUNT.COUNT = (hops.length + 1) % 512
      ∧ t.get Reg.TEAM.MEMBER_COUNT.MANAGER = s.memberId % 256 ∧ t.get Reg.TEAM.RING_STATUS.MGR_HOPS = 0
      ∧ t.get Reg.TEAM.RING_STATUS.CHAIN = bit (s.get Reg.TEAM.RING_STATUS.EAST_UP == 0 || s.get Reg.TEAM.RING_STATUS.WEST_UP == 0)
      ∧ t.get Reg.TEAM.EVENT.CENSUS_DONE = 1 ∧ t.get Reg.TEAM.FAULT.CENSUS_DUP = s.get Reg.TEAM.FAULT.CENSUS_DUP := by
  have hteam : ∀ (tm : Team) (g : Fld), ({ s with team := tm } : State).get g = s.get g := fun _ _ => rfl
  unfold State.censusShown State.memberId
  refine ⟨?_, ?_, ?_, ?_, ?_, State.get_raise_same _ rfl, ?_⟩
  all_goals simp (disch := decide) only [State.get_raise_ne, State.get_put_ne, State.get_put_same, hteam]
  · rfl
  · rfl
  · rfl
  · rfl
  · exact bit_mod_two _

theorem State.censusShown_rest (s : State) (hops judged : Sparse Nat) : (s.censusShown hops judged).team.census = none
    ∧ (s.censusShown hops judged).team.hops = hops ∧ (s.censusShown hops judged).agents = s.agents := by
  unfold State.censusShown
  simp only [State.raise_team, State.put_team, State.raise_agents, State.put_agents, and_self]

/-- What the census shows, of which no field is the fault of a duplicate. -/
def censusFlds : List Fld := [Reg.TEAM.MEMBER_COUNT.VALID, Reg.TEAM.MEMBER_COUNT.COUNT, Reg.TEAM.MEMBER_COUNT.MANAGER,
  Reg.TEAM.RING_STATUS.MGR_HOPS, Reg.TEAM.RING_STATUS.CHAIN, Reg.TEAM.EVENT.CENSUS_DONE]

theorem State.get_censusDup {g : Fld} (hg : g ∈ censusFlds) (s : State) : (s.fault Slot.TEAM 10 0).get g = s.get g := by
  have hne : ∀ g ∈ censusFlds, g.key ≠ Reg.TEAM.FAULT.CENSUS_DUP.key ∧ g.key ≠ (Hdr.FAULT_INFO_FIRST Slot.TEAM).key
      ∧ g.key ≠ (Hdr.FAULT_INFO_DETAIL Slot.TEAM).key := by decide
  obtain ⟨h1, h2, h3⟩ := hne g hg
  exact s.get_fault_ne Slot.TEAM 10 0 h1 h2 h3

/-- The members that the census found are judged from now on (R518). -/
def State.judgedNow (s : State) (hops : Sparse Nat) : Sparse Nat :=
  hops.foldl (fun j e => if Sparse.has j e.1 then j else Sparse.ins j e.1 s.fc) s.team.judged

theorem exec_censusDone (ms : List (Byte × Byte)) (dup : Bool) (hr : s.teamRole = trManager) (hc : s.team.census.isSome = true) :
    exec (.censusDone ms dup) s = .next (if dup = true then (s.censusShown (censusHops ms) (s.judgedNow (censusHops ms))).fault Slot.TEAM 10 0
      else s.censusShown (censusHops ms) (s.judgedNow (censusHops ms))) := by
  have hdue : s.teamRole = trManager ∧ s.team.census.isSome = true := ⟨hr, hc⟩
  change execCensusDone ms dup s = _
  unfold execCensusDone
  rw [if_pos hdue]
  rfl

/-- The census has come round (R509). -/
theorem State.censusDone_spec (ms : List (Byte × Byte)) (dup : Bool) (hr : s.teamRole = trManager) (hc : s.team.census.isSome = true) :
    ∃ t, exec (.censusDone ms dup) s = .next t ∧ t.team.census = none
        ∧ t.team.hops = censusHops ms ∧ t.get Reg.TEAM.MEMBER_COUNT.VALID = 1
        ∧ t.get Reg.TEAM.MEMBER_COUNT.COUNT = ((censusHops ms).length + 1) % 512
        ∧ t.get Reg.TEAM.MEMBER_COUNT.MANAGER = s.memberId % 256 ∧ t.get Reg.TEAM.RING_STATUS.MGR_HOPS = 0
        ∧ t.get Reg.TEAM.RING_STATUS.CHAIN
            = bit (s.get Reg.TEAM.RING_STATUS.EAST_UP == 0 || s.get Reg.TEAM.RING_STATUS.WEST_UP == 0)
        ∧ t.get Reg.TEAM.EVENT.CENSUS_DONE = 1 ∧ (dup = true → t.get Reg.TEAM.FAULT.CENSUS_DUP = 1)
        ∧ (dup = false → t.get Reg.TEAM.FAULT.CENSUS_DUP = s.get Reg.TEAM.FAULT.CENSUS_DUP) ∧ t.agents = s.agents := by
  obtain ⟨h1, h2, h3, h4, h5, h6, h7⟩ := s.censusShown_spec (censusHops ms) (s.judgedNow (censusHops ms))
  obtain ⟨hcensus, hhops, hag⟩ := s.censusShown_rest (censusHops ms) (s.judgedNow (censusHops ms))
  have hex := exec_censusDone ms dup hr hc
  generalize s.censusShown (censusHops ms) (s.judgedNow (censusHops ms)) = u at *
  cases dup with
  | false => exact ⟨u, hex, hcensus, hhops, h1, h2, h3, h4, h5, h6, fun h => absurd h (by decide), fun _ => h7, hag⟩
  | true =>
    have hget := fun {g} hg => State.get_censusDup (g := g) hg u
    refine ⟨_, hex, ?_, ?_, ?_, ?_, ?_, ?_, ?_, ?_, fun _ => ?_, fun h => absurd h (by decide), ?_⟩
    · exact (congrArg Team.census (u.fault_team Slot.TEAM 10 0)).trans hcensus
    · exact (congrArg Team.hops (u.fault_team Slot.TEAM 10 0)).trans hhops
    · exact (hget (by decide)).trans h1
    · exact (hget (by decide)).trans h2
    · exact (hget (by decide)).trans h3
    · exact (hget (by decide)).trans h4
    · exact (hget (by decide)).trans h5
    · exact (hget (by decide)).trans h6
    · exact u.get_fault_bit (p := Slot.TEAM) (b := 10) (d := 0) (by decide) (by decide)
    · exact (u.fault_agents Slot.TEAM 10 0).trans hag

end Census

/-! ### CENSUS_NOW (R509) -/

section CensusNow

variable {s : State} {x : Src} {w : Wr}

/-- An enable of the TEAM page, which has no rule of its own, touches its CTRL and what it owes of IDLE_ENTRY. -/
theorem State.enableWrite_team (s : State) (v : Nat) : ∃ r b, s.enableWrite Slot.TEAM v = { s with regs := r, bank := b }
    ∧ ∀ g : Fld, g.key ≠ (Hdr.CTRL_ENABLE Slot.TEAM).key → (s.enableWrite Slot.TEAM v).get g = s.get g := by
  have hm : Slot.TEAM ≠ Slot.MILLRACE := by decide
  have hh : ¬ (Slot.TEAM = Slot.HANG ∧ v ≠ s.pageEnable Slot.TEAM) := fun h => absurd h.1 (by decide)
  have hp : Slot.TEAM ≠ Slot.POWER := by decide
  unfold State.enableWrite
  dsimp only
  rw [if_neg hm, if_neg hh, if_neg hp]
  repeat' split
  all_goals exact ⟨_, _, rfl, fun g hg => s.get_put_ne v hg⟩

/-- A write of TEAM's CTRL without ABORT: its command bits come to a hub with the same role. -/
theorem State.ctrlWrite_team (s : State) (ho : w.o / 0x4000 = Slot.TEAM) (h1 : testBit w.v 1 = false) : ∃ u r b,
    s.ctrlWrite w = u.ctrlCommands Slot.TEAM w.v ∧ u = { s with regs := r, bank := b } ∧ u.teamRole = s.teamRole
      ∧ u.parityOk Slot.TEAM = s.parityOk Slot.TEAM := by
  generalize ht : (s.put (Hdr.CTRL_IRQ_EN Slot.TEAM) (bits w.v 2 2)).put Reg.TEAM.CTRL.FAILOVER_EN (bits w.v 8 8) = t
  obtain ⟨r, b, heq, hget⟩ := t.enableWrite_team (bits w.v 0 0)
  have hkeep : ∀ g : Fld, g.key ≠ (Hdr.CTRL_ENABLE Slot.TEAM).key → g.key ≠ Reg.TEAM.CTRL.FAILOVER_EN.key →
      g.key ≠ (Hdr.CTRL_IRQ_EN Slot.TEAM).key → (t.enableWrite Slot.TEAM (bits w.v 0 0)).get g = s.get g := fun g he hf hi => by
    rw [hget g he, ← ht, State.get_put_ne _ _ hf, State.get_put_ne _ _ hi]
  refine ⟨t.enableWrite Slot.TEAM (bits w.v 0 0), r, b, ?_, by rw [heq, ← ht]; rfl, hkeep _ (by decide) (by decide) (by decide), ?_⟩
  · unfold State.ctrlWrite
    dsimp only
    rw [ho, if_neg (fun h => absurd h.1 (by decide)), if_pos rfl, ht, if_neg (by decide), h1, if_neg (by decide)]
  · exact congrArg (· == 0) (hkeep _ (by decide) (by decide) (by decide))

theorem State.ctrlCommands_census (hp : s.parityOk Slot.TEAM = true) {v : Nat} (h9 : testBit v 9 = true) :
    s.ctrlCommands Slot.TEAM v = s.censusNow := by
  unfold State.ctrlCommands
  rw [if_neg (by rw [hp]; decide), if_neg (fun h => absurd h.1 (by decide)), if_neg (fun h => absurd h.1 (by decide)), if_pos ⟨rfl, h9⟩]

theorem testBit_eq_bits (n i : Nat) : testBit n i = (bits n i i == 1) := by
  rw [testBit, bits, Nat.add_sub_cancel_left, Nat.pow_one]

/-- The command bits of a write through the SET view (R63). -/
theorem State.aliasWr_command (u : State) {o i n : Nat} (h : (Acc.sc, (⟨o, i, i, 0⟩ : Fld)) ∈ fieldsAt o) :
    testBit (u.aliasWr x o .set n).v i = testBit n i := by
  have hb := bits_composeRead (fieldsApart_fieldsAt o) (fun a f => aliasField .set n a f (u.value (u.liveAt o) a f)) h
  rw [testBit_eq_bits, testBit_eq_bits]
  refine congrArg (· == 1) (hb.trans ?_)
  exact Nat.mod_mod _ _

/-- A write of TEAM's CTRL outside a Toss (R72). -/
theorem State.writeSpecial_teamCtrl (s : State) (l : Bool) (ho : w.o = 0x48008) (ht : s.tossActive = false) :
    s.writeSpecial w l = some ((s.put Reg.TEAM.STATUS.TOSS_BUSY 0).ctrlWrite w) := by
  unfold State.writeSpecial State.writeTeam
  rw [ho, if_pos (by decide), if_neg (by rw [ht]; decide)]
  dsimp only
  rw [if_pos (by decide)]

theorem State.censusNow_spec (hm : s.mayWrite x 0x49008 0x200 = true) (ht : s.tossActive = false) (hp : s.parityOk Slot.TEAM = true) :
    ∃ t, exec (.censusNow x) s = .next t ∧ (s.teamRole = trManager → t.team.censusDue = true)
      ∧ (s.teamRole ≠ trManager → t.team = s.team) ∧ t.agents = s.agents := by
  have hbus := State.busSet_eq s (x := x) (o := 0x48008) (d := 0x200) hm rfl rfl rfl rfl rfl
  dsimp only at hbus
  generalize hv : s.writeTurn x (0x48008 + 0x1000) 0x200 = v at hbus
  have hget : ∀ g, v.get g = s.get g := fun g => hv ▸ s.get_writeTurn _ _ _ g
  have hteam : v.team = s.team := hv ▸ s.writeTurn_team _ _ _
  have hag : v.agents = s.agents := hv ▸ s.writeTurn_agents _ _ _
  generalize hw : v.aliasWr x 0x48008 .set (0x200 : Word).toNat = w at hbus
  have h1 : testBit w.v 1 = false := hw ▸ v.aliasWr_command (i := 1) (by decide)
  have h9 : testBit w.v 9 = true := hw ▸ v.aliasWr_command (i := 9) (by decide)
  have ho : w.o = 0x48008 := hw ▸ rfl
  have htoss : v.tossActive = false := by rw [State.tossActive, hget]; exact ht
  obtain ⟨u, r, b, hctrl, heq, hrole, hpar⟩ := (v.put Reg.TEAM.STATUS.TOSS_BUSY 0).ctrlWrite_team (w := w) (by rw [ho]; decide) h1
  have hpar' : u.parityOk Slot.TEAM = true := by
    rw [hpar, State.parityOk, State.get_put_ne _ _ (by decide), hget]
    exact hp
  have hrole' : u.teamRole = s.teamRole := by
    rw [hrole, State.teamRole, State.get_put_ne _ _ (by decide), hget, State.teamRole]
  rw [State.writeSpecial_teamCtrl v _ ho htoss, Option.getD_some, hctrl, State.ctrlCommands_census hpar' h9] at hbus
  obtain ⟨_, _, _, _, hend⟩ := u.censusNow.bankOnly_parityWritten 0x48008
  rw [hend] at hbus
  have hut : u.team = s.team := by rw [heq]; exact hteam
  have hua : u.agents = s.agents := by rw [heq]; exact hag
  refine ⟨_, congrArg Host.Outcome.next hbus, fun hr => ?_, fun hr => ?_, ?_⟩
  · exact congrArg (fun t : State => t.team.censusDue) (if_pos (hrole'.trans hr))
  · exact (congrArg State.team (if_neg fun h => hr (hrole'.symm.trans h))).trans hut
  · refine Eq.trans ?_ hua
    change u.censusNow.agents = u.agents
    unfold State.censusNow
    split <;> rfl

end CensusNow

/-! ### A lane goes down (R510) -/

section LaneDown

variable {s : State}

/-- The fc of the lane's last valid message. -/
def State.laneFc (s : State) (east : Bool) : Nat := if east then s.team.eastFc else s.team.westFc

theorem exec_laneDown_eq (s : State) {lane : Lane} {east : Bool} (hl : (lane == .east) = east) : exec (.laneDown lane) s
    = .next (if s.get (laneUp east) = 1 ∧ s.laneFc east + 4096 ≤ s.fc then s.laneChange east false else s) := by
  subst hl
  cases lane <;> rfl

theorem State.laneChange_spec (s : State) (east : Bool) : (s.laneChange east false).get (laneUp east) = 0
    ∧ (s.laneChange east false).get Reg.TEAM.EVENT.RING_CHANGE = 1
    ∧ (s.teamRole = trManager → (s.laneChange east false).team.censusDue = true)
    ∧ s.keeps (s.laneChange east false) [laneUp east, Reg.TEAM.EVENT.RING_CHANGE] ∧ (s.laneChange east false).agents = s.agents := by
  generalize hu : (s.put (laneUp east) (bit false)).raise Reg.TEAM.EVENT.RING_CHANGE = u
  have heq : s.laneChange east false = if u.teamRole = trManager then { u with team := { u.team with censusDue := true } } else u := by
    rw [← hu]
    rfl
  have hkey : (laneUp east).key ≠ Reg.TEAM.EVENT.RING_CHANGE.key ∧ Reg.TEAM.ROLE.ROLE.key ≠ (laneUp east).key := by
    cases east <;> decide
  have hrole : u.teamRole = s.teamRole := by
    rw [← hu]
    exact (State.get_raise_ne _ (by decide)).trans (s.get_put_ne _ hkey.2)
  have hup : u.get (laneUp east) = 0 := by
    rw [← hu, State.get_raise_ne _ hkey.1, State.get_put_same]
    exact Nat.zero_mod _
  have hev : u.get Reg.TEAM.EVENT.RING_CHANGE = 1 := by
    rw [← hu]
    exact State.get_raise_same _ rfl
  have hkeep : s.keeps u [laneUp east, Reg.TEAM.EVENT.RING_CHANGE] := by
    rw [← hu]
    exact ((s.keeps_rfl _).put _ (.head _)).raise (.tail _ (.head _))
  have hag : u.agents = s.agents := by
    rw [← hu]
    rfl
  rw [heq, hrole]
  split
  · exact ⟨hup, hev, fun _ => rfl, hkeep, hag⟩
  next h => exact ⟨hup, hev, fun hr => absurd hr h, hkeep, hag⟩

end LaneDown

/-- Settles O51: a message that arrives, the messages that wait, the census, CENSUS_NOW, and a lane that goes down. -/
theorem ringMessagesAreForwardedAndActedOn : Obligations.RingMessagesAreForwardedAndActedOn := by
  unfold Obligations.RingMessagesAreForwardedAndActedOn
  refine ⟨fun lane m s => ⟨exec_ringMessage_deep, fun hp hc => ?_, fun ⟨hc, hp, hu⟩ => ?_, fun ⟨hc, hp, hu⟩ hsolo => ?_⟩,
    fun s => ⟨fun h => ?_, fun h => ?_, fun h => ?_, fun e h => ⟨fun he => ?_, fun he hr => ?_, State.wheelMessage_locks h⟩,
      fun e h => ⟨fun hr => ?_, State.probe_answered h⟩, fun e n f h hp hn => State.echo_measured h hp hn, fun h => ?_, State.census_sent,
      fun ms dup => ⟨fun h => ?_, State.censusDone_spec ms dup⟩⟩,
    fun x s hm ht hp _ => State.censusNow_spec hm ht hp, fun lane s => ⟨fun h => ?_, fun h => ?_⟩⟩
  · refine ⟨_, exec_ringMessage_crc hp hc, s.get_bumpBy_same _ _, rfl, (s.keeps_rfl _).bump (.head _), rfl⟩
  · exact (exec_ringMessage_spec rfl hp hc hu).1
  · obtain ⟨hown, hpass, hkeep⟩ := (exec_ringMessage_spec (m := m) rfl hp hc hu).2 hsolo
    refine ⟨hown, hpass, fun ho hseen hmine => ⟨fun hty => ?_, fun hty hf => ?_, fun hty hr => ?_⟩⟩
    · exact ⟨_, hkeep ho hseen hmine, s.ringKept_spec _ hty⟩
    · exact ⟨_, hkeep ho hseen hmine, s.ringHeartbeat_spec _ hty hf⟩
    · exact ⟨_, hkeep ho hseen hmine, s.ringCensus_spec _ hty hr⟩
  · exact congrArg Host.Outcome.next (by rw [h])
  · exact congrArg Host.Outcome.next (by rw [h])
  · exact congrArg Host.Outcome.next (by rw [h])
  · exact (exec_wheelMessage_some h).trans (congrArg Host.Outcome.next (if_pos (by rw [he]; decide)))
  · exact (exec_wheelMessage_some h).trans (congrArg Host.Outcome.next ((if_neg (by rw [he]; decide)).trans (if_neg hr)))
  · exact (exec_probe_some h).trans (congrArg Host.Outcome.next (if_neg hr))
  · refine congrArg Host.Outcome.next (if_neg fun hd => ?_)
    exact h.elim (fun hr => hr hd.1) fun hf => absurd (hf.symm.trans hd.2) (by decide)
  · refine congrArg Host.Outcome.next (if_neg fun hd => ?_)
    exact h.elim (fun hr => hr hd.1) fun hf => absurd hd.2 (by rw [hf]; decide)
  · exact (exec_laneDown_eq s rfl).trans (congrArg Host.Outcome.next (if_neg h))
  · exact ⟨_, (exec_laneDown_eq s rfl).trans (congrArg Host.Outcome.next (if_pos h)), s.laneChange_spec _⟩

end Sys2Proof.Machine

/-! PROOF. The Whistle's requests and waves (chapter 4, R155 to R195): what the arbiter's operations keep and show, a request as its
source makes it, the commands that are driven, and the ends of the waves. -/

namespace Sys2Proof.Machine

/-! ### What the arbiter's operations keep and show -/

section ArbiterKeeps

variable {s t : State} {fs : List Fld}

theorem State.keeps.bumpBy {f : Fld} (h : s.keeps t fs) (n : Nat) (hf : f ∈ fs) : s.keeps (t.bumpBy f n) fs :=
  fun g hc hg => (t.get_bumpBy_ne n (key_ne_of_not_mem hg hf)).trans (h g hc hg)

theorem State.keeps_fault (s : State) (p b d : Nat) :
    s.keeps (s.fault p b d) [⟨0x4000 * p + 0x18, b, b, 0⟩, Hdr.FAULT_INFO_FIRST p, Hdr.FAULT_INFO_DETAIL p] := fun _ _ hg =>
  s.get_fault_ne p b d (key_ne_of_not_mem hg (.head _)) (key_ne_of_not_mem hg (.tail _ (.head _)))
    (key_ne_of_not_mem hg (.tail _ (.tail _ (.head _))))

/-- The registers that show the frozen set. -/
def frozenSetFlds : List Fld := [Reg.WHISTLE.STATE.KIND, Reg.WHISTLE.STATE.SET, Reg.WHISTLE.STATE.CP_BRANCH]

theorem State.keeps_setFrozenSet (s : State) (f : FrozenSet) : s.keeps (s.setFrozenSet f) frozenSetFlds :=
  ((((s.keeps_rfl _).sameRegs fun _ => rfl).put _ (.head _)).put _ (.tail _ (.head _))).put _ (.tail _ (.tail _ (.head _)))

theorem State.setFrozenSet_kind (s : State) (f : FrozenSet) :
    (s.setFrozenSet f).get Reg.WHISTLE.STATE.KIND = f.kind % 2 ^ Reg.WHISTLE.STATE.KIND.width :=
  (State.get_put_ne _ _ (by decide)).trans ((State.get_put_ne _ _ (by decide)).trans (State.get_put_same _ _ _))

theorem State.setFrozenSet_set (s : State) (f : FrozenSet) : (s.setFrozenSet f).get Reg.WHISTLE.STATE.SET
    = (if f.kind = 1 then f.branches % 65536 else f.arg) % 2 ^ Reg.WHISTLE.STATE.SET.width :=
  (State.get_put_ne _ _ (by decide)).trans (State.get_put_same _ _ _)

theorem State.setFrozenSet_cpBranch (s : State) (f : FrozenSet) : (s.setFrozenSet f).get Reg.WHISTLE.STATE.CP_BRANCH
    = bit (testBit f.branches 16) % 2 ^ Reg.WHISTLE.STATE.CP_BRANCH.width := State.get_put_same _ _ _

/-- CAUSE and STOP_POS. -/
def causeFlds : List Fld := [Reg.WHISTLE.CAUSE.MERGED, Reg.WHISTLE.CAUSE.SOURCE, Reg.WHISTLE.CAUSE.CMD, Reg.WHISTLE.CAUSE.DETAIL,
  Reg.WHISTLE.STOP_POS_LO, Reg.WHISTLE.STOP_POS_HI]

/-- A change of the arbiter's own state shows in no stored register. -/
theorem State.get_withWhistle (s : State) (wh : Whistle) (g : Fld) : ({ s with whistle := wh } : State).get g = s.get g := rfl

theorem State.keeps_writeCause (s : State) (r : WReq) : s.keeps (s.writeCause r) causeFlds := by
  intro g _ hg
  have hne : ∀ f ∈ causeFlds, g.key ≠ f.key := fun f hf => key_ne_of_not_mem hg hf
  unfold State.writeCause
  dsimp only
  rw [State.get_put64_ne _ _ (hne _ (by decide)) (hne _ (by decide)), State.get_withWhistle, State.get_put_ne _ _ (hne _ (by decide)),
    State.get_put_ne _ _ (hne _ (by decide)), State.get_put_ne _ _ (hne _ (by decide)), State.get_put_ne _ _ (hne _ (by decide))]

theorem State.writeCause_code (s : State) (r : WReq) :
    (s.writeCause r).get Reg.WHISTLE.CAUSE.CMD = r.code % 2 ^ Reg.WHISTLE.CAUSE.CMD.width := by
  unfold State.writeCause
  dsimp only
  rw [State.get_put64_ne _ _ (by decide) (by decide), State.get_withWhistle, State.get_put_ne _ _ (by decide), State.get_put_same]

theorem State.writeCause_detail (s : State) (r : WReq) :
    (s.writeCause r).get Reg.WHISTLE.CAUSE.DETAIL = r.detail % 2 ^ Reg.WHISTLE.CAUSE.DETAIL.width := by
  unfold State.writeCause
  dsimp only
  rw [State.get_put64_ne _ _ (by decide) (by decide), State.get_withWhistle, State.get_put_same]

theorem Wheel.posLo_lt (w : Wheel) : w.posLo < 2 ^ 32 := by
  have hcut : ∀ p, (if p < 65536 then p else 65535) < 65536 := fun p => by split <;> omega
  have hsub : w.sub < 65536 := hcut _
  unfold Wheel.posLo
  omega

/-- STOP_POS holds the Wheel position of the trigger fc (R195). -/
theorem State.writeCause_pos (s : State) (r : WReq) : (s.writeCause r).get64 Reg.WHISTLE.STOP_POS_LO Reg.WHISTLE.STOP_POS_HI
    = 2 ^ 32 * (s.wheel.posHi % 2 ^ 32) + s.wheel.posLo % 2 ^ 32 := by
  have h := s.wheel.posLo_lt
  refine (State.get64_put64 _ _ rfl rfl (by decide)).trans ?_
  show (2 ^ 32 * s.wheel.posHi + s.wheel.posLo) % _ = _
  omega

theorem State.keeps_startFreeze (s : State) (snap : Bool) : s.keeps (s.startFreeze snap) [Reg.WHISTLE.STATE.STATE] :=
  fun _ _ hg => s.get_startFreeze_ne snap (key_ne_of_not_mem hg (.head _))

theorem State.startFreeze_state (s : State) (snap : Bool) : (s.startFreeze snap).get Reg.WHISTLE.STATE.STATE = wsFreezing :=
  State.get_put_same _ _ _

theorem State.keeps_startResume (s : State) : s.keeps s.startResume [Reg.WHISTLE.STATE.STATE] :=
  fun _ _ hg => State.get_put_ne _ _ (key_ne_of_not_mem hg (.head _))

theorem State.startResume_state (s : State) : s.startResume.get Reg.WHISTLE.STATE.STATE = wsResuming := State.get_put_same _ _ _

/-! The arbiter's own state after each operation. -/

theorem State.setFrozenSet_whistle (s : State) (f : FrozenSet) :
    (s.setFrozenSet f).whistle = { s.whistle with branches := f.branches } := rfl

theorem State.drive_whistle (s : State) (w m f b : Nat) : (s.drive w m f b).whistle = { s.whistle with
    last := some ⟨w, m, f, b, s.fc⟩
    tree := s.whistle.tree.filter (fun (x : TreeCmd) => s.fc ≤ x.fc + 64) ++ [⟨w, m, f, b, s.fc⟩] } := rfl

theorem State.writeCause_whistle (s : State) (r : WReq) : (s.writeCause r).whistle = { s.whistle with causeFc := some s.fc } := rfl

theorem State.awaitAck_eq {c : TreeCmd} (h : s.whistle.last = some c) :
    s.awaitAck = { s with whistle := { s.whistle with acks := s.whistle.acks ++ [⟨c, none, none⟩] } } := by
  unfold State.awaitAck
  rw [h]

theorem State.startFreeze_whistle {c : TreeCmd} (h : s.whistle.last = some c) (snap : Bool) :
    (s.startFreeze snap).whistle = { s.whistle with
      acks := s.whistle.acks ++ [⟨c, none, none⟩]
      freezeFc := some s.fc
      resumeFc := none
      isSnap := snap
      snapDue := if snap then some (s.fc + 16) else none } := by
  unfold State.startFreeze
  rw [State.put_whistle, State.awaitAck_eq h]

theorem State.startResume_whistle (s : State) : s.startResume.whistle
    = { s.whistle with resumeFc := some s.fc, freezeFc := none, isSnap := false, fromSnap := false } := rfl

end ArbiterKeeps

end Sys2Proof.Machine

namespace Sys2Proof.Machine

/-! ### A request as its source makes it (R157 to R159, Table 4-1) -/

section Requests

variable {s v : State} {w : WSource} {code arg res : Nat} {fs : List Fld}

/-- The argument of a request: an access takes the mask from REGION_MASK and the context from CONTEXT (log 35). -/
def State.whistleArg (s : State) (w : WSource) (code arg : Nat) : Nat :=
  match w with
  | .access _ => if code = 2 then (s.whistleTurn w code).cfg Reg.WHISTLE.REGION_MASK.MASK
    else if code = 3 then (s.whistleTurn w code).cfg Reg.WHISTLE.CONTEXT.CTX else 0
  | _ => arg

/-- The request of source `w`. -/
def State.whistleAsk (s : State) (w : WSource) (code arg : Nat) : WReq :=
  ⟨code, (reqNos w).1, (reqNos w).2, s.whistleArg w code arg, 0⟩

/-- The state in which the arbiter meets the request: LAST_CODE shows the code that an access has written (R159). -/
def State.asked (s : State) (w : WSource) (code : Nat) : State :=
  match w with
  | .access _ => (s.whistleTurn w code).put Reg.WHISTLE.CMD.LAST_CODE code
  | _ => s

theorem State.keeps_asked (s : State) (w : WSource) (code : Nat) : s.keeps (s.asked w code) [Reg.WHISTLE.CMD.LAST_CODE] := by
  cases w with
  | access x => exact State.keeps.put (fun g _ _ => s.get_writeTurn x 0x14040 _ g) code (.head _)
  | _ => exact s.keeps_rfl _

@[simp] theorem State.asked_whistle (s : State) (w : WSource) (code : Nat) : (s.asked w code).whistle = s.whistle := by
  cases w with
  | access x => exact s.writeTurn_whistle _ _ _
  | _ => rfl

@[simp] theorem State.asked_fc (s : State) (w : WSource) (code : Nat) : (s.asked w code).fc = s.fc := by
  cases w with
  | access x => exact s.writeTurn_fc _ _ _
  | _ => rfl

@[simp] theorem State.asked_wheel (s : State) (w : WSource) (code : Nat) : (s.asked w code).wheel = s.wheel := by
  cases w with
  | access x => exact s.writeTurn_wheel _ _ _
  | _ => rfl

@[simp] theorem State.asked_agents (s : State) (w : WSource) (code : Nat) : (s.asked w code).agents = s.agents := by
  cases w with
  | access x => exact s.writeTurn_agents _ _ _
  | _ => rfl

@[simp] theorem State.asked_cfg (s : State) (w : WSource) (code : Nat) (g : Fld) :
    (s.asked w code).cfg g = (s.whistleTurn w code).cfg g := by
  cases w <;> rfl

theorem State.asked_treeFree (h : s.treeFree = true) : (s.asked w code).treeFree = true := by
  rw [State.treeFree, State.asked_whistle, State.asked_fc]
  exact h

@[simp] theorem State.asked_state (s : State) (w : WSource) (code : Nat) :
    (s.asked w code).get Reg.WHISTLE.STATE.STATE = s.get Reg.WHISTLE.STATE.STATE := s.keeps_asked w code _ (by decide) (by decide)

@[simp] theorem State.asked_stepActive (s : State) (w : WSource) (code : Nat) :
    (s.asked w code).get Reg.WHISTLE.STATE.STEP_ACTIVE = s.get Reg.WHISTLE.STATE.STEP_ACTIVE :=
  s.keeps_asked w code _ (by decide) (by decide)

/-- A request that its source may make is evaluated. -/
theorem State.whistleReq_open (h : s.whistleOpen w code = true) :
    (s.asked w code).whistleReq (s.whistleAsk w code arg) = (s.asked w code).evalReq (s.whistleAsk w code arg) := by
  obtain ⟨hopen, -⟩ := Bool.and_eq_true_iff.1 h
  obtain ⟨hs, hp⟩ := Bool.and_eq_true_iff.1 hopen
  have hpar : (s.asked w code).parityOk Slot.WHISTLE = true := by
    rw [State.parityOk, s.keeps_asked w code _ (by decide) (by decide)]
    exact hp
  have hsup : (s.asked w code).reqSuppressed (s.whistleAsk w code arg) = false := by
    simp only [State.reqSuppressed, State.asked_cfg, State.whistleAsk, Bool.not_eq_true'] at hs ⊢
    exact hs
  rw [State.whistleReq, if_neg (by simp [hpar]), if_neg (by simp [hsup])]

theorem srcWhistle_lt (x : Src) : srcWhistle x < 16 := by
  unfold srcWhistle
  split <;> decide

/-- What the answer to an access writes: RESULT, and PARITY_ERR, since a write makes the register's parity right (R86, R159). -/
def replyFlds : List Fld := [Reg.WHISTLE.CMD.RESULT, Hdr.STATUS_PARITY_ERR Slot.WHISTLE]

/-- From `s` to `t` the request of source `w` has been evaluated with result `res` and the outcome `v`, which shows in the
registers `fs` only; an access has read the result. -/
structure State.replied (s t v : State) (w : WSource) (res : Nat) (fs : List Fld) : Prop where
  shows : ∀ g ∈ fs, t.get g = v.get g
  whistle : t.whistle = v.whistle
  result : t.get Reg.WHISTLE.CMD.RESULT = s.whistleResult w res
  keeps : s.keeps t (Reg.WHISTLE.CMD.LAST_CODE :: (fs ++ replyFlds))
  agents : t.agents = s.agents

/-- The answer to an access shows in none of these registers. -/
abbrev offReply (fs : List Fld) : Prop := ∀ g ∈ fs, Fld.isCount g = false ∧ g.key ∉ replyFlds.map Fld.key

theorem State.busWrite_whistleCmd {x : Src} (hm : s.mayWrite x 0x14040 (BitVec.ofNat 32 code) = true) (ht : s.tossActive = false)
    (hc : code < 8) (he : (s.asked (.access x) code).whistleReq (s.whistleAsk (.access x) code arg) = (v, res)) :
    s.busWrite x 0x14040 (BitVec.ofNat 32 code) = (v.put Reg.WHISTLE.CMD.RESULT res).wrote x 0x14040 (BitVec.ofNat 32 code) := by
  have hcode : (BitVec.ofNat 32 code).toNat % 8 = code := by
    rw [BitVec.toNat_ofNat]
    omega
  have htoss : (s.writeTurn x 0x14040 (BitVec.ofNat 32 code)).tossActive = false := by
    rw [State.tossActive, State.get_writeTurn]
    exact ht
  have hspecial : ∀ (u : State) (d m : Nat) (l : Bool),
      u.writeSpecial ⟨x, 0x14040, d, false, m⟩ l = some (u.whistleCmd (srcWhistle x) (srcNo x) d) :=
    fun _ _ _ _ => by simp [State.writeSpecial, Slot.TEAM]
  have hcmd : (s.writeTurn x 0x14040 (BitVec.ofNat 32 code)).whistleCmd (srcWhistle x) (srcNo x) (BitVec.ofNat 32 code).toNat
      = v.put Reg.WHISTLE.CMD.RESULT res := by
    unfold State.whistleCmd
    rw [hcode]
    dsimp only
    rw [if_neg (by simp [htoss])]
    exact congrArg (fun p : State × Nat => p.1.put Reg.WHISTLE.CMD.RESULT p.2) he
  rw [s.busWrite_eq hm rfl rfl rfl rfl rfl]
  dsimp only
  rw [hspecial, Option.getD_some, hcmd]

/-- An automatic source asks at once. -/
theorem State.whistleFrom_auto (h : ∀ x, w ≠ .access x) :
    s.whistleFrom w code arg = ((s.asked w code).whistleReq (s.whistleAsk w code arg)).1 := by
  cases w with
  | access x => exact absurd rfl (h x)
  | _ => rfl

/-- The end of an access: RESULT reads the request's result, and no other register but PARITY_ERR changes. -/
theorem State.keeps_reply {x : Src} (hm : s.mayWrite x 0x14040 (BitVec.ofNat 32 code) = true)
    (hv : (s.asked (.access x) code).whistleOnly v) :
    v.keeps ((v.put Reg.WHISTLE.CMD.RESULT res).wrote x 0x14040 (BitVec.ofNat 32 code)) replyFlds
      ∧ ((v.put Reg.WHISTLE.CMD.RESULT res).wrote x 0x14040 (BitVec.ofNat 32 code)).get Reg.WHISTLE.CMD.RESULT = res % 16 := by
  have hf : (v.put Reg.WHISTLE.CMD.RESULT res).hwFault.contains (0x14040 / 0x4000, 0, 0x14040 % 0x1000) = false := by
    obtain ⟨⟨_, _, _, _, _, rfl⟩, -⟩ := hv
    exact State.writeTurn_unscrubbed hm
  have hget := fun {g} hg => (v.put Reg.WHISTLE.CMD.RESULT res).get_wrote_ne x 0x14040 (BitVec.ofNat 32 code) (g := g) hf hg
  refine ⟨fun g _ hg => ?_, (hget (by decide)).trans (State.get_put_same _ _ _)⟩
  rw [hget (key_ne_of_not_mem hg (.tail _ (.head _))), State.get_put_ne _ _ (key_ne_of_not_mem hg (.head _))]

/-- What a request that is evaluated leaves: the arbiter's outcome, and for an access its result. -/
theorem State.whistleFrom_replied (h : s.whistleOpen w code = true) (hc : code < 8) (hr : res < 16)
    (he : (s.asked w code).evalReq (s.whistleAsk w code arg) = (v, res)) (hk : (s.asked w code).keeps v fs) (hfs : offReply fs) :
    s.replied (s.whistleFrom w code arg) v w res fs := by
  have hreq := (State.whistleReq_open (arg := arg) h).trans he
  have honly : (s.asked w code).whistleOnly v := by
    have h := (s.asked w code).whistleOnly_whistleReq (s.whistleAsk w code arg)
    rwa [hreq] at h
  have hag : v.agents = s.agents := honly.agents.trans (s.asked_agents w code)
  have hframe := (s.keeps_asked w code).trans hk
  cases w with
  | access x =>
    obtain ⟨-, hwrite⟩ := Bool.and_eq_true_iff.1 h
    obtain ⟨hm, htoss⟩ := Bool.and_eq_true_iff.1 hwrite
    have ht : s.tossActive = false := by simpa using htoss
    obtain ⟨hreply, hres⟩ := State.keeps_reply (res := res) hm honly
    rw [State.whistleFrom, State.busWrite_whistleCmd hm ht hc hreq]
    refine ⟨fun g hg => hreply g (hfs g hg).1 (hfs g hg).2, ?_, hres.trans (Nat.mod_eq_of_lt hr), hframe.trans hreply, ?_⟩
    · rw [State.wrote_whistle, State.put_whistle]
    · rw [State.wrote_agents, State.put_agents, hag]
  | _ =>
    rw [State.whistleFrom_auto, hreq]
    · refine ⟨fun _ _ => rfl, rfl, hk _ (by decide) fun hm => ?_, hframe.mono (List.subset_append_left _ replyFlds), hag⟩
      obtain ⟨g, hg, hkey⟩ := List.mem_map.1 hm
      exact (hfs g hg).2 (hkey ▸ by decide)
    · nofun

end Requests

end Sys2Proof.Machine

namespace Sys2Proof.Machine

/-! ### A freeze wave that is driven from RUNNING (R165, R185, R195, Table 4-2) -/

section Freezes

variable {s t : State} {w : WSource} {r : WReq} {f : FrozenSet} {wire code arg : Nat} {snap : Bool}

/-- The state after a freeze wave of the set `f` has been driven on `wire` at the request `r`. -/
def State.drivenFreeze (s : State) (wire : Nat) (f : FrozenSet) (r : WReq) (snap : Bool) : State :=
  (((s.setFrozenSet f).driveSet wire f).writeCause r).startFreeze snap

/-- The qualifier's FIELD for a frozen set, and what STATE.SET shows of it (R48, R165). -/
def FrozenSet.field (f : FrozenSet) : Nat := if f.kind = 1 then 0 else f.arg
def FrozenSet.shown (f : FrozenSet) : Nat := if f.kind = 1 then f.branches % 65536 else f.arg

/-- The command on the tree that carries the set `f` (R48). -/
def FrozenSet.cmd (f : FrozenSet) (wire fc : Nat) : TreeCmd := ⟨wire, f.mode, f.field, f.branches, fc⟩

/-- A stop that meets a RUNNING Whistle and a free tree is driven, unless it names no region. -/
theorem State.stopReq_running (h2 : ¬ (r.code = 2 ∧ r.arg = 0)) (hb : r.set.branches ≠ 0)
    (hst : s.get Reg.WHISTLE.STATE.STATE = wsRunning) (ha : s.get Reg.WHISTLE.STATE.STEP_ACTIVE = 0) (hf : s.treeFree = true) :
    s.stopReq r = (s.drivenFreeze wireStop r.set r false, wrDriven) := by
  unfold State.stopReq
  dsimp only
  rw [if_neg h2, if_neg hb, if_neg (by rw [ha]; decide), if_neg (by simp [hf]), if_pos (Or.inl hst), if_pos hst]
  rfl

/-- A SNAP that meets a RUNNING Whistle, a free tree and no undrained shadow is driven on every branch. -/
theorem State.snapReq_running (hst : s.get Reg.WHISTLE.STATE.STATE = wsRunning) (ha : s.get Reg.WHISTLE.STATE.STEP_ACTIVE = 0)
    (hf : s.treeFree = true) : s.snapReq r false = (s.drivenFreeze wireSnap ⟨1, allBranches, 0⟩ r true, wrDriven) := by
  unfold State.snapReq
  dsimp only
  rw [if_neg (by decide), if_neg (by rw [hst]; exact fun h => absurd h.1 (by decide)), if_neg (by rw [hst, ha]; decide),
    if_neg (by rw [hst]; decide), if_neg (by simp [hf]), if_pos hst]
  rfl

theorem State.drivenFreeze_whistle (s : State) (wire : Nat) (f : FrozenSet) (r : WReq) (snap : Bool) :
    (s.drivenFreeze wire f r snap).whistle = { s.whistle with
      branches := f.branches
      last := some (f.cmd wire s.fc)
      tree := s.whistle.tree.filter (fun (x : TreeCmd) => s.fc ≤ x.fc + 64) ++ [f.cmd wire s.fc]
      causeFc := some s.fc
      acks := s.whistle.acks ++ [⟨f.cmd wire s.fc, none, none⟩]
      freezeFc := some s.fc
      resumeFc := none
      isSnap := snap
      snapDue := if snap then some (s.fc + 16) else none } := by
  have hb : ((s.setFrozenSet f).driveSet wire f).whistle = { s.whistle with
      branches := f.branches
      last := some (f.cmd wire s.fc)
      tree := s.whistle.tree.filter (fun (x : TreeCmd) => s.fc ≤ x.fc + 64) ++ [f.cmd wire s.fc] } := State.drive_whistle _ _ _ _ _
  have hc := ((s.setFrozenSet f).driveSet wire f).writeCause_whistle r
  rw [hb] at hc
  have hfc : (((s.setFrozenSet f).driveSet wire f).writeCause r).fc = s.fc :=
    ((s.treeOnly_setAndDrive wire f).trans (State.treeOnly_writeCause _ r)).acts.fc
  rw [State.drivenFreeze, State.startFreeze_whistle (congrArg Whistle.last hc), hc, hfc]
  rfl

/-- The registers that a freeze wave from RUNNING changes. -/
def freezeFlds : List Fld := frozenSetFlds ++ causeFlds ++ [Reg.WHISTLE.STATE.STATE]

/-- What the registers show of a freeze wave of the set `f` that the request `r` has driven from RUNNING. -/
structure State.freezeShown (s t : State) (f : FrozenSet) (r : WReq) : Prop where
  state : t.get Reg.WHISTLE.STATE.STATE = wsFreezing
  kind : t.get Reg.WHISTLE.STATE.KIND = f.kind % 2 ^ Reg.WHISTLE.STATE.KIND.width
  set : t.get Reg.WHISTLE.STATE.SET = f.shown % 2 ^ Reg.WHISTLE.STATE.SET.width
  cpBranch : t.get Reg.WHISTLE.STATE.CP_BRANCH = bit (testBit f.branches 16) % 2 ^ Reg.WHISTLE.STATE.CP_BRANCH.width
  source : t.get Reg.WHISTLE.CAUSE.SOURCE = r.source % 2 ^ Reg.WHISTLE.CAUSE.SOURCE.width
  detail : t.get Reg.WHISTLE.CAUSE.DETAIL = r.detail % 2 ^ Reg.WHISTLE.CAUSE.DETAIL.width
  code : t.get Reg.WHISTLE.CAUSE.CMD = r.code % 2 ^ Reg.WHISTLE.CAUSE.CMD.width
  pos : t.get64 Reg.WHISTLE.STOP_POS_LO Reg.WHISTLE.STOP_POS_HI = 2 ^ 32 * (s.wheel.posHi % 2 ^ 32) + s.wheel.posLo % 2 ^ 32

theorem State.freezeShown.congr {u v : State} (h : s.freezeShown t f r) (hget : ∀ g ∈ freezeFlds, v.get g = t.get g)
    (hw : u.wheel = s.wheel) : u.freezeShown v f r where
  state := (hget _ (by decide)).trans h.state
  kind := (hget _ (by decide)).trans h.kind
  set := (hget _ (by decide)).trans h.set
  cpBranch := (hget _ (by decide)).trans h.cpBranch
  source := (hget _ (by decide)).trans h.source
  detail := (hget _ (by decide)).trans h.detail
  code := (hget _ (by decide)).trans h.code
  pos := by rw [State.get64, hget _ (by decide), hget _ (by decide), hw, ← State.get64, h.pos]

theorem State.keeps_drivenFreeze (s : State) (wire : Nat) (f : FrozenSet) (r : WReq) (snap : Bool) :
    s.keeps (s.drivenFreeze wire f r snap) freezeFlds :=
  ((s.keeps_setFrozenSet f).trans (((s.setFrozenSet f).driveSet wire f).keeps_writeCause r)).trans (State.keeps_startFreeze _ snap)

theorem State.drivenFreeze_shown (s : State) (wire : Nat) (f : FrozenSet) (r : WReq) (snap : Bool) :
    s.freezeShown (s.drivenFreeze wire f r snap) f r := by
  let a := s.setFrozenSet f
  let b := a.driveSet wire f
  have hcause : a.keeps (b.writeCause r) causeFlds := b.keeps_writeCause r
  have hstart := (b.writeCause r).keeps_startFreeze snap
  have hset : ∀ g ∈ frozenSetFlds, (s.drivenFreeze wire f r snap).get g = a.get g := by
    intro g hg
    simp only [frozenSetFlds, List.mem_cons, List.not_mem_nil, or_false] at hg
    rcases hg with rfl | rfl | rfl
    all_goals exact (hstart _ (by decide) (by decide)).trans (hcause _ (by decide) (by decide))
  have hshown : ∀ g ∈ causeFlds, (s.drivenFreeze wire f r snap).get g = (b.writeCause r).get g := by
    intro g hg
    simp only [causeFlds, List.mem_cons, List.not_mem_nil, or_false] at hg
    rcases hg with rfl | rfl | rfl | rfl | rfl | rfl
    all_goals exact hstart _ (by decide) (by decide)
  exact {
    state := State.startFreeze_state _ _
    kind := (hset _ (by decide)).trans (s.setFrozenSet_kind f)
    set := (hset _ (by decide)).trans (s.setFrozenSet_set f)
    cpBranch := (hset _ (by decide)).trans (s.setFrozenSet_cpBranch f)
    source := (hshown _ (by decide)).trans (State.get_writeCause_source _ _)
    detail := (hshown _ (by decide)).trans (State.writeCause_detail _ _)
    code := (hshown _ (by decide)).trans (State.writeCause_code _ _)
    pos := by
      rw [State.get64, hshown _ (by decide), hshown _ (by decide), ← State.get64]
      exact b.writeCause_pos r }

theorem reqNos_lt (w : WSource) : (reqNos w).1 < 16 ∧ (reqNos w).2 < 65536 := by
  cases w with
  | access x => exact ⟨srcWhistle_lt x, Nat.lt_trans (srcNo_lt x) (by decide)⟩
  | fatal a => exact ⟨show 5 < 16 by decide, Nat.lt_trans a.isLt (by decide)⟩
  | team m => exact ⟨show 7 < 16 by decide, Nat.lt_trans m.isLt (by decide)⟩
  | watchdog k => exact ⟨show 4 < 16 by decide, Nat.lt_trans k.isLt (by decide)⟩
  | brk n => exact ⟨show 3 < 16 by decide, Nat.lt_trans n.isLt (by decide)⟩
  | millrace => exact ⟨by decide, by decide⟩
  | cam n => exact ⟨show 6 < 16 by decide, Nat.lt_trans n.isLt (by decide)⟩

/-- What is seen of a request that drives a freeze wave from RUNNING, whatever its source. -/
theorem State.whistleFrom_freezes (ho : s.whistleOpen w code = true) (hc : code < 8)
    (he : (s.asked w code).evalReq (s.whistleAsk w code arg)
      = ((s.asked w code).drivenFreeze wire f (s.whistleAsk w code arg) snap, wrDriven)) :
    s.freezeShown (s.whistleFrom w code arg) f (s.whistleAsk w code arg)
      ∧ (s.whistleFrom w code arg).whistle = (s.drivenFreeze wire f (s.whistleAsk w code arg) snap).whistle
      ∧ (s.whistleFrom w code arg).get Reg.WHISTLE.CMD.RESULT = s.whistleResult w wrDriven
      ∧ s.keeps (s.whistleFrom w code arg) whistleFields ∧ (s.whistleFrom w code arg).agents = s.agents := by
  have ht := State.whistleFrom_replied ho hc (by decide) he (State.keeps_drivenFreeze _ _ _ _ _) (by decide)
  refine ⟨?_, ?_, ht.result, ht.keeps.mono (by decide), ht.agents⟩
  · exact ((s.asked w code).drivenFreeze_shown wire f _ snap).congr ht.shows (s.asked_wheel w code).symm
  · rw [ht.whistle, State.drivenFreeze_whistle, State.drivenFreeze_whistle, State.asked_whistle, State.asked_fc]

/-- A stop request that is driven from RUNNING (R165, R195). -/
theorem State.evalReq_stop_running (hc : code = 1 ∨ code = 2 ∨ code = 3)
    (hst : s.get Reg.WHISTLE.STATE.STATE = wsRunning) (ha : s.get Reg.WHISTLE.STATE.STEP_ACTIVE = 0) (hf : s.treeFree = true)
    (hset : (s.whistleAsk w code arg).set = f) (h2 : ¬ (code = 2 ∧ s.whistleArg w code arg = 0)) (hb : f.branches ≠ 0) :
    (s.asked w code).evalReq (s.whistleAsk w code arg)
      = ((s.asked w code).drivenFreeze wireStop f (s.whistleAsk w code arg) false, wrDriven) := by
  have heval : (s.asked w code).evalReq (s.whistleAsk w code arg) = (s.asked w code).stopReq (s.whistleAsk w code arg) := if_pos hc
  rw [heval, State.stopReq_running h2 (hset ▸ hb) ((s.asked_state w code).trans hst)
    ((s.asked_stepActive w code).trans ha) (State.asked_treeFree hf), hset]

end Freezes

/-! ### O16 -/

/-- The sets that the three stops name (R165). -/
theorem WReq.set_all (source detail arg : Nat) : (WReq.mk 1 source detail arg 0).set = ⟨1, allBranches, 0⟩ := rfl

theorem WReq.set_regions {m : Nat} (h : m < 65536) (source detail : Nat) : (WReq.mk 2 source detail m 0).set = ⟨2, m, m⟩ :=
  congrArg (FrozenSet.mk 2 m) (Nat.mod_eq_of_lt h)

theorem WReq.set_context (source detail c : Nat) : (WReq.mk 3 source detail c 0).set = ⟨3, allBranches, c⟩ := rfl

theorem testBit_of_lt {m n : Nat} (h : m < 2 ^ n) : testBit m n = false := by
  rw [testBit, Nat.div_eq_of_lt h]
  rfl

/-- Settles O16: each of the three stops drives the wave of the set that it names, and the registers of WHISTLE show that wave. -/
theorem stopRequestsDriveAStop : Obligations.StopRequestsDriveAStop := by
  unfold Obligations.StopRequestsDriveAStop
  intro w s hst ha hf driven
  have hdriven : ∀ (code arg : Nat) (f : FrozenSet), s.whistleOpen w code = true → code = 1 ∨ code = 2 ∨ code = 3 →
      (s.whistleAsk w code arg).set = f → ¬ (code = 2 ∧ s.whistleArg w code arg = 0) →
      f.branches ≠ 0 ∧ f.kind < 4 ∧ f.shown < 65536 →
      driven (s.whistleFrom w code arg) code f.kind f.shown (bit (testBit f.branches 16)) f.branches f.mode f.field := by
    intro code arg f ho hc hset h2 ⟨hb, hkind, hshown⟩
    obtain ⟨hshow, hwh, hres, hkeep, hag⟩ := State.whistleFrom_freezes ho (by omega)
      (State.evalReq_stop_running hc hst ha hf hset h2 hb)
    rw [State.drivenFreeze_whistle] at hwh
    obtain ⟨hsource, hdetail⟩ := reqNos_lt w
    have hcode : code < 8 := by omega
    refine ⟨hshow.state, hshow.kind.trans (Nat.mod_eq_of_lt hkind), hshow.set.trans (Nat.mod_eq_of_lt hshown),
      hshow.cpBranch.trans (bit_mod_two _), ?_, ?_, ?_, ?_, hshow.source.trans (Nat.mod_eq_of_lt hsource),
      hshow.detail.trans (Nat.mod_eq_of_lt hdetail), hshow.code.trans (Nat.mod_eq_of_lt hcode), hshow.pos, hres, hkeep, hag⟩
    · rw [hwh]
    · rw [hwh, FrozenSet.cmd]
    · rw [hwh]
    · rw [hwh, FrozenSet.cmd]
  refine ⟨fun ho => ⟨_, rfl, ?_⟩, ?_, ?_⟩
  · exact hdriven 1 0 ⟨1, allBranches, 0⟩ ho (.inl rfl) (WReq.set_all _ _ _) (fun h => absurd h.1 (by decide)) (by decide)
  · intro mask ho m hm0 hm
    have harg : s.whistleArg w 2 mask.toNat = m := by cases w <;> rfl
    have hd := hdriven 2 mask.toNat ⟨2, m, m⟩ ho (.inr (.inl rfl)) (by rw [State.whistleAsk, harg, WReq.set_regions hm])
      (by rw [harg]; exact fun h => hm0 h.2) ⟨hm0, (by decide : 2 < 4), hm⟩
    rw [testBit_of_lt (n := 16) hm] at hd
    exact ⟨_, rfl, hd⟩
  · intro ctx ho c hc
    have harg : s.whistleArg w 3 ctx.toNat = c := by cases w <;> rfl
    have hcp : bit (testBit allBranches 16) = 1 := by decide
    have hd := hdriven 3 ctx.toNat ⟨3, allBranches, c⟩ ho (.inr (.inr rfl)) (by rw [State.whistleAsk, harg, WReq.set_context])
      (fun h => absurd h.1 (by decide)) ⟨(by decide : allBranches ≠ 0), (by decide : 3 < 4), hc⟩
    rw [hcp] at hd
    exact ⟨_, rfl, hd⟩

end Sys2Proof.Machine

namespace Sys2Proof.Machine

/-! ### Resume waves, steps and CANCEL (R177, R181 to R185, R191) -/

section Resumes

variable {s : State} {r : WReq}

/-- The registers that a resume wave changes when it empties the frozen set. -/
def releaseFlds : List Fld := frozenSetFlds ++ [Reg.WHISTLE.STATE.STATE]

/-- The frozen set is empty and a resume wave starts (Table 4-5). -/
def State.release (s : State) : State := (s.setFrozenSet ⟨0, 0, 0⟩).startResume

theorem State.release_state (s : State) : s.release.get Reg.WHISTLE.STATE.STATE = wsResuming := State.startResume_state _

theorem State.release_kind (s : State) : s.release.get Reg.WHISTLE.STATE.KIND = 0 :=
  ((s.setFrozenSet ⟨0, 0, 0⟩).keeps_startResume _ (by decide) (by decide)).trans (s.setFrozenSet_kind _)

theorem State.release_whistle (s : State) : s.release.whistle = { s.whistle with
    branches := 0, resumeFc := some s.fc, freezeFc := none, isSnap := false, fromSnap := false } := by
  rw [State.release, State.startResume_whistle, State.setFrozenSet_whistle]
  rfl

theorem State.whistleOnly_release (s : State) : s.whistleOnly s.release :=
  (s.treeOnly_setFrozenSet _).acts.trans (State.whistleOnly_startResume _)

theorem State.keeps_release (s : State) : s.keeps s.release releaseFlds := (s.keeps_setFrozenSet _).trans (State.keeps_startResume _)

/-- The state after RESUME has been driven on the frozen set (R177, R242). -/
def State.resumed (s : State) : State :=
  ((s.driveSet wireResume s.frozenSet).modCut (fun j => { j with ownStop := j.ownStop && j.kind == 1 })).release

/-- RESUME of a FROZEN Whistle with no step active is driven. -/
theorem State.resumeReq_frozen (hst : s.get Reg.WHISTLE.STATE.STATE = wsFrozen) (ha : s.get Reg.WHISTLE.STATE.STEP_ACTIVE = 0)
    (hf : s.treeFree = true) : s.resumeReq r = (s.resumed, wrDriven) := by
  unfold State.resumeReq
  dsimp only
  rw [if_neg (by rw [ha]; decide), if_neg (by rw [hst]; decide), if_neg (by simp [hst]), if_neg (by simp [hf])]
  rfl

/-- RESUME of a RUNNING Whistle is refused (R190). -/
theorem State.resumeReq_running (hst : s.get Reg.WHISTLE.STATE.STATE = wsRunning) (ha : s.get Reg.WHISTLE.STATE.STEP_ACTIVE = 0) :
    s.resumeReq r = (s.raise Reg.WHISTLE.EVENT.REFUSED, wrRefusedState) := by
  unfold State.resumeReq
  dsimp only
  rw [if_neg (by rw [ha]; decide), if_neg (by rw [hst]; decide), if_pos (by rw [hst]; decide)]
  rfl

theorem State.resumed_whistle (s : State) : s.resumed.whistle = { s.whistle with
    branches := 0
    last := some (s.frozenSet.cmd wireResume s.fc)
    tree := s.whistle.tree.filter (fun (x : TreeCmd) => s.fc ≤ x.fc + 64) ++ [s.frozenSet.cmd wireResume s.fc]
    resumeFc := some s.fc
    freezeFc := none
    isSnap := false
    fromSnap := false } := by
  rw [State.resumed, State.release_whistle]
  rfl

theorem State.keeps_resumed (s : State) : s.keeps s.resumed releaseFlds :=
  ((s.keeps_rfl []).sameRegs fun _ => rfl).trans (State.keeps_release _)

/-- The set that a STEP of the whole frozen set names. -/
def State.stepSet (s : State) : FrozenSet :=
  ⟨s.frozenSet.kind, s.whistle.branches, if s.frozenSet.kind = 2 then s.whistle.branches % 65536 else s.frozenSet.arg⟩

/-- The step's own STOP, in fc N of the step (R182). -/
def State.stepStopCmd (s : State) : TreeCmd := s.stepSet.cmd wireStop (s.fc + s.cfg Reg.WHISTLE.STEP_COUNT.COUNT)

/-- The state after STEP has been driven on the frozen set, with its own STOP due (R181, R182). -/
def State.stepped (s : State) : State :=
  let t := s.driveSet wireStep s.stepSet
  ({ t with whistle := { t.whistle with stepDue := some s.stepStopCmd } }.put Reg.WHISTLE.STATE.STEP_ACTIVE 1).startResume

/-- STEP of a FROZEN Whistle with SCOPE 0 is driven on the frozen set. -/
theorem State.stepReq_frozen (hst : s.get Reg.WHISTLE.STATE.STATE = wsFrozen) (ha : s.get Reg.WHISTLE.STATE.STEP_ACTIVE = 0)
    (hf : s.treeFree = true) (hscope : s.cfg Reg.WHISTLE.STEP_COUNT.SCOPE = 0) (hb : s.whistle.branches ≠ 0) (hw : r.withheld = 0) :
    s.stepReq r = (s.stepped, wrDriven) := by
  have hkeep : keepBranches s.frozenSet.branches r.withheld = s.whistle.branches := if_pos hw
  unfold State.stepReq
  dsimp only
  rw [if_neg (by rw [ha, hst]; decide), if_pos (.inl hscope), if_neg (by simp [hf]), if_pos hscope, hkeep, if_neg hb]
  rfl

theorem State.stepped_whistle (s : State) : s.stepped.whistle = { s.whistle with
    last := some (s.stepSet.cmd wireStep s.fc)
    tree := s.whistle.tree.filter (fun (x : TreeCmd) => s.fc ≤ x.fc + 64) ++ [s.stepSet.cmd wireStep s.fc]
    stepDue := some s.stepStopCmd
    resumeFc := some s.fc
    freezeFc := none
    isSnap := false
    fromSnap := false } := rfl

/-- The registers that a step changes when it starts. -/
def stepFlds : List Fld := [Reg.WHISTLE.STATE.STEP_ACTIVE, Reg.WHISTLE.STATE.STATE]

theorem State.keeps_stepped (s : State) : s.keeps s.stepped stepFlds :=
  State.keeps.trans (((s.keeps_rfl [Reg.WHISTLE.STATE.STEP_ACTIVE]).sameRegs fun _ => rfl).put 1 (.head _)) (State.keeps_startResume _)

theorem State.stepped_shown (s : State) :
    s.stepped.get Reg.WHISTLE.STATE.STATE = wsResuming ∧ s.stepped.get Reg.WHISTLE.STATE.STEP_ACTIVE = 1 :=
  ⟨State.startResume_state _, (State.keeps_startResume _ _ (by decide) (by decide)).trans (State.get_put_same _ _ _)⟩

/-- The arbiter after a CANCEL: no request is held, and a running step's own STOP comes in this fc (R191). -/
def Whistle.cancelled (w : Whistle) (fc : Nat) : Whistle :=
  { w with held := [], stepDue := w.stepDue.map (fun c => { c with fc := min c.fc fc }) }

/-- The state after a CANCEL. -/
def State.cancelled (s : State) : State :=
  let t : State := { s with whistle := s.whistle.cancelled s.fc }
  (t.bumpBy Reg.WHISTLE.STATUS.DISCARDS s.whistle.held.length).put Reg.WHISTLE.STATE.HELD 0

theorem State.cancelReq_eq (s : State) : ∃ res < 16, s.cancelReq = (s.cancelled, res) := by
  refine ⟨if s.whistle.held.length ≠ 0 ∨ s.whistle.stepDue.isSome then wrCancelled else wrNoEffect, ?_, rfl⟩
  split <;> decide

/-- The registers that a CANCEL changes. -/
def cancelFlds : List Fld := [Reg.WHISTLE.STATUS.DISCARDS, Reg.WHISTLE.STATE.HELD]

theorem State.keeps_cancelled (s : State) : s.keeps s.cancelled cancelFlds :=
  ((((s.keeps_rfl _).sameRegs fun _ => rfl).bumpBy _ (.head _)).put _ (.tail _ (.head _)))

theorem State.cancelled_discards (s : State) : s.counted s.cancelled Reg.WHISTLE.STATUS.DISCARDS s.whistle.held.length :=
  (State.get_put_ne _ _ (by decide)).trans (State.get_bumpBy_same _ _ _)

end Resumes

/-! ### O17 -/

section RequestsAct

variable {s : State} {w : WSource}

theorem State.resumeFrom_frozen (ho : s.whistleOpen w 4 = true) (hst : s.get Reg.WHISTLE.STATE.STATE = wsFrozen)
    (ha : s.get Reg.WHISTLE.STATE.STEP_ACTIVE = 0) (hf : s.treeFree = true) :
    s.replied (s.whistleFrom w 4 0) (s.asked w 4).resumed w wrDriven releaseFlds :=
  State.whistleFrom_replied ho (by decide) (by decide)
    (State.resumeReq_frozen ((s.asked_state w 4).trans hst) ((s.asked_stepActive w 4).trans ha) (State.asked_treeFree hf))
    (State.keeps_resumed _) (by decide)

theorem State.resumeFrom_running (ho : s.whistleOpen w 4 = true) (hst : s.get Reg.WHISTLE.STATE.STATE = wsRunning)
    (ha : s.get Reg.WHISTLE.STATE.STEP_ACTIVE = 0) :
    s.replied (s.whistleFrom w 4 0) ((s.asked w 4).raise Reg.WHISTLE.EVENT.REFUSED) w wrRefusedState [Reg.WHISTLE.EVENT.REFUSED] :=
  State.whistleFrom_replied ho (by decide) (by decide)
    (State.resumeReq_running ((s.asked_state w 4).trans hst) ((s.asked_stepActive w 4).trans ha))
    ((State.keeps_rfl _ _).raise (.head _)) (by decide)

theorem State.stepFrom_frozen (ho : s.whistleOpen w 5 = true) (hst : s.get Reg.WHISTLE.STATE.STATE = wsFrozen)
    (ha : s.get Reg.WHISTLE.STATE.STEP_ACTIVE = 0) (hf : s.treeFree = true)
    (hscope : (s.whistleTurn w 5).cfg Reg.WHISTLE.STEP_COUNT.SCOPE = 0) (hb : s.whistle.branches ≠ 0) :
    s.replied (s.whistleFrom w 5 0) (s.asked w 5).stepped w wrDriven stepFlds :=
  State.whistleFrom_replied ho (by decide) (by decide)
    (State.stepReq_frozen ((s.asked_state w 5).trans hst) ((s.asked_stepActive w 5).trans ha) (State.asked_treeFree hf)
      ((s.asked_cfg w 5 _).trans hscope) (by rw [State.asked_whistle]; exact hb) rfl)
    (State.keeps_stepped _) (by decide)

theorem State.snapFrom_running (hst : s.get Reg.WHISTLE.STATE.STATE = wsRunning) (ha : s.get Reg.WHISTLE.STATE.STEP_ACTIVE = 0)
    (hf : s.treeFree = true) (hb : s.snapBlocked = false) : (s.asked w 6).evalReq (s.whistleAsk w 6 0)
      = ((s.asked w 6).drivenFreeze wireSnap ⟨1, allBranches, 0⟩ (s.whistleAsk w 6 0) true, wrDriven) := by
  have hblock : (s.asked w 6).snapBlocked = false := by rw [State.snapBlocked, State.asked_agents]; exact hb
  have heval : (s.asked w 6).evalReq (s.whistleAsk w 6 0)
      = (s.asked w 6).snapReq (s.whistleAsk w 6 0) (s.asked w 6).snapBlocked := rfl
  rw [heval, hblock]
  exact State.snapReq_running ((s.asked_state w 6).trans hst) ((s.asked_stepActive w 6).trans ha) (State.asked_treeFree hf)

theorem State.cancelFrom (ho : s.whistleOpen w 7 = true) :
    ∃ res, s.replied (s.whistleFrom w 7 0) (s.asked w 7).cancelled w res cancelFlds := by
  obtain ⟨res, hr, he⟩ := (s.asked w 7).cancelReq_eq
  exact ⟨res, State.whistleFrom_replied ho (by decide) hr he (State.keeps_cancelled _) (by decide)⟩

end RequestsAct

/-- Settles O17: the requests in the states that take them, and the refusal of a RESUME in RUNNING. -/
theorem resumeStepSnapAndCancelAct : Obligations.ResumeStepSnapAndCancelAct := by
  unfold Obligations.ResumeStepSnapAndCancelAct
  refine fun w s hf => ⟨fun ho ha => ⟨fun hst => ?_, fun hst => ?_⟩, fun ho hst ha hscope hb => ?_, fun ho hst ha hsnap => ?_,
    fun ho => ?_⟩
  · have ht := State.resumeFrom_frozen ho hst ha hf
    have hwh := ht.whistle
    rw [State.resumed_whistle, State.asked_fc] at hwh
    refine ⟨_, rfl, (ht.shows _ (by decide)).trans (State.release_state _), (ht.shows _ (by decide)).trans (State.release_kind _),
      ?_, ?_, ht.result,
      ⟨(s.asked w 4).frozenSet.mode, (s.asked w 4).frozenSet.field, ?_⟩, ht.keeps.mono (by decide), ht.agents⟩
    · rw [hwh]
    · rw [hwh]
    · rw [hwh, FrozenSet.cmd, ← s.asked_whistle w 4]
      rfl
  · have ht := State.resumeFrom_running ho hst ha
    exact ⟨_, rfl, (ht.shows _ (.head _)).trans (State.get_raise_same _ rfl), ht.result, ht.whistle.trans (s.asked_whistle w 4),
      ht.keeps.mono (by decide), ht.agents⟩
  · have ht := State.stepFrom_frozen ho hst ha hf hscope hb
    have hwh := ht.whistle
    obtain ⟨hstate, hactive⟩ := (s.asked w 5).stepped_shown
    rw [State.stepped_whistle, State.asked_fc, State.stepStopCmd, State.asked_fc, State.asked_cfg] at hwh
    refine ⟨_, rfl, (ht.shows _ (by decide)).trans hstate, (ht.shows _ (by decide)).trans hactive, 
      ⟨(s.asked w 5).stepSet.mode, (s.asked w 5).stepSet.field, ?_, ?_⟩, ht.result,
      ht.keeps.mono (by decide), ht.agents⟩
    · rw [hwh, FrozenSet.cmd, ← s.asked_whistle w 5]
      rfl
    · rw [hwh, FrozenSet.cmd, ← s.asked_whistle w 5]
      rfl
  · obtain ⟨hshow, hwh, hres, hkeep, hag⟩ := State.whistleFrom_freezes ho (by decide) (State.snapFrom_running hst ha hf hsnap)
    rw [State.drivenFreeze_whistle] at hwh
    refine ⟨_, rfl, hshow.state, hshow.kind, ?_, ?_, ?_, hres, hkeep, hag⟩
    · rw [hwh]
    · rw [hwh]; rfl
    · rw [hwh]; rfl
  · obtain ⟨res, ht⟩ := State.cancelFrom ho
    have hwh : (s.whistleFrom w 7 0).whistle = s.whistle.cancelled s.fc := by
      rw [ht.whistle, ← s.asked_whistle w 7, ← s.asked_fc w 7]
      rfl
    refine ⟨_, rfl, ?_, (ht.shows _ (by decide)).trans (State.get_put_same _ _ _), ?_, ?_, ht.keeps.mono (by decide), ht.agents⟩
    · rw [hwh, Whistle.cancelled]
    · have hcount := (s.asked w 7).cancelled_discards
      rw [State.counted, s.asked_whistle w 7, s.keeps_asked w 7 _ (by decide) (by decide)] at hcount
      exact (ht.shows _ (.head _)).trans hcount
    · rw [hwh, Whistle.cancelled]

end Sys2Proof.Machine

namespace Sys2Proof.Machine

/-! ### Held requests, the step's STOP and the snap's RESUME (R182, R185, R189) -/

section Due

variable {s : State} {r : WReq} {c : TreeCmd} {f : Nat}

theorem exec_heldDrive_none (h : s.whistle.held.find? s.heldReady = none) : exec .whistleHeldDrive s = .next s := by
  have hd : s.heldDrive = s := by
    unfold State.heldDrive
    rw [h]
  exact congrArg Host.Outcome.next hd

/-- The state in which a held request is evaluated once it has been taken (R189). -/
def State.heldTaken (s : State) (r : WReq) : State :=
  ({ s with whistle := { s.whistle with held := s.whistle.held.erase r } } : State).put Reg.WHISTLE.STATE.HELD
    (bit (!(s.whistle.held.erase r).isEmpty))

/-- The outcome `v` of a held request, noted with its result for the Cut engine. -/
def State.resolvedAs (s v : State) (r : WReq) (res : Nat) : State :=
  { v with whistle := { v.whistle with
      resolved := some (r, res, v.fc)
      resolvedRun := s.get Reg.WHISTLE.STATE.STATE == wsRunning
      resolvedPos := 65536 * v.wheel.rev + v.wheel.sub } }

theorem State.resolvedAs_whistle (s v : State) (r : WReq) (res : Nat) : (s.resolvedAs v r res).whistle = { v.whistle with
    resolved := some (r, res, v.fc)
    resolvedRun := s.get Reg.WHISTLE.STATE.STATE == wsRunning
    resolvedPos := 65536 * v.wheel.rev + v.wheel.sub } := rfl

theorem State.get_resolvedAs (s v : State) (r : WReq) (res : Nat) (g : Fld) : (s.resolvedAs v r res).get g = v.get g := rfl
theorem State.resolvedAs_agents (s v : State) (r : WReq) (res : Nat) : (s.resolvedAs v r res).agents = v.agents := rfl

theorem exec_heldDrive_some {v : State} {res : Nat} (h : s.whistle.held.find? s.heldReady = some r)
    (he : (s.heldTaken r).evalReq r = (v, res)) : exec .whistleHeldDrive s = .next (s.resolvedAs v r res) := by
  have hd : s.heldDrive = s.resolvedAs ((s.heldTaken r).evalReq r).1 r ((s.heldTaken r).evalReq r).2 := by
    unfold State.heldDrive
    rw [h]
    rfl
  rw [he] at hd
  exact congrArg Host.Outcome.next hd

/-- A held RESUME that meets a FROZEN Whistle is taken and driven. -/
theorem State.heldResume_spec (h : s.whistle.held.find? s.heldReady = some r) (hr : r.code = 4)
    (hst : s.get Reg.WHISTLE.STATE.STATE = wsFrozen) (ha : s.get Reg.WHISTLE.STATE.STEP_ACTIVE = 0) :
    ∃ t, exec .whistleHeldDrive s = .next t ∧ t.whistle.held = s.whistle.held.erase r
      ∧ t.whistle.resolved = some (r, wrDriven, s.fc) ∧ t.get Reg.WHISTLE.STATE.STATE = wsResuming ∧ t.whistle.branches = 0
      ∧ t.agents = s.agents := by
  have hready := List.find?_some h
  obtain ⟨hfree, -⟩ := Bool.and_eq_true_iff.1 hready
  have hresume : (s.heldTaken r).resumeReq r = ((s.heldTaken r).resumed, wrDriven) :=
    State.resumeReq_frozen ((State.get_put_ne _ _ (by decide)).trans hst) ((State.get_put_ne _ _ (by decide)).trans ha) hfree
  have he : (s.heldTaken r).evalReq r = ((s.heldTaken r).resumed, wrDriven) := by
    unfold State.evalReq
    rw [if_neg (by omega), if_pos hr, hresume]
  have honly : (s.heldTaken r).whistleOnly (s.heldTaken r).resumed := by
    have h := (s.heldTaken r).whistleOnly_resumeReq r
    rwa [hresume] at h
  have hwh := State.resumed_whistle (s.heldTaken r)
  refine ⟨_, exec_heldDrive_some h he, ?_, ?_, ?_, ?_, ?_⟩
  · rw [State.resolvedAs_whistle, hwh]
    rfl
  · rw [State.resolvedAs_whistle, honly.fc]
    rfl
  · rw [State.get_resolvedAs]
    exact State.release_state _
  · rw [State.resolvedAs_whistle, hwh]
  · rw [State.resolvedAs_agents, honly.agents]
    rfl

/-- The state after the step's own STOP has been driven (R182). -/
def State.stepEnded (s : State) (c : TreeCmd) : State :=
  let t := s.drive c.wire c.mode c.field c.branches
  ({ t with whistle := { t.whistle with stepDue := none, isStepEnd := true } } : State).startFreeze false

theorem exec_stepStop_eq (h : s.whistle.stepDue = some c) :
    exec .stepStop s = .next (if c.fc ≤ s.fc ∧ s.treeFree = true then s.stepEnded c else s) := by
  show execStepStop s = _
  unfold execStepStop
  rw [h]
  rfl

theorem State.stepEnded_spec (s : State) (c : TreeCmd) : (s.stepEnded c).get Reg.WHISTLE.STATE.STATE = wsFreezing
    ∧ (s.stepEnded c).whistle.last = some ⟨c.wire, c.mode, c.field, c.branches, s.fc⟩ ∧ (s.stepEnded c).whistle.stepDue = none
    ∧ s.keeps (s.stepEnded c) [Reg.WHISTLE.STATE.STATE] ∧ (s.stepEnded c).agents = s.agents :=
  ⟨State.startFreeze_state _ _, rfl, rfl, ((s.keeps_rfl []).sameRegs fun _ => rfl).trans (State.keeps_startFreeze _ false), rfl⟩

/-- RESUME has been driven on every branch for the snap in progress. -/
def State.snapSent (s : State) : State :=
  let t := s.drive wireResume 0 0 allBranches
  { t with whistle := { t.whistle with snapDue := none } }

/-- The state after the snap's RESUME has been driven (R185). -/
def State.snapEnded (s : State) : State :=
  { s.snapSent.release with whistle := { s.snapSent.release.whistle with fromSnap := true } }

theorem exec_snapResume_eq (h : s.whistle.snapDue = some f) :
    exec .snapResume s = .next (if f ≤ s.fc ∧ s.treeFree = true then s.snapEnded else s) := by
  show execSnapResume s = _
  unfold execSnapResume
  rw [h]
  rfl

theorem State.snapEnded_spec (s : State) : s.snapEnded.get Reg.WHISTLE.STATE.STATE = wsResuming
    ∧ s.snapEnded.get Reg.WHISTLE.STATE.KIND = 0 ∧ s.snapEnded.whistle.branches = 0
    ∧ s.snapEnded.whistle.last = some ⟨wireResume, 0, 0, allBranches, s.fc⟩ ∧ s.snapEnded.whistle.snapDue = none
    ∧ s.keeps s.snapEnded releaseFlds ∧ s.snapEnded.agents = s.agents := by
  have hwh : s.snapEnded.whistle = { s.snapSent.release.whistle with fromSnap := true } := rfl
  have hget : s.snapSent.release.sameRegs s.snapEnded := fun _ => rfl
  have hsent : s.keeps s.snapSent [] := fun _ _ _ => rfl
  rw [State.release_whistle] at hwh
  refine ⟨(hget _).trans (State.release_state _), (hget _).trans (State.release_kind _), ?_, ?_, ?_,
    (hsent.trans (State.keeps_release _)).sameRegs hget, s.snapSent.whistleOnly_release.agents⟩
  · rw [hwh]
  · rw [hwh]
    rfl
  · rw [hwh]
    rfl

end Due

end Sys2Proof.Machine

namespace Sys2Proof.Machine

/-! ### The ends of the waves (R162, R177, R183) -/

section WaveEnds

variable {s : State} {f : Nat}

/-- The state after a freeze wave has ended in FROZEN (R162). -/
def State.frozenNow (s : State) : State :=
  (({ s with whistle := { s.whistle with freezeFc := none, isStepEnd := false, isSnap := false } } : State).put
    Reg.WHISTLE.STATE.STATE wsFrozen).raise Reg.WHISTLE.EVENT.FROZEN

/-- The state after the freeze wave of a step's STOP has ended (R183). -/
def State.stepDone (s : State) : State := (s.frozenNow.put Reg.WHISTLE.STATE.STEP_ACTIVE 0).raise Reg.WHISTLE.EVENT.STEP_DONE

/-- The state after a freeze wave that no RESUME ends. -/
def State.waveEnded (s : State) : State := if s.whistle.isStepEnd = true then s.stepDone else s.frozenNow

theorem exec_waveFrozen_eq (h : s.whistle.freezeFc = some f) (hsnap : s.whistle.snapDue = none)
    (hst : s.get Reg.WHISTLE.STATE.STATE = wsFreezing) :
    exec .waveFrozen s = .next (if f + 16 ≤ s.fc then s.waveEnded else s) := by
  show execWaveFrozen s = _
  unfold execWaveFrozen
  rw [h]
  refine congrArg Host.Outcome.next (if_congr ?_ rfl rfl)
  simp only [hsnap, hst, and_true]

/-- The registers that the end of a freeze wave changes. -/
def frozenFlds : List Fld :=
  [Reg.WHISTLE.STATE.STATE, Reg.WHISTLE.EVENT.FROZEN, Reg.WHISTLE.STATE.STEP_ACTIVE, Reg.WHISTLE.EVENT.STEP_DONE]

theorem State.keeps_frozenNow (s : State) : s.keeps s.frozenNow frozenFlds :=
  (((s.keeps_rfl _).sameRegs fun _ => rfl).put _ (by decide)).raise (by decide)

theorem State.frozenNow_shown (s : State) :
    s.frozenNow.get Reg.WHISTLE.STATE.STATE = wsFrozen ∧ s.frozenNow.get Reg.WHISTLE.EVENT.FROZEN = 1 :=
  ⟨(State.get_raise_ne _ (by decide)).trans (State.get_put_same _ _ _), State.get_raise_same _ rfl⟩

theorem State.keeps_stepDone (s : State) :
    s.frozenNow.keeps s.stepDone [Reg.WHISTLE.STATE.STEP_ACTIVE, Reg.WHISTLE.EVENT.STEP_DONE] :=
  ((State.keeps_rfl _ _).put _ (by decide)).raise (by decide)

theorem State.stepDone_shown (s : State) :
    s.stepDone.get Reg.WHISTLE.STATE.STEP_ACTIVE = 0 ∧ s.stepDone.get Reg.WHISTLE.EVENT.STEP_DONE = 1 :=
  ⟨(State.get_raise_ne _ (by decide)).trans (State.get_put_same _ _ _), State.get_raise_same _ rfl⟩

theorem State.waveEnded_spec (s : State) : s.waveEnded.get Reg.WHISTLE.STATE.STATE = wsFrozen
    ∧ s.waveEnded.get Reg.WHISTLE.EVENT.FROZEN = 1
    ∧ (s.whistle.isStepEnd = true → s.waveEnded.get Reg.WHISTLE.STATE.STEP_ACTIVE = 0
      ∧ s.waveEnded.get Reg.WHISTLE.EVENT.STEP_DONE = 1)
    ∧ s.keeps s.waveEnded frozenFlds ∧ s.waveEnded.agents = s.agents := by
  obtain ⟨hstate, hevent⟩ := s.frozenNow_shown
  unfold State.waveEnded
  split
  · have hk := s.keeps_stepDone
    exact ⟨(hk _ (by decide) (by decide)).trans hstate, (hk _ (by decide) (by decide)).trans hevent, fun _ => s.stepDone_shown,
      (s.keeps_frozenNow.trans hk).mono (by decide), rfl⟩
  next h => exact ⟨hstate, hevent, fun he => absurd he h, s.keeps_frozenNow, rfl⟩

/-- The state after a resume wave has ended in RUNNING (R177, R478). -/
def State.runningNow (s : State) : State :=
  let t : State := { s with whistle := { s.whistle with resumeFc := none } }
  let u : State := if s.whistle.fromSnap = true then t else { t with hang := { t.hang with revCount := 0 } }
  (u.put Reg.WHISTLE.STATE.STATE wsRunning).raise Reg.WHISTLE.EVENT.RUNNING

theorem exec_resumeWaveDone_eq (h : s.whistle.resumeFc = some f) (hst : s.get Reg.WHISTLE.STATE.STATE = wsResuming) :
    exec .resumeWaveDone s = .next (if f + 12 ≤ s.fc then s.runningNow else s) := by
  show execResumeWaveDone s = _
  unfold execResumeWaveDone
  rw [h]
  refine congrArg Host.Outcome.next (if_congr ?_ rfl rfl)
  simp only [hst, and_true]

theorem State.runningNow_spec (s : State) : s.runningNow.get Reg.WHISTLE.STATE.STATE = wsRunning
    ∧ s.runningNow.get Reg.WHISTLE.EVENT.RUNNING = 1 ∧ s.runningNow.whistle.resumeFc = none
    ∧ s.keeps s.runningNow [Reg.WHISTLE.STATE.STATE, Reg.WHISTLE.EVENT.RUNNING] ∧ s.runningNow.agents = s.agents := by
  unfold State.runningNow
  dsimp only
  refine ⟨(State.get_raise_ne _ (by decide)).trans (State.get_put_same _ _ _), State.get_raise_same _ rfl, ?_, ?_, ?_⟩
  · split <;> rfl
  · refine (State.keeps.put ?_ _ (.head _)).raise (.tail _ (.head _))
    split <;> exact fun _ _ _ => rfl
  · split <;> rfl

end WaveEnds

/-! ### The acknowledge check (R163, R164, R195) -/

section AckCheck

variable {s : State} {w : AckWave} {rest : List AckWave} {a first last : Nat}

/-- The latency and the spread of a wave whose agents are all frozen are shown (R195). -/
def State.skewShown (s : State) (lat skew : Nat) : State :=
  let t := (s.put Reg.WHISTLE.SKEW_MAX.LATENCY (min lat 255)).put Reg.WHISTLE.SKEW_MAX.SKEW (min skew 255)
  t.put Reg.WHISTLE.SKEW_MAX.WORST (max (t.get Reg.WHISTLE.SKEW_MAX.WORST) (min skew 255))

/-- FAULT.BOUND is raised by a wave beyond the bounds of R164. -/
def State.boundJudged (s : State) (lat skew : Nat) : State := if 12 < lat ∨ 3 < skew then s.fault Slot.WHISTLE 11 0 else s

/-- The largest skid and its agent are shown. -/
def State.skidShown (s : State) (most who : Nat) : State :=
  let t := (s.put Reg.WHISTLE.SKID_HIGH.LAST most).put Reg.WHISTLE.SKID_HIGH.AGENT who
  t.put Reg.WHISTLE.SKID_HIGH.WORST (max (t.get Reg.WHISTLE.SKID_HIGH.WORST) most)

theorem State.ackRecord_missing (h : s.ackMissing w = some a) :
    s.ackRecord w = (s.fault Slot.WHISTLE 8 a).skidShown s.skidMost.1 s.skidMost.2 := by
  unfold State.ackRecord
  rw [h]
  rfl

theorem State.ackRecord_frozen (h : s.ackMissing w = none) (hf : w.first = some first) (hl : w.last = some last) :
    s.ackRecord w = ((s.skewShown (last - w.cmd.fc) (last - first)).boundJudged (last - w.cmd.fc) (last - first)).skidShown
      s.skidMost.1 s.skidMost.2 := by
  unfold State.ackRecord
  rw [h, hf, hl]
  rfl

/-- The registers of SKID_HIGH. -/
def skidFlds : List Fld := [Reg.WHISTLE.SKID_HIGH.LAST, Reg.WHISTLE.SKID_HIGH.AGENT, Reg.WHISTLE.SKID_HIGH.WORST]

theorem State.keeps_skidShown (s : State) (most who : Nat) : s.keeps (s.skidShown most who) skidFlds :=
  (((s.keeps_rfl _).put _ (by decide)).put _ (by decide)).put _ (by decide)

theorem State.skidShown_shows (s : State) (most who : Nat) :
    (s.skidShown most who).get Reg.WHISTLE.SKID_HIGH.LAST = most % 2 ^ Reg.WHISTLE.SKID_HIGH.LAST.width
      ∧ (s.skidShown most who).get Reg.WHISTLE.SKID_HIGH.AGENT = who % 2 ^ Reg.WHISTLE.SKID_HIGH.AGENT.width :=
  ⟨(State.get_put_ne _ _ (by decide)).trans ((State.get_put_ne _ _ (by decide)).trans (State.get_put_same _ _ _)),
    (State.get_put_ne _ _ (by decide)).trans (State.get_put_same _ _ _)⟩

theorem State.skewShown_shows (s : State) (lat skew : Nat) :
    (s.skewShown lat skew).get Reg.WHISTLE.SKEW_MAX.LATENCY = min lat 255
      ∧ (s.skewShown lat skew).get Reg.WHISTLE.SKEW_MAX.SKEW = min skew 255
      ∧ (s.skewShown lat skew).get Reg.WHISTLE.SKEW_MAX.WORST = max (s.get Reg.WHISTLE.SKEW_MAX.WORST) (min skew 255) % 256 := by
  have hcap : ∀ n, min n 255 % 2 ^ 8 = min n 255 := fun n => by omega
  unfold State.skewShown
  dsimp only
  refine ⟨?_, ?_, ?_⟩
  · rw [State.get_put_ne _ _ (by decide), State.get_put_ne _ _ (by decide), State.get_put_same]
    exact hcap lat
  · rw [State.get_put_ne _ _ (by decide), State.get_put_same]
    exact hcap skew
  · rw [State.get_put_same, State.get_put_ne _ _ (by decide), State.get_put_ne _ _ (by decide)]
    rfl

/-- A fault of the WHISTLE page, and its FAULT_INFO. -/
def whistleFaultFlds (b : Nat) : List Fld :=
  [⟨0x14018, b, b, 0⟩, Hdr.FAULT_INFO_FIRST Slot.WHISTLE, Hdr.FAULT_INFO_DETAIL Slot.WHISTLE]

theorem State.keeps_boundJudged (s : State) (lat skew : Nat) : s.keeps (s.boundJudged lat skew) (whistleFaultFlds 11) := by
  unfold State.boundJudged
  split
  · exact s.keeps_fault Slot.WHISTLE 11 0
  · exact s.keeps_rfl _

theorem State.boundJudged_bit {lat skew : Nat} (h : 12 < lat ∨ 3 < skew) :
    (s.boundJudged lat skew).get ⟨0x14018, 11, 11, 0⟩ = 1 := by
  unfold State.boundJudged
  rw [if_pos h]
  exact State.get_fault_bit _ (p := Slot.WHISTLE) (by decide) (by decide)

theorem State.ackRecord_frame (s : State) (w : AckWave) :
    (s.ackRecord w).whistle = s.whistle ∧ (s.ackRecord w).agents = s.agents := by
  unfold State.ackRecord
  dsimp only
  simp only [State.put_whistle, State.put_agents]
  split
  · exact ⟨State.fault_whistle _ _ _ _, State.fault_agents _ _ _ _⟩
  · split
    · exact ⟨State.fault_whistle _ _ _ _, State.fault_agents _ _ _ _⟩
    · exact ⟨rfl, rfl⟩

/-- A targeted agent that is not frozen is FAULT bit 8, and the latency and the spread keep their values. -/
theorem State.ackRecord_missing_spec (h : s.ackMissing w = some a) : (s.ackRecord w).get ⟨0x14018, 8, 8, 0⟩ = 1
    ∧ (s.ackRecord w).get Reg.WHISTLE.SKEW_MAX.LATENCY = s.get Reg.WHISTLE.SKEW_MAX.LATENCY
    ∧ (s.ackRecord w).get Reg.WHISTLE.SKEW_MAX.SKEW = s.get Reg.WHISTLE.SKEW_MAX.SKEW := by
  have hskid := (s.fault Slot.WHISTLE 8 a).keeps_skidShown s.skidMost.1 s.skidMost.2
  have hfault := s.keeps_fault Slot.WHISTLE 8 a
  rw [State.ackRecord_missing h]
  exact ⟨(hskid _ (by decide) (by decide)).trans (State.get_fault_bit _ (p := Slot.WHISTLE) (by decide) (by decide)),
    (hskid _ (by decide) (by decide)).trans (hfault _ (by decide) (by decide)),
    (hskid _ (by decide) (by decide)).trans (hfault _ (by decide) (by decide))⟩

/-- With every targeted agent frozen the latency and the spread are recorded, and judged by R164's bounds. -/
theorem State.ackRecord_frozen_spec (h : s.ackMissing w = none) (hf : w.first = some first) (hl : w.last = some last) :
    (s.ackRecord w).get Reg.WHISTLE.SKEW_MAX.LATENCY = min (last - w.cmd.fc) 255
      ∧ (s.ackRecord w).get Reg.WHISTLE.SKEW_MAX.SKEW = min (last - first) 255
      ∧ (s.ackRecord w).get Reg.WHISTLE.SKEW_MAX.WORST = max (s.get Reg.WHISTLE.SKEW_MAX.WORST) (min (last - first) 255) % 256
      ∧ (12 < last - w.cmd.fc ∨ 3 < last - first → (s.ackRecord w).get ⟨0x14018, 11, 11, 0⟩ = 1) := by
  rw [State.ackRecord_frozen h hf hl]
  generalize last - w.cmd.fc = lat, last - first = skew
  obtain ⟨hlat, hskew, hworst⟩ := s.skewShown_shows lat skew
  have hskid := ((s.skewShown lat skew).boundJudged lat skew).keeps_skidShown s.skidMost.1 s.skidMost.2
  have hbound := (s.skewShown lat skew).keeps_boundJudged lat skew
  exact ⟨(hskid _ (by decide) (by decide)).trans ((hbound _ (by decide) (by decide)).trans hlat),
    (hskid _ (by decide) (by decide)).trans ((hbound _ (by decide) (by decide)).trans hskew),
    (hskid _ (by decide) (by decide)).trans ((hbound _ (by decide) (by decide)).trans hworst),
    fun hb => (hskid _ (by decide) (by decide)).trans (State.boundJudged_bit hb)⟩

theorem State.ackRecord_skid (s : State) (w : AckWave) :
    (s.ackRecord w).get Reg.WHISTLE.SKID_HIGH.LAST = s.skidMost.1 % 2 ^ Reg.WHISTLE.SKID_HIGH.LAST.width
      ∧ (s.ackRecord w).get Reg.WHISTLE.SKID_HIGH.AGENT = s.skidMost.2 % 2 ^ Reg.WHISTLE.SKID_HIGH.AGENT.width :=
  State.skidShown_shows _ _ _

/-- The oldest wave no longer awaits its check. -/
def State.ackTaken (s : State) (rest : List AckWave) : State := { s with whistle := { s.whistle with acks := rest } }

theorem exec_ackCheck_eq (h : s.whistle.acks = w :: rest) :
    exec .ackCheck s = .next (if w.cmd.fc + 24 ≤ s.fc then (s.ackTaken rest).ackRecord w else s) := by
  show execAckCheck s = _
  unfold execAckCheck
  rw [h]
  rfl

theorem exec_ackCheck_nil (h : s.whistle.acks = []) : exec .ackCheck s = .next s := by
  show execAckCheck s = _
  unfold execAckCheck
  rw [h]

end AckCheck

/-! ### O18 -/

/-- Settles O18: what is held or due acts when its fc has come and the tree is free, and each wave runs to its end. -/
theorem wavesRunToTheirEnds : Obligations.WavesRunToTheirEnds := by
  unfold Obligations.WavesRunToTheirEnds
  refine fun s => ⟨exec_heldDrive_none, fun r h hr hst ha => State.heldResume_spec h hr hst ha,
    fun c h => ⟨fun hc hf => ?_, fun hc => ?_⟩,
    fun f h => ⟨fun hc hf => ?_, fun hc => ?_⟩, fun f h hsnap hst => ⟨fun hc => ?_, fun hc => ?_⟩,
    fun w rest h => ⟨fun hc => ?_, fun hc => ?_⟩, exec_ackCheck_nil, fun f h hst => ⟨fun hc => ?_, fun hc => ?_⟩⟩
  · exact ⟨_, by rw [exec_stepStop_eq h, if_pos ⟨hc, hf⟩], s.stepEnded_spec c⟩
  · rw [exec_stepStop_eq h, if_neg fun hd => by omega]
  · obtain ⟨hstate, hkind, hbranches, hlast, hdue, hkeep, hag⟩ := s.snapEnded_spec
    exact ⟨_, by rw [exec_snapResume_eq h, if_pos ⟨hc, hf⟩], hstate, hkind, hbranches, hlast, hdue,
      hkeep.mono (by decide), hag⟩
  · rw [exec_snapResume_eq h, if_neg fun hd => by omega]
  · exact ⟨_, by rw [exec_waveFrozen_eq h hsnap hst, if_pos hc], s.waveEnded_spec⟩
  · rw [exec_waveFrozen_eq h hsnap hst, if_neg (by omega)]
  · obtain ⟨hwh, hag⟩ := (s.ackTaken rest).ackRecord_frame w
    obtain ⟨hskid, hagent⟩ := (s.ackTaken rest).ackRecord_skid w
    exact ⟨_, by rw [exec_ackCheck_eq h, if_pos hc], congrArg Whistle.acks hwh, hag,
      fun hm first last hf hl => State.ackRecord_frozen_spec (s := s.ackTaken rest) hm hf hl,
      fun a hm => State.ackRecord_missing_spec (s := s.ackTaken rest) hm, hskid, hagent⟩
  · rw [exec_ackCheck_eq h, if_neg (by omega)]
  · exact ⟨_, by rw [exec_resumeWaveDone_eq h hst, if_pos hc], s.runningNow_spec⟩
  · rw [exec_resumeWaveDone_eq h hst, if_neg (by omega)]

end Sys2Proof.Machine

/-! PROOF. Run control (chapter 5): the commands of HALT_CMD, halts at an instruction boundary, and fed instructions. -/

namespace Sys2Proof.Machine

/-! ### A write of HALT_CMD (R216, R626, Table 5-4) -/

section HaltCommand

variable {s u e : State} {x : Src} {code : Nat}

/-- An agent of this fc depends on the agent, on its clock and on the fc. -/
theorem State.agentNow_congr {t : State} {n : Nat} (ha : t.agent n = s.agent n) (ht : t.throttle = s.throttle) (hf : t.fc = s.fc) :
    t.agentNow n = s.agentNow n := by
  rw [State.agentNow, State.clockOf, ha, ht, hf]
  rfl

/-- The rows that write HALT_CMD, with the code that each writes. -/
def haltRows (x : Src) : List (Instr × Nat) := [(.halt x, 1), (.release x, 2), (.stepInstr x, 3), (.cancelHalt x, 4)]

theorem exec_haltRow (s : State) {ic : Instr × Nat} (h : ic ∈ haltRows x) :
    exec ic.1 s = .next (s.busWrite x 0x18044 (BitVec.ofNat 32 ic.2)) ∧ 1 ≤ ic.2 ∧ ic.2 ≤ 4 := by
  simp only [haltRows, List.mem_cons, List.not_mem_nil, or_false] at h
  rcases h with rfl | rfl | rfl | rfl <;> exact ⟨rfl, by simp, by simp⟩

/-- The write has been counted: RESULT shows its outcome from now on (R215). -/
def State.haltSent (u : State) : State := { u with runctl := { u.runctl with sent := u.runctl.sent + 1 } }

/-- The command is on its way to the target. -/
def State.haltQueued (u : State) (code : Nat) : State :=
  { u with runctl := { u.runctl with
      sent := u.runctl.sent + 1
      cmds := u.runctl.cmds ++ [⟨code, u.get Reg.RUNCTL.TARGET.ID, u.runctl.sent + 1⟩] } }

/-- HALT_STATUS.STATE of the target, in this fc. -/
def State.haltStateNow (u : State) : Nat :=
  (u.agentNow (u.get Reg.RUNCTL.TARGET.ID)).haltState (u.get Reg.RUNCTL.TARGET.ID)

/-- The target takes the command in its present state (Table 5-4). -/
def State.haltTakes (u : State) (code : Nat) : Prop :=
  (code = 1 ∧ u.haltStateNow = 0) ∨ (code = 2 ∧ u.haltStateNow = 2)
    ∨ (code = 3 ∧ u.haltStateNow = 2 ∧ (u.agent (u.get Reg.RUNCTL.TARGET.ID)).frozen = false) ∨ (code = 4 ∧ u.haltStateNow = 1)

/-- The judgement by the target's state (Table 5-4). -/
def State.haltJudged (u : State) (code : Nat) : State :=
  let send := (u.haltQueued code).haltResult hrInProgress
  let refuse := u.haltSent.haltResult hrRefusedState
  match code with
  | 1 => if u.haltStateNow = 0 then send else if u.haltStateNow = 2 then u.haltSent.haltResult hrNoEffect else refuse
  | 2 => if u.haltStateNow = 2 then send else refuse
  | 3 => if u.haltStateNow = 2 ∧ ¬ (u.agentNow (u.get Reg.RUNCTL.TARGET.ID)).frozen then send else refuse
  | 4 => if u.haltStateNow = 1 then send else refuse
  | _ => refuse

/-- The judgement of a write of HALT_CMD: by the page first, and then by the target. -/
theorem State.haltCmd_eq (u : State) (code : Nat) : u.haltCmd code =
    if u.tossActive then u.haltSent.haltResult hrBusy
    else if ¬ u.parityOk Slot.RUNCTL then u.haltSent.haltResult hrRefusedParity
    else if code = 0 then u.haltSent.haltResult hrNoEffect
    else if u.cfg Reg.RUNCTL.CTRL.ENABLE = 0 then u.haltSent.haltResult hrRefusedDisabled
    else if ¬ agentHaltable (u.get Reg.RUNCTL.TARGET.ID) then u.haltSent.haltResult hrRefusedType
    else if u.unreachable then u.haltSent.haltResult hrUnreachable
    else u.haltJudged code := rfl

/-- The command is sent where the target takes it; elsewhere RESULT says why it is not. -/
theorem State.haltJudged_eq [Decidable (u.haltTakes code)] (h1 : 1 ≤ code) (h4 : code ≤ 4) : u.haltJudged code =
    if u.haltTakes code then (u.haltQueued code).haltResult hrInProgress
    else u.haltSent.haltResult (if code = 1 ∧ u.haltStateNow = 2 then hrNoEffect else hrRefusedState) := by
  have hcode : code = 1 ∨ code = 2 ∨ code = 3 ∨ code = 4 := by omega
  rcases hcode with rfl | rfl | rfl | rfl
  · by_cases h2 : u.haltStateNow = 2
    · simp [State.haltJudged, State.haltTakes, h2]
    · simp [State.haltJudged, State.haltTakes, h2]
  all_goals simp [State.haltJudged, State.haltTakes]

section Judged

variable (ht : u.tossActive = false) (hp : u.parityOk Slot.RUNCTL = true) (h1 : 1 ≤ code)
include ht hp h1

theorem State.haltCmd_disabled (he : u.cfg Reg.RUNCTL.CTRL.ENABLE = 0) :
    u.haltCmd code = u.haltSent.haltResult hrRefusedDisabled := by
  rw [State.haltCmd_eq, if_neg (ne_true_of_eq_false ht), if_neg (not_not_intro hp), if_neg (by omega), if_pos he]

variable (he : u.cfg Reg.RUNCTL.CTRL.ENABLE = 1)
include he

theorem State.haltCmd_enabled : u.haltCmd code =
    if ¬ agentHaltable (u.get Reg.RUNCTL.TARGET.ID) then u.haltSent.haltResult hrRefusedType
    else if u.unreachable then u.haltSent.haltResult hrUnreachable
    else u.haltJudged code := by
  rw [State.haltCmd_eq, if_neg (ne_true_of_eq_false ht), if_neg (not_not_intro hp), if_neg (by omega), if_neg (by omega)]

end Judged

/-- The state in which a write of HALT_CMD is judged: with the drain rings powered down it is noted as a wake first (R576). -/
def State.haltTurn (s : State) (x : Src) (code : Nat) : State :=
  let u := s.writeTurn x 0x18044 (BitVec.ofNat 32 code)
  if u.unreachable ∧ ¬ u.tossActive then u.wakeNote wkAccess else u

theorem State.busWrite_haltCmd (hm : s.mayWrite x 0x18044 (BitVec.ofNat 32 code) = true) (h4 : code ≤ 4) :
    s.busWrite x 0x18044 (BitVec.ofNat 32 code)
      = ((s.haltTurn x code).haltCmd code).wrote x 0x18044 (BitVec.ofNat 32 code) := by
  have hv : (BitVec.ofNat 32 code).toNat % 8 = code := by
    rw [BitVec.toNat_ofNat]
    omega
  have hw : ∀ (u : State) m l, u.writeSpecial ⟨x, 0x18044, (BitVec.ofNat 32 code).toNat, false, m⟩ l
      = some ((if u.unreachable ∧ ¬ u.tossActive then u.wakeNote wkAccess else u).haltCmd code) := fun u m l => by
    rw [← hv]
    simp [State.writeSpecial, State.writeRunctl, Slot.TEAM]
  rw [s.busWrite_eq hm rfl rfl rfl rfl rfl]
  dsimp only
  rw [hw, Option.getD_some]
  rfl

/-- The turn leaves everything alone that the judgement looks at. -/
theorem State.haltTurn_eq (s : State) (x : Src) (code : Nat) :
    ∃ r w f b p, s.haltTurn x code = { s with regs0 := r, hw := w, hwFault := f, bank := b, pow := p }
      ∧ (s.haltTurn x code).hwFault = (s.writeTurn x 0x18044 (BitVec.ofNat 32 code)).hwFault
      ∧ (s.haltTurn x code).regs0 = (s.writeTurn x 0x18044 (BitVec.ofNat 32 code)).regs0 := by
  obtain ⟨r, w, f, b, h, -⟩ := s.turn_eq (wrAccess x 0x18044 (BitVec.ofNat 32 code))
  rw [← State.writeTurn] at h
  unfold State.haltTurn
  rw [h]
  dsimp only
  unfold State.wakeNote
  repeat' split
  all_goals exact ⟨_, _, _, _, _, rfl, rfl, rfl⟩

/-- What a write of HALT_CMD leaves when it changes RESULT, the parity status of the page, and the commands on their way. -/
theorem State.haltAnswer (hm : s.mayWrite x 0x18044 (BitVec.ofNat 32 code) = true) {r : Nat} (hr : r < 16) {k : RunCtl}
    (he : e = { s.haltTurn x code with runctl := k }) :
    let t := (e.haltResult r).wrote x 0x18044 (BitVec.ofNat 32 code)
    t.runctl = k ∧ t.get Reg.RUNCTL.HALT_CMD.RESULT = r ∧ t.agents = s.agents
      ∧ s.keeps t [Reg.RUNCTL.HALT_CMD.RESULT, Hdr.STATUS_PARITY_ERR Slot.RUNCTL] := by
  obtain ⟨r0, w, f, b, p, hturn, hfault, -⟩ := s.haltTurn_eq x code
  have hget : ∀ g : Fld, g.key ≠ (Hdr.STATUS_PARITY_ERR Slot.RUNCTL).key →
      ((e.haltResult r).wrote x 0x18044 (BitVec.ofNat 32 code)).get g = (e.haltResult r).get g :=
    fun g hg => State.get_wrote_effect hm rfl rfl (by rw [State.haltResult, State.put_hwFault, he, ← hfault]) hg
  have hsame : ∀ g : Fld, e.get g = s.get g := fun g => by
    rw [he, hturn]
    rfl
  refine ⟨?_, ?_, ?_, fun g _ hg => ?_⟩
  · rw [State.wrote_runctl, State.haltResult, State.put_runctl, he]
  · rw [hget _ (by decide), State.haltResult, State.get_put_same]
    exact Nat.mod_eq_of_lt hr
  · rw [State.wrote_agents, State.haltResult, State.put_agents, he, hturn]
  · rw [hget g (key_ne_of_not_mem hg (by simp)), State.haltResult, State.get_put_ne _ _ (key_ne_of_not_mem hg (by simp)), hsame]

end HaltCommand

/-- Settles O24: HALT_CMD is judged by the hub, by the page first and then by the target's state. -/
theorem haltCommandsAreJudgedAndSent : Obligations.HaltCommandsAreJudgedAndSent := by
  unfold Obligations.HaltCommandsAreJudgedAndSent
  intro x s a st rows takes unsent only ht hp ic hic hm
  obtain ⟨hex, h1, h4⟩ := exec_haltRow s hic
  obtain ⟨r0, w, f, b, p, hturn, hfault, hcfg⟩ := s.haltTurn_eq x ic.2
  have hget : ∀ g : Fld, (s.haltTurn x ic.2).get g = s.get g := fun g => by
    rw [hturn]
    rfl
  have henable : (s.haltTurn x ic.2).cfg Reg.RUNCTL.CTRL.ENABLE
      = (s.writeTurn x 0x18044 (BitVec.ofNat 32 ic.2)).cfg Reg.RUNCTL.CTRL.ENABLE := by rw [State.cfg, hcfg, State.cfg]
  have ht' : (s.haltTurn x ic.2).tossActive = false := by rwa [State.tossActive, hget]
  have hp' : (s.haltTurn x ic.2).parityOk Slot.RUNCTL = true := by rwa [State.parityOk, hget]
  have hu' : (s.haltTurn x ic.2).unreachable = s.unreachable := by rw [State.unreachable, State.power, hget]; rfl
  have hrun : (s.haltTurn x ic.2).runctl = s.runctl := by rw [hturn]
  have hst : (s.haltTurn x ic.2).haltStateNow = st := by
    rw [State.haltStateNow, hget, State.agentNow_congr (s := s) (by rw [hturn]; rfl) (by rw [hturn]) (by rw [hturn])]
  have htakes : (s.haltTurn x ic.2).haltTakes ic.2 ↔ takes ic.2 := by
    rw [State.haltTakes, hst, hget, show (s.haltTurn x ic.2).agent = s.agent by rw [hturn]; rfl]
  rw [hex, s.busWrite_haltCmd hm h4, ← henable]
  have hanswer : ∀ (v : State) (k : RunCtl) (r : Nat), v = { s.haltTurn x ic.2 with runctl := k } → r < 16 →
      let t := (v.haltResult r).wrote x 0x18044 (BitVec.ofNat 32 ic.2)
      t.runctl = k ∧ t.get Reg.RUNCTL.HALT_CMD.RESULT = r ∧ only t := fun v k r hv hr => State.haltAnswer hm hr hv
  have hunsent : ∀ r < 16, let t := ((s.haltTurn x ic.2).haltSent.haltResult r).wrote x 0x18044 (BitVec.ofNat 32 ic.2)
      t.runctl = unsent ∧ t.get Reg.RUNCTL.HALT_CMD.RESULT = r ∧ only t := fun r hr =>
    hanswer _ _ r (by rw [State.haltSent, hrun]) hr
  refine ⟨fun he hh hu => ?_, fun he hh => ?_, fun he => ?_, fun he hh hu => ?_⟩
  · rw [State.haltCmd_enabled ht' hp' h1 he, if_neg (not_not_intro (by rwa [hget])), hu', if_neg (ne_true_of_eq_false hu)]
    classical
    rw [State.haltJudged_eq h1 h4, hst]
    refine ⟨fun htk => ?_, fun htk => ?_⟩
    · rw [if_pos (htakes.2 htk)]
      obtain ⟨hr, hrest⟩ := hanswer ((s.haltTurn x ic.2).haltQueued ic.2) _ hrInProgress rfl (by decide)
      exact ⟨_, rfl, by rw [hr, hrun, hget], hrest⟩
    · rw [if_neg (mt htakes.1 htk)]
      exact ⟨_, rfl, hunsent _ (by split <;> decide)⟩
  · rw [State.haltCmd_enabled ht' hp' h1 he, if_pos (by rw [hget, hh]; decide)]
    obtain ⟨hr, hres, hag, -⟩ := hunsent hrRefusedType (by decide)
    exact ⟨_, rfl, hr, hres, hag⟩
  · rw [State.haltCmd_disabled ht' hp' h1 he]
    obtain ⟨hr, hres, hag, -⟩ := hunsent hrRefusedDisabled (by decide)
    exact ⟨_, rfl, hr, hres, hag⟩
  · rw [State.haltCmd_enabled ht' hp' h1 he, if_neg (not_not_intro (by rwa [hget])), hu', if_pos hu]
    obtain ⟨hr, hres, hag, -⟩ := hunsent hrUnreachable (by decide)
    exact ⟨_, rfl, hr, hres, hag⟩

end Sys2Proof.Machine

namespace Sys2Proof.Machine

/-! ### The deferral count of an agent that is brought up to date (R204) -/

section Deferral

theorem Agent.countCycles_deferLeft (g : Agent) (ctx k n : Nat) : (g.countCycles ctx k n).deferLeft = g.deferLeft := by
  unfold Agent.countCycles
  dsimp only
  repeat' split
  all_goals rfl

theorem Agent.countSpan_deferLeft (g : Agent) (n : Nat) : (g.countSpan n).deferLeft = g.deferLeft := by
  have both : ∀ (c : Prop) [Decidable c] (g : Agent) x m,
      (if c then g else (g.countCycles x 0 m).countCycles x 1 m).deferLeft = g.deferLeft := fun c _ g x m => by
    split
    · rfl
    · rw [Agent.countCycles_deferLeft, Agent.countCycles_deferLeft]
  unfold Agent.countSpan
  dsimp only
  generalize (if g.ctxCycle = some g.settled then min n 1 else 0) = m
  rw [both, both]

theorem Agent.replay_deferLeft (g : Agent) (n : Nat) : (g.replay n).deferLeft = g.deferLeft := by
  unfold Agent.replay
  split <;> rfl

/-- Time shortens a deferral, and neither begins nor ends one. -/
theorem Agent.settle_deferLeft (g : Agent) (now : Nat) : (g.settle now).deferLeft.isSome = g.deferLeft.isSome := by
  unfold Agent.settle
  dsimp only
  split
  · rfl
  · dsimp only
    rw [Agent.replay_deferLeft, Agent.countSpan_deferLeft]
    split
    · rfl
    · exact Option.isSome_map

theorem Agent.holdSeen_deferLeft (g : Agent) (a : Nat) (e : HoldEdge) : (g.holdSeen a e).deferLeft = g.deferLeft := by
  unfold Agent.holdSeen
  dsimp only
  rw [Agent.recode_proj _ Agent.deferLeft fun _ _ _ _ => rfl]
  split
  · unfold Agent.beginWait
    split <;> rfl
  · rfl

theorem Agent.advance_deferLeft (g : Agent) (a : Nat) (clk : Nat × Nat) (t : Nat) :
    (g.advance a clk t).deferLeft.isSome = g.deferLeft.isSome := by
  have holds : ∀ (l : List HoldEdge) (g : Agent),
      (l.foldl (fun g e => (g.settle (ownCycles clk.1 clk.2 e.fc)).holdSeen a e) g).deferLeft.isSome = g.deferLeft.isSome := by
    intro l
    induction l with
    | nil => exact fun _ => rfl
    | cons e l ih => exact fun g => (ih _).trans (by rw [Agent.holdSeen_deferLeft, Agent.settle_deferLeft])
  unfold Agent.advance
  dsimp only
  rw [Agent.settle_deferLeft, holds]

theorem State.agentNow_deferLeft (s : State) (n : Nat) : (s.agentNow n).deferLeft.isSome = (s.agent n).deferLeft.isSome :=
  (s.agent n).advance_deferLeft n (s.clockOf n) s.fc

theorem State.agentNow_deferLeft_none {s : State} {n : Nat} (h : (s.agent n).deferLeft = none) : (s.agentNow n).deferLeft = none :=
  Option.not_isSome_iff_eq_none.1 (by rw [State.agentNow_deferLeft, h]; decide)

end Deferral

/-! ### What time leaves alone of a core's halts, and what a change of an agent leaves alone of RUNCTL -/

section HaltFields

variable (s : State) (n : Nat)

@[simp] theorem State.agentNow_haltPend : (s.agentNow n).haltPend = (s.agent n).haltPend :=
  s.agentNow_proj n Agent.haltPend (fun _ => rfl) fun _ _ => rfl
@[simp] theorem State.agentNow_haltAt : (s.agentNow n).haltAt = (s.agent n).haltAt :=
  s.agentNow_proj n Agent.haltAt (fun _ => rfl) fun _ _ => rfl
@[simp] theorem State.agentNow_stepping : (s.agentNow n).stepping = (s.agent n).stepping :=
  s.agentNow_proj n Agent.stepping (fun _ => rfl) fun _ _ => rfl
@[simp] theorem State.agentNow_locked : (s.agentNow n).locked = (s.agent n).locked :=
  s.agentNow_proj n Agent.locked (fun _ => rfl) fun _ _ => rfl
@[simp] theorem State.agentNow_reserved : (s.agentNow n).reserved = (s.agent n).reserved :=
  s.agentNow_proj n Agent.reserved (fun _ => rfl) fun _ _ => rfl
@[simp] theorem State.agentNow_executing : (s.agentNow n).executing = (s.agent n).executing :=
  s.agentNow_proj n Agent.executing (fun _ => rfl) fun _ _ => rfl
@[simp] theorem State.agentNow_canHalt : (s.agentNow n).canHalt = (s.agent n).canHalt :=
  s.agentNow_proj n Agent.canHalt (fun _ => rfl) fun _ _ => rfl

variable (f : Agent → Agent)

@[simp] theorem State.modAgent_runctl : (s.modAgent n f).runctl = s.runctl := by
  obtain ⟨_, _, _, _, _, _, h⟩ := s.modAgent_eq n f
  rw [h]
@[simp] theorem State.modAgent_regs0 : (s.modAgent n f).regs0 = s.regs0 := by
  obtain ⟨_, _, _, _, _, _, h⟩ := s.modAgent_eq n f
  rw [h]

end HaltFields

/-! ### A halt request reaches its target (R196, R202, R204, R626) -/

section HaltArrival

variable {s : State} {a : Nat} {locked : Bool}

theorem Agent.haltRequest_frame (g : Agent) (c count : Nat) : (g.haltRequest c count locked).frozen = g.frozen
    ∧ (g.haltRequest c count locked).get = g.get := by
  unfold Agent.haltRequest
  dsimp only
  split <;> exact ⟨rfl, rfl⟩

/-- In a locked sequence that only the command tells, the request is deferred; elsewhere it is not (R204). -/
theorem Agent.haltRequest_deferLeft {g : Agent} (hl : g.locked = false) (hd : g.deferLeft = none) (c count : Nat) :
    (g.haltRequest c count locked).deferLeft = if locked then some count else none := by
  unfold Agent.haltRequest
  cases locked <;> simp [hl, hd]

/-- The oldest command on its way has reached its target. -/
def State.cmdTaken (s : State) (rest : List RunCmd) : State := { s with runctl := { s.runctl with cmds := rest } }

/-- The command awaits its completion at the target. -/
def State.cmdAwaits (s : State) (c : RunCmd) : State := { s with runctl := { s.runctl with waits := s.runctl.waits ++ [c] } }

/-- The halt of the one command on its way is pending at the target. -/
def State.haltPending (s : State) (a : Nat) (locked : Bool) : State :=
  (s.cmdTaken []).modAgent a (fun g => g.haltRequest 1 (s.cfg Reg.RUNCTL.LOCK_DEFER.COUNT) locked)

/-- RESULT shows what becomes of a command while it is the newest. -/
def State.cmdResult (s : State) (num r : Nat) : State := if num = s.runctl.sent then s.haltResult r else s

/-- A HALT is judged again at its target, and is pending there unless the core is in halt mode already (R626). -/
theorem State.haltArrive_halt {num : Nat} (hc : s.runctl.cmds = [⟨1, a, num⟩]) : s.haltArrive locked =
    if (s.agentNow a).halted = true ∨ (s.agentNow a).executing = true then (s.cmdTaken []).cmdResult num hrNoEffect
    else ((s.haltPending a locked).cmdAwaits ⟨1, a, num⟩).cmdResult num
      (if ((s.haltPending a locked).agent a).deferLeft.isSome then hrDeferred else hrInProgress) := by
  unfold State.haltArrive
  rw [hc]
  rfl

/-- What the request leaves. -/
theorem State.haltPending_spec (hl : (s.agent a).locked = false) (hd : (s.agent a).deferLeft = none) :
    let t := s.haltPending a locked
    1 ∈ (t.agent a).haltPend ∧ (t.agent a).deferLeft = (if locked then some (s.cfg Reg.RUNCTL.LOCK_DEFER.COUNT) else none)
      ∧ t.runctl = { s.runctl with cmds := [] } ∧ s.sameRegs t ∧ ∀ b, b ≠ a → t.agent b = s.agent b := by
  obtain ⟨hother, hregs⟩ := State.modAgent_onlyAgent_of_eq (s := s.cmdTaken []) (n := a)
    (f := fun g => g.haltRequest 1 (s.cfg Reg.RUNCTL.LOCK_DEFER.COUNT) locked) (fun g => (g.haltRequest_frame _ _).1)
    fun g => congrFun (g.haltRequest_frame _ _).2 _
  dsimp only
  refine ⟨?_, ?_, State.modAgent_runctl _ a _, hregs, hother⟩
  · rw [State.haltPending, State.modAgent_proj _ a _ Agent.haltPend fun _ => rfl]
    exact (Agent.haltRequest_spec _ _ _ _).1
  · rw [State.haltPending, State.modAgent_proj _ a _ Agent.deferLeft fun _ => rfl]
    exact Agent.haltRequest_deferLeft ((s.agentNow_locked a).trans hl) (State.agentNow_deferLeft_none hd) _ _

/-- A HALT reaches a core that runs. -/
theorem State.haltArrive_spec (hc : s.runctl.cmds = [⟨1, a, s.runctl.sent⟩]) (hh : (s.agent a).halted = false)
    (hl : (s.agent a).locked = false) (he : (s.agent a).executing = false) (hd : (s.agent a).deferLeft = none) :
    let t := s.haltArrive locked
    t.runctl.cmds = [] ∧ 1 ∈ (t.agent a).haltPend ∧ t.runctl.waits = s.runctl.waits ++ [⟨1, a, s.runctl.sent⟩]
      ∧ (t.agent a).deferLeft = (if locked then some (s.cfg Reg.RUNCTL.LOCK_DEFER.COUNT) else none)
      ∧ t.get Reg.RUNCTL.HALT_CMD.RESULT = (if locked then hrDeferred else hrInProgress)
      ∧ s.keeps t [Reg.RUNCTL.HALT_CMD.RESULT] ∧ ∀ b, b ≠ a → t.agent b = s.agent b := by
  obtain ⟨hpend, hdefer, hrun, hregs, hother⟩ := State.haltPending_spec (s := s) (locked := locked) hl hd
  have hrunning : ¬ ((s.agentNow a).halted = true ∨ (s.agentNow a).executing = true) := by simp [hh, he]
  have hnum : ((s.haltPending a locked).cmdAwaits ⟨1, a, s.runctl.sent⟩).runctl.sent = s.runctl.sent := by
    rw [State.cmdAwaits, hrun]
  have hres : (if ((s.haltPending a locked).agent a).deferLeft.isSome then hrDeferred else hrInProgress)
      = if locked then hrDeferred else hrInProgress := by
    rw [hdefer]
    cases locked <;> rfl
  rw [State.haltArrive_halt hc, if_neg hrunning, State.cmdResult, if_pos hnum.symm, hres]
  refine ⟨congrArg RunCtl.cmds hrun, hpend, congrArg (fun k => k.waits ++ _) hrun, hdefer, ?_, ?_, hother⟩
  · exact (State.get_put_same _ _ _).trans (by cases locked <;> rfl)
  · exact State.keeps.put (t := (s.haltPending a locked).cmdAwaits _) (fun g _ _ => hregs g) _ (by simp)

end HaltArrival

/-! ### A core halts at an instruction boundary (R197, R199) -/

section CoreHalts

variable {s t u : State} {n pc : Nat} {cs : List Nat} {clear : Bool}

/-- The core in halt mode. -/
def Agent.haltedAt (g : Agent) (n pc : Nat) (cs : List Nat) (clear : Bool) : Agent :=
  { g.setPc n pc with
    atHalt := g.code, halted := true, haltCauses := cs, haltPend := [], deferLeft := none, haltAt := none
    stepping := false, suppress := false, resCleared := clear
    reserved := g.reserved && !clear, locked := g.locked && !clear, executed := true
    known := [0x4A0] ++ (if agentType n = 6 then [0x4A4] else []) }

/-- The halt is shown: EVENT.HALTED of the target, and the result of the commands that awaited it. -/
def State.haltShown (s : State) (n : Nat) : State :=
  let s := if s.get Reg.RUNCTL.TARGET.ID = n then s.raise Reg.RUNCTL.EVENT.HALTED else s
  let done := s.runctl.waits.filter (fun c => c.target == n)
  let s := { s with runctl := { s.runctl with waits := s.runctl.waits.filter (fun c => c.target != n) } }
  if done.any (fun c => c.num == s.runctl.sent) then s.haltResult hrDone else s

theorem State.coreHalts_eq (s : State) (n pc : Nat) (cs : List Nat) (clear : Bool) :
    s.coreHalts n pc cs clear = ((s.encHold n).modAgent n (fun g => g.haltedAt n pc cs clear)).haltShown n := rfl

/-- From `s` to `t` the core has halted with the causes `cs`. -/
structure State.coreHalted (s t : State) (n : Nat) (cs : List Nat) (clear : Bool) : Prop where
  halted : (t.agent n).halted = true
  causes : (t.agent n).haltCauses = cs
  pend : (t.agent n).haltPend = []
  deferLeft : (t.agent n).deferLeft = none
  stepping : (t.agent n).stepping = false
  cleared : (t.agent n).resCleared = clear
  reserved : (t.agent n).reserved = ((s.agent n).reserved && !clear)
  locked : (t.agent n).locked = ((s.agent n).locked && !clear)
  keeps : s.keeps t [Reg.RUNCTL.EVENT.HALTED, Reg.RUNCTL.HALT_CMD.RESULT]
  others : ∀ b, b ≠ n → t.agent b = s.agent b

theorem State.haltShown_frame (s : State) (n : Nat) : (s.haltShown n).agents = s.agents
    ∧ s.keeps (s.haltShown n) [Reg.RUNCTL.EVENT.HALTED, Reg.RUNCTL.HALT_CMD.RESULT] := by
  have hraise : ∀ t : State, t = (if s.get Reg.RUNCTL.TARGET.ID = n then s.raise Reg.RUNCTL.EVENT.HALTED else s) →
      t.agents = s.agents ∧ s.keeps t [Reg.RUNCTL.EVENT.HALTED, Reg.RUNCTL.HALT_CMD.RESULT] := by
    rintro t rfl
    split
    · exact ⟨rfl, (s.keeps_rfl _).raise (by simp)⟩
    · exact ⟨rfl, s.keeps_rfl _⟩
  unfold State.haltShown
  dsimp only
  generalize ht : (if s.get Reg.RUNCTL.TARGET.ID = n then s.raise Reg.RUNCTL.EVENT.HALTED else s) = t
  obtain ⟨hag, hkeep⟩ := hraise t ht.symm
  split
  · exact ⟨hag, State.keeps.put (f := Reg.RUNCTL.HALT_CMD.RESULT) (fun g hc hg => hkeep g hc hg) _ (by simp)⟩
  · exact ⟨hag, fun g hc hg => hkeep g hc hg⟩

theorem Agent.haltedAt_frame (g : Agent) : (g.haltedAt n pc cs clear).frozen = g.frozen
    ∧ (g.haltedAt n pc cs clear).get AReg.A_FAULT = g.get AReg.A_FAULT := by
  have hpc : (g.setPc n pc).get AReg.A_FAULT = g.get AReg.A_FAULT ∧ (g.setPc n pc).frozen = g.frozen := by
    unfold Agent.setPc
    split
    · exact ⟨(Agent.get_put_ne _ _ (by decide)).trans (Agent.get_put_ne _ _ (by decide)), rfl⟩
    · exact ⟨Agent.get_put_ne _ _ (by decide), rfl⟩
  exact ⟨hpc.2, hpc.1⟩

theorem State.coreHalts_spec (s : State) (n pc : Nat) (cs : List Nat) (clear : Bool) :
    s.coreHalted (s.coreHalts n pc cs clear) n cs clear := by
  have henc := s.encOnly_encHold n
  obtain ⟨hother, hregs⟩ := State.onlyAgent_trans (State.encOnly_onlyAgent henc) (State.modAgent_onlyAgent_of_eq (n := n)
    (f := fun g => g.haltedAt n pc cs clear) (fun g => g.haltedAt_frame.1) fun g => g.haltedAt_frame.2)
  obtain ⟨hag, hkeep⟩ := ((s.encHold n).modAgent n (fun g => g.haltedAt n pc cs clear)).haltShown_frame n
  have hagent : ∀ b, (s.coreHalts n pc cs clear).agent b
      = ((s.encHold n).modAgent n (fun g => g.haltedAt n pc cs clear)).agent b := fun b => by
    rw [State.coreHalts_eq, State.agent, hag, State.agent]
  have hproj : ∀ {α : Type} (p : Agent → α), (∀ x : Agent, p x.lasting = p x) →
      p ((s.coreHalts n pc cs clear).agent n) = p (((s.encHold n).agentNow n).haltedAt n pc cs clear) := fun p hp => by
    rw [hagent, State.modAgent_proj _ n _ p hp]
  exact {
    halted := hproj Agent.halted fun _ => rfl
    causes := hproj Agent.haltCauses fun _ => rfl
    pend := hproj Agent.haltPend fun _ => rfl
    deferLeft := hproj Agent.deferLeft fun _ => rfl
    stepping := hproj Agent.stepping fun _ => rfl
    cleared := hproj Agent.resCleared fun _ => rfl
    reserved := (hproj Agent.reserved fun _ => rfl).trans (congrArg (· && !clear)
      ((State.agentNow_reserved _ n).trans (State.encOnly_proj henc Agent.reserved fun _ _ => rfl)))
    locked := (hproj Agent.locked fun _ => rfl).trans (congrArg (· && !clear)
      ((State.agentNow_locked _ n).trans (State.encOnly_proj henc Agent.locked fun _ _ => rfl)))
    keeps := fun g hc hg => (hkeep g hc hg).trans (hregs g)
    others := fun b hb => (hagent b).trans (hother b hb) }

end CoreHalts

/-! ### The rows that halt a core -/

section HaltRows

variable {s : State} {a : AgentId} {pc : BitVec 64}

theorem cuOrCp_ok (ha : agentType a.toNat = 1 ∨ agentType a.toNat = 6) : agentType a.toNat ≠ 0 ∧ cuOrCp (agentType a.toNat) = true := by
  rcases ha with h | h <;> rw [h] <;> decide

/-- Before the sequence ends: the agent in no locked sequence. -/
def Agent.unlock (g : Agent) : Agent := { g with locked := false, reserved := false }

variable (ha : agentType a.toNat = 1 ∨ agentType a.toNat = 6)
include ha

theorem exec_coreHalt_eq : exec (.coreHalt a pc) s = .next (if (s.agent a.toNat).haltPend ≠ [] ∧ (s.agentNow a.toNat).deferLeft = none
    ∧ (s.agent a.toNat).canHalt = true ∧ ¬ (s.agent a.toNat).stepping = true
    ∧ (s.agent a.toNat).haltAt.all (fun p => p == pc.toNat % 2 ^ 32) = true
      then s.coreHalts a.toNat pc.toNat (s.agent a.toNat).haltPend false else s) := by
  change execCoreHalt a pc s = _
  unfold execCoreHalt
  dsimp only
  rw [onAgent, if_pos (cuOrCp_ok ha)]
  simp only [State.agentNow_haltPend, State.agentNow_canHalt, State.agentNow_stepping, State.agentNow_haltAt]

theorem exec_lockDeferExpire_eq : exec (.lockDeferExpire a pc) s = .next (if (s.agentNow a.toNat).deferLeft = some 0
    ∧ (s.agent a.toNat).canHalt = true
      then (s.coreHalts a.toNat pc.toNat (insertSorted 6 (s.agent a.toNat).haltPend) true).bump Reg.RUNCTL.LOCK_DEFER.EXPIRIES
      else s) := by
  change execLockDeferExpire a pc s = _
  unfold execLockDeferExpire
  dsimp only
  rw [onAgent, if_pos (cuOrCp_ok ha)]
  simp only [State.agentNow_haltPend, State.agentNow_canHalt]

theorem exec_stepInstrDone_eq (reserves : Bool) : let inLock := (s.agent a.toNat).locked || (s.agent a.toNat).reserved || reserves
    exec (.stepInstrDone a pc reserves) s = .next (if (s.agent a.toNat).stepping = true ∧ (s.agent a.toNat).canHalt = true
      then s.coreHalts a.toNat pc.toNat (insertSorted 5
        (if inLock then insertSorted 6 (s.agent a.toNat).haltPend else (s.agent a.toNat).haltPend)) inLock
      else s) := by
  change execStepInstrDone a pc reserves s = _
  unfold execStepInstrDone
  dsimp only
  rw [onAgent, if_pos (cuOrCp_ok ha)]
  simp only [State.agentNow_haltPend, State.agentNow_canHalt, State.agentNow_stepping, State.agentNow_locked,
    State.agentNow_reserved]

/-- A deferred halt takes effect as the locked sequence ends (R202). -/
theorem exec_lockedSequenceEnd_eq (hact : s.agentActive a.toNat = true) (hp : (s.agent a.toNat).haltPend ≠ [])
    (hd : (s.agent a.toNat).deferLeft.isSome = true) : exec (.lockedSequenceEnd a pc) s
      = .next (((s.woken a.toNat).modAgent a.toNat Agent.unlock).coreHalts a.toNat pc.toNat (s.agent a.toNat).haltPend false) := by
  have hpend : ((s.woken a.toNat).agent a.toNat).haltPend = (s.agent a.toNat).haltPend :=
    s.woken_proj a.toNat Agent.haltPend (fun _ => rfl) (fun _ _ => rfl) fun _ => rfl
  have hdefer : ((s.woken a.toNat).agent a.toNat).deferLeft.isSome = true := by
    rw [State.agent_woken, Agent.recode_proj _ Agent.deferLeft fun _ _ _ _ => rfl]
    exact (State.agentNow_deferLeft s a.toNat).trans hd
  change execLockedSequenceEnd a pc s = _
  unfold execLockedSequenceEnd
  dsimp only
  rw [onAgent, if_pos (cuOrCp_ok ha), State.whenActive_eq _ hact, hpend, if_pos ⟨hdefer, hp⟩]
  rfl

end HaltRows

/-- Settles O25: every row that halts a core ends in the one halt at an instruction boundary. -/
theorem coresHaltAtABoundary : Obligations.CoresHaltAtABoundary := by
  unfold Obligations.CoresHaltAtABoundary
  refine ⟨fun locked s hc => ?_, fun locked s a hc hh hl he hd => ⟨_, rfl, State.haltArrive_spec hc hh hl he hd⟩,
    fun a pc s ha => ?_⟩
  · change execHaltRequestArrival locked s = _
    rw [execHaltRequestArrival, State.haltArrive, hc]
  intro n halts
  have hhalts : ∀ {u t : State} {cs : List Nat} {clear : Bool}, s.onlyAgent u n → u.coreHalted t n cs clear → halts t cs :=
    fun {u t cs clear} hu h => ⟨h.halted, h.causes, h.pend, h.deferLeft, h.stepping,
      ((State.keeps_rfl s []).sameRegs hu.2 |>.trans h.keeps).mono (by simp), fun b hb => (h.others b hb).trans (hu.1 b hb)⟩
  refine ⟨fun hp hd hcan hst hat => ?_, fun h => ?_, fun hact hp hd => ?_, fun hd hcan => ?_, fun hd => ?_,
    fun reserves hst hcan => ?_, fun reserves hst => ?_⟩
  · rw [exec_coreHalt_eq ha, if_pos ⟨hp, State.agentNow_deferLeft_none hd, hcan, ne_true_of_eq_false hst, hat⟩]
    exact ⟨_, rfl, hhalts (s.onlyAgent_rfl n) (s.coreHalts_spec _ _ _ _)⟩
  · rw [exec_coreHalt_eq ha, if_neg]
    rintro ⟨hp, -, -, -, hat⟩
    rcases h with h | h
    · exact hp h
    · revert h hat
      cases (s.agent a.toNat).haltAt <;> simp +contextual
  · have hu : s.onlyAgent ((s.woken n).modAgent n Agent.unlock) n :=
      State.onlyAgent_trans (s.woken_onlyAgent n) (State.modAgent_onlyAgent_of_eq (fun _ => rfl) fun _ => rfl)
    have h := ((s.woken n).modAgent n Agent.unlock).coreHalts_spec n pc.toNat (s.agent n).haltPend false
    refine ⟨_, exec_lockedSequenceEnd_eq ha hact hp hd, hhalts hu h, ?_⟩
    rw [h.locked, State.modAgent_proj _ n _ Agent.locked fun _ => rfl]
    rfl
  · rw [exec_lockDeferExpire_eq ha, if_pos ⟨hd, hcan⟩]
    have h := s.coreHalts_spec n pc.toNat (insertSorted 6 (s.agent n).haltPend) true
    generalize s.coreHalts n pc.toNat (insertSorted 6 (s.agent n).haltPend) true = t at h ⊢
    refine ⟨_, rfl, ⟨h.halted, h.causes, h.pend, h.deferLeft, h.stepping,
      (h.keeps.mono (by simp)).bump (by simp), h.others⟩, ?_, h.cleared, ?_⟩
    · exact h.reserved.trans (by simp)
    · rw [State.counted, State.bump, State.get_bumpBy_same, h.keeps _ rfl (by decide)]
  · rw [exec_lockDeferExpire_eq ha, if_neg fun h => hd h.1]
  · rw [exec_stepInstrDone_eq ha reserves, if_pos ⟨hst, hcan⟩]
    exact ⟨_, rfl, hhalts (s.onlyAgent_rfl n) (s.coreHalts_spec _ _ _ _), (s.coreHalts_spec _ _ _ _).cleared⟩
  · rw [exec_stepInstrDone_eq ha reserves, if_neg fun h => ne_true_of_eq_false hst h.1]

end Sys2Proof.Machine

namespace Sys2Proof.Machine

/-! ### A change of an agent that brings no fault -/

section QuietChange

variable {s : State} {n : Nat} {f : Agent → Agent}

/-- A change that leaves A_FAULT alone touches the agents and the watchdogs only. -/
theorem State.modAgent_quiet (hf : ∀ g : Agent, (f g).get AReg.A_FAULT = g.get AReg.A_FAULT) :
    ∃ ag h, s.modAgent n f = { s with agents := ag, hang := h } := by
  obtain ⟨g', h, hst, -⟩ := s.storeAgent_eq n (s.agentNow n) (f (s.agentNow n)).recode
  have hheard : ∀ (t : State) w, t.faultHeard w w = t := fun t w => by simp [State.faultHeard]
  have hstored : s.stored n f = { s.setAgent n g' with hang := h } := by
    rw [State.stored, hf, State.agentNow_fault, hheard, hst]
  rw [State.modAgent_stored, hstored]
  split
  · exact ⟨_, _, rfl⟩
  · obtain ⟨l, hl⟩ := ({ s.setAgent n g' with hang := h } : State).holdSignal_eq n (f (s.agentNow n)).frozen
    exact ⟨l, h, hl⟩

end QuietChange

/-! ### FEED_STATUS of a target (R217) -/

section FeedStatus

variable {s : State} {n t : Nat}

theorem State.showFeeds_shown (h : s.runctl.shown = t) : s.showFeeds t = s := if_pos h.symm

/-- To describe another target changes the registers, and what is kept of FEED_STATUS. -/
theorem State.showFeeds_eq (s : State) (t : Nat) :
    ∃ r a k, s.showFeeds t = { s with regs := r, runctl := { s.runctl with shown := a, status := k } } := by
  have hput : ∀ (v : Fld → Nat) (l : List Fld) (u : State), ∃ r, l.foldl (fun s f => s.put f (v f)) u = { u with regs := r } := by
    intro v l
    induction l with
    | nil => exact fun u => ⟨_, rfl⟩
    | cons f l ih =>
      intro u
      obtain ⟨r, h⟩ := ih (u.put f (v f))
      exact ⟨r, h⟩
  unfold State.showFeeds
  dsimp only
  split
  · exact ⟨_, _, _, rfl⟩
  · obtain ⟨r, h⟩ := hput (fun f => bits (Sparse.get (Sparse.set s.runctl.status s.runctl.shown (s.word 0x18058) 0) t 0) f.hi f.lo) feedFields
      { s with runctl := { s.runctl with
          shown := t
          status := Sparse.set s.runctl.status s.runctl.shown (s.word 0x18058) 0 } }
    exact ⟨r, t, _, h⟩

variable {f : State → State} (hrun : ∀ u, (f u).runctl = u.runctl)
include hrun

theorem State.feedStatus_shown (h : s.runctl.shown = t) : s.feedStatus t f = f s := by
  rw [State.feedStatus, State.showFeeds_shown h, State.showFeeds_shown (by rw [hrun])]

/-- A change of a target's FEED_STATUS touches neither the agents nor the feeds. -/
theorem State.feedStatus_frame (hag : ∀ u, (f u).agents = u.agents) : (s.feedStatus t f).agents = s.agents
    ∧ (s.feedStatus t f).runctl.feeds = s.runctl.feeds ∧ (s.feedStatus t f).runctl.lateFeeds = s.runctl.lateFeeds := by
  obtain ⟨r, a, k, h⟩ := s.showFeeds_eq t
  obtain ⟨r', a', k', h'⟩ := (f (s.showFeeds t)).showFeeds_eq s.runctl.shown
  unfold State.feedStatus
  rw [h']
  dsimp only
  rw [hrun, hag, h]
  exact ⟨rfl, rfl, rfl⟩

end FeedStatus

/-! ### FEED_INSTR (R206, R218) -/

section FeedInstr

variable {s u : State} {x : Src} {d : Word} {word : Nat}

/-- FEED_STATUS [6:2] are cleared first (R218). -/
def State.feedCleared (u : State) : State :=
  (((((u.put Reg.RUNCTL.FEED_STATUS.FROZEN 0).put Reg.RUNCTL.FEED_STATUS.OVERRUN 0).put Reg.RUNCTL.FEED_STATUS.NOT_HALTED 0).put
    Reg.RUNCTL.FEED_STATUS.TIMEOUT 0).put Reg.RUNCTL.FEED_STATUS.EXCEPTION 0)

/-- The refusal bits show the target `g` and whether a feed is in progress. -/
def State.feedRefusals (u : State) (g : Agent) (busy : Bool) : State :=
  ((u.put Reg.RUNCTL.FEED_STATUS.FROZEN (bit g.frozen)).put Reg.RUNCTL.FEED_STATUS.OVERRUN (bit busy)).put
    Reg.RUNCTL.FEED_STATUS.NOT_HALTED (bit (!g.halted))

/-- A feed is in progress at target `t`. -/
def State.feedNoted (u : State) (t word : Nat) : State :=
  let job : FeedJob := ⟨t, u.fc, BitVec.ofNat 32 word⟩
  { (u.put Reg.RUNCTL.FEED_STATUS.BUSY 1).put Reg.RUNCTL.FEED_STATUS.DONE 0 with
    runctl := { u.runctl with feeds := u.runctl.feeds ++ [job] } }

/-- The target executes the instruction. -/
def State.feedStarted (u : State) (t word : Nat) : State :=
  (u.feedNoted t word).modAgent t (fun g => { g with executing := true })

/-- The judgement of a write of FEED_INSTR. -/
theorem State.feedInstr_eq (u : State) (word : Nat) : u.feedInstr word =
    let t := u.get Reg.RUNCTL.TARGET.ID
    let g := u.agentNow t
    let busy := u.feedCleared.get Reg.RUNCTL.FEED_STATUS.BUSY == 1
    if u.tossActive then u.haltResult hrBusy
    else if ¬ u.feedCleared.parityOk Slot.RUNCTL then u.feedCleared.haltResult hrRefusedParity
    else if u.feedCleared.cfg Reg.RUNCTL.CTRL.ENABLE = 0 then u.feedCleared.haltResult hrRefusedDisabled
    else if g.frozen || busy || !g.halted then u.feedCleared.feedRefusals g busy
    else if g.executing then (u.feedCleared.feedRefusals g busy).haltResult hrRefusedState
    else (u.feedCleared.feedRefusals g busy).feedStarted t word := rfl

theorem State.feedCleared_get (u : State) {g : Fld} (hg : g.key ∉ [Reg.RUNCTL.FEED_STATUS.FROZEN, Reg.RUNCTL.FEED_STATUS.OVERRUN,
    Reg.RUNCTL.FEED_STATUS.NOT_HALTED, Reg.RUNCTL.FEED_STATUS.TIMEOUT, Reg.RUNCTL.FEED_STATUS.EXCEPTION].map Fld.key) :
    u.feedCleared.get g = u.get g := by
  simp only [List.map_cons, List.map_nil, List.mem_cons, List.not_mem_nil, or_false, not_or] at hg
  obtain ⟨h1, h2, h3, h4, h5⟩ := hg
  rw [State.feedCleared, State.get_put_ne _ _ h5, State.get_put_ne _ _ h4, State.get_put_ne _ _ h3, State.get_put_ne _ _ h2,
    State.get_put_ne _ _ h1]

/-- With the page in order and the target neither frozen nor with a feed in progress, the halt mode decides (R206). -/
theorem State.feedInstr_halted (ht : u.tossActive = false) (hp : u.parityOk Slot.RUNCTL = true)
    (he : u.cfg Reg.RUNCTL.CTRL.ENABLE = 1) (hf : (u.agent (u.get Reg.RUNCTL.TARGET.ID)).frozen = false)
    (hb : u.get Reg.RUNCTL.FEED_STATUS.BUSY = 0) : let t := u.get Reg.RUNCTL.TARGET.ID
    ((u.agent t).halted = true → (u.agent t).executing = false →
      u.feedInstr word = (u.feedCleared.feedRefusals (u.agentNow t) false).feedStarted t word)
    ∧ ((u.agent t).halted = false → u.feedInstr word = u.feedCleared.feedRefusals (u.agentNow t) false) := by
  have hbusy : (u.feedCleared.get Reg.RUNCTL.FEED_STATUS.BUSY == 1) = false := by
    rw [u.feedCleared_get (by decide), hb]
    rfl
  have hpar : u.feedCleared.parityOk Slot.RUNCTL = true := by
    rw [State.parityOk, u.feedCleared_get (by decide)]
    exact hp
  have hen : ¬ u.feedCleared.cfg Reg.RUNCTL.CTRL.ENABLE = 0 := by
    rw [show u.feedCleared.cfg Reg.RUNCTL.CTRL.ENABLE = 1 from he]
    decide
  rw [State.feedInstr_eq]
  dsimp only
  rw [if_neg (ne_true_of_eq_false ht), if_neg (not_not_intro hpar), if_neg hen, hbusy]
  refine ⟨fun hh hx => ?_, fun hh => ?_⟩
  · rw [if_neg (by simp [hf, hh]), if_neg (by simp [hx])]
  · rw [if_pos (by simp [hh])]

theorem State.writeSpecial_feedInstr (u : State) (x : Src) (d m : Nat) (l : Bool) :
    u.writeSpecial ⟨x, 0x1804C, d, false, m⟩ l = some (u.feedInstr d) := by
  simp [State.writeSpecial, State.writeRunctl, Slot.TEAM]

theorem State.busWrite_feedInstr (hm : s.mayWrite x 0x1804C d = true) :
    s.busWrite x 0x1804C d = ((s.writeTurn x 0x1804C d).feedInstr d.toNat).wrote x 0x1804C d := by
  rw [s.busWrite_eq hm rfl rfl rfl rfl rfl]
  dsimp only
  rw [State.writeSpecial_feedInstr, Option.getD_some]

theorem State.feedRefusals_frame (u : State) (g : Agent) (busy : Bool) : (u.feedCleared.feedRefusals g busy).runctl = u.runctl
    ∧ (u.feedCleared.feedRefusals g busy).agents = u.agents ∧ (u.feedCleared.feedRefusals g busy).hwFault = u.hwFault :=
  ⟨rfl, rfl, rfl⟩

theorem State.feedRefusals_get (u : State) (g : Agent) (busy : Bool) :
    (u.feedCleared.feedRefusals g busy).get Reg.RUNCTL.FEED_STATUS.NOT_HALTED = bit (!g.halted)
    ∧ (u.feedCleared.feedRefusals g busy).get Reg.RUNCTL.FEED_STATUS.BUSY = u.get Reg.RUNCTL.FEED_STATUS.BUSY
    ∧ (u.feedCleared.feedRefusals g busy).get Reg.RUNCTL.FEED_STATUS.TIMEOUT = 0
    ∧ (u.feedCleared.feedRefusals g busy).get Reg.RUNCTL.FEED_STATUS.EXCEPTION = 0 := by
  have hne : ∀ f : Fld, f.key ∉ [Reg.RUNCTL.FEED_STATUS.FROZEN, Reg.RUNCTL.FEED_STATUS.OVERRUN,
      Reg.RUNCTL.FEED_STATUS.NOT_HALTED].map Fld.key → (u.feedCleared.feedRefusals g busy).get f = u.feedCleared.get f :=
    fun f hf => by
      simp only [List.map_cons, List.map_nil, List.mem_cons, List.not_mem_nil, or_false, not_or] at hf
      obtain ⟨h1, h2, h3⟩ := hf
      rw [State.feedRefusals, State.get_put_ne _ _ h3, State.get_put_ne _ _ h2, State.get_put_ne _ _ h1]
  refine ⟨?_, ?_, ?_, ?_⟩
  · rw [State.feedRefusals, State.get_put_same]
    cases g.halted <;> rfl
  · rw [hne _ (by decide), u.feedCleared_get (by decide)]
  · rw [hne _ (by decide), State.feedCleared, State.get_put_ne _ _ (by decide)]
    exact State.get_put_same _ _ _
  · rw [hne _ (by decide)]
    exact State.get_put_same _ _ _

/-- What the start of a feed leaves. -/
theorem State.feedStarted_spec (u : State) (t word : Nat) : let v := u.feedStarted t word
    v.get Reg.RUNCTL.FEED_STATUS.BUSY = 1 ∧ v.get Reg.RUNCTL.FEED_STATUS.DONE = 0
      ∧ (∀ f : Fld, f.key ≠ Reg.RUNCTL.FEED_STATUS.BUSY.key → f.key ≠ Reg.RUNCTL.FEED_STATUS.DONE.key → v.get f = u.get f)
      ∧ v.runctl.feeds = u.runctl.feeds ++ [⟨t, u.fc, BitVec.ofNat 32 word⟩] ∧ v.hwFault = u.hwFault
      ∧ (v.agent t).executing = true ∧ ∀ b, b ≠ t → v.agent b = u.agent b := by
  have hget : ∀ f : Fld, (u.feedNoted t word).get f
      = ((u.put Reg.RUNCTL.FEED_STATUS.BUSY 1).put Reg.RUNCTL.FEED_STATUS.DONE 0).get f := fun _ => rfl
  obtain ⟨hother, hregs⟩ := State.modAgent_onlyAgent_of_eq (s := u.feedNoted t word) (n := t)
    (f := fun g => { g with executing := true }) (fun _ => rfl) fun _ => rfl
  obtain ⟨ag, h, hq⟩ := State.modAgent_quiet (s := u.feedNoted t word) (n := t) (f := fun g => { g with executing := true }) fun _ => rfl
  refine ⟨(hregs _).trans ?_, (hregs _).trans ?_, fun f h1 h2 => (hregs f).trans ?_, ?_, ?_, ?_, hother⟩
  · rw [hget, State.get_put_ne _ _ (by decide)]
    exact State.get_put_same _ _ _
  · rw [hget]
    exact State.get_put_same _ _ _
  · rw [hget, State.get_put_ne _ _ h2, State.get_put_ne _ _ h1]
  · rw [State.feedStarted, State.modAgent_runctl]
    rfl
  · rw [State.feedStarted, hq]
    rfl
  · rw [State.feedStarted, State.modAgent_proj _ t _ Agent.executing fun _ => rfl]

/-- The start of a feed, as a write of FEED_INSTR leaves it. -/
theorem State.feedStarted_wrote (hm : s.mayWrite x 0x1804C d = true) {v : State} {t : Nat}
    (hfault : v.hwFault = (s.writeTurn x 0x1804C d).hwFault) : let w := (v.feedStarted t d.toNat).wrote x 0x1804C d
    w.get Reg.RUNCTL.FEED_STATUS.BUSY = 1 ∧ w.get Reg.RUNCTL.FEED_STATUS.DONE = 0
      ∧ (∀ f : Fld, f.key ∉ [Reg.RUNCTL.FEED_STATUS.BUSY, Reg.RUNCTL.FEED_STATUS.DONE, Hdr.STATUS_PARITY_ERR Slot.RUNCTL].map Fld.key →
        w.get f = v.get f)
      ∧ w.runctl.feeds = v.runctl.feeds ++ [⟨t, v.fc, d⟩] ∧ (w.agent t).executing = true ∧ ∀ b, b ≠ t → w.agent b = v.agent b := by
  obtain ⟨hbusy, hdone, hne, hfeeds, hfault', hexec, hother⟩ := v.feedStarted_spec t d.toNat
  have hget : ∀ f : Fld, f.key ≠ (Hdr.STATUS_PARITY_ERR Slot.RUNCTL).key →
      ((v.feedStarted t d.toNat).wrote x 0x1804C d).get f = (v.feedStarted t d.toNat).get f :=
    fun f hf => State.get_wrote_effect hm rfl rfl (hfault'.trans hfault) hf
  refine ⟨?_, ?_, fun f hf => ?_, ?_, ?_, fun b hb => ?_⟩
  · rw [hget _ (by decide), hbusy]
  · rw [hget _ (by decide), hdone]
  · rw [hget _ (key_ne_of_not_mem hf (by simp)), hne _ (key_ne_of_not_mem hf (by simp)) (key_ne_of_not_mem hf (by simp))]
  · rw [State.wrote_runctl, hfeeds, BitVec.ofNat_toNat, BitVec.setWidth_eq]
  · rw [State.agent_wrote, hexec]
  · rw [State.agent_wrote, hother b hb]

/-- FEED_INSTR to a target in halt mode, with the page in order, starts a feed (R206). -/
theorem State.busWrite_feedInstr_start (hm : s.mayWrite x 0x1804C d = true) (htoss : s.tossActive = false)
    (hp : s.parityOk Slot.RUNCTL = true) (he : (s.writeTurn x 0x1804C d).cfg Reg.RUNCTL.CTRL.ENABLE = 1)
    (hf : (s.agent (s.get Reg.RUNCTL.TARGET.ID)).frozen = false) (hb : s.get Reg.RUNCTL.FEED_STATUS.BUSY = 0) :
    ∃ v : State, v.hwFault = (s.writeTurn x 0x1804C d).hwFault ∧ v.fc = s.fc ∧ v.runctl = s.runctl ∧ v.agents = s.agents
      ∧ v.get Reg.RUNCTL.FEED_STATUS.BUSY = 0 ∧ v.get Reg.RUNCTL.FEED_STATUS.TIMEOUT = 0
      ∧ v.get Reg.RUNCTL.FEED_STATUS.EXCEPTION = 0
      ∧ v.get Reg.RUNCTL.FEED_STATUS.NOT_HALTED = bit (!(s.agent (s.get Reg.RUNCTL.TARGET.ID)).halted)
      ∧ ((s.agent (s.get Reg.RUNCTL.TARGET.ID)).halted = true → (s.agent (s.get Reg.RUNCTL.TARGET.ID)).executing = false →
        s.busWrite x 0x1804C d = (v.feedStarted (s.get Reg.RUNCTL.TARGET.ID) d.toNat).wrote x 0x1804C d)
      ∧ ((s.agent (s.get Reg.RUNCTL.TARGET.ID)).halted = false → s.busWrite x 0x1804C d = v.wrote x 0x1804C d) := by
  have hget : ∀ g, (s.writeTurn x 0x1804C d).get g = s.get g := s.get_writeTurn x 0x1804C d
  have hagents : (s.writeTurn x 0x1804C d).agents = s.agents := s.writeTurn_agents x 0x1804C d
  have hfc : (s.writeTurn x 0x1804C d).fc = s.fc := s.writeTurn_fc x 0x1804C d
  have hrun : (s.writeTurn x 0x1804C d).runctl = s.runctl := s.writeTurn_runctl x 0x1804C d
  rw [s.busWrite_feedInstr hm]
  generalize s.writeTurn x 0x1804C d = u at he hget hagents hfc hrun ⊢
  have hagent : ∀ b, u.agent b = s.agent b := fun b => by rw [State.agent, hagents, State.agent]
  obtain ⟨hstart, hrefuse⟩ := State.feedInstr_halted (u := u) (word := d.toNat) (by rwa [State.tossActive, hget])
    (by rwa [State.parityOk, hget]) he (by rwa [hget, hagent]) (by rwa [hget])
  obtain ⟨hnot, hbusy, htime, hexc⟩ := u.feedRefusals_get (u.agentNow (s.get Reg.RUNCTL.TARGET.ID)) false
  obtain ⟨hrun', hag', hfault'⟩ := u.feedRefusals_frame (u.agentNow (s.get Reg.RUNCTL.TARGET.ID)) false
  rw [hget, hagent] at hstart hrefuse
  exact ⟨_, hfault', hfc, hrun'.trans hrun, hag'.trans hagents, by rw [hbusy, hget, hb], htime, hexc,
    by rw [hnot, agentNow_halted, hagent], fun hh hx => by rw [hstart hh hx], fun hh => by rw [hrefuse hh]⟩

end FeedInstr

/-! ### The end of a feed (R208, R211) -/

section FeedEnd

variable {s : State} {a : AgentId} {data : Option (BitVec 64)} {exc : Option Byte} {n : Nat}

/-- The feed of target `n` is no longer in progress. -/
def State.feedTaken (s : State) (n : Nat) : State :=
  { s with runctl := { s.runctl with feeds := s.runctl.feeds.filter (fun f => f.target != n) } }

/-- The late feed of target `n` is no longer awaited. -/
def State.lateTaken (s : State) (n : Nat) : State :=
  { s with runctl := { s.runctl with lateFeeds := s.runctl.lateFeeds.filter (· ≠ n) } }

/-- FEED_STATUS shows a completed feed, and its exception. -/
def State.feedCompleted (exc : Option Byte) (s : State) : State :=
  let s := ((s.put Reg.RUNCTL.FEED_STATUS.BUSY 0).put Reg.RUNCTL.FEED_STATUS.DONE 1).bumpWrap Reg.RUNCTL.FEED_STATUS.FEEDS 1
  match exc with
  | some c => (s.put Reg.RUNCTL.FEED_STATUS.EXCEPTION 1).put Reg.RUNCTL.FEED_STATUS.EXC_CODE c.toNat
  | none => s

/-- EVENT.FEED_DONE is set, and the data go to FEED_DATA. -/
def State.feedReported (data : Option (BitVec 64)) (s : State) : State :=
  match data with
  | some d => (s.raise Reg.RUNCTL.EVENT.FEED_DONE).put64 Reg.RUNCTL.FEED_DATA_LO Reg.RUNCTL.FEED_DATA_HI d.toNat
  | none => s.raise Reg.RUNCTL.EVENT.FEED_DONE

theorem exec_feedDone_eq (ha : agentType a.toNat = 1 ∨ agentType a.toNat = 6) : exec (.feedDone a data exc) s = .next (
    if s.runctl.feeds.any (fun f => f.target == a.toNat) then
      (((s.feedTaken a.toNat).modAgent a.toNat Agent.fedDone).feedStatus a.toNat (State.feedCompleted exc)).feedReported data
    else if s.runctl.lateFeeds.contains a.toNat then (s.lateTaken a.toNat).modAgent a.toNat Agent.fedDone
    else s) := by
  change execFeedDone a data exc s = _
  unfold execFeedDone
  dsimp only
  rw [onAgent, if_pos (cuOrCp_ok ha)]
  cases data <;> rfl

theorem State.feedCompleted_frame (exc : Option Byte) (s : State) :
    (s.feedCompleted exc).runctl = s.runctl ∧ (s.feedCompleted exc).agents = s.agents := by
  cases exc <;> exact ⟨rfl, rfl⟩

theorem State.feedCompleted_get (exc : Option Byte) (s : State) : (s.feedCompleted exc).get Reg.RUNCTL.FEED_STATUS.BUSY = 0
    ∧ (s.feedCompleted exc).get Reg.RUNCTL.FEED_STATUS.DONE = 1
    ∧ (s.feedCompleted exc).get Reg.RUNCTL.FEED_STATUS.FEEDS
      = (s.get Reg.RUNCTL.FEED_STATUS.FEEDS + 1) % 2 ^ Reg.RUNCTL.FEED_STATUS.FEEDS.width
    ∧ ∀ c, exc = some c → (s.feedCompleted exc).get Reg.RUNCTL.FEED_STATUS.EXCEPTION = 1
      ∧ (s.feedCompleted exc).get Reg.RUNCTL.FEED_STATUS.EXC_CODE = c.toNat := by
  have hnone : (s.feedCompleted none).get Reg.RUNCTL.FEED_STATUS.BUSY = 0
      ∧ (s.feedCompleted none).get Reg.RUNCTL.FEED_STATUS.DONE = 1
      ∧ (s.feedCompleted none).get Reg.RUNCTL.FEED_STATUS.FEEDS
        = (s.get Reg.RUNCTL.FEED_STATUS.FEEDS + 1) % 2 ^ Reg.RUNCTL.FEED_STATUS.FEEDS.width := by
    dsimp only [State.feedCompleted]
    refine ⟨?_, ?_, ?_⟩
    · rw [State.get_bumpWrap_ne _ _ (by decide), State.get_put_ne _ _ (by decide)]
      exact State.get_put_same _ _ _
    · rw [State.get_bumpWrap_ne _ _ (by decide)]
      exact State.get_put_same _ _ _
    · rw [State.get_bumpWrap_same, State.get_put_ne _ _ (by decide), State.get_put_ne _ _ (by decide)]
  cases exc with
  | none => exact ⟨hnone.1, hnone.2.1, hnone.2.2, fun _ h => absurd h (by simp)⟩
  | some c =>
    have hne : ∀ f : Fld, f.key ≠ Reg.RUNCTL.FEED_STATUS.EXCEPTION.key → f.key ≠ Reg.RUNCTL.FEED_STATUS.EXC_CODE.key →
        (s.feedCompleted (some c)).get f = (s.feedCompleted none).get f := fun f h1 h2 =>
      (State.get_put_ne _ _ h2).trans (State.get_put_ne _ _ h1)
    rw [hne _ (by decide) (by decide), hne _ (by decide) (by decide), hne _ (by decide) (by decide)]
    refine ⟨hnone.1, hnone.2.1, hnone.2.2, fun b hb => ⟨(State.get_put_ne _ _ (by decide)).trans (State.get_put_same _ _ _), ?_⟩⟩
    rw [← Option.some.inj hb]
    exact (State.get_put_same _ _ _).trans (Nat.mod_eq_of_lt c.isLt)

/-- The report of a feed touches EVENT.FEED_DONE and FEED_DATA. -/
theorem State.feedReported_spec (data : Option (BitVec 64)) (s : State) : let t := s.feedReported data
    t.runctl = s.runctl ∧ t.agents = s.agents ∧ t.get Reg.RUNCTL.EVENT.FEED_DONE = 1
      ∧ (∀ v, data = some v → t.get64 Reg.RUNCTL.FEED_DATA_LO Reg.RUNCTL.FEED_DATA_HI = v.toNat)
      ∧ ∀ f : Fld, f.off = 0x18058 → f.lo < 32 → t.get f = s.get f := by
  have hraise : ∀ f : Fld, f.off = 0x18058 → f.lo < 32 → (s.raise Reg.RUNCTL.EVENT.FEED_DONE).get f = s.get f := fun f ho hl =>
    State.get_raise_ne _ (by simp only [Fld.key, ho, Reg.RUNCTL.EVENT.FEED_DONE]; omega)
  have hev : (s.raise Reg.RUNCTL.EVENT.FEED_DONE).get Reg.RUNCTL.EVENT.FEED_DONE = 1 := State.get_raise_same _ rfl
  cases data with
  | none => exact ⟨rfl, rfl, hev, fun _ h => absurd h (by simp), hraise⟩
  | some d =>
    refine ⟨rfl, rfl, (State.get_put64_ne _ _ (by decide) (by decide)).trans hev, fun v hv => ?_, fun f ho hl => ?_⟩
    · rw [← Option.some.inj hv]
      have hlo : ((s.raise Reg.RUNCTL.EVENT.FEED_DONE).put64 Reg.RUNCTL.FEED_DATA_LO Reg.RUNCTL.FEED_DATA_HI d.toNat).get
          Reg.RUNCTL.FEED_DATA_LO = d.toNat % 2 ^ 32 := (State.get_put_ne _ _ (by decide)).trans (State.get_put_same _ _ _)
      have hhi : ((s.raise Reg.RUNCTL.EVENT.FEED_DONE).put64 Reg.RUNCTL.FEED_DATA_LO Reg.RUNCTL.FEED_DATA_HI d.toNat).get
          Reg.RUNCTL.FEED_DATA_HI = d.toNat / 2 ^ 32 % 2 ^ 32 := State.get_put_same _ _ _
      have hd := d.isLt
      rw [State.feedReported, State.get64, hlo, hhi]
      omega
    · have hlo : f.key ≠ Reg.RUNCTL.FEED_DATA_LO.key := by simp only [Fld.key, ho, Reg.RUNCTL.FEED_DATA_LO]; omega
      have hhi : f.key ≠ Reg.RUNCTL.FEED_DATA_HI.key := by simp only [Fld.key, ho, Reg.RUNCTL.FEED_DATA_HI]; omega
      exact (State.get_put64_ne _ _ hlo hhi).trans (hraise f ho hl)

/-- A feed in progress ends: the target has executed, and its FEED_STATUS shows it (R208). -/
theorem State.feedDone_spec (s : State) (n : Nat) (data : Option (BitVec 64)) (exc : Option Byte) :
    let t := (((s.feedTaken n).modAgent n Agent.fedDone).feedStatus n (State.feedCompleted exc)).feedReported data
    t.runctl.feeds = s.runctl.feeds.filter (fun f => f.target != n) ∧ (t.agent n).executing = false
      ∧ t.get Reg.RUNCTL.EVENT.FEED_DONE = 1
      ∧ (∀ v, data = some v → t.get64 Reg.RUNCTL.FEED_DATA_LO Reg.RUNCTL.FEED_DATA_HI = v.toNat)
      ∧ (s.runctl.shown = n → t.get Reg.RUNCTL.FEED_STATUS.BUSY = 0 ∧ t.get Reg.RUNCTL.FEED_STATUS.DONE = 1
        ∧ t.get Reg.RUNCTL.FEED_STATUS.FEEDS = (s.get Reg.RUNCTL.FEED_STATUS.FEEDS + 1) % 2 ^ Reg.RUNCTL.FEED_STATUS.FEEDS.width
        ∧ ∀ c, exc = some c → t.get Reg.RUNCTL.FEED_STATUS.EXCEPTION = 1 ∧ t.get Reg.RUNCTL.FEED_STATUS.EXC_CODE = c.toNat)
      ∧ ∀ b, b ≠ n → t.agent b = s.agent b := by
  have hrun : ((s.feedTaken n).modAgent n Agent.fedDone).runctl = (s.feedTaken n).runctl := State.modAgent_runctl _ n _
  obtain ⟨hother, hregs⟩ := State.modAgent_onlyAgent_of_eq (s := s.feedTaken n) (n := n) (f := Agent.fedDone) (fun _ => rfl)
    fun _ => rfl
  have hexec : (((s.feedTaken n).modAgent n Agent.fedDone).agent n).executing = false :=
    State.modAgent_proj _ n _ Agent.executing fun _ => rfl
  generalize (s.feedTaken n).modAgent n Agent.fedDone = u at hrun hother hregs hexec
  obtain ⟨hag, hfeeds, -⟩ := State.feedStatus_frame (s := u) (t := n) (fun v => (v.feedCompleted_frame exc).1)
    fun v => (v.feedCompleted_frame exc).2
  obtain ⟨hrun', hag', hev, hdata, hstatus⟩ := (u.feedStatus n (State.feedCompleted exc)).feedReported_spec data
  have hagent : ∀ b, ((u.feedStatus n (State.feedCompleted exc)).feedReported data).agent b = u.agent b := fun b => by
    rw [State.agent, hag', hag, State.agent]
  refine ⟨?_, ?_, hev, hdata, fun hshown => ?_, fun b hb => (hagent b).trans (hother b hb)⟩
  · rw [hrun', hfeeds, hrun]
    rfl
  · rw [hagent, hexec]
  · have hsame : u.feedStatus n (State.feedCompleted exc) = u.feedCompleted exc :=
      State.feedStatus_shown (fun v => (v.feedCompleted_frame exc).1) (by rw [hrun]; exact hshown)
    obtain ⟨hbusy, hdone, hcount, hexc⟩ := u.feedCompleted_get exc
    rw [hregs] at hcount
    refine ⟨?_, ?_, ?_, fun c hc => ⟨?_, ?_⟩⟩
    · rw [hstatus _ rfl (by decide), hsame, hbusy]
    · rw [hstatus _ rfl (by decide), hsame, hdone]
    · rw [hstatus _ rfl (by decide), hsame]
      exact hcount
    · rw [hstatus _ rfl (by decide), hsame, (hexc c hc).1]
    · rw [hstatus _ rfl (by decide), hsame, (hexc c hc).2]

end FeedEnd

/-! ### A feed times out (R211) -/

section FeedTimeout

variable {s : State} {f : FeedJob}

/-- The feed is no longer in progress, and its completion is to be discarded. -/
def State.feedLate (s : State) (f : FeedJob) : State :=
  { s with runctl := { s.runctl with feeds := s.runctl.feeds.erase f, lateFeeds := insertSorted f.target s.runctl.lateFeeds } }

def State.feedTimedOut (s : State) : State := (s.put Reg.RUNCTL.FEED_STATUS.TIMEOUT 1).put Reg.RUNCTL.FEED_STATUS.BUSY 0

theorem exec_feedTimeout_eq (s : State) : exec .feedTimeout s
    = .next ((s.runctl.feeds.find? (fun f => decide (f.fc + 65536 ≤ s.fc))).elim s
        (fun f => (s.feedLate f).feedStatus f.target State.feedTimedOut)) := by
  change execFeedTimeout s = _
  unfold execFeedTimeout
  cases s.runctl.feeds.find? (fun f => decide (f.fc + 65536 ≤ s.fc)) <;> rfl

theorem State.feedTimeout_spec (s : State) (f : FeedJob) : let t := (s.feedLate f).feedStatus f.target State.feedTimedOut
    t.runctl.feeds = s.runctl.feeds.erase f ∧ f.target ∈ t.runctl.lateFeeds ∧ t.agents = s.agents
      ∧ (s.runctl.shown = f.target → t.get Reg.RUNCTL.FEED_STATUS.TIMEOUT = 1 ∧ t.get Reg.RUNCTL.FEED_STATUS.BUSY = 0
        ∧ s.keeps t [Reg.RUNCTL.FEED_STATUS.TIMEOUT, Reg.RUNCTL.FEED_STATUS.BUSY]) := by
  obtain ⟨hag, hfeeds, hlate⟩ := State.feedStatus_frame (s := s.feedLate f) (t := f.target) (f := State.feedTimedOut)
    (fun _ => rfl) fun _ => rfl
  refine ⟨hfeeds, ?_, hag, fun hshown => ?_⟩
  · rw [hlate]
    exact mem_insertSorted.2 (.inl rfl)
  · rw [State.feedStatus_shown (s := s.feedLate f) (f := State.feedTimedOut) (fun _ => rfl) hshown]
    exact ⟨(State.get_put_ne _ _ (by decide)).trans (State.get_put_same _ _ _), State.get_put_same _ _ _,
      State.keeps.put (State.keeps.put (t := s.feedLate f) (fun _ _ _ => rfl) _ (by simp)) _ (by simp)⟩

end FeedTimeout

/-- Settles O26: a feed starts at a halted core, and ends by its completion or by its timeout. -/
theorem feedsExecuteAtAHaltedCore : Obligations.FeedsExecuteAtAHaltedCore := by
  unfold Obligations.FeedsExecuteAtAHaltedCore
  refine ⟨fun x d s => ?_, fun a data exc s ha => ?_, fun s => ⟨fun f hf => ?_, fun hf => ?_⟩⟩
  · intro a hm htoss hp he hf hb
    obtain ⟨v, hfault, hfc, hrun, hag, hbusy, htime, hexc, hnot, hstart, hrefuse⟩ := State.busWrite_feedInstr_start hm htoss hp he hf hb
    refine ⟨fun hh hx => ⟨_, congrArg Host.Outcome.next (hstart hh hx), ?_⟩, fun hh => ⟨_, congrArg Host.Outcome.next (hrefuse hh), ?_⟩⟩
    · obtain ⟨hbusy', hdone', hne, hfeeds, hexec, hother⟩ := State.feedStarted_wrote hm (t := a) hfault
      rw [hh] at hnot
      refine ⟨hbusy', hdone', ?_, ?_, ?_, ?_, hexec, fun b hb => ?_⟩
      · rw [hne _ (by decide), htime]
      · rw [hne _ (by decide), hexc]
      · rw [hne _ (by decide), hnot]
        rfl
      · rw [hfeeds, hrun, hfc]
      · rw [hother b hb, State.agent, hag, State.agent]
    · rw [hh] at hnot
      have hget : ∀ f : Fld, f.key ≠ (Hdr.STATUS_PARITY_ERR Slot.RUNCTL).key → (v.wrote x 0x1804C d).get f = v.get f :=
        fun f hf => State.get_wrote_effect hm rfl rfl hfault hf
      refine ⟨?_, ?_, ?_, ?_⟩
      · rw [hget _ (by decide), hnot]
        rfl
      · rw [hget _ (by decide), hbusy]
      · rw [State.wrote_runctl, hrun]
      · rw [State.wrote_agents, hag]
  · refine ⟨fun h => ?_, fun h hl => ?_, fun h hl => ?_⟩
    · rw [exec_feedDone_eq ha, if_pos h]
      exact ⟨_, rfl, s.feedDone_spec a.toNat data exc⟩
    · rw [exec_feedDone_eq ha, if_neg (ne_true_of_eq_false h), if_pos hl]
      refine ⟨_, rfl, ?_, State.modAgent_proj _ _ _ Agent.executing fun _ => rfl,
        State.modAgent_onlyAgent_of_eq (s := s.lateTaken a.toNat) (fun _ => rfl) fun _ => rfl⟩
      rw [State.modAgent_runctl]
      simp [State.lateTaken]
    · rw [exec_feedDone_eq ha, if_neg (ne_true_of_eq_false h), if_neg (ne_true_of_eq_false hl)]
  · rw [exec_feedTimeout_eq, hf]
    exact ⟨_, rfl, s.feedTimeout_spec f⟩
  · rw [exec_feedTimeout_eq, hf]
    rfl

end Sys2Proof.Machine

/-! PROOF. The linked-condition slots (chapter 5, R219 to R227). -/

namespace Sys2Proof.Machine

/-! ### The event bus of a half (R219) -/

section EventBus

variable {s : State} {h n : Nat} {e : BusEvent} {rest : List BusEvent}

/-- The fc in which half `h` last had an event. -/
def State.lastEvent (s : State) (h : Nat) : Option Nat := if h = 0 then s.brk.northFc else s.brk.southFc

/-- The bus of half `h` holds `rest`, and has had an event in this fc. -/
def State.busTaken (s : State) (h : Nat) (rest : List BusEvent) : State :=
  let s := s.setBus h rest
  if h = 0 then { s with brk := { s.brk with northFc := some s.fc } } else { s with brk := { s.brk with southFc := some s.fc } }

/-- The event `e` has left the bus of half `h` for the slots. -/
def State.eventTaken (s : State) (h : Nat) (e : BusEvent) (rest : List BusEvent) : State :=
  ((s.busTaken h rest).hubEvent 17 1).busCount e.agent e.code

theorem State.breakArrival_take (hb : s.bus h = e :: rest) (hl : s.lastEvent h ≠ some s.fc)
    (hn : h = 0 → s.brk.southFc ≠ some s.fc) (hp : s.power ≤ 1) :
    s.breakArrival h = slots.foldl (fun s n => s.slotEval e n) (s.eventTaken h e rest) := by
  unfold State.breakArrival
  rw [hb]
  refine if_neg ?_
  rintro (hlast | hpow | ⟨h0, hsouth⟩)
  · exact hl hlast
  · omega
  · exact hn h0 hsouth

theorem State.breakArrival_none (hc : s.bus h = [] ∨ s.lastEvent h = some s.fc ∨ (h = 0 ∧ s.brk.southFc = some s.fc) ∨ 2 ≤ s.power) :
    s.breakArrival h = s := by
  unfold State.breakArrival
  cases hb : s.bus h with
  | nil => rfl
  | cons e rest =>
    refine if_pos ?_
    rcases hc with hnil | hlast | hsouth | hp
    · rw [hb] at hnil
      exact absurd hnil (List.cons_ne_nil e rest)
    · exact .inl hlast
    · exact .inr (.inr hsouth)
    · exact .inr (.inl hp)

/-- The event's departure touches the bus and what the hub counters will count. -/
theorem State.eventTaken_eq (s : State) (h : Nat) (e : BusEvent) (rest : List BusEvent) : ∃ b c,
    s.eventTaken h e rest = { s with brk := b, score := c } ∧ b.latches = s.brk.latches ∧ b.actions = s.brk.actions
      ∧ (s.eventTaken h e rest).bus h = rest := by
  unfold State.eventTaken State.busTaken State.setBus State.bus
  split
  · exact ⟨_, _, rfl, rfl, rfl, rfl⟩
  · exact ⟨_, _, rfl, rfl, rfl, rfl⟩

end EventBus

/-! ### A slot evaluates an event (R220 to R226) -/

section Evaluation

variable {s : State} {n agent : Nat} {e : BusEvent}

theorem State.slotEval_off (h : s.slotOn n = false) : s.slotEval e n = s := by
  unfold State.slotEval
  rw [h]
  rfl

theorem State.slotOn_none (h : s.cfg Reg.BREAK.SLOT_ENABLE = 0) (n : Nat) : s.slotOn n = false := by
  rw [State.slotOn, h, testBit_eq, Nat.zero_testBit, Bool.false_and]

/-- With one slot enabled, that slot alone evaluates. -/
theorem State.slotOn_one (h : s.cfg Reg.BREAK.SLOT_ENABLE = 2 ^ n) (he : s.cfg Reg.BREAK.CTRL.ENABLE = 1) (m : Nat) :
    s.slotOn m = decide (n = m) := by
  rw [State.slotOn, h, he, testBit_eq, Nat.testBit_two_pow]
  exact Bool.and_true _

theorem State.slotEvals_off {l : List Nat} (h : ∀ m ∈ l, s.slotOn m = false) : l.foldl (fun s m => s.slotEval e m) s = s := by
  induction l with
  | nil => rfl
  | cons m l ih =>
    rw [List.foldl_cons, State.slotEval_off (h m List.mem_cons_self)]
    exact ih fun k hk => h k (List.mem_cons_of_mem m hk)

/-- With one slot enabled, the event is that slot's only. -/
theorem State.slotEvals_one (hn : n < 32) (h : ∀ m, m ≠ n → s.slotOn m = false) (hcfg : (s.slotEval e n).regs0 = s.regs0) :
    slots.foldl (fun s m => s.slotEval e m) s = s.slotEval e n := by
  obtain ⟨l, r, hs⟩ := List.append_of_mem (show n ∈ slots from List.mem_range.2 hn)
  have hd : (l ++ n :: r).Nodup := hs ▸ List.nodup_range
  have hl : ∀ m ∈ l, m ≠ n := fun m hm hmn => (List.nodup_append.1 hd).2.2 m hm n List.mem_cons_self hmn
  have hr : ∀ m ∈ r, m ≠ n := fun m hm hmn => (List.nodup_cons.1 (List.nodup_append.1 hd).2.1).1 (hmn ▸ hm)
  rw [hs, List.foldl_append, State.slotEvals_off fun m hm => h m (hl m hm), List.foldl_cons]
  refine State.slotEvals_off fun m hm => ?_
  rw [State.slotOn, State.cfg, State.cfg, hcfg]
  exact h m (hr m hm)

/-- CURRENT keeps what is past TARGET, and SLOT_HIT and SLOT_HITS show the hit (R223). -/
def State.hitShown (s : State) (n : Nat) : State :=
  ((s.put (Reg.BREAK.SLOT_COUNT.CURRENT n) (s.get (Reg.BREAK.SLOT_COUNT.CURRENT n) + 1
    - max 1 (s.cfg (Reg.BREAK.SLOT_COUNT.TARGET n)))).raiseBits Reg.BREAK.SLOT_HIT (2 ^ n)).bump (Reg.BREAK.SLOT_HITS.COUNT n)

/-- The action of a hit of slot `n` in this fc waits (R224). -/
def State.actionWaits (s : State) (n agent : Nat) : State :=
  { s with brk := { s.brk with actions := s.brk.actions ++ [(n, s.fc, agent)] } }

/-- A slot hits. -/
def State.slotHit (s : State) (n agent : Nat) : State := ((s.hitShown n).hubEvent 5 1).actionWaits n agent

theorem State.slotComplete_hit (ht : max 1 (s.cfg (Reg.BREAK.SLOT_COUNT.TARGET n)) ≤ s.get (Reg.BREAK.SLOT_COUNT.CURRENT n) + 1)
    (hh : s.brk.actions.any (fun x => x.1 == n && x.2.1 == s.fc) = false) : s.slotComplete n agent = s.slotHit n agent := by
  unfold State.slotComplete
  exact if_pos ⟨ht, ne_true_of_eq_false hh⟩

/-- A slot whose OP is A completes at an event that matches source A (Table 5-6). -/
theorem State.slotStep_A (hop : s.cfg (Reg.BREAK.SLOT_LINK.OP n) = 0) (hm : s.matchesA n e = true) :
    s.slotStep n e = (s.liveLatches n (s.latches n), true) := by
  unfold State.slotStep
  rw [hop, hm]
  rfl

theorem State.slotEval_A (hon : s.slotOn n = true) (hop : s.cfg (Reg.BREAK.SLOT_LINK.OP n) = 0)
    (honce : s.cfg (Reg.BREAK.SLOT_LINK.ONCE n) = 0) (hctx : s.cfg (Reg.BREAK.SLOT_LINK.CTX_EN n) = 0) (hm : s.matchesA n e = true) :
    s.slotEval e n = (s.setLatches n (s.liveLatches n (s.latches n))).slotComplete n e.agent := by
  unfold State.slotEval
  rw [State.slotStep_A hop hm, hon, honce, hctx]
  rfl

theorem State.hitShown_eq (s : State) (n : Nat) : ∃ r w, s.hitShown n = { s with regs := r, hw := w } := ⟨_, _, rfl⟩

theorem State.actionWaits_eq (s : State) (n agent : Nat) : ∃ b, s.actionWaits n agent = { s with brk := b }
    ∧ b.actions = s.brk.actions ++ [(n, s.fc, agent)] ∧ ∀ h, (s.actionWaits n agent).bus h = s.bus h := ⟨_, rfl, rfl, fun _ => rfl⟩

theorem State.slotHit_frame (s : State) (n agent : Nat) : let t := s.slotHit n agent
    t.brk.actions = s.brk.actions ++ [(n, s.fc, agent)] ∧ t.agents = s.agents ∧ t.regs0 = s.regs0 ∧ ∀ h, t.bus h = s.bus h := by
  obtain ⟨r, w, hs⟩ := s.hitShown_eq n
  unfold State.slotHit
  rw [hs]
  exact ⟨rfl, rfl, rfl, fun _ => rfl⟩

theorem State.slotHit_get (s : State) (n agent : Nat) (g : Fld) : (s.slotHit n agent).get g = (s.hitShown n).get g := by
  unfold State.slotHit
  generalize s.hitShown n = u
  rfl

/-- A hit shows in three registers. -/
theorem State.slotHit_shown (s : State) (hn : n < 32) (agent : Nat) : let t := s.slotHit n agent
    testBit (t.get Reg.BREAK.SLOT_HIT) n = true ∧ s.counted t (Reg.BREAK.SLOT_HITS.COUNT n) 1
      ∧ s.keeps t [Reg.BREAK.SLOT_HIT, Reg.BREAK.SLOT_HITS.COUNT n, Reg.BREAK.SLOT_COUNT.CURRENT n] := by
  have hhits : Reg.BREAK.SLOT_HIT.key ≠ (Reg.BREAK.SLOT_HITS.COUNT n).key := by
    simp only [Fld.key, Reg.BREAK.SLOT_HIT, Reg.BREAK.SLOT_HITS.COUNT]; omega
  have hcur : (Reg.BREAK.SLOT_HITS.COUNT n).key ≠ (Reg.BREAK.SLOT_COUNT.CURRENT n).key := by
    simp only [Fld.key, Reg.BREAK.SLOT_COUNT.CURRENT, Reg.BREAK.SLOT_HITS.COUNT]; omega
  refine ⟨?_, ?_, fun g hc hg => ?_⟩
  · rw [State.slotHit_get, State.hitShown, State.get_bump_ne _ hhits, State.get_raiseBits_same]
    exact testBit_raised _ n hn
  · rw [State.counted, State.slotHit_get, State.hitShown, State.bump, State.get_bumpBy_same, State.get_raiseBits_ne _ _ hhits.symm,
      State.get_put_ne _ _ hcur]
  · rw [State.slotHit_get, State.hitShown, State.get_bump_ne _ (key_ne_of_not_mem hg (by simp)),
      State.get_raiseBits_ne _ _ (key_ne_of_not_mem hg (by simp)), State.get_put_ne _ _ (key_ne_of_not_mem hg (by simp))]

end Evaluation

/-! ### LATCH_EXPIRE and SLOT_ACTION (R222, R224, R225) -/

section Latches

variable {s : State} {n agent : Nat} {locked : Bool}

theorem State.latches_setLatches_same (s : State) (n : Nat) (l : Latches) : (s.setLatches n l).latches n = l :=
  Sparse.get_set_same _ _ _ _

theorem State.latches_setLatches_ne (s : State) {m : Nat} (l : Latches) (h : m ≠ n) : (s.setLatches n l).latches m = s.latches m :=
  Sparse.get_set_ne _ _ _ _ h

/-- The action `x` no longer waits, and EVENT.HIT is set where IRQ asks for it. -/
def State.actionTaken (s : State) (n : Nat) (x : Nat × Nat × Nat) : State :=
  let s := { s with brk := { s.brk with actions := s.brk.actions.erase x } }
  if s.cfg (Reg.BREAK.SLOT_ACTION.IRQ n) = 1 then s.raise Reg.BREAK.EVENT.HIT else s

theorem State.actionTaken_frame (s : State) (n : Nat) (x : Nat × Nat × Nat) : let t := s.actionTaken n x
    t.brk.actions = s.brk.actions.erase x ∧ t.agents = s.agents ∧ (∀ g, t.cfg g = s.cfg g) ∧ s.keeps t [Reg.BREAK.EVENT.HIT]
      ∧ (s.cfg (Reg.BREAK.SLOT_ACTION.IRQ n) = 1 → t.get Reg.BREAK.EVENT.HIT = 1) := by
  unfold State.actionTaken
  dsimp only
  split
  · exact ⟨rfl, rfl, fun _ => rfl, State.keeps.raise (fun _ _ _ => rfl) (by simp), fun _ => State.get_raise_same _ rfl⟩
  next h => exact ⟨rfl, rfl, fun _ => rfl, fun _ _ _ => rfl, fun hi => absurd hi h⟩

theorem State.slotAct_none (h : s.cfg (Reg.BREAK.SLOT_ACTION.KIND n) = 0) : s.slotAct n agent locked = s := by
  unfold State.slotAct
  rw [h]
  rfl

theorem State.slotAct_event (h : s.cfg (Reg.BREAK.SLOT_ACTION.KIND n) = 4) :
    s.slotAct n agent locked = s.raise Reg.BREAK.EVENT.HIT := by
  unfold State.slotAct
  rw [h]
  rfl

/-- A slot action that sets EVENT.HIT, by KIND 4 or by IRQ alone, does no more (R224). -/
theorem State.slotAct_event_spec (s : State) (n : Nat) (x : Nat × Nat × Nat) (locked : Bool)
    (hk : s.cfg (Reg.BREAK.SLOT_ACTION.KIND n) = 4
      ∨ (s.cfg (Reg.BREAK.SLOT_ACTION.KIND n) = 0 ∧ s.cfg (Reg.BREAK.SLOT_ACTION.IRQ n) = 1)) :
    let t := (s.actionTaken n x).slotAct n x.2.2 locked
    t.brk.actions = s.brk.actions.erase x ∧ t.get Reg.BREAK.EVENT.HIT = 1 ∧ s.keeps t [Reg.BREAK.EVENT.HIT] ∧ t.agents = s.agents := by
  obtain ⟨hact, hag, hcfg, hkeeps, hirq⟩ := s.actionTaken_frame n x
  dsimp only
  rcases hk with hk | ⟨hk, hi⟩
  · rw [State.slotAct_event (by rw [hcfg, hk])]
    exact ⟨hact, State.get_raise_same _ rfl, hkeeps.raise (by simp), hag⟩
  · rw [State.slotAct_none (by rw [hcfg, hk])]
    exact ⟨hact, hirq hi, hkeeps, hag⟩

end Latches

/-! ### A slot's configuration is written (R226) -/

section SlotConfig

variable {s u : State} {x : Src} {o : Nat} {d : Word} {l : Bool}

/-- The configuration registers of the slots. -/
def slotConfigOff (o : Nat) : Prop := 0x1C100 ≤ o ∧ o < 0x1C500 ∧ (o - 0x1C100) % 0x20 < 0x14

theorem slotConfigOff_plain (h : slotConfigOff o) : offView o = none ∧ offBase o = o ∧ isWindow o = false
    ∧ isPairLo o = false ∧ isPairHi o = false := by
  obtain ⟨h1, h2, h3⟩ := h
  refine ⟨?_, by unfold offBase; omega, ?_, ?_, ?_⟩
  · rw [offView, show o % 0x4000 / 0x1000 = 0 by omega]
    rfl
  · simp only [isWindow, Bool.and_eq_false_iff, decide_eq_false_iff_not]; omega
  · simp [isPairLo, inStride]; omega
  · simp [isPairHi, isPairLo, inStride]; omega

theorem State.writeSpecial_slotConfig (h : slotConfigOff o) (u : State) (m : Nat) :
    u.writeSpecial ⟨x, o, d.toNat, false, m⟩ l = some ((u.storeReg ⟨x, o, d.toNat, false, m⟩ l).slotClear ((o - 0x1C100) / 0x20)) := by
  obtain ⟨h1, h2, h3⟩ := h
  have hpage : o / 0x4000 = 7 := by omega
  unfold State.writeSpecial
  dsimp only
  rw [hpage, if_neg (by decide), if_neg (by omega)]
  change u.writeBreak _ l = _
  unfold State.writeBreak
  dsimp only
  rw [if_neg (by omega), if_pos ⟨h1, h2, h3⟩]

/-- A slot's configuration field stores the word's bits as they are. -/
theorem fieldStores_slotConfig {f : Fld} (h : slotConfigOff f.off) (v : Nat) : fieldStores f v = v := by
  obtain ⟨h1, h2, h3⟩ := h
  have hne : ∀ g : Fld, g.off < 0x1C100 ∨ 0x1C500 ≤ g.off → f ≠ g := by
    rintro g hg rfl
    omega
  have hstride : ∀ b st n, 0x1C500 ≤ b → ¬ inStride f.off b st n = true := fun b st n hb => by
    simp only [inStride, Bool.and_eq_true, decide_eq_true_eq]; omega
  unfold fieldStores
  dsimp only
  rw [if_neg (by omega), if_neg (by omega), if_neg (by rintro (h | h | h | h | h | h) <;> exact hne _ (by decide) h),
    if_neg (by omega), if_neg (by omega), if_neg (by omega), if_neg (by omega), if_neg (by omega), if_neg (by omega), if_neg (by omega),
    if_neg (hne _ (by decide)), if_neg (by omega), if_neg (by omega), if_neg (hstride _ _ _ (by decide)), if_neg (by omega),
    if_neg fun h => hstride _ _ _ (by decide) h.1]

theorem current_mem : ∀ n < 32, (Acc.ro, Reg.BREAK.SLOT_COUNT.CURRENT n) ∈ fieldsAt (0x1C10C + n * 0x20) := by decide +kernel

/-- CURRENT is no RW field. -/
theorem key_ne_current {f : Fld} (hf : (Acc.rw, f) ∈ fieldsAt o) {n : Nat} (hn : n < 32) :
    f.key ≠ (Reg.BREAK.SLOT_COUNT.CURRENT n).key := by
  intro h
  have hk := fieldsAt_key hf
  obtain ⟨-, h4⟩ := fieldsAt_word hf
  have ho : o = 0x1C10C + n * 0x20 := by
    rw [h] at hk
    simp only [Fld.key, Reg.BREAK.SLOT_COUNT.CURRENT] at hk
    omega
  subst ho
  exact absurd (congrArg Prod.fst (fieldsAt_inj hf (current_mem n hn) h)) (show Acc.rw ≠ Acc.ro by decide)

theorem State.busWrite_slotConfig (h : slotConfigOff o) (hm : s.mayWrite x o d = true) : s.busWrite x o d
    = (((s.writeTurn x o d).storeReg (busWr x o d) ((s.writeTurn x o d).rwlLocked x o)).slotClear ((o - 0x1C100) / 0x20)).wrote x o d := by
  obtain ⟨hv, hb, hw, hlo, hhi⟩ := slotConfigOff_plain h
  rw [s.busWrite_eq hm hv hb hw hlo hhi]
  dsimp only
  rw [State.writeSpecial_slotConfig h]
  rfl

/-- What the write of a slot's configuration leaves (R226). -/
theorem State.busWrite_slotConfig_spec (h : slotConfigOff o) (hm : s.mayWrite x o d = true) : let t := s.busWrite x o d
    let n := (o - 0x1C100) / 0x20
    t.latches n = {} ∧ t.get (Reg.BREAK.SLOT_COUNT.CURRENT n) = 0
      ∧ (∀ f, (Acc.rw, f) ∈ fieldsAt o → t.get f = bits d.toNat f.hi f.lo) ∧ t.agents = s.agents := by
  obtain ⟨h1, h2, h3⟩ := id h
  have hmod : (busWr x o d).o % 0x4000 ≠ 0x18 := by
    dsimp only [busWr]
    omega
  dsimp only
  rw [State.busWrite_slotConfig h hm]
  have hown := fun {f} hf => ((s.writeTurn x o d).get_storeReg (w := busWr x o d) (a := .rw) (f := f)
    ((s.writeTurn x o d).rwlLocked x o) hmod hf).trans (State.storeField_rw _ _ _ f)
  obtain ⟨r, hr⟩ := (s.writeTurn x o d).storeReg_regs (w := busWr x o d) ((s.writeTurn x o d).rwlLocked x o) hmod
  rw [hr] at hown ⊢
  have hn : (o - 0x1C100) / 0x20 < 32 := by omega
  generalize (o - 0x1C100) / 0x20 = n at hn ⊢
  generalize hu : ({ s.writeTurn x o d with regs := r } : State) = u at hown ⊢
  have hfault : (u.slotClear n).hwFault = (s.writeTurn x o d).hwFault := by
    rw [← hu]
    rfl
  have hget := fun {g} hk => State.get_wrote_effect (e := u.slotClear n) (g := g) hm rfl rfl hfault hk
  refine ⟨?_, ?_, fun f hf => ?_, ?_⟩
  · rw [State.latches, State.wrote_brk]
    exact u.latches_setLatches_same n {}
  · rw [hget (by simp only [Fld.key, Reg.BREAK.SLOT_COUNT.CURRENT, Hdr.STATUS_PARITY_ERR]; omega)]
    exact State.get_put_same _ _ _
  · rw [hget (key_ne_parityErr hf (by decide)), State.slotClear, State.get_put_ne _ _ (key_ne_current hf hn)]
    refine (hown hf).trans ?_
    rw [fieldStores_slotConfig (by rw [fieldsAt_off hf]; exact h)]
    exact bits_mod_width d.toNat f
  · rw [State.wrote_agents, ← hu]
    exact s.writeTurn_agents x o d

end SlotConfig

/-- With every slot disabled an event changes the bus only (R226). -/
theorem State.slotEvals_disabled (s : State) (h : Nat) (e : BusEvent) (rest : List BusEvent) (hoff : s.cfg Reg.BREAK.SLOT_ENABLE = 0) :
    let t := slots.foldl (fun s n => s.slotEval e n) (s.eventTaken h e rest)
    t.bus h = rest ∧ t.brk.latches = s.brk.latches ∧ t.brk.actions = s.brk.actions ∧ s.keeps t [] ∧ t.agents = s.agents := by
  obtain ⟨b, c, heq, hl, ha, hbus⟩ := s.eventTaken_eq h e rest
  dsimp only
  rw [State.slotEvals_off (s := s.eventTaken h e rest) fun m _ => State.slotOn_none (by rw [heq]; exact hoff) m]
  refine ⟨hbus, ?_⟩
  rw [heq]
  exact ⟨hl, ha, fun _ _ _ => rfl, rfl⟩

/-- An event completes the one enabled slot, whose OP is A: the slot hits (R220, R223, R224). -/
theorem State.slotEvals_hit (s : State) (h : Nat) (e : BusEvent) (rest : List BusEvent) {n : Nat} (hn : n < 32)
    (hone : s.cfg Reg.BREAK.SLOT_ENABLE = 2 ^ n) (hen : s.cfg Reg.BREAK.CTRL.ENABLE = 1) (hop : s.cfg (Reg.BREAK.SLOT_LINK.OP n) = 0)
    (honce : s.cfg (Reg.BREAK.SLOT_LINK.ONCE n) = 0) (hctx : s.cfg (Reg.BREAK.SLOT_LINK.CTX_EN n) = 0) (hm : s.matchesA n e = true)
    (ht : max 1 (s.cfg (Reg.BREAK.SLOT_COUNT.TARGET n)) ≤ s.get (Reg.BREAK.SLOT_COUNT.CURRENT n) + 1)
    (hh : s.brk.actions.any (fun x => x.1 == n && x.2.1 == s.fc) = false) :
    let t := slots.foldl (fun s n => s.slotEval e n) (s.eventTaken h e rest)
    t.bus h = rest ∧ testBit (t.get Reg.BREAK.SLOT_HIT) n = true ∧ t.brk.actions = s.brk.actions ++ [(n, s.fc, e.agent)]
      ∧ s.counted t (Reg.BREAK.SLOT_HITS.COUNT n) 1
      ∧ s.keeps t [Reg.BREAK.SLOT_HIT, Reg.BREAK.SLOT_HITS.COUNT n, Reg.BREAK.SLOT_COUNT.CURRENT n] ∧ t.agents = s.agents := by
  obtain ⟨b, c, heq, hl, ha, hbus⟩ := s.eventTaken_eq h e rest
  generalize s.eventTaken h e rest = u at heq hbus
  have hcfg : ∀ g, u.cfg g = s.cfg g := fun g => by rw [heq]; rfl
  have hact : u.brk.actions = s.brk.actions := by rw [heq]; exact ha
  have hfc : u.fc = s.fc := by rw [heq]
  have hget : ∀ g, u.get g = s.get g := fun g => by rw [heq]; rfl
  have hag : u.agents = s.agents := by rw [heq]
  have hon := State.slotOn_one (s := u) (by rw [hcfg, hone]) (by rw [hcfg, hen])
  let l := u.liveLatches n (u.latches n)
  have heval : u.slotEval e n = (u.setLatches n l).slotHit n e.agent := by
    rw [State.slotEval_A ((hon n).trans (decide_eq_true rfl)) (by rw [hcfg, hop]) (by rw [hcfg, honce]) (by rw [hcfg, hctx])
      (by rw [heq]; exact hm)]
    exact State.slotComplete_hit (s := u.setLatches n l) (by rw [heq]; exact ht) (by rw [heq]; exact ha ▸ hh)
  obtain ⟨hacts, hagents, hregs0, hbuses⟩ := (u.setLatches n l).slotHit_frame n e.agent
  obtain ⟨hhit, hcount, hkeeps⟩ := (u.setLatches n l).slotHit_shown hn e.agent
  dsimp only
  rw [State.slotEvals_one hn (fun m hmn => (hon m).trans (decide_eq_false hmn.symm)) (by rw [heval, hregs0]; rfl), heval]
  refine ⟨(hbuses h).trans hbus, hhit, hacts.trans ?_, ?_, fun g hc hg => (hkeeps g hc hg).trans (hget g), hagents.trans hag⟩
  · change u.brk.actions ++ [(n, u.fc, e.agent)] = _
    rw [hact, hfc]
  · have hsame : (u.setLatches n l).get (Reg.BREAK.SLOT_HITS.COUNT n) = s.get (Reg.BREAK.SLOT_HITS.COUNT n) := hget _
    rwa [State.counted, hsame] at hcount

/-- Settles O27: the oldest event of a half reaches the slots, a hit's action waits for its turn, and a configuration write clears
the slot. -/
theorem breakSlotsLatchHitAndAct : Obligations.BreakSlotsLatchHitAndAct := by
  unfold Obligations.BreakSlotsLatchHitAndAct
  refine ⟨fun half s e rest => ?_, fun half s => ?_, fun slot b s => ?_, fun slot locked s => ?_, fun x off d s h1 h2 h3 hm => ?_⟩
  · intro h hb hl hs hp
    have hex : exec (.breakEventArrival half) s = .next (slots.foldl (fun s n => s.slotEval e n) (s.eventTaken h e rest)) :=
      congrArg Host.Outcome.next (State.breakArrival_take hb hl hs hp)
    exact ⟨fun hoff => ⟨_, hex, s.slotEvals_disabled h e rest hoff⟩, fun n hn hone hen hop honce hctx hm ht hh =>
      ⟨_, hex, s.slotEvals_hit h e rest hn hone hen hop honce hctx hm ht hh⟩⟩
  · exact fun hc => congrArg Host.Outcome.next (State.breakArrival_none hc)
  · refine ⟨_, rfl, ?_, fun m hm => s.latches_setLatches_ne _ hm, fun _ => rfl, rfl⟩
    rw [State.latches_setLatches_same]
    cases b <;> rfl
  · refine ⟨fun h => ?_, fun x h hk => ⟨(s.actionTaken slot.toNat x).slotAct slot.toNat x.2.2 locked, ?_,
      s.slotAct_event_spec slot.toNat x locked hk⟩⟩
    · change execSlotAction slot locked s = _
      unfold execSlotAction
      dsimp only at h ⊢
      rw [h]
    · change execSlotAction slot locked s = _
      unfold execSlotAction
      dsimp only at h ⊢
      rw [h]
      rfl
  · exact ⟨_, rfl, State.busWrite_slotConfig_spec ⟨h1, h2, h3⟩ hm⟩

end Sys2Proof.Machine

/-! PROOF. What a cut drains (chapter 6, R233 to R238, R246 to R248, R253, R264). -/

namespace Sys2Proof.Machine

/-! ### A drain step (Table 6-3) -/

section DrainStep

variable {s : State} {j : CutJob}

theorem State.setCut_self (h : s.cut.job = some j) : s.setCut j = s := by
  rw [State.setCut, ← h]

theorem State.setCut_setCut (s : State) (j k : CutJob) : (s.setCut j).setCut k = s.setCut k := rfl

/-- The registers that a drain step may change. -/
abbrev drainFlds : List Fld := [Reg.CUT.CUT_STATE.STATE, Reg.CUT.LEN_LO, Reg.CUT.LEN_HI]

/-- LEN follows the bytes written; nothing else of the job changes. -/
theorem State.showLen_frame (s : State) (j : CutJob) : (s.showLen j).agents = s.agents ∧ (s.showLen j).cut.shadows = s.cut.shadows
    ∧ (s.showLen j).cut.job = s.cut.job
    ∧ ∀ g : Fld, g.key ≠ Reg.CUT.LEN_LO.key → g.key ≠ Reg.CUT.LEN_HI.key → (s.showLen j).get g = s.get g := by
  unfold State.showLen
  split
  · exact ⟨rfl, rfl, rfl, fun _ _ _ => rfl⟩
  · generalize s.readyBytes j = b
    dsimp only
    split
    · exact ⟨rfl, rfl, rfl, fun g hl hh => s.get_put64_ne _ hl hh⟩
    · exact ⟨rfl, rfl, rfl, fun g hl hh => s.get_put64_ne _ hl hh⟩

/-- A drain step of job `j` leaves the agents, and of the job changes only whether all is drained. -/
theorem State.cutAdvance_setCut (s : State) (j : CutJob) : let t := (s.setCut j).cutAdvance
    t.agents = s.agents ∧ t.cut.shadows = s.cut.shadows ∧ (∃ b, t.cut.job = some { j with drained := b }) ∧ s.keeps t drainFlds := by
  have hstep : ∃ u : State, u.agents = s.agents ∧ u.cut.shadows = s.cut.shadows ∧ s.keeps u drainFlds
      ∧ ∃ b, (s.setCut j).cutAdvance = (u.setCut { j with drained := b }).showLen { j with drained := b } := by
    refine ⟨if (s.setCut j).cutState = csAgents ∧ (s.setCut j).agentsDone j then (s.setCut j).put Reg.CUT.CUT_STATE.STATE csRegions
      else s.setCut j, ?_, ?_, ?_, ⟨_, rfl⟩⟩
    all_goals split
    · rfl
    · rfl
    · rfl
    · rfl
    · exact State.keeps.put (t := s.setCut j) (fun _ _ _ => rfl) _ (by simp)
    · exact fun _ _ _ => rfl
  obtain ⟨u, hag, hsh, hkeeps, b, heq⟩ := hstep
  obtain ⟨hag', hsh', hjob, hget⟩ := (u.setCut { j with drained := b }).showLen_frame { j with drained := b }
  dsimp only
  rw [heq]
  exact ⟨hag'.trans hag, hsh'.trans hsh, ⟨b, hjob⟩, fun g hc hg =>
    (hget g (key_ne_of_not_mem hg (by simp)) (key_ne_of_not_mem hg (by simp))).trans (hkeeps g hc hg)⟩

/-- A drain step of job `k` after a change `u` of agent `n` that leaves the registers alone. -/
theorem State.onlyAgent.drained {u : State} {n : Nat} (h : s.onlyAgent u n) (k : CutJob) : let t := (u.setCut k).cutAdvance
    (∀ b, t.agent b = u.agent b) ∧ t.cut.shadows = u.cut.shadows ∧ (∃ b, t.cut.job = some { k with drained := b })
      ∧ (∀ b, b ≠ n → t.agent b = s.agent b) ∧ s.keeps t drainFlds := by
  obtain ⟨hother, hregs⟩ := h
  obtain ⟨hag, hsh, hjob, hkeeps⟩ := u.cutAdvance_setCut k
  have hagent : ∀ b, ((u.setCut k).cutAdvance).agent b = u.agent b := fun b => by rw [State.agent, hag, State.agent]
  exact ⟨hagent, hsh, hjob, fun b hb => (hagent b).trans (hother b hb), fun g hc hg => (hkeeps g hc hg).trans (hregs g)⟩

end DrainStep

/-! ### SHADOW_DRAINED (R238, R248) -/

section ShadowDrained

variable {s : State} {j : CutJob} {a : AgentId} {h : Shadow} {tiles : List TileData} {n : Nat}

/-- Agent `n` gives its shadow up, and the cut no longer holds it. -/
def State.shadowGiven (s : State) (n : Nat) : State :=
  let u := s.modAgent n Agent.release
  { u with cut := { u.cut with shadows := u.cut.shadows.erase n } }

/-- The job with the shadow `h` of agent `n` in its record, and its live tiles due where the set takes them. -/
def CutJob.withShadow (j : CutJob) (n : Nat) (h : Shadow) : CutJob :=
  { j with items := insertItem ⟨n, h, []⟩ j.items
           tileDue := if j.sel.accum ∧ h.liveTiles n ≠ 0 then j.tileDue ++ [n] else j.tileDue }

theorem State.drainShadow_eq (hc : j.code ≠ 9) : s.drainShadow j n h = ((s.shadowGiven n).setCut (j.withShadow n h)).cutAdvance := by
  unfold State.drainShadow
  exact if_neg fun hx => hc hx.1

theorem State.shadowGiven_spec (s : State) (n : Nat) : ((s.shadowGiven n).agent n).shadow = none
    ∧ (s.shadowGiven n).cut.shadows = s.cut.shadows.erase n ∧ s.onlyAgent (s.shadowGiven n) n := by
  refine ⟨State.modAgent_proj _ n _ Agent.shadow fun _ => rfl, ?_,
    State.modAgent_onlyAgent_of_eq (f := Agent.release) (fun _ => rfl) fun _ => rfl⟩
  unfold State.shadowGiven
  dsimp only
  rw [State.modAgent_cut]

theorem exec_shadowDrained_eq (ha : agentType a.toNat ≠ 0) (hj : s.cut.job = some j) (hh : (s.agent a.toNat).shadow = some h) :
    exec (.shadowDrained a tiles) s = .next (if ¬ s.draining ∨ s.portFull j then s
      else if s.cut.shadows.contains a.toNat then s.drainShadow j a.toNat h else s) := by
  change execShadowDrained a tiles s = _
  unfold execShadowDrained
  dsimp only
  rw [hj, onAgent, if_pos ⟨ha, rfl⟩]
  dsimp only
  rw [hh]

theorem shadowDrained_taken (ha : agentType a.toNat ≠ 0) (hj : s.cut.job = some j) (hc : j.code ≠ 9)
    (hh : (s.agent a.toNat).shadow = some h) (hd : s.draining = true) (hm : a.toNat ∈ s.cut.shadows) (hp : s.portFull j = false) :
    exec (.shadowDrained a tiles) s = .next (((s.shadowGiven a.toNat).setCut (j.withShadow a.toNat h)).cutAdvance) := by
  rw [exec_shadowDrained_eq ha hj hh, if_neg (by simp [hd, hp]), if_pos (List.contains_iff_mem.2 hm), State.drainShadow_eq hc]

theorem shadowDrained_other (ha : agentType a.toNat ≠ 0) (hj : s.cut.job = some j) (hh : (s.agent a.toNat).shadow = some h)
    (hm : a.toNat ∉ s.cut.shadows) : exec (.shadowDrained a tiles) s = .next s := by
  rw [exec_shadowDrained_eq ha hj hh, if_neg (c := s.cut.shadows.contains a.toNat = true) fun hx => hm (List.contains_iff_mem.1 hx),
    ite_self]

end ShadowDrained

/-! ### HELD_TOKEN_DRAINED (R247) -/

section HeldToken

variable {s : State} {j : CutJob} {a : AgentId} {q : QueueNo} {n k : Nat}

/-- The oldest held token of queue `k` leaves. -/
def Agent.tokenGiven (k : Nat) (g : Agent) : Agent :=
  { g with heldTokens := match Sparse.get g.heldTokens k [] with
      | [] => g.heldTokens
      | _ :: rest => Sparse.set g.heldTokens k rest [] }

theorem Agent.tokenGiven_held {g : Agent} {tok : Token} {rest : List Token} (h : Sparse.get g.heldTokens k [] = tok :: rest) :
    Sparse.get (g.tokenGiven k).heldTokens k [] = rest := by
  unfold Agent.tokenGiven
  dsimp only
  rw [h]
  exact Sparse.get_set_same _ _ _ _

theorem exec_heldTokenDrained_eq (hq : q.toNat < agentQueues a.toNat) (hj : s.cut.job = some j) :
    exec (.heldTokenDrained a q) s = .next (if s.segShadows j a.toNat ∨ s.portFull j then s
      else (s.modAgent a.toNat (Agent.tokenGiven q.toNat)).cutAdvance) := by
  change execHeldTokenDrained a q s = _
  unfold execHeldTokenDrained
  dsimp only
  rw [if_neg (Nat.not_le.2 hq), hj]
  rfl

/-- What a drained token leaves: the agent's other work is as it was. -/
theorem State.tokenGiven_spec (hj : s.cut.job = some j) {tok : Token} {rest : List Token}
    (ht : Sparse.get (s.agentNow n).heldTokens k [] = tok :: rest) : let t := (s.modAgent n (Agent.tokenGiven k)).cutAdvance
    Sparse.get (t.agent n).heldTokens k [] = rest ∧ (t.agent n).queues = (s.agentNow n).queues
      ∧ (∀ b, b ≠ n → t.agent b = s.agent b) ∧ s.keeps t drainFlds := by
  have honly : s.onlyAgent (s.modAgent n (Agent.tokenGiven k)) n := State.modAgent_onlyAgent_of_eq (fun _ => rfl) fun _ => rfl
  obtain ⟨hag, -, -, hother, hkeeps⟩ := honly.drained j
  rw [State.setCut_self (by rw [State.modAgent_cut, hj])] at hag hother hkeeps
  refine ⟨?_, ?_, hother, hkeeps⟩
  · rw [hag, State.modAgent_proj _ _ _ Agent.heldTokens fun _ => rfl]
    exact Agent.tokenGiven_held ht
  · rw [hag, State.modAgent_proj _ _ _ Agent.queues fun _ => rfl]
    rfl

end HeldToken

/-! ### GRANULE_DRAINED (R235, R246, R248) -/

section GranuleDrained

variable {s : State} {j : CutJob} {a : AgentId} {g : BitVec 11} {n k : Nat}

/-- Granule `k` is no longer protected, where `rest` are the granules that still are. -/
def Agent.granuleGiven (k : Nat) (rest : List Nat) (u : Agent) : Agent :=
  { u with protectedG := rest, preserved := u.preserved.filter (fun p => p.1 ≠ k), cowArmed := u.cowArmed && rest != [] }

/-- The granule `k` of unit `u`, of ID `n`, with the mask and data of the cut point. -/
def Agent.granuleItem (u : Agent) (n k : Nat) : GranuleItem :=
  ⟨n, k, u.preserved.any (fun p => p.1 == k), (Sparse.get u.preserved k (u.validMask k, u.granule k)).1,
    (Sparse.get u.preserved k (u.validMask k, u.granule k)).2⟩

/-- The job with that granule in its record, whose segment has had its turn where the granule was preserved. -/
def CutJob.withGranule (j : CutJob) (u : Agent) (n k : Nat) : CutJob :=
  { j with granules := insertGranule (u.granuleItem n k) j.granules
           turn := if u.preserved.any (fun p => p.1 == k) then Sparse.ins j.turn (segmentNo n) n else j.turn }

theorem exec_granuleDrained_eq (ha : agentType a.toNat = 2) (hj : s.cut.job = some j) : let n := a.toNat
    let u := s.agent n
    exec (.granuleDrained a g) s = .next (
      if ¬ u.protectedG.contains g.toNat ∨ ¬ s.granuleNext j n g.toNat ∨ ¬ s.draining ∨ s.portFull j then s
      else ((((s.modAgent n (Agent.granuleGiven g.toNat (u.protectedG.filter (· ≠ g.toNat)))).setCut (j.withGranule u n g.toNat)).writesGoOn
        n).cutAdvance)) := by
  change execGranuleDrained a g s = _
  unfold execGranuleDrained
  dsimp only
  rw [hj, onAgent, if_pos ⟨by rw [ha]; decide, by rw [ha]; rfl⟩]
  rfl

/-- With no write waiting there is none to go on. -/
theorem State.writesGoOn_none (h : (s.agent n).waitingWrites = []) : s.writesGoOn n = s := by
  rw [State.writesGoOn, h]
  rfl

/-- What a drained granule leaves, where no write of the unit waits. -/
theorem State.granuleGiven_spec (s : State) (j : CutJob) (n k : Nat) (rest : List Nat) (hw : (s.agentNow n).waitingWrites = []) :
    let t := (((s.modAgent n (Agent.granuleGiven k rest)).setCut (j.withGranule (s.agent n) n k)).writesGoOn n).cutAdvance
    (t.agent n).protectedG = rest ∧ (t.agent n).cells = (s.agentNow n).cells
      ∧ (∃ i, t.cut.job = some i ∧ i.items = j.items ∧ i.granules = insertGranule ((s.agent n).granuleItem n k) j.granules)
      ∧ (∀ b, b ≠ n → t.agent b = s.agent b) ∧ s.keeps t drainFlds := by
  have honly : s.onlyAgent (s.modAgent n (Agent.granuleGiven k rest)) n := State.modAgent_onlyAgent_of_eq (fun _ => rfl) fun _ => rfl
  have hwaits : ((s.modAgent n (Agent.granuleGiven k rest)).agent n).waitingWrites = [] := by
    rw [State.modAgent_proj _ _ _ Agent.waitingWrites fun _ => rfl]
    exact hw
  dsimp only
  rw [State.writesGoOn_none (s := (s.modAgent n (Agent.granuleGiven k rest)).setCut (j.withGranule (s.agent n) n k)) hwaits]
  obtain ⟨hag, -, ⟨b, hjob⟩, hother, hkeeps⟩ := honly.drained (j.withGranule (s.agent n) n k)
  refine ⟨?_, ?_, ⟨_, hjob, rfl, rfl⟩, hother, hkeeps⟩
  · rw [hag, State.modAgent_proj _ _ _ Agent.protectedG fun _ => rfl]
    rfl
  · rw [hag, State.modAgent_proj _ _ _ Agent.cells fun _ => rfl]
    rfl

end GranuleDrained

/-! ### DRAIN_MEMORY_START (R234, R253) -/

section DrainMemory

variable {s : State} {j : CutJob} {left : List (BitVec 4 × BitVec 10)}

/-- The job reads its pages: those of its list, or those that stand selected now. -/
def CutJob.memoryStarted (j : CutJob) (pages : List Nat) : CutJob :=
  { j with memStarted := true, pageList := match j.pageList with
      | none => some pages
      | l => l }

/-- DRAIN_MEMORY begins. -/
def State.memoryStarted (s : State) (j : CutJob) : State :=
  let k := j.memoryStarted (s.pagesOf j)
  ((s.setCut k).put Reg.CUT.CUT_STATE.STATE csMemory).showLen k

theorem exec_drainMemoryStart_eq (hj : s.cut.job = some j) : exec (.drainMemoryStart left) s = .next (
    if s.draining ∧ ¬ j.memStarted ∧ j.sel.has 4 ∧ s.agentsDone j then
      let u := if j.kind = 1 then s else s.gatewaysQuiet j left
      if j.kind ≠ 1 ∧ j.gateways.any (fun a => (u.agent a).outstanding != 0) then u else u.memoryStarted j
    else s) := by
  change execDrainMemoryStart left s = _
  unfold execDrainMemoryStart
  rw [hj]
  rfl

/-- Requests that complete at the gateways touch no register and nothing of the cut. -/
theorem State.gatewaysQuiet_frame (s : State) (j : CutJob) (left : List (BitVec 4 × BitVec 10)) :
    s.sameRegs (s.gatewaysQuiet j left) ∧ (s.gatewaysQuiet j left).cut = s.cut := by
  unfold State.gatewaysQuiet
  generalize j.gateways = l
  induction l generalizing s with
  | nil => exact ⟨fun _ => rfl, rfl⟩
  | cons a l ih =>
    rw [List.foldl_cons]
    refine ⟨fun g => ((ih _).1 g).trans (s.modAgent_keepsRegs a ?_ g), (ih _).2.trans (State.modAgent_cut _ _ _)⟩
    exact fun _ => rfl

/-- What the start of DRAIN_MEMORY leaves. -/
theorem State.memoryStarted_spec (s : State) (j : CutJob) : let t := s.memoryStarted j
    t.cutState = csMemory
      ∧ (∃ k, t.cut.job = some k ∧ k.memStarted = true ∧ (j.pageList = none → k.pageList = some (s.pagesOf j)))
      ∧ s.keeps t drainFlds ∧ t.agents = s.agents := by
  unfold State.memoryStarted
  generalize s.pagesOf j = pages
  obtain ⟨hag, -, hjob, hget⟩ := ((s.setCut (j.memoryStarted pages)).put Reg.CUT.CUT_STATE.STATE csMemory).showLen_frame
    (j.memoryStarted pages)
  refine ⟨?_, ⟨_, hjob, rfl, fun hp => ?_⟩, fun g hc hg => ?_, hag⟩
  · exact (hget _ (by decide) (by decide)).trans (State.get_put_same _ _ _)
  · rw [CutJob.memoryStarted, hp]
  · exact (hget g (key_ne_of_not_mem hg (by simp)) (key_ne_of_not_mem hg (by simp))).trans
      (State.get_put_ne _ _ (key_ne_of_not_mem hg (by simp)))

/-- With no request to wait for, DRAIN_MEMORY begins at once. -/
theorem drainMemoryStart_begins (hj : s.cut.job = some j) (hd : s.draining = true) (hm : j.memStarted = false)
    (hsel : j.sel.has 4 = true) (hdone : s.agentsDone j = true) (hg : j.gateways = [] ∨ j.kind = 1) :
    exec (.drainMemoryStart left) s = .next (s.memoryStarted j) := by
  have hsame : (if j.kind = 1 then s else s.gatewaysQuiet j left) = s := by
    rcases hg with hg | hk
    · rw [State.gatewaysQuiet, hg, List.foldl_nil, ite_self]
    · rw [if_pos hk]
  rw [exec_drainMemoryStart_eq hj, if_pos ⟨hd, ne_true_of_eq_false hm, hsel, hdone⟩, hsame]
  dsimp only
  rw [if_neg fun hx => hg.elim (fun hg => by simp [hg] at hx) hx.1]

/-- A request in flight at a selected gateway holds it up. -/
theorem drainMemoryStart_waits (hj : s.cut.job = some j) (hd : s.draining = true) (hm : j.memStarted = false)
    (hsel : j.sel.has 4 = true) (hdone : s.agentsDone j = true) (hk : j.kind ≠ 1)
    (hout : j.gateways.any (fun a => ((s.gatewaysQuiet j left).agent a).outstanding != 0) = true) :
    exec (.drainMemoryStart left) s = .next (s.gatewaysQuiet j left) := by
  rw [exec_drainMemoryStart_eq hj, if_pos ⟨hd, ne_true_of_eq_false hm, hsel, hdone⟩, if_neg hk]
  dsimp only
  rw [if_pos ⟨hk, hout⟩]

theorem drainMemoryStart_idle (hj : s.cut.job = some j) (hno : s.draining = false ∨ j.memStarted = true ∨ j.sel.has 4 = false) :
    exec (.drainMemoryStart left) s = .next s := by
  rw [exec_drainMemoryStart_eq hj, if_neg]
  rintro ⟨hd, hm, hsel, -⟩
  rcases hno with h | h | h
  · exact ne_true_of_eq_false h hd
  · exact hm h
  · exact ne_true_of_eq_false h hsel

end DrainMemory

/-! ### PAGE_READ_DONE (R253, R318) -/

section PageRead

variable {s : State} {j : CutJob} {page : BitVec 32} {data : List Byte} {ue late : Bool} {p : Nat}

/-- The page as its last block leaves it. -/
def CutJob.pageItem (j : CutJob) (p : Nat) (data : List Byte) (ue late : Bool) : PageItem :=
  ⟨p, (late || j.late.contains p) && j.kind != 3 && j.code != 9, ue, j.sel.memDirty, data⟩

/-- The job with the page in its record. -/
def CutJob.withPage (j : CutJob) (i : PageItem) : CutJob :=
  { j with pages := j.pages.filter (fun x => x.page < i.page) ++ [i] ++ j.pages.filter (fun x => i.page < x.page), ue := j.ue || i.ue }

theorem exec_pageReadDone_eq (hj : s.cut.job = some j) : let p := page.toNat
    let ahead := j.pageFirst.filter j.unread
    exec (.pageReadDone page data ue late) s = .next (
      if ¬ ((j.pageList.getD []).contains p && j.unread p) ∨ ¬ s.draining ∨ (ahead ≠ [] ∧ ¬ ahead.contains p)
          ∨ (j.kind ≠ 1 ∧ ¬ j.memStarted) ∨ s.portFull j then s
      else ((s.setCut (j.withPage (j.pageItem p data ue late))).releaseWaits (some p)).cutAdvance) := by
  change execPageReadDone page data ue late s = _
  unfold execPageReadDone
  rw [hj]
  rfl

/-- The stalled writes that go on, and those that stay. -/
def CutJob.going (j : CutJob) (page : Option Nat) : List PageWait := j.waits.filter (fun w => page == none || page == some w.page)
def CutJob.staying (j : CutJob) (page : Option Nat) : List PageWait := j.waits.filter (fun w => !(j.going page).contains w)

/-- The stalled write `w` goes on: the memory master's is issued only now, and an agent waits for none but those that stay. -/
def State.waitGoes (rest : List PageWait) (s : State) (w : PageWait) : State :=
  let u := if w.who.isSome then s else s.dirtyPage w.gw w.page
  match w.writer with
  | none => u
  | some a => if rest.any (fun x => x.writer == some a) then u
    else u.modAgent a (fun g => { g with waits := g.waits.filter (fun w => w.kind != 3) })

theorem State.releaseWaits_eq (hj : s.cut.job = some j) (page : Option Nat) : s.releaseWaits page
    = (j.going page).foldl (State.waitGoes (j.staying page)) (s.setCut { j with waits := j.staying page }) := by
  unfold State.releaseWaits
  rw [hj]
  rfl

/-- With no write waiting for a page none goes on. -/
theorem State.releaseWaits_none (hw : j.waits = []) (page : Option Nat) : (s.setCut j).releaseWaits page = s.setCut j := by
  have hgo : j.going page = [] := by rw [CutJob.going, hw]; rfl
  have hstay : j.staying page = [] := by rw [CutJob.staying, hw]; rfl
  have hj : ({ j with waits := [] } : CutJob) = j := by rw [← hw]
  rw [State.releaseWaits_eq rfl, hgo, hstay, hj]
  rfl

theorem CutJob.unread_iff (j : CutJob) (p : Nat) : j.unread p = true ↔ ∀ i ∈ j.pages, i.page ≠ p := by
  simp [CutJob.unread]

/-- What a page read leaves, where no write waits. -/
theorem State.pageRead_spec (s : State) (j : CutJob) (hw : j.waits = []) (i : PageItem) :
    let t := ((s.setCut (j.withPage i)).releaseWaits (some i.page)).cutAdvance
    (∃ k, t.cut.job = some k ∧ i ∈ k.pages ∧ k.ue = (j.ue || i.ue) ∧ k.items = j.items) ∧ t.agents = s.agents := by
  dsimp only
  rw [State.releaseWaits_none (j := j.withPage i) hw]
  obtain ⟨hag, -, ⟨b, hjob⟩, -⟩ := s.cutAdvance_setCut (j.withPage i)
  exact ⟨⟨_, hjob, by simp [CutJob.withPage], rfl, rfl⟩, hag⟩

end PageRead

/-! ### GUARDED_PAGE_WRITE (R233, R253, R318) -/

section GuardedWrite

variable {s : State} {j : CutJob} {page : BitVec 32} {w : Option AgentId} {gw : BitVec 4}

/-- The freeze of the gateway holds no write up where the gateway runs. -/
theorem State.gatewayPasses_running {n : Nat} (hf : (s.agent (0x2400 + n)).frozen = false) (w : Option Nat) :
    s.gatewayPasses w n = some s := by
  cases w with
  | none => rfl
  | some a => exact if_pos (.inr (ne_true_of_eq_false hf))

/-- The wait of a writer for a guarded page at gateway `n`. -/
def Agent.pageWait (n : Nat) (g : Agent) : Agent :=
  { g with waits := if g.waits.any (fun (x : Wait) => x.kind == 3) then g.waits
      else g.waits ++ [(⟨3, 0, 0x2400 + n, 0, false, false⟩ : Wait)] }

theorem Agent.pageWait_any (n : Nat) (g : Agent) : (g.pageWait n).waits.any (fun x => x.kind == 3) = true := by
  unfold Agent.pageWait
  dsimp only
  split
  next h => exact h
  · simp

/-- The write of the row as it waits. -/
def pageWrite (page : BitVec 32) (w : Option AgentId) (gw : BitVec 4) : PageWait := ⟨page.toNat, w.map (·.toNat), gw.toNat, none⟩

/-- A writer of the fabric waits for the page. -/
def State.writerWaits (s : State) (w : Option AgentId) (n : Nat) : State :=
  match w with
  | none => s
  | some a => if agentType a.toNat = 0 then s else s.modAgent a.toNat (Agent.pageWait n)

theorem exec_guardedPageWrite_noJob (hf : (s.agent (0x2400 + gw.toNat)).frozen = false) (hj : s.cut.job = none) :
    exec (.guardedPageWrite page w gw) s = .next (s.dirtyPage gw.toNat page.toNat) := by
  change execGuardedPageWrite page w gw s = _
  unfold execGuardedPageWrite
  dsimp only
  rw [State.gatewayPasses_running hf]
  dsimp only
  rw [hj]

theorem exec_guardedPageWrite_waits (hf : (s.agent (0x2400 + gw.toNat)).frozen = false) (hj : s.cut.job = some j)
    (hg : s.pageGuarded j page.toNat gw.toNat = true) :
    exec (.guardedPageWrite page w gw) s = .next ((s.guardStall j (pageWrite page w gw)).writerWaits w gw.toNat) := by
  change execGuardedPageWrite page w gw s = _
  unfold execGuardedPageWrite
  dsimp only
  rw [State.gatewayPasses_running hf]
  dsimp only
  rw [hj]
  dsimp only
  rw [if_pos hg]
  cases w <;> rfl

/-- Only a snap or held cut knows a LATE page. -/
theorem exec_guardedPageWrite_free (hf : (s.agent (0x2400 + gw.toNat)).frozen = false) (hj : s.cut.job = some j)
    (hg : s.pageGuarded j page.toNat gw.toNat = false) (hk : j.kind = 3 ∨ j.code = 9) :
    exec (.guardedPageWrite page w gw) s = .next (s.dirtyPage gw.toNat page.toNat) := by
  change execGuardedPageWrite page w gw s = _
  unfold execGuardedPageWrite
  dsimp only
  rw [State.gatewayPasses_running hf]
  dsimp only
  rw [hj]
  dsimp only
  rw [if_neg (ne_true_of_eq_false hg), if_neg fun hl => hk.elim hl.1 hl.2.1, State.setCut_self hj]

/-- What the stall of a write at a guarded page leaves. -/
theorem State.guardStall_spec (s : State) (j : CutJob) (v : PageWait) : let t := s.guardStall j v
    s.counted t Reg.CUT.COW_STALLS.COUNT 1 ∧ s.keeps t [Reg.CUT.COW_STALLS.COUNT]
      ∧ (∃ k, t.cut.job = some k ∧ v.page ∈ k.pageFirst ∧ k.waits = j.waits ++ [v]) ∧ t.agents = s.agents := by
  refine ⟨State.get_bumpBy_same _ _ _, fun g _ hg => State.get_bump_ne _ (key_ne_of_not_mem hg (by simp)), ⟨_, rfl, ?_, rfl⟩, rfl⟩
  dsimp only
  split
  next h => exact List.contains_iff_mem.1 h
  · simp

/-- The writer's wait touches that agent only. -/
theorem State.writerWaits_spec (s : State) (w : Option AgentId) (n : Nat) : let t := s.writerWaits w n
    s.sameRegs t ∧ t.cut = s.cut ∧ (w = none → t.agents = s.agents)
      ∧ ∀ a, w = some a → agentType a.toNat ≠ 0 → (t.agent a.toNat).waits.any (fun x => x.kind == 3) = true
        ∧ ∀ b, b ≠ a.toNat → t.agent b = s.agent b := by
  cases w with
  | none => exact ⟨fun _ => rfl, rfl, fun _ => rfl, fun _ h => absurd h (by simp)⟩
  | some a =>
    obtain ⟨hother, hregs⟩ := State.modAgent_onlyAgent_of_eq (s := s) (n := a.toNat) (f := Agent.pageWait n) (fun _ => rfl) fun _ => rfl
    dsimp only [State.writerWaits]
    split
    next h0 => exact ⟨fun _ => rfl, rfl, fun _ => rfl, fun b hb ht => absurd (Option.some.inj hb ▸ h0) ht⟩
    · refine ⟨hregs, State.modAgent_cut _ _ _, fun h => absurd h (by simp), fun b hb _ => ?_⟩
      rw [← Option.some.inj hb]
      refine ⟨?_, hother⟩
      rw [State.modAgent_proj _ _ _ Agent.waits fun _ => rfl]
      exact Agent.pageWait_any n _

end GuardedWrite

/-! ### What the end of a cut leaves of an agent that keeps its shadow (R238, R264) -/

section CutEnd

/-- From `s` to `t` agent `n` keeps its shadow and its faults, the cut the shadows it holds, and every register but COW_STALLS its
value. -/
structure State.shadowKept (s t : State) (n : Nat) : Prop where
  shadow : (t.agent n).shadow = (s.agent n).shadow
  fault : (t.agent n).get AReg.A_FAULT = (s.agent n).get AReg.A_FAULT
  held : t.cut.shadows = s.cut.shadows
  regs : ∀ g : Fld, g.key ≠ Reg.CUT.COW_STALLS.COUNT.key → t.get g = s.get g

variable {s t u : State} {j : CutJob} {n m : Nat} {f : Agent → Agent} {g : Agent}

theorem State.shadowKept.refl (s : State) (n : Nat) : s.shadowKept s n := ⟨rfl, rfl, rfl, fun _ _ => rfl⟩

theorem State.shadowKept.trans (h : s.shadowKept t n) (k : t.shadowKept u n) : s.shadowKept u n :=
  ⟨k.shadow.trans h.shadow, k.fault.trans h.fault, k.held.trans h.held, fun g hg => (k.regs g hg).trans (h.regs g hg)⟩

theorem State.shadowKept.of_agents (ha : t.agents = s.agents) (hc : t.cut.shadows = s.cut.shadows)
    (hr : ∀ g : Fld, g.key ≠ Reg.CUT.COW_STALLS.COUNT.key → t.get g = s.get g) : s.shadowKept t n := by
  have hag : t.agent n = s.agent n := by rw [State.agent, ha, State.agent]
  exact ⟨by rw [hag], by rw [hag], hc, hr⟩

theorem State.onlyAgent.shadowKept (h : s.onlyAgent t m) (hs : (t.agent m).shadow = (s.agent m).shadow)
    (ha : (t.agent m).get AReg.A_FAULT = (s.agent m).get AReg.A_FAULT) (hc : t.cut.shadows = s.cut.shadows) : s.shadowKept t n := by
  obtain ⟨hother, hregs⟩ := h
  by_cases hn : n = m
  · subst hn
    exact ⟨hs, ha, hc, fun g _ => hregs g⟩
  · have hag := hother n hn
    exact ⟨by rw [hag], by rw [hag], hc, fun g _ => hregs g⟩

theorem State.shadowKept.foldl {α : Type} {step : State → α → State} (h : ∀ (s : State) a, s.shadowKept (step s a) n) (l : List α)
    (s : State) :
    s.shadowKept (l.foldl step s) n := by
  induction l generalizing s with
  | nil => exact .refl s n
  | cons a l ih => exact (h s a).trans (ih _)

/-- A change of an agent that keeps shadow, faults and freeze. -/
theorem State.shadowKept_modAgent (s : State) (m : Nat) (hz : ∀ g, (f g).frozen = g.frozen)
    (ha : ∀ g, (f g).get AReg.A_FAULT = g.get AReg.A_FAULT) (hs : ∀ g, (f g).shadow = g.shadow) : s.shadowKept (s.modAgent m f) n := by
  refine State.onlyAgent.shadowKept (State.modAgent_onlyAgent_of_eq hz ha) ?_ ?_ (by rw [State.modAgent_cut])
  · rw [State.modAgent_proj _ _ _ Agent.shadow fun _ => rfl, hs, State.agentNow_shadow]
  · rw [State.modAgent_proj _ _ _ (fun g => g.get AReg.A_FAULT) fun _ => rfl, ha, State.agentNow_fault]

theorem State.shadowKept_storeWriter (s : State) (m : Nat) (hz : g.frozen = (s.agent m).frozen)
    (ha : g.get AReg.A_FAULT = (s.agent m).get AReg.A_FAULT) (hs : g.shadow = (s.agent m).shadow) :
    s.shadowKept (s.storeWriter m g) n := by
  refine State.onlyAgent.shadowKept (s.storeWriter_onlyAgent m g hz ha) ?_ ?_ ?_
  · rw [s.storeWriter_proj m g Agent.shadow (fun _ => rfl) fun _ _ _ => rfl, hs]
  · rw [s.storeWriter_proj m g (fun g => g.get AReg.A_FAULT) (fun _ => rfl) fun _ _ _ => rfl, ha]
  · rw [State.storeWriter, State.modAgent_cut]

/-- A write keeps shadow, faults and freeze of its unit. -/
theorem State.shadowKept_doWrite (s : State) (m : Nat) (l : List WaitingWrite) (w : WaitingWrite) :
    s.shadowKept (s.storeWriter m (({ s.agentNow m with waitingWrites := l } : Agent).doWrite w.addr w.data w.masked s.fc)) n := by
  refine s.shadowKept_storeWriter m ?_ ?_ ?_
  · rw [Agent.doWrite_proj _ _ _ _ _ Agent.frozen (fun _ _ _ _ => rfl) fun _ _ _ _ _ _ _ => rfl]
    exact s.agentNow_frozen m
  · rw [Agent.doWrite_get _ _ _ _ _ notPcnt_fault]
    exact s.agentNow_fault m
  · rw [Agent.doWrite_proj _ _ _ _ _ Agent.shadow (fun _ _ _ _ => rfl) fun _ _ _ _ _ _ _ => rfl]
    exact s.agentNow_shadow m

theorem State.tryWrite_stalls_again {w : WaitingWrite} (h : (s.agentNow m).mustPreserve w ≠ [])
    (hl : 64 < (s.agentNow m).preserved.length + ((s.agentNow m).mustPreserve w).length) (hs : w.stalled = true) :
    s.tryWrite m w = s.storeWriter m ((s.agentNow m).stallWrite w) :=
  (if_neg h).trans ((if_pos hl).trans (if_pos hs))

theorem State.shadowKept_tryWrite (s : State) (m : Nat) (w : WaitingWrite) : s.shadowKept (s.tryWrite m w) n := by
  by_cases hneed : (s.agentNow m).mustPreserve w = []
  · rw [State.tryWrite_done hneed]
    exact s.shadowKept_doWrite m (s.agentNow m).waitingWrites w
  by_cases hroom : 64 < (s.agentNow m).preserved.length + ((s.agentNow m).mustPreserve w).length
  · have hstall : s.shadowKept (s.storeWriter m ((s.agentNow m).stallWrite w)) n :=
      s.shadowKept_storeWriter m (s.agentNow_frozen m) (s.agentNow_fault m) (s.agentNow_shadow m)
    cases hs : w.stalled with
    | true => rwa [State.tryWrite_stalls_again hneed hroom hs]
    | false =>
      rw [State.tryWrite_stalls hneed hroom hs]
      generalize s.storeWriter m ((s.agentNow m).stallWrite w) = t at hstall ⊢
      exact hstall.trans (.of_agents rfl rfl fun g hg => State.get_bumpBy_ne _ _ hg)
  · rw [State.tryWrite_copies hneed (Nat.not_lt.1 hroom)]
    refine s.shadowKept_storeWriter m ?_ ?_ ?_
    · rw [Agent.count_frozen]
      exact s.agentNow_frozen m
    · rw [Agent.count_fault]
      exact s.agentNow_fault m
    · rw [Agent.count_proj _ _ _ _ Agent.shadow fun _ _ _ _ _ _ _ => rfl]
      exact s.agentNow_shadow m

theorem State.shadowKept_retryWrites (fuel : Nat) (s : State) (m : Nat) : s.shadowKept (State.retryWrites fuel s m) n := by
  induction fuel generalizing s with
  | zero => exact .refl s n
  | succ fuel ih =>
    unfold State.retryWrites
    dsimp only
    split
    · exact .refl s n
    next w rest _ =>
      split
      · exact .refl s n
      split
      · split
        · exact (s.shadowKept_doWrite m rest w).trans (ih _)
        · exact .refl s n
      · have hset : s.shadowKept (s.setAgent m { s.agentNow m with waitingWrites := rest }) n := by
          refine State.onlyAgent.shadowKept ⟨fun b hb => s.agent_setAgent_ne _ hb, fun _ => rfl⟩ ?_ ?_ rfl
          · rw [State.agent_setAgent_same]
            exact s.agentNow_shadow m
          · rw [State.agent_setAgent_same]
            exact s.agentNow_fault m
        have htry := hset.trans (State.shadowKept_tryWrite _ m w)
        split
        · exact htry.trans (ih _)
        · exact htry

theorem State.shadowKept_writeTick (s : State) : s.shadowKept s.writeTick n :=
  .foldl (fun s m => s.shadowKept_retryWrites _ m) _ s

theorem State.shadowKept_dirtyPage (s : State) (gw page : Nat) : s.shadowKept (s.dirtyPage gw page) n := by
  by_cases h : s.carried page = true
  · rw [s.dirtyPage_carried gw h]
    refine s.shadowKept_modAgent _ (Agent.dirtied_frozen _ _) (Agent.dirtied_fault _ _) fun g => ?_
    unfold Agent.dirtied
    dsimp only
    split
    · rfl
    · exact g.count_proj _ _ _ Agent.shadow fun _ _ _ _ _ _ _ => rfl
  · rw [s.dirtyPage_not gw (Bool.eq_false_iff.2 h)]
    exact .refl s n

theorem State.shadowKept_releaseWaits (s : State) (page : Option Nat) : s.shadowKept (s.releaseWaits page) n := by
  cases hj : s.cut.job with
  | none =>
    rw [State.releaseWaits, hj]
    exact .refl s n
  | some j =>
    rw [State.releaseWaits_eq hj]
    refine State.shadowKept.trans (t := s.setCut { j with waits := j.staying page }) (.of_agents rfl rfl fun _ _ => rfl)
      (.foldl (fun s w => ?_) _ _)
    have hu : s.shadowKept (if w.who.isSome then s else s.dirtyPage w.gw w.page) n := by
      split
      · exact .refl s n
      · exact s.shadowKept_dirtyPage _ _
    unfold State.waitGoes
    dsimp only
    split
    · exact hu
    · split
      · exact hu
      · exact hu.trans (State.shadowKept_modAgent _ _ (fun _ => rfl) (fun _ => rfl) fun _ => rfl)

/-- A pass over the agents that leaves a part of an agent alone. -/
theorem State.mapAgents_proj {α : Type} (s : State) (f : Nat → Agent → Agent) (p : Agent → α) (hp : ∀ g, p (f n g) = p g) :
    p ((s.mapAgents f).agent n) = p (s.agent n) := by
  unfold State.mapAgents
  generalize s.agents = l
  induction l generalizing s with
  | nil => rfl
  | cons e l ih =>
    rw [List.foldl_cons, ih]
    by_cases he : n = e.1
    · subst he
      rw [State.agent_setAgent_same, hp]
    · rw [State.agent_setAgent_ne _ _ he]

theorem State.shadowKept_mapAgents (s : State) {f : Nat → Agent → Agent} (hs : ∀ g, (f n g).shadow = g.shadow)
    (ha : ∀ g, (f n g).get AReg.A_FAULT = g.get AReg.A_FAULT) : s.shadowKept (s.mapAgents f) n :=
  ⟨s.mapAgents_proj f Agent.shadow hs, s.mapAgents_proj f (fun g => g.get AReg.A_FAULT) ha, by rw [State.mapAgents_cut],
    fun g _ => s.mapAgents_get f g⟩

theorem State.shadowKept_setFh (s : State) (h : Nat) (f : FunnelHalf) : s.shadowKept (s.setFh h f) n := by
  unfold State.setFh
  split
  · exact .of_agents rfl rfl fun _ _ => rfl
  · exact .of_agents rfl rfl fun _ _ => rfl

theorem State.shadowKept_purgeMarks (s : State) : s.shadowKept s.purgeMarks n := by
  unfold State.purgeMarks
  exact State.shadowKept.trans ((s.shadowKept_setFh 0 _).trans (State.shadowKept_setFh _ 1 _))
    (State.shadowKept_mapAgents _ (fun _ => rfl) fun _ => rfl)

/-- What the end of a cut makes of agent `a`: it gives up the shadow that is the cut's, unless it is to keep it, and all that it
held for the cut. -/
def Agent.cutReleased (held : List Nat) (snap : Bool) (trigFc : Nat) (keep : Option Nat) (a : Nat) (g : Agent) : Agent :=
  let ours := held.contains a || (snap && (match g.shadow with
    | some h => decide (trigFc ≤ h.fc)
    | none => false))
  { (if ours && keep != some a then g.release else g) with
    heldTokens := [], protectedG := [], preserved := [], cowArmed := false, armReq := none, latchedG := [], latchedP := [] }

/-- A snap that stops the fabric still: the shadows that come late are to be released (R264). -/
def State.snapAbandoned (s : State) (j : CutJob) : State :=
  if s.snapDriven j ∧ s.cutState = csStopping then { s with cut := { s.cut with abandoned := some j.trigFc } } else s

/-- The agents have released what the cut held. -/
def State.agentsReleased (s : State) (j : CutJob) (keep : Option Nat) : State :=
  ((s.snapAbandoned j).releaseWaits none).mapAgents (Agent.cutReleased s.cut.shadows (s.snapDriven j) j.trigFc keep)

/-- The cut holds no shadow. -/
def State.noShadows (s : State) : State := { s with cut := { s.cut with shadows := [] } }

theorem State.releaseCut_eq (s : State) (j : CutJob) (keep : Option Nat) :
    s.releaseCut j keep false = ((s.agentsReleased j keep).noShadows.writeTick).purgeMarks := rfl

theorem State.shadowKept_agentsReleased (s : State) (j : CutJob) : s.shadowKept (s.agentsReleased j (some n)) n := by
  have habandoned : s.shadowKept (s.snapAbandoned j) n := by
    unfold State.snapAbandoned
    split
    · exact .of_agents rfl rfl fun _ _ => rfl
    · exact .refl s n
  refine (habandoned.trans (State.shadowKept_releaseWaits _ none)).trans (State.shadowKept_mapAgents _ (fun g => ?_) fun g => ?_)
  all_goals
    unfold Agent.cutReleased
    simp only [bne_self_eq_false, Bool.and_false]
    rfl

/-- The agent that is to keep its shadow keeps it, and the cut holds none. -/
theorem State.releaseCut_spec (s : State) (j : CutJob) (n : Nat) : let t := s.releaseCut j (some n) false
    (t.agent n).shadow = (s.agent n).shadow ∧ (t.agent n).get AReg.A_FAULT = (s.agent n).get AReg.A_FAULT ∧ t.cut.shadows = []
      ∧ ∀ g : Fld, g.key ≠ Reg.CUT.COW_STALLS.COUNT.key → t.get g = s.get g := by
  obtain ⟨hs, ha, -, hr⟩ := s.shadowKept_agentsReleased (n := n) j
  rw [State.releaseCut_eq]
  generalize s.agentsReleased j (some n) = u at hs ha hr
  obtain ⟨hs', ha', hh', hr'⟩ := (u.noShadows.shadowKept_writeTick (n := n)).trans (State.shadowKept_purgeMarks _)
  exact ⟨hs'.trans hs, ha'.trans ha, hh', fun g hg => (hr' g hg).trans (hr g hg)⟩

theorem State.withdrawWait_frame (s : State) (j : CutJob) : (s.withdrawWait j).agents = s.agents ∧ (s.withdrawWait j).cut = s.cut
    ∧ ∀ g : Fld, g.key ≠ Reg.WHISTLE.STATE.HELD.key → (s.withdrawWait j).get g = s.get g := by
  unfold State.withdrawWait
  split
  · exact ⟨rfl, rfl, fun _ _ => rfl⟩
  · exact ⟨rfl, rfl, fun g hg => State.get_put_ne _ _ hg⟩

/-- OUTCOME and EVENT.FAILED of a cut that has ended without commit (R264). -/
def State.cutFailed (s : State) (outcome : Nat) : State := (s.put Reg.CUT.CUT_STATE.OUTCOME outcome).raise Reg.CUT.EVENT.FAILED

/-- The engine has no more to drain. -/
def State.cutLeft (s : State) (j : CutJob) : State :=
  if j.kind = 2 ∧ j.ownStop then s.put Reg.CUT.CUT_STATE.STATE csResuming
  else ({ s with cut := { s.cut with job := none } }).put Reg.CUT.CUT_STATE.STATE csIdle

theorem State.cutEnd_eq (hj : s.cut.job = some j) (hc : j.code ≠ 9) (outcome : Nat) (keep : Option Nat) (reason : Nat) :
    s.cutEnd outcome false keep reason = ((((s.releaseCut j keep false).withdrawWait j).cutFailed outcome).cutLeft j) := by
  unfold State.cutEnd
  rw [hj]
  dsimp only
  rw [if_neg hc, beq_eq_false_iff_ne.2 hc]
  rfl

theorem State.cutFailed_frame (s : State) (outcome : Nat) : (s.cutFailed outcome).agents = s.agents ∧ (s.cutFailed outcome).cut = s.cut
    ∧ (s.cutFailed outcome).get Reg.CUT.CUT_STATE.OUTCOME = outcome % 2 ^ Reg.CUT.CUT_STATE.OUTCOME.width
    ∧ (s.cutFailed outcome).get Reg.CUT.EVENT.FAILED = 1
    ∧ ∀ g : Fld, g.key ≠ Reg.CUT.CUT_STATE.OUTCOME.key → g.key ≠ Reg.CUT.EVENT.FAILED.key → (s.cutFailed outcome).get g = s.get g :=
  ⟨rfl, rfl, (State.get_raise_ne _ (by decide)).trans (State.get_put_same _ _ _), State.get_raise_same _ rfl,
    fun _ h1 h2 => (State.get_raise_ne _ h2).trans (State.get_put_ne _ _ h1)⟩

theorem State.cutLeft_frame (s : State) (j : CutJob) : (s.cutLeft j).agents = s.agents ∧ (s.cutLeft j).cut.shadows = s.cut.shadows
    ∧ ∀ g : Fld, g.key ≠ Reg.CUT.CUT_STATE.STATE.key → (s.cutLeft j).get g = s.get g := by
  unfold State.cutLeft
  split
  · exact ⟨rfl, rfl, fun g hg => State.get_put_ne _ _ hg⟩
  · exact ⟨rfl, rfl, fun g hg => State.get_put_ne _ _ hg⟩

/-- A cut that is not Millrace's ends with no shadow held, and the agent that is to keep its shadow keeps it. -/
theorem State.cutEnd_spec (hj : s.cut.job = some j) (hc : j.code ≠ 9) (outcome n reason : Nat) :
    let t := s.cutEnd outcome false (some n) reason
    (t.agent n).shadow = (s.agent n).shadow ∧ (t.agent n).get AReg.A_FAULT = (s.agent n).get AReg.A_FAULT ∧ t.cut.shadows = []
      ∧ t.get Reg.CUT.CUT_STATE.OUTCOME = outcome % 2 ^ Reg.CUT.CUT_STATE.OUTCOME.width ∧ t.get Reg.CUT.EVENT.FAILED = 1
      ∧ ∀ g : Fld, g.key ∉ [Reg.CUT.COW_STALLS.COUNT, Reg.WHISTLE.STATE.HELD, Reg.CUT.CUT_STATE.OUTCOME, Reg.CUT.EVENT.FAILED,
        Reg.CUT.CUT_STATE.STATE].map Fld.key → t.get g = s.get g := by
  obtain ⟨hs, ha, hh, hr⟩ := s.releaseCut_spec j n
  dsimp only
  rw [State.cutEnd_eq hj hc]
  generalize s.releaseCut j (some n) false = u at hs ha hh hr
  obtain ⟨hag1, hcut1, hr1⟩ := u.withdrawWait_frame j
  generalize u.withdrawWait j = v at hag1 hcut1 hr1
  obtain ⟨hag2, hcut2, hout, hfailed, hr2⟩ := v.cutFailed_frame outcome
  generalize v.cutFailed outcome = w at hag2 hcut2 hout hfailed hr2
  obtain ⟨hag3, hsh3, hr3⟩ := w.cutLeft_frame j
  have hagent : (w.cutLeft j).agent n = u.agent n := by rw [State.agent, hag3, hag2, hag1, State.agent]
  refine ⟨by rw [hagent, hs], by rw [hagent, ha], by rw [hsh3, hcut2, hcut1, hh], by rw [hr3 _ (by decide), hout],
    by rw [hr3 _ (by decide), hfailed], fun g hg => ?_⟩
  rw [hr3 g (key_ne_of_not_mem hg (by simp)), hr2 g (key_ne_of_not_mem hg (by simp)) (key_ne_of_not_mem hg (by simp)),
    hr1 g (key_ne_of_not_mem hg (by simp)), hr g (key_ne_of_not_mem hg (by simp))]

end CutEnd

/-! ### AGENT_DRAIN_TIMEOUT (R238, R264) -/

section DrainTimeout

variable {s : State} {a : AgentId} {h : Shadow} {n : Nat}

/-- The agent and CUT show that no ring has collected the agent's shadow. -/
def State.drainFault (s : State) (n : Nat) : State := (s.modAgent n (fun g => g.fault s.fc 7 0)).fault Slot.CUT 9 n

theorem exec_agentDrainTimeout_eq (ha : agentType a.toNat ≠ 0) (hh : (s.agent a.toNat).shadow = some h) :
    exec (.agentDrainTimeout a) s = .next (if h.fc + 65536 ≤ s.fc then
      if s.cut.shadows.contains a.toNat then (s.drainFault a.toNat).cutEnd coTimeout false (some a.toNat) msEngine
      else s.drainFault a.toNat
    else s) := by
  change execAgentDrainTimeout a s = _
  unfold execAgentDrainTimeout
  dsimp only
  rw [onAgent, if_pos ⟨ha, rfl⟩, hh]
  rfl

theorem State.drainFault_spec (s : State) (n : Nat) : let t := s.drainFault n
    testBit ((t.agent n).get AReg.A_FAULT) 7 = true ∧ t.get ⟨0x20018, 9, 9, 0⟩ = 1 ∧ t.cut = s.cut
      ∧ (t.agent n).shadow = (s.agent n).shadow ∧ ∀ b, b ≠ n → t.agent b = s.agent b := by
  have hother : s.onlyAgent (s.modAgent n fun g => g.fault s.fc 7 0) n := by
    refine s.modAgent_onlyAgent n ?_ fun h => ?_
    · rw [Agent.fault_frozen, State.agentNow_frozen]
    · rwa [Agent.fault_bit_zero _ _ _ _ (by decide), State.agentNow_fault] at h
  have hfault : testBit (((s.modAgent n fun g => g.fault s.fc 7 0).agent n).get AReg.A_FAULT) 7 = true := by
    rw [State.modAgent_proj _ _ _ (fun g => g.get AReg.A_FAULT) fun _ => rfl]
    exact Agent.fault_bit _ _ _ _ (by decide)
  have hshadow : ((s.modAgent n fun g => g.fault s.fc 7 0).agent n).shadow = (s.agent n).shadow := by
    rw [State.modAgent_proj _ _ _ Agent.shadow fun _ => rfl, Agent.fault_shadow, State.agentNow_shadow]
  have hcut : (s.modAgent n fun g => g.fault s.fc 7 0).cut = s.cut := State.modAgent_cut _ _ _
  unfold State.drainFault
  generalize (s.modAgent n fun g => g.fault s.fc 7 0) = u at hother hfault hshadow hcut
  have hagent : ∀ b, (u.fault Slot.CUT 9 n).agent b = u.agent b := fun b => by rw [State.agent, State.fault_agents, State.agent]
  refine ⟨by rw [hagent, hfault], State.get_fault_bit u (p := Slot.CUT) (b := 9) (by decide) (by decide), (State.fault_cut _ _ _ _).trans hcut,
    by rw [hagent, hshadow], fun b hb => (hagent b).trans (hother.1 b hb)⟩

theorem State.drainTimeout_ends {j : CutJob} (s : State) (n : Nat) (hj : s.cut.job = some j) (hc : j.code ≠ 9) :
    let t := (s.drainFault n).cutEnd coTimeout false (some n) msEngine
    testBit ((t.agent n).get AReg.A_FAULT) 7 = true ∧ t.get ⟨0x20018, 9, 9, 0⟩ = 1 ∧ t.get Reg.CUT.CUT_STATE.OUTCOME = coTimeout
      ∧ t.get Reg.CUT.EVENT.FAILED = 1 ∧ t.cut.shadows = [] ∧ (t.agent n).shadow = (s.agent n).shadow := by
  obtain ⟨hbit, hreg, hcut, hshadow, -⟩ := s.drainFault_spec n
  obtain ⟨hs, ha, hheld, hout, hfailed, hregs⟩ := State.cutEnd_spec (s := s.drainFault n) (by rw [hcut, hj]) hc coTimeout n msEngine
  exact ⟨by rw [ha, hbit], by rw [hregs _ (by decide), hreg], hout, hfailed, hheld, hs.trans hshadow⟩

end DrainTimeout

/-- Settles O30: each command of the drain takes the item that is its turn, and the drain's timeout ends the cut. -/
theorem cutsDrainWhatTheyHold : Obligations.CutsDrainWhatTheyHold := by
  unfold Obligations.CutsDrainWhatTheyHold
  refine ⟨fun s j hj hc => ⟨fun a tiles h ha => ?_, fun a h ha hh => ?_, fun a q tok rest hq => ?_, fun a g ha => ?_, fun left => ?_,
    fun page data ue late l hl => ?_⟩, fun page w gw s => ?_⟩
  case refine_1 =>
    intro n hh
    refine ⟨fun hd hm hp => ?_, fun hm => shadowDrained_other ha hj hh hm⟩
    obtain ⟨hshadow, hheld, honly⟩ := s.shadowGiven_spec n
    obtain ⟨hag, hsh, ⟨b, hjob⟩, hother, hkeeps⟩ := honly.drained (j.withShadow n h)
    exact ⟨_, shadowDrained_taken ha hj hc hh hd hm hp, by rw [hag, hshadow], by rw [hsh, hheld], ⟨_, hjob, rfl, rfl, rfl, rfl⟩, hother,
      hkeeps⟩
  case refine_2 =>
    obtain ⟨hbit, hreg, hcut, hshadow, hother⟩ := s.drainFault_spec a.toNat
    have hend := s.drainTimeout_ends a.toNat hj hc
    rw [hh] at hshadow hend
    dsimp only
    rw [exec_agentDrainTimeout_eq ha hh]
    refine ⟨fun hf hm => ?_, fun hf hm => ?_, fun hf => ?_⟩
    · rw [if_pos hf, if_pos (List.contains_iff_mem.2 hm)]
      exact ⟨_, rfl, hend⟩
    · rw [if_pos hf, if_neg fun hx => hm (List.contains_iff_mem.1 hx)]
      exact ⟨_, rfl, hbit, hreg, hcut, hshadow, hother⟩
    · rw [if_neg (Nat.not_le.2 hf)]
  case refine_3 =>
    dsimp only
    rw [exec_heldTokenDrained_eq hq hj]
    refine ⟨fun hseg hp ht => ?_, fun hseg => by rw [if_pos (.inl hseg)]⟩
    rw [if_neg (by simp [hseg, hp])]
    exact ⟨_, rfl, s.tokenGiven_spec hj ht⟩
  case refine_4 =>
    dsimp only
    rw [exec_granuleDrained_eq ha hj]
    refine ⟨fun hm hnext hw hd hp => ?_, fun hno => ?_⟩
    · rw [if_neg (by simp [hm, hnext, hd, hp])]
      exact ⟨_, rfl, s.granuleGiven_spec j a.toNat g.toNat _ hw⟩
    · rw [if_pos]
      rcases hno with hm | hnext
      · exact .inl fun hx => hm (List.contains_iff_mem.1 hx)
      · exact .inr (.inl (ne_true_of_eq_false hnext))
  case refine_5 =>
    refine ⟨fun hd hm hsel hdone hg => ?_, fun hd hm hsel hdone hk hout => ?_, drainMemoryStart_idle hj⟩
    · exact ⟨_, drainMemoryStart_begins hj hd hm hsel hdone hg, s.memoryStarted_spec j⟩
    · obtain ⟨hregs, hcut⟩ := s.gatewaysQuiet_frame j left
      exact ⟨_, drainMemoryStart_waits hj hd hm hsel hdone hk hout, hregs _, hcut⟩
  case refine_6 =>
    rw [exec_pageReadDone_eq hj, hl]
    refine ⟨fun hp hun hd hfirst hw hm hfull => ?_, fun hp => ?_⟩
    · rw [if_neg (by simp [hp, (j.unread_iff _).2 hun, hd, hfirst, hm, hfull])]
      obtain ⟨⟨k, hk, hmem, hue, hitems⟩, hag⟩ := s.pageRead_spec j hw (j.pageItem page.toNat data ue late)
      exact ⟨_, rfl, ⟨k, hk, ⟨_, hmem, rfl, rfl, rfl⟩, hue, hitems⟩, hag⟩
    · rw [if_pos (.inl (by simp [hp]))]
  case refine_7 =>
    dsimp only
    intro hf
    obtain ⟨-, -, hother, hregs⟩ := s.dirtyPage_eq gw.toNat page.toNat
    refine ⟨fun hj hcar => ?_, fun hj hcar => ?_, fun j hj => ⟨fun hg hk hcar => ?_, fun hg => ?_⟩⟩
    · rw [exec_guardedPageWrite_noJob hf hj, s.dirtyPage_not _ hcar]
    · exact ⟨_, exec_guardedPageWrite_noJob hf hj, s.mem_dirtyPage _ hcar, hother, hregs⟩
    · rw [exec_guardedPageWrite_free hf hj hg hk, s.dirtyPage_not _ hcar]
    · obtain ⟨hcount, hkeeps, ⟨k, hjob, hfirst, hwaits⟩, hag⟩ := s.guardStall_spec j (pageWrite page w gw)
      obtain ⟨hregs', hcut, hnone, hsome⟩ := (s.guardStall j (pageWrite page w gw)).writerWaits_spec w gw.toNat
      refine ⟨_, exec_guardedPageWrite_waits hf hj hg, (hregs' _).trans hcount, hkeeps.sameRegs hregs', ⟨k, hcut ▸ hjob, hfirst, hwaits⟩,
        fun hw => (hnone hw).trans hag, fun a hw ha => ?_⟩
      obtain ⟨hwait, hothers⟩ := hsome a hw ha
      exact ⟨hwait, fun b hb => (hothers b hb).trans (by rw [State.agent, hag, State.agent])⟩

end Sys2Proof.Machine
